-- ==== Sys2Proof/Word.lean ====
section
/-!
DEFINITION. The word and byte types of the FV5120 model.

Registers are 32-bit words (R9, R411) and packets, buffers and host memory are byte strings (R9).
Counts, lengths, indices, sample values and times are natural numbers or integers, computed exactly
and narrowed where a field holds them.
-/

namespace Sys2Proof

/-- A BAR0 register word (R411). -/
abbrev Word := BitVec 32

/-- A byte of a packet, of a host-memory structure or of the HBM. -/
abbrev Byte := BitVec 8

end Sys2Proof
end

