-- ==== Sys2Proof/Syntax.lean ====
section
/-!
DEFINITION. The commands of the FV5120: one constructor for each row of the opcode table, in the table's order.

A command is one event at the device's edge or inside it: a register write by software, a packet that arrives, the end
of a wait or of a unit's operation. Its operands say which unit it concerns and what arrives. A duration that a rule
gives is the event's own premise: the command says that the time has passed (log entry 1).
-/

namespace Sys2Proof

/-- State of a stored word at a read: good, corrected, or uncorrectable (R11, R259). -/
inductive Ecc | good | ce | ue
deriving DecidableEq, Repr

/-- What one check of the scrub finds (R274, R275, R277, R425). -/
inductive ScrubFinding
  /-- The two copies in the descriptor of queue q differ. -/
  | dupMismatch (q : Fin 16384)
  /-- The link entry of a cell is corrected, or is uncorrectable. -/
  | linkCe (cell : Fin 16777216)
  | linkUe (cell : Fin 16777216)
  /-- The entry at a position of a bank's free-cell stack is uncorrectable. -/
  | freeUe (b : Fin 16) (pos : Fin 1048576)
  /-- An HBM word is corrected, or is uncorrectable. -/
  | hbmCe (h : Fin 4) (i : Fin 32)
  | hbmUe (h : Fin 4) (i : Fin 32) (addr : Fin 68719476736)
  /-- A pass over a stack is complete. -/
  | pass (h : Fin 4)
deriving DecidableEq, Repr

/-- How a table load ends (R170 to R172). -/
inductive LoadEnd
  /-- The bytes read from host memory, written to the table region. -/
  | data (bytes : List Byte)
  /-- A host read failed, or a write to the table region failed. -/
  | hostErr
  | hbmErr
deriving DecidableEq, Repr

/-- How the transfer of a BAR0 access over the register ring and its crossings ends (R365, R393): it arrives; a peer reset
cancels it; or three resends fail. -/
inductive Transfer | done | cancelled | failed
deriving DecidableEq, Repr

/-- The commands (R1 to R471; one constructor for each row of the opcode table). -/
inductive Instr
  /-- VDD_AON_POWER_UP (R447). The rails are applied; SMB_ADDR1 and SMB_ADDR0 read as `strap`. -/
  | vddAonPowerUp (strap : Fin 4)
  /-- VDD_AON_REMOVAL (R374). VDD_AON is removed. -/
  | vddAonRemoval
  /-- PORESET_ASSERT (R386). PORESET_N goes low. -/
  | poresetAssert
  /-- PORESET_RELEASE (R448). PORESET_N goes high. -/
  | poresetRelease
  /-- PLL_LOCK (R384). The crucible and PCI Express PLLs are locked, the crucible PLL `us` microseconds after the release of PORESET_N. -/
  | pllLock (us : Fin 65536)
  /-- HBM_TRAINING_DONE (R397). Training of stack h ends. -/
  | hbmTrainingDone (h : Fin 4) (us : Fin 65536) (ok : Bool)
  /-- PERST (R387). PERST_N goes low. -/
  | perst
  /-- LINK_CHANGE (R317). The PCI Express link is up at this speed and width, or down. -/
  | linkChange (up : Bool) (speed : Fin 16) (width : Fin 64) (flit : Bool)
  /-- D3HOT_ENTRY (R311). The function enters D3hot. -/
  | d3hotEntry
  /-- D0_RETURN (R311). The function returns to D0. -/
  | d0Return
  /-- BUS_MASTER_ENABLE_CHANGE (R295). Bus Master Enable becomes v. -/
  | busMasterEnableChange (v : Bool)
  /-- REGISTER_WRITE (R10). A BAR0 write of the aligned word that holds `addr`, with its four byte enables. -/
  | registerWrite (addr : Fin 16777216) (data : Word) (enables : Fin 16) (ring : Transfer := .done)
  /-- STATE_CLEAR (R417). STATE.REFUSED of the page at BAR0 offset page × 0x1000 written 1. -/
  | stateClear (page : Fin 4096)
  /-- IRQ_STAT_CLEAR (R419). IRQ_STAT of the page written with `bits`. -/
  | irqStatClear (page : Fin 4096) (bits : Word)
  /-- IRQ_SET (R419). IRQ_SET of the page written with `bits`; `acked`: the acknowledgement of the crossing's last
  transfer has come (R390). -/
  | irqSet (page : Fin 4096) (bits : Word) (acked : Bool)
  /-- MSIX_MESSAGE (R306). The engine sends the message of vector v. -/
  | msixMessage (v : Fin 2048)
  /-- MSIX_UNMASK (R306). The mask bit of vector v is written 0. -/
  | msixUnmask (v : Fin 2048)
  /-- CLOCK_WINDOW_END (R37). A clock-monitor window of the port ends with `count` gate clock cycles. -/
  | clockWindowEnd (g : Fin 128) (p : Fin 2) (count : Fin 65536)
  /-- CLOCK_EDGE_TIMEOUT (R38). No forwarded-clock edge of the port for 64 CCLK cycles. -/
  | clockEdgeTimeout (g : Fin 128) (p : Fin 2)
  /-- DLL_LOCK (R39). The DLL locks to the port's clock. -/
  | dllLock (g : Fin 128) (p : Fin 2)
  /-- COMMA_DETECT (R41). The comma detector reports on the 40-bit word `w` of the lane, behind which `next` was received;
  `inside`: the aligned word begins inside a packet or a training burst. -/
  | commaDetect (g : Fin 128) (lane : Fin 5) (w : BitVec 40) (next : BitVec 40 := 0) (inside : Bool := false)
  /-- ALIGN_CHECK_TIMEOUT (R41). 256 words in CHECK without reaching count 4. -/
  | alignCheckTimeout (g : Fin 128) (lane : Fin 5)
  /-- LANE_MASK_ACK (R105). The camera acknowledges the lane-mask write of the port. -/
  | laneMaskAck (g : Fin 128) (p : Fin 2)
  /-- DEGRADE_TIMEOUT (R105). The lane-mask write has not been acknowledged within 1 ms. -/
  | degradeTimeout (g : Fin 128) (p : Fin 2)
  /-- DESKEW_MEASURE (R43). A packet starts; `arrivals` are the symbol times of K27.7 on the data lanes of the mask, in ascending lane order. -/
  | deskewMeasure (g : Fin 128) (p : Fin 2) (arrivals : List Nat)
  /-- TRAINING_BURST (R47). A training burst of the lane ends after `bytes`; fewer than 254 bytes: it was cut by a K27.7. -/
  | trainingBurst (g : Fin 128) (lane : Fin 5) (bytes : List Byte)
  /-- BURST_WARN (R49). The burst timer of the port reaches 4 ms. -/
  | burstWarn (g : Fin 128) (p : Fin 2)
  /-- LINK_FAIL (R51). 2 ms have passed without READY since the port left DOWN or since the last LINK_FAIL. -/
  | linkFail (g : Fin 128) (p : Fin 2)
  /-- LINK_TRAIN (R52). GATE CMD opcode 0x01. -/
  | linkTrain (g : Fin 128) (p : Fin 2)
  /-- SET_RATE (R53). GATE CMD opcode 0x02. -/
  | setRate (g : Fin 128) (p : Fin 2) (code : Fin 16)
  /-- SET_RATE_ACK (R53). The camera acknowledges the LINK_RATE write of the port. -/
  | setRateAck (g : Fin 128) (p : Fin 2)
  /-- LINK_DOWN (R52). GATE CMD opcode 0x03. -/
  | linkDown (g : Fin 128) (p : Fin 2)
  /-- LINK_UP (R52). GATE CMD opcode 0x04. -/
  | linkUp (g : Fin 128) (p : Fin 2)
  /-- CLEAR_COUNTERS (R52). GATE CMD opcode 0x05. -/
  | clearCounters (g : Fin 128)
  /-- LOOP_NES (R62). GATE CMD opcode 0x06. -/
  | loopNes (g : Fin 128) (p : Fin 2) (pat : Fin 16)
  /-- LOOP_NEP (R62). GATE CMD opcode 0x07. -/
  | loopNep (g : Fin 128) (p : Fin 2) (pat : Fin 16)
  /-- LOOP_FAR (R63). GATE CMD opcode 0x08. -/
  | loopFar (g : Fin 128) (p : Fin 2)
  /-- CAM_PRBS (R62). GATE CMD opcode 0x09. -/
  | camPrbs (g : Fin 128) (p : Fin 2) (pat : Fin 16)
  /-- TEST_STOP (R52). GATE CMD opcode 0x0A. -/
  | testStop (g : Fin 128) (p : Fin 2)
  /-- PRBS_LOCK (R61). The raw pattern checker of the lane takes in further bits, the first in time first. -/
  | prbsLock (g : Fin 128) (lane : Fin 5) (bits : List Bool)
  /-- FAR_LOCK (R63). A block of 256 bytes after a K28.5 arrives on the lane of a port under test with LOOP_PAT. -/
  | farLock (g : Fin 128) (lane : Fin 5) (block : List Byte)
  /-- FS_PACKET (R79). A packet of the port that starts with the FS type byte is received whole; `body` is every body byte, pad bytes included. -/
  | fsPacket (g : Fin 128) (p : Fin 2) (body : List Byte)
  /-- LINE_PACKET (R82). A line packet of the port is received whole. -/
  | linePacket (g : Fin 128) (p : Fin 2) (body : List Byte)
  /-- FE_PACKET (R83). An FE packet of the port is received whole. -/
  | fePacket (g : Fin 128) (p : Fin 2) (body : List Byte)
  /-- UNKNOWN_TYPE_PACKET (R78). A packet of the port of another type is received whole. -/
  | unknownTypePacket (g : Fin 128) (p : Fin 2) (body : List Byte)
  /-- ABORT_SYMBOL (R76). K30.7 voids the packet in progress after `body`. -/
  | abortSymbol (g : Fin 128) (p : Fin 2) (body : List Byte)
  /-- FRAME_TIMEOUT (R100). FRAME_TIMEOUT has passed since the last packet of the open frame of port c landed. -/
  | frameTimeout (c : Fin 256)
  /-- MISSING_FRAME_TIMEOUT (R100). FRAME_TIMEOUT has passed since the EXPOSE_START of the shot with no FS of port c. -/
  | missingFrameTimeout (c : Fin 256) (shot : Word)
  /-- DROP_SYMBOLS (R107). GATE CMD opcode 0x10 with INJ_CFG.OP = 1. -/
  | dropSymbols (g : Fin 128)
  /-- DROP_LINE (R107). GATE CMD opcode 0x10 with INJ_CFG.OP = 2. -/
  | dropLine (g : Fin 128)
  /-- CORRUPT_SYMBOL (R107). GATE CMD opcode 0x10 with INJ_CFG.OP = 3. -/
  | corruptSymbol (g : Fin 128)
  /-- CORRUPT_HDR_CRC (R107). GATE CMD opcode 0x10 with INJ_CFG.OP = 4. -/
  | corruptHdrCrc (g : Fin 128)
  /-- CORRUPT_PAY_CRC (R107). GATE CMD opcode 0x10 with INJ_CFG.OP = 5. -/
  | corruptPayCrc (g : Fin 128)
  /-- REORDER (R107). GATE CMD opcode 0x10 with INJ_CFG.OP = 6. -/
  | reorder (g : Fin 128)
  /-- INJ_CANCEL (R107). GATE CMD opcode 0x11. -/
  | injCancel (g : Fin 128)
  /-- INJECTION_ACTS (R109). The armed link injection of the gate meets its target. -/
  | injectionActs (g : Fin 128)
  /-- GATE_CFG_WRITE (R115). GATE_CFG written with GATE_MODE and RISER_SPLIT_A. -/
  | gateCfgWrite (g : Fin 128) (mode : Fin 4) (split : Fin 256)
  /-- GATE_ENABLE (R116). GATE[g].CTRL.ENABLE written 1. -/
  | gateEnable (g : Fin 128)
  /-- GATE_DISABLE (R116). GATE[g].CTRL.ENABLE written 0. -/
  | gateDisable (g : Fin 128)
  /-- CAM_ENABLE (R136). CAM[c].CTRL.ENABLE written 1. -/
  | camEnable (c : Fin 256)
  /-- CAM_DISABLE (R129). CAM[c].CTRL.ENABLE written 0. -/
  | camDisable (c : Fin 256)
  /-- ADM_HBM_LIMIT_WRITE (R136). DEV.ADM_HBM_LIMIT written. -/
  | admHbmLimitWrite (v : Word)
  /-- INTAKE_ITEM (R123). The intake arbiter of slice s takes its next item. -/
  | intakeItem (s : Fin 33)
  /-- FS_AT_FRAME_CHECK (R247). The FS at the head of slice s's intake reaches frame check. -/
  | fsAtFrameCheck (s : Fin 33)
  /-- FE_AT_FRAME_CHECK (R127). The FE at the head of slice s's intake reaches frame check. -/
  | feAtFrameCheck (s : Fin 33)
  /-- LINE_AT_FRAME_CHECK (R127). The line at the head of slice s's intake passes frame check. -/
  | lineAtFrameCheck (s : Fin 33)
  /-- DISPLACEMENT_COMPUTE (R151). The stage has computed the displacement of the newest frame of port c. -/
  | displacementCompute (c : Fin 256)
  /-- HOLD_TIMEOUT (R161). A hold of port c has lasted HOLD_MAX µs. -/
  | holdTimeout (c : Fin 256)
  /-- NR_LINE_EMIT (R149). Noise reduction emits the next line of port c. -/
  | nrLineEmit (c : Fin 256)
  /-- REF_WRITE_ACK (R155). HBM acknowledges the write of line y to the buffer. -/
  | refWriteAck (c : Fin 256) (buf : Fin 2) (y : Nat)
  /-- REF_WRITE_FAIL (R163). The write of line y to the buffer fails. -/
  | refWriteFail (c : Fin 256) (buf : Fin 2) (y : Nat)
  /-- REF_READ_DONE (R163). The read of reference line y for the frame in noise reduction returns. -/
  | refReadDone (c : Fin 256) (y : Nat) (ecc : Ecc)
  /-- REF_RESET (R158). NR_CMD.REF_RESET written 1. -/
  | refReset (c : Fin 256)
  /-- FETTLE_LINE_EMIT (R181). The correction stages emit the next line of port c; `bad` are the table-region offsets whose read was uncorrectable. -/
  | fettleLineEmit (c : Fin 256) (bad : List Nat)
  /-- WINDOW_LINE_EMIT (R190). The window engine emits the next output line of port c. -/
  | windowLineEmit (c : Fin 256)
  /-- STAT_BANK_CLOSE (R249). The last line of the oldest frame of port c leaves statistics. -/
  | statBankClose (c : Fin 256)
  /-- TBL_LOAD (R170). TBL_CMD written with GO = 1. -/
  | tblLoad (c : Fin 256) (sel : Fin 4) (bank : Fin 2)
  /-- TBL_LOAD_DONE (R172). The table load of port c ends. -/
  | tblLoadDone (c : Fin 256) (r : LoadEnd)
  /-- COL_BANK_WRITE (R182). FF_CTRL.COL_BANK written, the other fields as they stand. -/
  | colBankWrite (c : Fin 256) (bank : Fin 2)
  /-- COL_COPY_DONE (R182). The copy of the column table into slice SRAM ends. -/
  | colCopyDone (c : Fin 256) (ecc : Ecc)
  /-- FF_GRID_WRITE (R185). FF_GRID0 or FF_GRID1 written. -/
  | ffGridWrite (c : Fin 256) (n : Fin 2) (v : Word)
  /-- WIN_COMMIT (R192). WIN_CMD.COMMIT written 1. -/
  | winCommit (c : Fin 256)
  /-- SEAM_ENABLE (R136). SEAM[u].CTRL.ENABLE written 1. -/
  | seamEnable (u : Fin 4)
  /-- SEAM_DISABLE (R210). SEAM[u].CTRL.ENABLE written 0. -/
  | seamDisable (u : Fin 4)
  /-- SEAM_PACKET (R204). Seam u takes the next packet of member i; `links` are the states of the link entries followed, and
  `bad` the reads of its store, member and byte, that were uncorrectable in the strip lines it forces (R206, R210). -/
  | seamPacket (u : Fin 4) (i : Fin 32) (links : List Ecc := []) (bad : List (Nat × Nat) := [])
  /-- SEAM_LINE_FORM (R205). Seam u forms its current strip line; `bad`: the reads of its store, member and byte, that were
  uncorrectable (R210). -/
  | seamLineForm (u : Fin 4) (bad : List (Nat × Nat))
  /-- SEAM_TIMEOUT (R206). SEAM_TIMEOUT has passed for the current strip line of seam u. -/
  | seamTimeout (u : Fin 4) (bad : List (Nat × Nat))
  /-- MOULD_ENABLE (R218). MOULD[m].CTRL.ENABLE written 1. -/
  | mouldEnable (m : Fin 8)
  /-- MOULD_DISABLE (R217). MOULD[m].CTRL.ENABLE written 0. -/
  | mouldDisable (m : Fin 8)
  /-- MOULD_PACKET (R214). Mould m takes the next packet of tile t; `links` are the states of the link entries followed. -/
  | mouldPacket (m : Fin 8) (t : Fin 64) (links : List Ecc := [])
  /-- MOULD_FRAME_START (R217). The next output frame of mould m comes due. -/
  | mouldFrameStart (m : Fin 8)
  /-- MOULD_LINE_READOUT (R217). Mould m composes its next output line; `bad` are the panel columns whose slot read was uncorrectable. -/
  | mouldLineReadout (m : Fin 8) (bad : List Nat)
  /-- TILE_STALE (R216). No frame end or row of tile t for STALE_MS. -/
  | tileStale (m : Fin 8) (t : Fin 64)
  /-- PIN_EDGE (R225). A filtered edge on pin n, at the ball at device time t8 / 8 ns. -/
  | pinEdge (n : Fin 64) (rising : Bool) (t8 : Nat)
  /-- ENCODER_EDGE (R226). The filtered A and B of encoder e take these levels in the 1 ns sample at device time t. -/
  | encoderEdge (e : Fin 8) (a b : Bool) (t : Nat)
  /-- ENCODER_INDEX (R226). A rising edge of Z of encoder e. -/
  | encoderIndex (e : Fin 8)
  /-- ENC_LOAD (R226). ENC_CMD.LOAD of encoder e written 1. -/
  | encLoad (e : Fin 8)
  /-- TIMER_ENABLE (R228). TMR_CFG.EN of timer t written 1. -/
  | timerEnable (t : Fin 16)
  /-- TIMER_FIRE (R228). Device time reaches the next multiple of timer t. -/
  | timerFire (t : Fin 16)
  /-- SW_TRIG (R225). SW_TRIG written. -/
  | swTrig (groups : Fin 256)
  /-- SHOT_ISSUE (R230). Device time reaches the earliest pending instant of port c. -/
  | shotIssue (c : Fin 256)
  /-- STROBE_END (R231). The oldest strobe of port c in progress ends. -/
  | strobeEnd (c : Fin 256)
  /-- TRIGGER_SYMBOL_SEND (R90). The next pending trigger pair of the control lane is placed. -/
  | triggerSymbolSend (g : Fin 128)
  /-- SCHED_ENABLE (R236). SCHED_CFG.EN of port c written 1, the other fields as they stand. -/
  | schedEnable (c : Fin 256)
  /-- SCHED_DISABLE (R233). SCHED_CFG.EN of port c written 0, the other fields as they stand. -/
  | schedDisable (c : Fin 256)
  /-- SHOT_SET (R235). SHOT_SET of port c written. -/
  | shotSet (c : Fin 256) (v : Word)
  /-- SETTINGS_COMMIT (R240). SET_CMD written with GO = 1, NEXT = 0. -/
  | settingsCommit (c : Fin 256) (slot : Fin 8)
  /-- SETTINGS_COMMIT_NEXT (R241). SET_CMD written with GO = 1, NEXT = 1. -/
  | settingsCommitNext (c : Fin 256) (slot : Fin 8)
  /-- SETTINGS_DELIVERY_START (R241). The window before the next commit's delivery of port c has ended. -/
  | settingsDeliveryStart (c : Fin 256)
  /-- LEDGER_LOOKUP (R246). LEDGER_SHOT of SHOT[s] written. -/
  | ledgerLookup (s : Fin 16) (shot : Word)
  /-- RESERVATION (R264). Producer p reserves cells for the packet it forms next. -/
  | reservation (p : Fin 45)
  /-- CELL_TAKE (R264). Producer p takes a reserved cell; `stack` is the state of the free-stack entry read. -/
  | cellTake (p : Fin 45) (stack : Ecc)
  /-- COMMIT (R267). Producer p commits its open packet. -/
  | commit (p : Fin 45)
  /-- POP (R270). The consumer of queue q requests its head packet; the descriptor copies differ or agree at this use. -/
  | pop (q : Fin 16384) (copiesDiffer : Bool)
  /-- CELL_RETURN (R270). One cell of queue q whose last byte is read, or one marked cell, returns; `link` is the state of the link entry followed. -/
  | cellReturn (q : Fin 16384) (link : Ecc)
  /-- FLUSH (R273). Q_CMD.FLUSH = 1 on queue q. -/
  | flush (q : Fin 16384)
  /-- FLUSH_DONE (R273). The last marked cell of queue q returns; `links` are the states of the link entries followed to it. -/
  | flushDone (q : Fin 16384) (links : List Ecc := [])
  /-- QUEUE_RELEASE (R276). Q_CMD.RELEASE = 1 on queue q. -/
  | queueRelease (q : Fin 16384)
  /-- CLR_OVR (R280). Q_CMD.CLR_OVR = 1 on queue q. -/
  | clrOvr (q : Fin 16384)
  /-- QUEUE_ENABLE (R266). Q_CFG of queue q written with EN = 1 and the fields given. -/
  | queueEnable (q : Fin 16384) (ordered : Bool) (consumer : Fin 4) (unit : Fin 8)
  /-- QUEUE_DISABLE (R280). Q_CFG.EN of queue q written 0, the other fields as they stand. -/
  | queueDisable (q : Fin 16384)
  /-- ORDER_EN_WRITE (R271). LADLE[0].LADLE_CFG.ORDER_EN written. -/
  | orderEnWrite (v : Bool)
  /-- SCRUB_CHECK (R274). The scrub checks one item and finds it as given. -/
  | scrubCheck (f : ScrubFinding)
  /-- SWEEP (R278). CMD opcode 0x01 of LADLE[b]. -/
  | sweep (b : Fin 16)
  /-- SWEEP_DONE (R278). The sweep of bank b ends. -/
  | sweepDone (b : Fin 16)
  /-- DESC_TAIL (R297). Doorbell word DESC_TAIL of ring q written, or read, with its byte enables (R288). -/
  | descTail (q : Fin 16384) (v : Word) (enables : Fin 16) (read : Bool := false)
  /-- CPL_HEAD (R297). Doorbell word CPL_HEAD of ring q written, or read. -/
  | cplHead (q : Fin 16384) (v : Word) (enables : Fin 16) (read : Bool := false)
  /-- IRQ_ARM (R305). Doorbell word IRQ_ARM of ring q written, or read. -/
  | irqArm (q : Fin 16384) (v : Word) (enables : Fin 16) (read : Bool := false)
  /-- RING_ENABLE (R295). RING_CFG.EN of ring q written 1, the other fields as they stand. -/
  | ringEnable (q : Fin 16384)
  /-- RING_DISABLE (R295). RING_CFG.EN of ring q written 0, the other fields as they stand. -/
  | ringDisable (q : Fin 16384)
  /-- POUR_CLAIM (R295). The pour engine pops the queue of ring q. -/
  | pourClaim (q : Fin 16384) (copiesDiffer : Bool)
  /-- DESC_READ_DONE (R298). A descriptor read of ring q completes with 32 bytes for each descriptor, or fails. -/
  | descReadDone (q : Fin 16384) (data : List Byte) (ok : Bool)
  /-- POUR_DATA_WRITE (R294). The engine queues the next data write of ring q; `link` is the state of the link entry followed, `data` of the cell data read. -/
  | pourDataWrite (q : Fin 16384) (link data : Ecc)
  /-- COMPLETION_WRITE (R292). The completion entry of the finished packet of ring q is queued. -/
  | completionWrite (q : Fin 16384)
  /-- HOLDOFF_EXPIRY (R305). HOLDOFF µs have passed since the later of the first counted entry and the setting of ARMED. -/
  | holdoffExpiry (q : Fin 16384)
  /-- TABLE_READ_REQUEST (R300). The engine issues the next host read request of the table load of port c. -/
  | tableReadRequest (c : Fin 256)
  /-- BAR2_WRITE (R336). A host write to the window of port c from offset `off`; none marks a byte not enabled. -/
  | bar2Write (c : Fin 256) (off : Fin 1048576) (data : List (Option Byte))
  /-- BAR2_READ (R340). A host read of the window of port c from offset `off`; `tag` names its completion. -/
  | bar2Read (c : Fin 256) (off : Fin 1048576) (enables : List Bool) (tag : Nat)
  /-- READ_LIMIT (R340). The BAR2 read `tag` of port c has been outstanding READ_LIMIT µs. -/
  | readLimit (c : Fin 256) (tag : Nat)
  /-- PACKET_BOUNDARY_SEND (R332). A packet boundary the device owns on the control lane of gate g. -/
  | packetBoundarySend (g : Fin 128)
  /-- GRANT_ISSUE (R334). A packet boundary at which a grant is due; `laneTime`: 16 µs of lane time have passed since the last grant ended. -/
  | grantIssue (g : Fin 128) (laneTime : Bool)
  /-- TURNAROUND_RETURN (R89). The camera's returning K28.2 arrives. -/
  | turnaroundReturn (g : Fin 128)
  /-- GRANT_OVERRUN (R89). No returning K28.2 by the end of the grant plus 32 symbols. -/
  | grantOverrun (g : Fin 128)
  /-- WRITE_DONE_RSP (R330). A WRITE_DONE response arrives with this ADDR and HDR_CRC (R87). -/
  | writeDoneRsp (g : Fin 128) (p : Fin 2) (tag : Fin 65536) (addr : Word) (hdrCrc : BitVec 16 := 0)
  /-- READ_DATA_RSP (R330). A READ_DATA response arrives; `dataCrc` follows its data where there are any (R87). -/
  | readDataRsp (g : Fin 128) (p : Fin 2) (tag : Fin 65536) (se : Bool) (addr : Word) (data : List Byte)
      (hdrCrc : BitVec 16 := 0) (dataCrc : BitVec 32 := 0)
  /-- NAK_RSP (R330). A NAK response arrives with STATUS 1 to 4. -/
  | nakRsp (g : Fin 128) (p : Fin 2) (tag : Fin 65536) (status : Fin 5) (addr : Word) (hdrCrc : BitVec 16 := 0)
  /-- BUSY_RETRY (R330). 10 µs have passed since the BUSY NAK of the request. -/
  | busyRetry (g : Fin 128) (p : Fin 2) (tag : Fin 65536)
  /-- RESPONSE_TIMEOUT (R330). RSP_TIMEOUT has passed since the last symbol of the request. -/
  | responseTimeout (g : Fin 128) (p : Fin 2) (tag : Fin 65536)
  /-- PREFETCH_EXPIRY (R341). Bytes without SE in the prefetch slot of port c are older than 100 µs. -/
  | prefetchExpiry (c : Fin 256)
  /-- SE_LOST (R342). SE bytes in the slot of port c have been held 100 µs. -/
  | seLost (c : Fin 256)
  /-- DISCOVER (R326). BRG CMD opcode 0x01. -/
  | discover (g : Fin 128) (p : Fin 2)
  /-- LOCK (R343). BRG CMD opcode 0x02. -/
  | lock (g : Fin 128) (p : Fin 2)
  /-- UNLOCK (R344). BRG CMD opcode 0x03. -/
  | unlock (g : Fin 128) (p : Fin 2)
  /-- PC_WRITE (R347). BRG CMD opcode 0x04. -/
  | pcWrite (g : Fin 128) (p : Fin 2)
  /-- CLEAR_FAIL (R347). BRG CMD opcode 0x05. -/
  | clearFail (g : Fin 128) (p : Fin 2)
  /-- LOCK_EXPIRED (R344). The lock of the port has lasted LOCK_LIMIT µs. -/
  | lockExpired (g : Fin 128) (p : Fin 2)
  /-- POLL_TICK (R345). INTERVAL µs have passed since the last poll tick of the port. -/
  | pollTick (g : Fin 128) (p : Fin 2)
  /-- PTM_DIALOGUE_START (R308). PTM_PERIOD µs have passed since the last dialogue started. -/
  | ptmDialogueStart
  /-- PTM_DIALOGUE_DONE (R309). A dialogue succeeds with local times t1, t4 and master times t2, t3. -/
  | ptmDialogueDone (t1 t4 t2 t3 : BitVec 64)
  /-- PTM_LOST (R308). No dialogue has succeeded for four consecutive periods. -/
  | ptmLost
  /-- PTM_ENABLE (R309). TIME_CTRL.PTM_EN written 1. -/
  | ptmEnable
  /-- TIME_SET (R310). TIME_CMD.SET written 1. -/
  | timeSet
  /-- FAULT_OCCURRENCE (R353). The fault site of the page occurs in the sub-unit `detail`; `real`: with an untagged contribution;
  `acked`: the acknowledgement of the crossing's last transfer has come (R390). `loc` is where it was found: the byte address
  of an HBM word, the cell that owns a link entry, the position of a free-stack entry, or page × 32 + register of a shadow copy (R275, R277,
  R371, R425). -/
  | faultOccurrence (page : Fin 4096) (bit : Fin 32) (detail : Fin 65536) (real acked : Bool) (loc : Nat := 0)
  /-- REMAP_DONE (R368). The working copies of the remap or return are loaded, `ns` after it began. -/
  | remapDone (ns : Word)
  /-- ESCALATION_EXPIRY (R363). The escalation timer of the page reaches 0. -/
  | escalationExpiry (page : Fin 4096)
  /-- ESC_ACK (R362). ESC_STATUS.ACK of the page written 1. -/
  | escAck (page : Fin 4096)
  /-- FAULT_STICKY_CLEAR (R354). FAULT_STICKY of the page written with `bits`. -/
  | faultStickyClear (page : Fin 4096) (bits : Word)
  /-- FAULT_RELEASE (R364). CMD opcode 0xF0 of the page. -/
  | faultRelease (page : Fin 4096) (scope : Fin 16) (index : Fin 32) (port : Fin 2)
  /-- FAULT_FENCE (R364). CMD opcode 0xF1 of the page. -/
  | faultFence (page : Fin 4096) (scope : Fin 16) (index : Fin 32) (port : Fin 2)
  /-- FAULT_INJECT (R375). FAULT_INJ of the page written with GO = 1. -/
  | faultInject (page : Fin 4096) (bit : Fin 32) (detail : Fin 65536)
  /-- SOFT_RST (R388). CTRL of the page written with SOFT_RST = 1 and ENABLE as it stands. -/
  | softRst (page : Fin 4096)
  /-- DOMAIN_OFF_WRITE (R395). DOMAIN_OFF[i] written. -/
  | domainOffWrite (i : Fin 11) (v : Word)
  /-- DOMAIN_SWITCH_DONE (R396). The switch of domain d completes. -/
  | domainSwitchDone (d : Fin 326)
  /-- SWITCH_TIMEOUT (R396). The switch of domain d has missed its bound. -/
  | switchTimeout (d : Fin 326)
  /-- PWR_BUDGET_WRITE (R398). PWR_BUDGET of the page written. -/
  | pwrBudgetWrite (page : Fin 4096) (v : Word)
  /-- GATE_HYST_EXPIRY (R399). The idle conditions of gate g have held GATE_HYST µs. -/
  | gateHystExpiry (g : Fin 128)
  /-- GATE_ENTRY_STEP_DONE (R57). An entry step of gate g completes. -/
  | gateEntryStepDone (g : Fin 128)
  /-- GATE_EXIT_DONE (R58). The exit of gate g completes; the commas of lanes L0 to L4 stand at these offsets, none where no comma was found. -/
  | gateExitDone (g : Fin 128) (offsets : List (Option (Fin 40)))
  /-- SLICE_HYST_EXPIRY (R400). The idle conditions of slice s have held SLICE_HYST µs. -/
  | sliceHystExpiry (s : Fin 33)
  /-- SLICE_ENTRY_STEP_DONE (R400). An entry step of slice s completes. -/
  | sliceEntryStepDone (s : Fin 33)
  /-- SLICE_EXIT_DONE (R401). The exit of slice s completes, its working copies loaded. -/
  | sliceExitDone (s : Fin 33)
  /-- WAKE_AHEAD_EXIT (R402). Device time reaches t - X for the earliest pending instant t of gate or slice n. -/
  | wakeAheadExit (slice : Bool) (n : Fin 128)
  /-- HBM_POWER_DOWN (R405). Pseudo-channel i of stack h has had no request for 64 HCLK cycles. -/
  | hbmPowerDown (h : Fin 4) (i : Fin 32)
  /-- HBM_SELF_REFRESH (R405). Pseudo-channel i of stack h has had no request for SR_IDLE µs. -/
  | hbmSelfRefresh (h : Fin 4) (i : Fin 32)
  /-- TEMP_CONVERSION (R459). The eight sensors convert to these readings. -/
  | tempConversion (t : List (BitVec 16))
  /-- RAIL_FAULT (R444). A rail has stayed outside its operating range for 2 µs, at `mv` millivolts. -/
  | railFault (rail : Fin 10) (mv : Nat)
  /-- CHK_START (R433). CMD opcode 0x01 of CHKn. -/
  | chkStart (n : Fin 4)
  /-- CHK_PRESET (R433). CMD opcode 0x02 of CHKn. -/
  | chkPreset (n : Fin 4) (alg : Fin 8)
  /-- CHK_DATA8 (R434). CHK_DATA8 written. -/
  | chkData8 (n : Fin 4) (v : Word)
  /-- CHK_DATA16 (R434). CHK_DATA16 written. -/
  | chkData16 (n : Fin 4) (v : Word)
  /-- CHK_DATA32 (R434). CHK_DATA32 written. -/
  | chkData32 (n : Fin 4) (v : Word)
  /-- CHK_FINAL (R435). CHK_FINAL.GO written 1. -/
  | chkFinal (n : Fin 4)
  /-- SMB_DEV_ID (R461). Read of command 0x00; `pec`: the controller reads one byte beyond the data. -/
  | smbDevId (pec : Bool)
  /-- SMB_REVISION (R461). Read of command 0x01. -/
  | smbRevision (pec : Bool)
  /-- SMB_STATUS (R461). Read of command 0x02. -/
  | smbStatus (pec : Bool)
  /-- SMB_TEMP (R461). Read of command 0x10 + i. -/
  | smbTemp (i : Fin 8) (pec : Bool)
  /-- SMB_TEMP_MAX (R461). Read of command 0x18. -/
  | smbTempMax (pec : Bool)
  /-- SMB_TEMP_PEAK_READ (R461). Read of command 0x19. -/
  | smbTempPeakRead (pec : Bool)
  /-- SMB_TEMP_PEAK_WRITE (R461). Write Byte to 0x19, with or without PEC. -/
  | smbTempPeakWrite (v : Byte) (pec : Option Byte)
  /-- SMB_TEMP_WARN_READ (R461). Read of command 0x1A. -/
  | smbTempWarnRead (pec : Bool)
  /-- SMB_TEMP_WARN_WRITE (R462). Write Word to 0x1A. -/
  | smbTempWarnWrite (v : BitVec 16) (pec : Option Byte)
  /-- SMB_RAIL (R461). Read of command 0x20 + i. -/
  | smbRail (i : Fin 10) (pec : Bool)
  /-- SMB_QUENCH (R461). Block Read of command 0x30. -/
  | smbQuench (pec : Bool)
  /-- SMB_SERIAL (R461). Block Read of command 0x31. -/
  | smbSerial (pec : Bool)
  /-- SMB_ALERT_STATUS (R463). Read of command 0x38. -/
  | smbAlertStatus (pec : Bool)
  /-- SMB_ALERT_MASK_READ (R461). Read of command 0x39. -/
  | smbAlertMaskRead (pec : Bool)
  /-- SMB_ALERT_MASK_WRITE (R461). Write Byte to 0x39. -/
  | smbAlertMaskWrite (v : Byte) (pec : Option Byte)
  /-- ALERT_RESPONSE_ADDRESS (R463). A controller reads the Alert Response Address. -/
  | alertResponseAddress
  /-- EXTEST (R466). Instruction 0x00: `balls` are the boundary cells' captured values, `shift` the cells shifted in. -/
  | extest (balls shift : List Bool)
  /-- IDCODE (R464). Instruction 0x01: `tdi` are the bits shifted in, the first in time first. -/
  | idcode (tdi : List Bool := [])
  /-- SAMPLE_PRELOAD (R464). Instruction 0x02. -/
  | samplePreload (balls shift : List Bool)
  /-- EXTEST_PULSE (R466). Instruction 0x05. -/
  | extestPulse (balls shift : List Bool)
  /-- EXTEST_TRAIN (R466). Instruction 0x06. -/
  | extestTrain (balls shift : List Bool)
  /-- HIGHZ (R466). Instruction 0x07. -/
  | highz (balls : List Bool := []) (shift : List Bool := [])
  /-- CLAMP (R466). Instruction 0x08. -/
  | clamp (balls : List Bool := []) (shift : List Bool := [])
  /-- BYPASS (R464). Instruction 0xFF, or any opcode the table does not define: `code` is loaded, then `tdi` shifted in. -/
  | bypass (code : BitVec 8 := 0xFF) (tdi : List Bool := [])
  /-- TEST_LOGIC_RESET (R466). TRST_N low, or five TCK cycles with TMS high. -/
  | testLogicReset
  /-- PERST_RELEASE (R357). PERST_N goes high. -/
  | perstRelease
  /-- CONDITION_SITE_CLEARS (R353). The monitored condition of the site returns to 0 in the sub-unit. -/
  | conditionSiteClears (page : Fin 4096) (bit : Fin 32) (detail : Fin 65536)
  /-- WARM_DATA_SYMBOL (R403). A receiver of gate g takes in the word `w`, behind which `next` was received, while the gate is WARM. -/
  | warmDataSymbol (g : Fin 128) (lane : Fin 5) (w : BitVec 40) (next : BitVec 40 := 0)
  /-- LOW_HALF_READ (R421). A BAR0 read of the aligned word that holds `addr`, the low half of an RO pair. -/
  | lowHalfRead (addr : Fin 16777216) (ring : Transfer := .done)
  /-- RAIL_READING_UPDATE (R461). The rail monitor reads the ten rails. -/
  | railReadingUpdate (mv : List (BitVec 16))
deriving DecidableEq, Repr

end Sys2Proof
end

