-- ==== Sys2Proof/Machine/Bits.lean ====
section
/-!
DEFINITION. Bit fields, sparse tables, byte order and plain arithmetic used everywhere in the model.
-/

namespace Sys2Proof.Machine

/-! ### Bit fields of a register word (R9) -/

/-- Bits hi..lo of a word, as a number. -/
def getBits (w : Word) (hi lo : Nat) : Nat := w.toNat / 2 ^ lo % 2 ^ (hi + 1 - lo)

/-- The word with bits hi..lo set to v (taken modulo the field's width), the rest unchanged. -/
def setBits (w : Word) (hi lo v : Nat) : Word :=
  BitVec.ofNat 32 (w.toNat % 2 ^ lo + v % 2 ^ (hi + 1 - lo) * 2 ^ lo + w.toNat / 2 ^ (hi + 1) * 2 ^ (hi + 1))

/-- Bit n of a natural number. -/
def bitOf (v n : Nat) : Bool := v / 2 ^ n % 2 == 1

/-- v with bit n set. -/
def setBitN (v n : Nat) : Nat := if bitOf v n then v else v + 2 ^ n

/-- v with bit n cleared. -/
def clearBitN (v n : Nat) : Nat := if bitOf v n then v - 2 ^ n else v

/-- 1 or 0. -/
def b2n (b : Bool) : Nat := if b then 1 else 0

/-- The number of bits set among bits 0 to n - 1. -/
def popCount (v n : Nat) : Nat := ((List.range n).filter (bitOf v)).length

/-! ### Sparse tables in one canonical form

A table lists only the keys whose value differs from the default of the key, with the keys strictly
rising. Equal tables are equal data. -/

/-- The value at key k; d is the value of an unlisted key. -/
def tget {α : Type} (l : List (Nat × α)) (k : Nat) (d : α) : α :=
  match l with
  | [] => d
  | p :: t => if p.1 = k then p.2 else tget t k d

/-- Put (k, v) in its place by key, among keys other than k. -/
def tins {α : Type} (l : List (Nat × α)) (k : Nat) (v : α) : List (Nat × α) :=
  match l with
  | [] => [(k, v)]
  | p :: t => if k < p.1 then (k, v) :: p :: t else p :: tins t k v

/-- The table without key k. -/
def tdel {α : Type} (l : List (Nat × α)) (k : Nat) : List (Nat × α) :=
  match l with
  | [] => []
  | p :: t => if p.1 = k then tdel t k else p :: tdel t k

/-- The table with key k at v; d is the value of the unlisted key k, which is never listed. -/
def tput {α : Type} [DecidableEq α] (l : List (Nat × α)) (k : Nat) (v d : α) : List (Nat × α) :=
  if v = d then tdel l k else tins (tdel l k) k v

/-- The canonical form: keys strictly rising and no entry equal to its default. -/
def tableOk {α : Type} [DecidableEq α] (d : Nat → α) : List (Nat × α) → Bool
  | [] => true
  | p :: t =>
    decide (p.2 ≠ d p.1) && (match t with | [] => true | q :: _ => decide (p.1 < q.1)) && tableOk d t

/-! ### Lists -/

/-- The list with element i changed by f; unchanged past the end. -/
def modifyAt {α : Type} (l : List α) (i : Nat) (f : α → α) : List α :=
  match l, i with
  | [], _ => []
  | x :: t, 0 => f x :: t
  | x :: t, n + 1 => x :: modifyAt t n f

/-- The list with element i replaced; unchanged past the end. -/
def setAt {α : Type} (l : List α) (i : Nat) (v : α) : List α := modifyAt l i (fun _ => v)

/-- The sum of f over 0 .. n - 1. -/
def sumTo (n : Nat) (f : Nat → Nat) : Nat := ((List.range n).map f).sum

/-- Cut a list into pieces of n elements, the last one shorter; `fuel` bounds the number of pieces. -/
def chunksAux {α : Type} (n : Nat) : Nat → List α → List (List α)
  | 0, _ => []
  | _, [] => []
  | f + 1, l => l.take n :: chunksAux n f (l.drop n)

/-- Cut a list into pieces of n elements (n not 0), the last one shorter. -/
def chunks {α : Type} (n : Nat) (l : List α) : List (List α) := chunksAux n l.length l

/-! ### Little-endian byte strings (R9) -/

/-- n bytes of v, least significant first. -/
def leBytes (n v : Nat) : List Byte := (List.range n).map (fun i => BitVec.ofNat 8 (v / 256 ^ i))

/-- The number a little-endian byte string spells. -/
def leNat (l : List Byte) : Nat := l.foldr (fun b acc => b.toNat + 256 * acc) 0

/-- n bytes of v, most significant first. -/
def beBytes (n v : Nat) : List Byte := (leBytes n v).reverse

/-- Byte i of a string, 0 past the end. -/
def byteAt (l : List Byte) (i : Nat) : Nat := (l.getD i 0).toNat

/-- The little-endian number at bytes off .. off + n - 1, zeros past the end. -/
def leAt (l : List Byte) (off n : Nat) : Nat := leNat ((l.drop off).take n)

/-! ### Arithmetic -/

/-- Quotient rounded up. -/
def ceilDiv (a b : Nat) : Nat := (a + b - 1) / b

/-- The signed number that the low n bits of v spell in two's complement. -/
def sext (n v : Nat) : Int :=
  let u := v % 2 ^ n
  if u < 2 ^ (n - 1) then (u : Int) else (u : Int) - (2 ^ n : Nat)

/-- A signed number in n bits of two's complement. -/
def toBits (n : Nat) (x : Int) : Nat := (x % (2 ^ n : Nat)).toNat

/-- clamp of the conventions chapter (R13 ff.). -/
def clampI (x lo hi : Int) : Int := if x < lo then lo else if x > hi then hi else x

/-- Add 1, holding at the top value. -/
def satInc (v top : Nat) : Nat := if v ≥ top then top else v + 1

/-- Add n, holding at the top value. -/
def satAdd (v n top : Nat) : Nat := if v + n ≥ top then top else v + n

/-- a - b, modulo 2^32. -/
def serialDiff (a b : Nat) : Nat := (a + 2 ^ 32 - b % 2 ^ 32) % 2 ^ 32

/-- a is before b: a - b as a signed 32-bit value is negative, in a window of 2^31 (R205, R235). -/
def serialLt (a b : Nat) : Bool := decide (2 ^ 31 ≤ serialDiff a b)

/-- XOR of two numbers' low n bits. -/
def xorN (n a b : Nat) : Nat :=
  ((BitVec.ofNat n a) ^^^ (BitVec.ofNat n b)).toNat

end Sys2Proof.Machine
end

