-- ==== Sys2Proof/Machine/Crc.lean ====
section
/-!
DEFINITION. The CRC parameter sets and their computation (R428 to R430).
-/

namespace Sys2Proof.Machine

/-- A CRC parameter set (R428). -/
structure CrcAlg where
  w : Nat
  poly : Nat
  init : Nat
  refin : Bool
  refout : Bool
  xor : Nat
deriving DecidableEq, Repr

/-- The four parameter sets, by ALG (R428). -/
def crcAlg (alg : Nat) : CrcAlg :=
  if alg = 0 then ⟨32, 0x04C11DB7, 0xFFFFFFFF, true, true, 0xFFFFFFFF⟩
  else if alg = 1 then ⟨32, 0x1EDC6F41, 0xFFFFFFFF, true, true, 0xFFFFFFFF⟩
  else if alg = 2 then ⟨16, 0x1021, 0xFFFF, false, false, 0⟩
  else ⟨8, 0x07, 0, false, false, 0⟩

/-- The w low bits of v in reverse order (R429). -/
def reverseBits (w v : Nat) : Nat := (List.range w).foldl (fun acc i => acc * 2 + v / 2 ^ i % 2) 0

/-- One bit step of the running register (R429). -/
def crcBit (a : CrcAlg) (r : Nat) : Nat :=
  if r / 2 ^ (a.w - 1) % 2 = 1 then Nat.xor (r * 2 % 2 ^ a.w) a.poly else r * 2 % 2 ^ a.w

/-- The running register after one byte (R429). -/
def crcByte (a : CrcAlg) (r : Nat) (d : Byte) : Nat :=
  let x := if a.refin then reverseBits 8 d.toNat else d.toNat
  let r0 := Nat.xor r (x * 2 ^ (a.w - 8))
  crcBit a (crcBit a (crcBit a (crcBit a (crcBit a (crcBit a (crcBit a (crcBit a r0)))))))

/-- The running register after a byte string (R429). -/
def crcBytes (a : CrcAlg) (r : Nat) (l : List Byte) : Nat := l.foldl (crcByte a) r

/-- The value of a running register: REFOUT and XOR applied (R429). -/
def crcFinal (a : CrcAlg) (r : Nat) : Nat :=
  Nat.xor (if a.refout then reverseBits a.w r else r) (a.xor % 2 ^ a.w)

/-- The CRC of a byte string (R429). -/
def crcOf (alg : Nat) (l : List Byte) : Nat :=
  crcFinal (crcAlg alg) (crcBytes (crcAlg alg) ((crcAlg alg).init % 2 ^ (crcAlg alg).w) l)

/-- CRC-16-CCITT of link headers (R430). -/
def crc16 (l : List Byte) : Nat := crcOf 2 l
/-- CRC-32 IEEE of link payloads and frames (R430). -/
def crc32 (l : List Byte) : Nat := crcOf 0 l
/-- CRC-32C of ladle packet headers (R430). -/
def crc32c (l : List Byte) : Nat := crcOf 1 l
/-- CRC-8 of SMBus packet error checking (R430). -/
def crc8 (l : List Byte) : Nat := crcOf 3 l

end Sys2Proof.Machine
end

