-- ==== Sys2Proof/Config.lean ====
section
/-!
DEFINITION. What the specification fixes per part or leaves open: constants without a body.

Nothing in Lean can evaluate them, so a statement about them holds for every value.
-/

namespace Sys2Proof.Config

/-- The serial number of the part (R424, reset column "Unique"). Log entry 3. -/
opaque serial : BitVec 64

/-- A fresh open value: the n-th value the model draws where the specification leaves a value open
(adaptation codes of R48, table bytes past a bad read, and so on). Log entry 4. -/
opaque freeWord : Nat → BitVec 32

/-- The pseudo-channel (0 to 127) that holds an HBM byte address; the specification gives no map. Log entry 5. -/
opaque hbmChannel : Nat → Nat

/-- The order in which a bank's 1,048,576 cells stand on its free-cell stack after PORESET_N; the specification gives
none. Log entry 8. -/
opaque cellOrder : Nat → Equiv.Perm (Fin 1048576)

/-- Whether GAIN is the low half of a column-table entry and OFFSET the high half, or the other way round; the
specification gives the entry 4 bytes and no layout. Log entry 9. -/
opaque columnGainLow : Bool

/-- The eight check bits over a cell number and the number of the entry that holds it: the specification names the kind of
the code and not the code (R259). Log entry 57. -/
opaque checkBits : Nat → Nat → BitVec 8

/-- What stands at a byte of the ladle's HBM regions that no structure in use gives a value: a free cell, an entry that nothing
chains, the end of a last cell. Log entry 57. -/
opaque staleByte : Nat → BitVec 8

end Sys2Proof.Config
end

