-- ==== Sys2Proof/Machine/RegNames.lean ====
section
/-!
DEFINITION. The registers of BAR0 by name: page addresses (R411) and one accessor for each register and field.

`CAM.NR_CTRL_MODE c` is field MODE of register NR_CTRL of page CAM[c]: its BAR0 byte address and its bit range.
An indexed register takes its index last. The tables with access codes and reset values are in RegMap.lean.
-/

namespace Sys2Proof.Machine

/-- A field of a BAR0 register: the register's byte address and the bits hi..lo. -/
structure Fld where
  addr : Nat
  hi : Nat
  lo : Nat
deriving DecidableEq, Repr

/-! ### Page addresses (R411) -/

def devPage : Nat := 0
def clkPage : Nat := 0x1000
def pwrPage : Nat := 0x2000
def timePage : Nat := 0x3000
def chkPage (n : Nat) : Nat := 0x4000 + 0x1000 * n
def trgPage (n : Nat) : Nat := 0x10000 + 0x1000 * n
def shotPage (s : Nat) : Nat := 0x20000 + 0x1000 * s
def gatePage (g : Nat) : Nat := 0x100000 + 0x1000 * g
def brgPage (g : Nat) : Nat := 0x180000 + 0x1000 * g
def slicePage (s : Nat) : Nat := 0x200000 + 0x1000 * s
def ladlePage (b : Nat) : Nat := 0x300000 + 0x1000 * b
def queueDesc (q : Nat) : Nat := 0x400000 + 0x80 * q
def pourPage (n : Nat) : Nat := 0x600000 + 0x1000 * n
def ringConf (q : Nat) : Nat := 0x680000 + 0x20 * q
def seamPage (u : Nat) : Nat := 0x700000 + 0x4000 * u
def mouldPage (m : Nat) : Nat := 0x710000 + 0x4000 * m
def hbmPage (h : Nat) : Nat := 0x740000 + 0x4000 * h
def pexPage : Nat := 0x780000
def camPage (c : Nat) : Nat := 0x800000 + 0x4000 * c
def msixEntry (v : Nat) : Nat := 0xFF0000 + 16 * v
def pbaWord (i : Nat) : Nat := 0xFF8000 + 4 * i

/-- MSI-X table entry v: message address low, high, data and vector control (R426). -/
def MSIX.ADDR_LO (v : Nat) : Fld := ⟨msixEntry v, 31, 0⟩
def MSIX.ADDR_HI (v : Nat) : Fld := ⟨msixEntry v + 4, 31, 0⟩
def MSIX.DATA (v : Nat) : Fld := ⟨msixEntry v + 8, 31, 0⟩
def MSIX.MASK (v : Nat) : Fld := ⟨msixEntry v + 12, 0, 0⟩
/-- The pending bit of vector v (R426). -/
def PBA.PENDING (v : Nat) : Fld := ⟨pbaWord (v / 32), v % 32, v % 32⟩

-- HDR: registers of R356, R414.
def HDR.ID (page : Nat) : Fld := ⟨page, 31, 0⟩
def HDR.ID_TYPE (page : Nat) : Fld := ⟨page, 31, 16⟩
def HDR.ID_INSTANCE (page : Nat) : Fld := ⟨page, 15, 0⟩
def HDR.VERSION (page : Nat) : Fld := ⟨page + 0x4, 31, 0⟩
def HDR.VERSION_SILICON (page : Nat) : Fld := ⟨page + 0x4, 23, 16⟩
def HDR.VERSION_BLOCK_REV (page : Nat) : Fld := ⟨page + 0x4, 15, 0⟩
def HDR.CTRL (page : Nat) : Fld := ⟨page + 0x8, 31, 0⟩
def HDR.CTRL_SOFT_RST (page : Nat) : Fld := ⟨page + 0x8, 1, 1⟩
def HDR.CTRL_ENABLE (page : Nat) : Fld := ⟨page + 0x8, 0, 0⟩
def HDR.STATE (page : Nat) : Fld := ⟨page + 0xC, 31, 0⟩
def HDR.STATE_REFUSED (page : Nat) : Fld := ⟨page + 0xC, 31, 31⟩
def HDR.STATE_REFUSE_CODE (page : Nat) : Fld := ⟨page + 0xC, 23, 16⟩
def HDR.STATE_REFUSE_COUNT (page : Nat) : Fld := ⟨page + 0xC, 15, 8⟩
def HDR.STATE_STATE_CODE (page : Nat) : Fld := ⟨page + 0xC, 2, 0⟩
def HDR.CMD (page : Nat) : Fld := ⟨page + 0x10, 31, 0⟩
def HDR.CMD_STATUS (page : Nat) : Fld := ⟨page + 0x14, 31, 0⟩
def HDR.CMD_STATUS_BUSY (page : Nat) : Fld := ⟨page + 0x14, 31, 31⟩
def HDR.CMD_STATUS_CANCELLED (page : Nat) : Fld := ⟨page + 0x14, 30, 30⟩
def HDR.CMD_STATUS_OPCODE (page : Nat) : Fld := ⟨page + 0x14, 7, 0⟩
def HDR.IRQ_STAT (page : Nat) : Fld := ⟨page + 0x20, 31, 0⟩
def HDR.IRQ_EN (page : Nat) : Fld := ⟨page + 0x24, 31, 0⟩
def HDR.IRQ_SET (page : Nat) : Fld := ⟨page + 0x28, 31, 0⟩
def HDR.IRQ_VEC (page : Nat) : Fld := ⟨page + 0x2C, 10, 0⟩
def HDR.FAULT_LIVE (page : Nat) : Fld := ⟨page + 0x30, 31, 0⟩
def HDR.FAULT_STICKY (page : Nat) : Fld := ⟨page + 0x34, 31, 0⟩
def HDR.FAULT_CLASS_LO (page : Nat) : Fld := ⟨page + 0x38, 31, 0⟩
def HDR.FAULT_CLASS_HI (page : Nat) : Fld := ⟨page + 0x3C, 31, 0⟩
def HDR.FAULT_REACT (page : Nat) : Fld := ⟨page + 0x40, 31, 0⟩
def HDR.FAULT_REACT_FENCED (page : Nat) : Fld := ⟨page + 0x40, 31, 31⟩
def HDR.FAULT_REACT_ESC_FENCED (page : Nat) : Fld := ⟨page + 0x40, 30, 30⟩
def HDR.FAULT_REACT_AER (page : Nat) : Fld := ⟨page + 0x40, 8, 8⟩
def HDR.FAULT_REACT_EVT_U (page : Nat) : Fld := ⟨page + 0x40, 1, 1⟩
def HDR.FAULT_REACT_EVT_C (page : Nat) : Fld := ⟨page + 0x40, 0, 0⟩
def HDR.FAULT_FIRST (page : Nat) : Fld := ⟨page + 0x44, 31, 0⟩
def HDR.FAULT_FIRST_VALID (page : Nat) : Fld := ⟨page + 0x44, 31, 31⟩
def HDR.FAULT_FIRST_INJECTED (page : Nat) : Fld := ⟨page + 0x44, 30, 30⟩
def HDR.FAULT_FIRST_CLASS (page : Nat) : Fld := ⟨page + 0x44, 29, 28⟩
def HDR.FAULT_FIRST_BIT (page : Nat) : Fld := ⟨page + 0x44, 20, 16⟩
def HDR.FAULT_FIRST_DETAIL (page : Nat) : Fld := ⟨page + 0x44, 15, 0⟩
def HDR.FAULT_FIRST_TIME_LO (page : Nat) : Fld := ⟨page + 0x48, 31, 0⟩
def HDR.FAULT_FIRST_TIME_HI (page : Nat) : Fld := ⟨page + 0x4C, 31, 0⟩
def HDR.FAULT_INJ (page : Nat) : Fld := ⟨page + 0x50, 31, 0⟩
def HDR.FAULT_INJ_GO (page : Nat) : Fld := ⟨page + 0x50, 31, 31⟩
def HDR.FAULT_INJ_ARMED (page : Nat) : Fld := ⟨page + 0x50, 30, 30⟩
def HDR.FAULT_INJ_BIT (page : Nat) : Fld := ⟨page + 0x50, 20, 16⟩
def HDR.FAULT_INJ_DETAIL (page : Nat) : Fld := ⟨page + 0x50, 15, 0⟩
def HDR.FAULT_INJ_TAGGED (page : Nat) : Fld := ⟨page + 0x54, 31, 0⟩
def HDR.ESC_TIMER (page : Nat) : Fld := ⟨page + 0x58, 15, 0⟩
def HDR.ESC_STATUS (page : Nat) : Fld := ⟨page + 0x5C, 31, 0⟩
def HDR.ESC_STATUS_RUNNING (page : Nat) : Fld := ⟨page + 0x5C, 31, 31⟩
def HDR.ESC_STATUS_EXPIRED (page : Nat) : Fld := ⟨page + 0x5C, 30, 30⟩
def HDR.ESC_STATUS_ACK (page : Nat) : Fld := ⟨page + 0x5C, 16, 16⟩
def HDR.ESC_STATUS_REMAINING (page : Nat) : Fld := ⟨page + 0x5C, 15, 0⟩

-- DEV: registers of R142, R380, R424.
def DEV.SERIAL_LO : Fld := ⟨devPage + 0x100, 31, 0⟩
def DEV.SERIAL_HI : Fld := ⟨devPage + 0x104, 31, 0⟩
def DEV.SCRATCH : Fld := ⟨devPage + 0x108, 31, 0⟩
def DEV.ADM_HBM_LIMIT : Fld := ⟨devPage + 0x180, 31, 0⟩
def DEV.ADM_HBM_TOTAL : Fld := ⟨devPage + 0x184, 31, 0⟩
def DEV.QUENCH_STATUS : Fld := ⟨devPage + 0x1C0, 31, 0⟩
def DEV.QUENCH_STATUS_QUENCHED : Fld := ⟨devPage + 0x1C0, 31, 31⟩
def DEV.QUENCH_STATUS_INJECTED : Fld := ⟨devPage + 0x1C0, 30, 30⟩
def DEV.QUENCH_STATUS_CAUSE : Fld := ⟨devPage + 0x1C0, 27, 24⟩
def DEV.QUENCH_STATUS_PAGE : Fld := ⟨devPage + 0x1C0, 23, 12⟩
def DEV.QUENCH_STATUS_BIT : Fld := ⟨devPage + 0x1C0, 4, 0⟩
def DEV.QUENCH_TIME_LO : Fld := ⟨devPage + 0x1C4, 31, 0⟩
def DEV.QUENCH_TIME_HI : Fld := ⟨devPage + 0x1C8, 31, 0⟩
def DEV.QUENCH_CFG : Fld := ⟨devPage + 0x1CC, 0, 0⟩
def DEV.QUENCH_DETAIL : Fld := ⟨devPage + 0x1D0, 15, 0⟩

-- CLK: registers of R406.
def CLK.CLK_STATUS : Fld := ⟨clkPage + 0x100, 31, 0⟩
def CLK.CLK_STATUS_REFCLK_OK : Fld := ⟨clkPage + 0x100, 2, 2⟩
def CLK.CLK_STATUS_PEX_PLL_LOCK : Fld := ⟨clkPage + 0x100, 1, 1⟩
def CLK.CLK_STATUS_CRUCIBLE_LOCK : Fld := ⟨clkPage + 0x100, 0, 0⟩
def CLK.LOCK_TIME : Fld := ⟨clkPage + 0x104, 15, 0⟩
def CLK.XING_LOST : Fld := ⟨clkPage + 0x108, 31, 0⟩
def CLK.XING_LOST_SRC : Fld := ⟨clkPage + 0x10C, 11, 0⟩
def CLK.PEER_RESETS : Fld := ⟨clkPage + 0x110, 31, 0⟩

-- PWR: registers of R407.
def PWR.DOMAIN_OFF (i : Nat) : Fld := ⟨pwrPage + 0x100 + 0x4 * i, 31, 0⟩
def PWR.DOMAIN_STATE (i : Nat) : Fld := ⟨pwrPage + 0x140 + 0x4 * i, 31, 0⟩
def PWR.GATE_HYST : Fld := ⟨pwrPage + 0x180, 15, 0⟩
def PWR.SLICE_HYST : Fld := ⟨pwrPage + 0x184, 15, 0⟩

-- TIME: registers of R315.
def TIME.TIME_LO : Fld := ⟨timePage + 0x100, 31, 0⟩
def TIME.TIME_HI : Fld := ⟨timePage + 0x104, 31, 0⟩
def TIME.TIME_CTRL : Fld := ⟨timePage + 0x108, 0, 0⟩
def TIME.PTM_PERIOD : Fld := ⟨timePage + 0x10C, 19, 0⟩
def TIME.PTM_SLEW : Fld := ⟨timePage + 0x110, 9, 0⟩
def TIME.PTM_OFFSET : Fld := ⟨timePage + 0x114, 31, 0⟩
def TIME.PTM_ADJ : Fld := ⟨timePage + 0x118, 31, 0⟩
def TIME.PTM_STATUS : Fld := ⟨timePage + 0x11C, 31, 0⟩
def TIME.PTM_STATUS_VALID : Fld := ⟨timePage + 0x11C, 31, 31⟩
def TIME.PTM_STATUS_COUNT : Fld := ⟨timePage + 0x11C, 15, 0⟩
def TIME.TIME_CMD : Fld := ⟨timePage + 0x120, 0, 0⟩
def TIME.TIME_SET_LO : Fld := ⟨timePage + 0x124, 31, 0⟩
def TIME.TIME_SET_HI : Fld := ⟨timePage + 0x128, 31, 0⟩

-- CHK: registers of R438.
def CHK.CHK_CFG (n : Nat) : Fld := ⟨chkPage n + 0x100, 31, 0⟩
def CHK.CHK_CFG_DONE (n : Nat) : Fld := ⟨chkPage n + 0x100, 31, 31⟩
def CHK.CHK_CFG_MISMATCH (n : Nat) : Fld := ⟨chkPage n + 0x100, 30, 30⟩
def CHK.CHK_CFG_EMPTY (n : Nat) : Fld := ⟨chkPage n + 0x100, 29, 29⟩
def CHK.CHK_CFG_REFOUT (n : Nat) : Fld := ⟨chkPage n + 0x100, 5, 5⟩
def CHK.CHK_CFG_REFIN (n : Nat) : Fld := ⟨chkPage n + 0x100, 4, 4⟩
def CHK.CHK_CFG_ALG (n : Nat) : Fld := ⟨chkPage n + 0x100, 2, 0⟩
def CHK.CHK_INIT (n : Nat) : Fld := ⟨chkPage n + 0x104, 31, 0⟩
def CHK.CHK_XOR (n : Nat) : Fld := ⟨chkPage n + 0x108, 31, 0⟩
def CHK.CHK_EXPECT (n : Nat) : Fld := ⟨chkPage n + 0x10C, 31, 0⟩
def CHK.CHK_DATA8 (n : Nat) : Fld := ⟨chkPage n + 0x110, 7, 0⟩
def CHK.CHK_DATA16 (n : Nat) : Fld := ⟨chkPage n + 0x114, 15, 0⟩
def CHK.CHK_DATA32 (n : Nat) : Fld := ⟨chkPage n + 0x118, 31, 0⟩
def CHK.CHK_FINAL (n : Nat) : Fld := ⟨chkPage n + 0x11C, 0, 0⟩
def CHK.CHK_RESULT (n : Nat) : Fld := ⟨chkPage n + 0x120, 31, 0⟩

-- TRG: registers of R252, R381.
def TRG.PIN_CFG (i : Nat) : Fld := ⟨trgPage 0 + 0x100 + 0x4 * i, 31, 0⟩
def TRG.PIN_CFG_FILTER (i : Nat) : Fld := ⟨trgPage 0 + 0x100 + 0x4 * i, 15, 8⟩
def TRG.PIN_CFG_EDGE (i : Nat) : Fld := ⟨trgPage 0 + 0x100 + 0x4 * i, 5, 4⟩
def TRG.PIN_CFG_ACTIVE_LOW (i : Nat) : Fld := ⟨trgPage 0 + 0x100 + 0x4 * i, 1, 1⟩
def TRG.PIN_CFG_DIR (i : Nat) : Fld := ⟨trgPage 0 + 0x100 + 0x4 * i, 0, 0⟩
def TRG.PIN_IN_LO : Fld := ⟨trgPage 0 + 0x200, 31, 0⟩
def TRG.PIN_IN_HI : Fld := ⟨trgPage 0 + 0x204, 31, 0⟩
def TRG.SW_TRIG : Fld := ⟨trgPage 0 + 0x208, 7, 0⟩
def TRG.ENC_CFG (i : Nat) : Fld := ⟨trgPage 1 + 0x100 + 0x40 * i, 31, 0⟩
def TRG.ENC_CFG_EN (i : Nat) : Fld := ⟨trgPage 1 + 0x100 + 0x40 * i, 31, 31⟩
def TRG.ENC_CFG_FILTER (i : Nat) : Fld := ⟨trgPage 1 + 0x100 + 0x40 * i, 15, 8⟩
def TRG.ENC_CFG_Z_MODE (i : Nat) : Fld := ⟨trgPage 1 + 0x100 + 0x40 * i, 5, 4⟩
def TRG.ENC_CFG_INVERT (i : Nat) : Fld := ⟨trgPage 1 + 0x100 + 0x40 * i, 2, 2⟩
def TRG.ENC_CFG_MODE (i : Nat) : Fld := ⟨trgPage 1 + 0x100 + 0x40 * i, 1, 0⟩
def TRG.ENC_POS_LO (i : Nat) : Fld := ⟨trgPage 1 + 0x108 + 0x40 * i, 31, 0⟩
def TRG.ENC_POS_HI (i : Nat) : Fld := ⟨trgPage 1 + 0x10C + 0x40 * i, 15, 0⟩
def TRG.ENC_ZLATCH_LO (i : Nat) : Fld := ⟨trgPage 1 + 0x110 + 0x40 * i, 31, 0⟩
def TRG.ENC_ZLATCH_HI (i : Nat) : Fld := ⟨trgPage 1 + 0x114 + 0x40 * i, 15, 0⟩
def TRG.ENC_SET_LO (i : Nat) : Fld := ⟨trgPage 1 + 0x118 + 0x40 * i, 31, 0⟩
def TRG.ENC_SET_HI (i : Nat) : Fld := ⟨trgPage 1 + 0x11C + 0x40 * i, 15, 0⟩
def TRG.ENC_CMD (i : Nat) : Fld := ⟨trgPage 1 + 0x120 + 0x40 * i, 0, 0⟩
def TRG.ENC_ERR (i : Nat) : Fld := ⟨trgPage 1 + 0x124 + 0x40 * i, 31, 0⟩
def TRG.ENC_FENCED : Fld := ⟨trgPage 1 + 0x300, 7, 0⟩
def TRG.CMP_CFG (i : Nat) : Fld := ⟨trgPage 2 + 0x100 + 0x20 * i, 31, 0⟩
def TRG.CMP_CFG_EN (i : Nat) : Fld := ⟨trgPage 2 + 0x100 + 0x20 * i, 31, 31⟩
def TRG.CMP_CFG_ENC (i : Nat) : Fld := ⟨trgPage 2 + 0x100 + 0x20 * i, 2, 0⟩
def TRG.CMP_NEXT_LO (i : Nat) : Fld := ⟨trgPage 2 + 0x104 + 0x20 * i, 31, 0⟩
def TRG.CMP_NEXT_HI (i : Nat) : Fld := ⟨trgPage 2 + 0x108 + 0x20 * i, 15, 0⟩
def TRG.CMP_STEP (i : Nat) : Fld := ⟨trgPage 2 + 0x10C + 0x20 * i, 31, 0⟩
def TRG.CMP_COUNT (i : Nat) : Fld := ⟨trgPage 2 + 0x110 + 0x20 * i, 31, 0⟩
def TRG.TMR_CFG (i : Nat) : Fld := ⟨trgPage 3 + 0x100 + 0x20 * i, 31, 31⟩
def TRG.TMR_PERIOD (i : Nat) : Fld := ⟨trgPage 3 + 0x104 + 0x20 * i, 31, 0⟩
def TRG.TMR_START_LO (i : Nat) : Fld := ⟨trgPage 3 + 0x108 + 0x20 * i, 31, 0⟩
def TRG.TMR_START_HI (i : Nat) : Fld := ⟨trgPage 3 + 0x10C + 0x20 * i, 31, 0⟩
def TRG.TMR_COUNT (i : Nat) : Fld := ⟨trgPage 3 + 0x110 + 0x20 * i, 31, 0⟩

-- SHOT: registers of R254.
def SHOT.LEDGER_PORT (n : Nat) : Fld := ⟨shotPage n + 0x100, 3, 0⟩
def SHOT.LEDGER_SHOT (n : Nat) : Fld := ⟨shotPage n + 0x104, 31, 0⟩
def SHOT.LEDGER_STATUS (n : Nat) : Fld := ⟨shotPage n + 0x108, 31, 0⟩
def SHOT.LEDGER_STATUS_FUTURE (n : Nat) : Fld := ⟨shotPage n + 0x108, 2, 2⟩
def SHOT.LEDGER_STATUS_GONE (n : Nat) : Fld := ⟨shotPage n + 0x108, 1, 1⟩
def SHOT.LEDGER_STATUS_FOUND (n : Nat) : Fld := ⟨shotPage n + 0x108, 0, 0⟩
def SHOT.LEDGER_REC (n : Nat) (i : Nat) : Fld := ⟨shotPage n + 0x110 + 0x4 * i, 31, 0⟩

-- GATE: registers of R60, R65, R66, R67, R68, R69, R70, R110, R111, R139, R408.
def GATE.PWR_BUDGET (n : Nat) : Fld := ⟨gatePage n + 0x60, 19, 0⟩
def GATE.PWR_STATE (n : Nat) : Fld := ⟨gatePage n + 0x64, 31, 0⟩
def GATE.PWR_STATE_IN_TRANSITION (n : Nat) : Fld := ⟨gatePage n + 0x64, 8, 8⟩
def GATE.PWR_STATE_TARGET (n : Nat) : Fld := ⟨gatePage n + 0x64, 5, 4⟩
def GATE.PWR_STATE_STATE (n : Nat) : Fld := ⟨gatePage n + 0x64, 1, 0⟩
def GATE.LINK_CFG_A (n : Nat) : Fld := ⟨gatePage n + 0x100, 31, 0⟩
def GATE.LINK_CFG_A_ADAPT_ALL (n : Nat) : Fld := ⟨gatePage n + 0x100, 10, 10⟩
def GATE.LINK_CFG_A_BURST_WARN_EN (n : Nat) : Fld := ⟨gatePage n + 0x100, 9, 9⟩
def GATE.LINK_CFG_A_RATE (n : Nat) : Fld := ⟨gatePage n + 0x100, 3, 0⟩
def GATE.LINK_CFG_B (n : Nat) : Fld := ⟨gatePage n + 0x104, 31, 0⟩
def GATE.LINK_CFG_B_ADAPT_ALL (n : Nat) : Fld := ⟨gatePage n + 0x104, 10, 10⟩
def GATE.LINK_CFG_B_BURST_WARN_EN (n : Nat) : Fld := ⟨gatePage n + 0x104, 9, 9⟩
def GATE.LINK_CFG_B_RATE (n : Nat) : Fld := ⟨gatePage n + 0x104, 3, 0⟩
def GATE.LINK_STATUS_A (n : Nat) : Fld := ⟨gatePage n + 0x108, 31, 0⟩
def GATE.LINK_STATUS_A_CLK_COUNT (n : Nat) : Fld := ⟨gatePage n + 0x108, 31, 16⟩
def GATE.LINK_STATUS_A_BURST_WARN (n : Nat) : Fld := ⟨gatePage n + 0x108, 11, 11⟩
def GATE.LINK_STATUS_A_DESKEW_DONE (n : Nat) : Fld := ⟨gatePage n + 0x108, 10, 10⟩
def GATE.LINK_STATUS_A_DLL_LOCK (n : Nat) : Fld := ⟨gatePage n + 0x108, 9, 9⟩
def GATE.LINK_STATUS_A_CLOCK_OK (n : Nat) : Fld := ⟨gatePage n + 0x108, 8, 8⟩
def GATE.LINK_STATUS_A_LINK_STATE (n : Nat) : Fld := ⟨gatePage n + 0x108, 2, 0⟩
def GATE.LINK_STATUS_B (n : Nat) : Fld := ⟨gatePage n + 0x10C, 31, 0⟩
def GATE.LINK_STATUS_B_CLK_COUNT (n : Nat) : Fld := ⟨gatePage n + 0x10C, 31, 16⟩
def GATE.LINK_STATUS_B_BURST_WARN (n : Nat) : Fld := ⟨gatePage n + 0x10C, 11, 11⟩
def GATE.LINK_STATUS_B_DESKEW_DONE (n : Nat) : Fld := ⟨gatePage n + 0x10C, 10, 10⟩
def GATE.LINK_STATUS_B_DLL_LOCK (n : Nat) : Fld := ⟨gatePage n + 0x10C, 9, 9⟩
def GATE.LINK_STATUS_B_CLOCK_OK (n : Nat) : Fld := ⟨gatePage n + 0x10C, 8, 8⟩
def GATE.LINK_STATUS_B_LINK_STATE (n : Nat) : Fld := ⟨gatePage n + 0x10C, 2, 0⟩
def GATE.DESKEW_ERR (n : Nat) : Fld := ⟨gatePage n + 0x110, 31, 0⟩
def GATE.DESKEW_ERR_B (n : Nat) : Fld := ⟨gatePage n + 0x110, 31, 16⟩
def GATE.DESKEW_ERR_A (n : Nat) : Fld := ⟨gatePage n + 0x110, 15, 0⟩
def GATE.TEST_STATUS (n : Nat) : Fld := ⟨gatePage n + 0x114, 31, 0⟩
def GATE.TEST_STATUS_FAR_LOCK_B (n : Nat) : Fld := ⟨gatePage n + 0x114, 9, 9⟩
def GATE.TEST_STATUS_FAR_LOCK_A (n : Nat) : Fld := ⟨gatePage n + 0x114, 8, 8⟩
def GATE.TEST_STATUS_LANES (n : Nat) : Fld := ⟨gatePage n + 0x114, 7, 3⟩
def GATE.TEST_STATUS_LOOP_MODE (n : Nat) : Fld := ⟨gatePage n + 0x114, 2, 0⟩
def GATE.CHECK_CFG (n : Nat) : Fld := ⟨gatePage n + 0x120, 31, 0⟩
def GATE.CHECK_CFG_LANE_LOSS (n : Nat) : Fld := ⟨gatePage n + 0x120, 4, 4⟩
def GATE.CHECK_CFG_CRC_POLICY (n : Nat) : Fld := ⟨gatePage n + 0x120, 1, 0⟩
def GATE.LANE_MASK (n : Nat) : Fld := ⟨gatePage n + 0x124, 31, 0⟩
def GATE.LANE_MASK_DEGRADED_A (n : Nat) : Fld := ⟨gatePage n + 0x124, 8, 8⟩
def GATE.LANE_MASK_MASK_B (n : Nat) : Fld := ⟨gatePage n + 0x124, 7, 4⟩
def GATE.LANE_MASK_MASK_A (n : Nat) : Fld := ⟨gatePage n + 0x124, 3, 0⟩
def GATE.INJ_CFG (n : Nat) : Fld := ⟨gatePage n + 0x128, 31, 0⟩
def GATE.INJ_CFG_COUNT (n : Nat) : Fld := ⟨gatePage n + 0x128, 31, 24⟩
def GATE.INJ_CFG_BIT (n : Nat) : Fld := ⟨gatePage n + 0x128, 23, 20⟩
def GATE.INJ_CFG_LANE (n : Nat) : Fld := ⟨gatePage n + 0x128, 18, 16⟩
def GATE.INJ_CFG_PORT (n : Nat) : Fld := ⟨gatePage n + 0x128, 8, 8⟩
def GATE.INJ_CFG_OP (n : Nat) : Fld := ⟨gatePage n + 0x128, 3, 0⟩
def GATE.INJ_STATUS (n : Nat) : Fld := ⟨gatePage n + 0x12C, 31, 0⟩
def GATE.INJ_STATUS_REAL_SEEN (n : Nat) : Fld := ⟨gatePage n + 0x12C, 2, 2⟩
def GATE.INJ_STATUS_DONE (n : Nat) : Fld := ⟨gatePage n + 0x12C, 1, 1⟩
def GATE.INJ_STATUS_ARMED (n : Nat) : Fld := ⟨gatePage n + 0x12C, 0, 0⟩
def GATE.HDR_CRC_ERR (n : Nat) : Fld := ⟨gatePage n + 0x140, 31, 0⟩
def GATE.HDR_CRC_ERR_B (n : Nat) : Fld := ⟨gatePage n + 0x140, 31, 16⟩
def GATE.HDR_CRC_ERR_A (n : Nat) : Fld := ⟨gatePage n + 0x140, 15, 0⟩
def GATE.PAY_CRC_ERR (n : Nat) : Fld := ⟨gatePage n + 0x144, 31, 0⟩
def GATE.PAY_CRC_ERR_B (n : Nat) : Fld := ⟨gatePage n + 0x144, 31, 16⟩
def GATE.PAY_CRC_ERR_A (n : Nat) : Fld := ⟨gatePage n + 0x144, 15, 0⟩
def GATE.PROTO_ERR (n : Nat) : Fld := ⟨gatePage n + 0x148, 31, 0⟩
def GATE.PROTO_ERR_B (n : Nat) : Fld := ⟨gatePage n + 0x148, 31, 16⟩
def GATE.PROTO_ERR_A (n : Nat) : Fld := ⟨gatePage n + 0x148, 15, 0⟩
def GATE.CTL_ERR (n : Nat) : Fld := ⟨gatePage n + 0x14C, 31, 0⟩
def GATE.CTL_ERR_GRANT_OVERRUN (n : Nat) : Fld := ⟨gatePage n + 0x14C, 31, 16⟩
def GATE.CTL_ERR_CRC (n : Nat) : Fld := ⟨gatePage n + 0x14C, 15, 0⟩
def GATE.TRIG_LATE (n : Nat) : Fld := ⟨gatePage n + 0x150, 31, 0⟩
def GATE.GATE_CFG (n : Nat) : Fld := ⟨gatePage n + 0x160, 31, 0⟩
def GATE.GATE_CFG_RISER_SPLIT_A (n : Nat) : Fld := ⟨gatePage n + 0x160, 15, 8⟩
def GATE.GATE_CFG_GATE_MODE (n : Nat) : Fld := ⟨gatePage n + 0x160, 1, 0⟩
def GATE.RISER_STATUS (n : Nat) : Fld := ⟨gatePage n + 0x164, 31, 0⟩
def GATE.RISER_STATUS_USED_B (n : Nat) : Fld := ⟨gatePage n + 0x164, 24, 16⟩
def GATE.RISER_STATUS_USED_A (n : Nat) : Fld := ⟨gatePage n + 0x164, 8, 0⟩
def GATE.RISER_OVF (n : Nat) : Fld := ⟨gatePage n + 0x168, 31, 0⟩
def GATE.RISER_OVF_OVF_B (n : Nat) : Fld := ⟨gatePage n + 0x168, 31, 16⟩
def GATE.RISER_OVF_OVF_A (n : Nat) : Fld := ⟨gatePage n + 0x168, 15, 0⟩
def GATE.RISER_HWM (n : Nat) : Fld := ⟨gatePage n + 0x16C, 31, 0⟩
def GATE.RISER_HWM_HWM_B (n : Nat) : Fld := ⟨gatePage n + 0x16C, 24, 16⟩
def GATE.RISER_HWM_HWM_A (n : Nat) : Fld := ⟨gatePage n + 0x16C, 8, 0⟩
def GATE.PWR_EXITS (n : Nat) : Fld := ⟨gatePage n + 0x170, 31, 0⟩
def GATE.LANE_CTRL (n : Nat) (i : Nat) : Fld := ⟨gatePage n + 0x200 + 0x20 * i, 0, 0⟩
def GATE.LANE_STATUS (n : Nat) (i : Nat) : Fld := ⟨gatePage n + 0x204 + 0x20 * i, 31, 0⟩
def GATE.LANE_STATUS_PRBS_LOCK (n : Nat) (i : Nat) : Fld := ⟨gatePage n + 0x204 + 0x20 * i, 31, 31⟩
def GATE.LANE_STATUS_SKEW (n : Nat) (i : Nat) : Fld := ⟨gatePage n + 0x204 + 0x20 * i, 25, 21⟩
def GATE.LANE_STATUS_PI_CODE (n : Nat) (i : Nat) : Fld := ⟨gatePage n + 0x204 + 0x20 * i, 20, 13⟩
def GATE.LANE_STATUS_BIT_OFFSET (n : Nat) (i : Nat) : Fld := ⟨gatePage n + 0x204 + 0x20 * i, 12, 7⟩
def GATE.LANE_STATUS_ROLE (n : Nat) (i : Nat) : Fld := ⟨gatePage n + 0x204 + 0x20 * i, 4, 2⟩
def GATE.LANE_STATUS_ALIGN_STATE (n : Nat) (i : Nat) : Fld := ⟨gatePage n + 0x204 + 0x20 * i, 1, 0⟩
def GATE.LANE_ADAPT (n : Nat) (i : Nat) : Fld := ⟨gatePage n + 0x208 + 0x20 * i, 31, 0⟩
def GATE.LANE_ADAPT_DFE3 (n : Nat) (i : Nat) : Fld := ⟨gatePage n + 0x208 + 0x20 * i, 22, 17⟩
def GATE.LANE_ADAPT_DFE2 (n : Nat) (i : Nat) : Fld := ⟨gatePage n + 0x208 + 0x20 * i, 16, 11⟩
def GATE.LANE_ADAPT_DFE1 (n : Nat) (i : Nat) : Fld := ⟨gatePage n + 0x208 + 0x20 * i, 10, 4⟩
def GATE.LANE_ADAPT_CTLE (n : Nat) (i : Nat) : Fld := ⟨gatePage n + 0x208 + 0x20 * i, 3, 0⟩
def GATE.LANE_CODE_ERR (n : Nat) (i : Nat) : Fld := ⟨gatePage n + 0x20C + 0x20 * i, 31, 0⟩
def GATE.LANE_DISP_ERR (n : Nat) (i : Nat) : Fld := ⟨gatePage n + 0x210 + 0x20 * i, 31, 0⟩
def GATE.LANE_ALIGN_LOSS (n : Nat) (i : Nat) : Fld := ⟨gatePage n + 0x214 + 0x20 * i, 31, 0⟩
def GATE.LANE_BURST (n : Nat) (i : Nat) : Fld := ⟨gatePage n + 0x218 + 0x20 * i, 31, 0⟩
def GATE.LANE_BURST_BURST_ERR (n : Nat) (i : Nat) : Fld := ⟨gatePage n + 0x218 + 0x20 * i, 31, 16⟩
def GATE.LANE_BURST_BURST_CNT (n : Nat) (i : Nat) : Fld := ⟨gatePage n + 0x218 + 0x20 * i, 15, 0⟩
def GATE.LANE_PRBS_ERR (n : Nat) (i : Nat) : Fld := ⟨gatePage n + 0x21C + 0x20 * i, 31, 0⟩
def GATE.LOOP_PAT (n : Nat) (i : Nat) : Fld := ⟨gatePage n + 0x400 + 0x4 * i, 31, 0⟩

-- BRG: registers of R346, R348.
def BRG.BRG_CFG (n : Nat) : Fld := ⟨brgPage n + 0x100, 31, 0⟩
def BRG.BRG_CFG_GRANT_MAX (n : Nat) : Fld := ⟨brgPage n + 0x100, 23, 16⟩
def BRG.BRG_CFG_READ_ERR_CA (n : Nat) : Fld := ⟨brgPage n + 0x100, 8, 8⟩
def BRG.BRG_CFG_RETRY_MAX (n : Nat) : Fld := ⟨brgPage n + 0x100, 3, 0⟩
def BRG.RSP_TIMEOUT (n : Nat) : Fld := ⟨brgPage n + 0x104, 15, 0⟩
def BRG.READ_LIMIT (n : Nat) : Fld := ⟨brgPage n + 0x108, 19, 0⟩
def BRG.LOCK_LIMIT (n : Nat) : Fld := ⟨brgPage n + 0x10C, 19, 0⟩
def BRG.LOG_HEAD (n : Nat) : Fld := ⟨brgPage n + 0x110, 5, 0⟩
def BRG.LOG_COUNT (n : Nat) : Fld := ⟨brgPage n + 0x114, 31, 0⟩
def BRG.UNEXPECTED (n : Nat) : Fld := ⟨brgPage n + 0x118, 31, 0⟩
def BRG.SE_SEEN (n : Nat) : Fld := ⟨brgPage n + 0x11C, 31, 0⟩
def BRG.WIN_BASE (n : Nat) (i : Nat) : Fld := ⟨brgPage n + 0x140 + 0x40 * i, 31, 20⟩
def BRG.PORT_CFG (n : Nat) (i : Nat) : Fld := ⟨brgPage n + 0x144 + 0x40 * i, 31, 0⟩
def BRG.PORT_CFG_BE (n : Nat) (i : Nat) : Fld := ⟨brgPage n + 0x144 + 0x40 * i, 8, 8⟩
def BRG.PORT_CFG_PAGE (n : Nat) (i : Nat) : Fld := ⟨brgPage n + 0x144 + 0x40 * i, 6, 4⟩
def BRG.PORT_CFG_PREFETCH (n : Nat) (i : Nat) : Fld := ⟨brgPage n + 0x144 + 0x40 * i, 1, 1⟩
def BRG.PORT_CFG_RULE (n : Nat) (i : Nat) : Fld := ⟨brgPage n + 0x144 + 0x40 * i, 0, 0⟩
def BRG.FENCE (n : Nat) (i : Nat) : Fld := ⟨brgPage n + 0x148 + 0x40 * i, 31, 0⟩
def BRG.FENCE_BUSY (n : Nat) (i : Nat) : Fld := ⟨brgPage n + 0x148 + 0x40 * i, 31, 31⟩
def BRG.FENCE_FAIL (n : Nat) (i : Nat) : Fld := ⟨brgPage n + 0x148 + 0x40 * i, 30, 30⟩
def BRG.FENCE_LAST_TAG (n : Nat) (i : Nat) : Fld := ⟨brgPage n + 0x148 + 0x40 * i, 15, 0⟩
def BRG.FAIL_TAG (n : Nat) (i : Nat) : Fld := ⟨brgPage n + 0x14C + 0x40 * i, 15, 0⟩
def BRG.PORT_STATUS (n : Nat) (i : Nat) : Fld := ⟨brgPage n + 0x150 + 0x40 * i, 31, 0⟩
def BRG.PORT_STATUS_LOCKED (n : Nat) (i : Nat) : Fld := ⟨brgPage n + 0x150 + 0x40 * i, 31, 31⟩
def BRG.PORT_STATUS_LOCK_PENDING (n : Nat) (i : Nat) : Fld := ⟨brgPage n + 0x150 + 0x40 * i, 30, 30⟩
def BRG.PORT_STATUS_PCW_BUSY (n : Nat) (i : Nat) : Fld := ⟨brgPage n + 0x150 + 0x40 * i, 29, 29⟩
def BRG.PORT_STATUS_SE_HELD (n : Nat) (i : Nat) : Fld := ⟨brgPage n + 0x150 + 0x40 * i, 28, 28⟩
def BRG.PORT_STATUS_DISC (n : Nat) (i : Nat) : Fld := ⟨brgPage n + 0x150 + 0x40 * i, 27, 26⟩
def BRG.PORT_STATUS_PW_FREE (n : Nat) (i : Nat) : Fld := ⟨brgPage n + 0x150 + 0x40 * i, 20, 16⟩
def BRG.PORT_STATUS_NEXT_TAG (n : Nat) (i : Nat) : Fld := ⟨brgPage n + 0x150 + 0x40 * i, 15, 0⟩
def BRG.CAM_CAPS (n : Nat) (i : Nat) : Fld := ⟨brgPage n + 0x154 + 0x40 * i, 31, 0⟩
def BRG.CAM_IDENT (n : Nat) (i : Nat) : Fld := ⟨brgPage n + 0x158 + 0x40 * i, 31, 0⟩
def BRG.PCW_ADDR (n : Nat) (i : Nat) : Fld := ⟨brgPage n + 0x15C + 0x40 * i, 31, 0⟩
def BRG.PCW_DATA (n : Nat) (i : Nat) : Fld := ⟨brgPage n + 0x160 + 0x40 * i, 31, 0⟩
def BRG.POLL_CFG (n : Nat) (i : Nat) : Fld := ⟨brgPage n + 0x164 + 0x40 * i, 31, 0⟩
def BRG.POLL_CFG_EN (n : Nat) (i : Nat) : Fld := ⟨brgPage n + 0x164 + 0x40 * i, 31, 31⟩
def BRG.POLL_CFG_INTERVAL (n : Nat) (i : Nat) : Fld := ⟨brgPage n + 0x164 + 0x40 * i, 19, 0⟩
def BRG.POLL_ADDR (n : Nat) (i : Nat) : Fld := ⟨brgPage n + 0x168 + 0x40 * i, 31, 0⟩
def BRG.POLL_MASK (n : Nat) (i : Nat) : Fld := ⟨brgPage n + 0x16C + 0x40 * i, 31, 0⟩
def BRG.POLL_LAST (n : Nat) (i : Nat) : Fld := ⟨brgPage n + 0x170 + 0x40 * i, 31, 0⟩
def BRG.NAK_COUNT (n : Nat) (i : Nat) : Fld := ⟨brgPage n + 0x174 + 0x40 * i, 31, 0⟩
def BRG.TIMEOUT_COUNT (n : Nat) (i : Nat) : Fld := ⟨brgPage n + 0x178 + 0x40 * i, 31, 0⟩
def BRG.POLL_SKIP (n : Nat) (i : Nat) : Fld := ⟨brgPage n + 0x17C + 0x40 * i, 31, 0⟩
def BRG.LOG (n : Nat) (i : Nat) : Fld := ⟨brgPage n + 0x800 + 0x4 * i, 31, 0⟩

-- SLICE: registers of R142, R381, R408.
def SLICE.PWR_BUDGET (n : Nat) : Fld := ⟨slicePage n + 0x60, 19, 0⟩
def SLICE.PWR_STATE (n : Nat) : Fld := ⟨slicePage n + 0x64, 31, 0⟩
def SLICE.PWR_STATE_IN_TRANSITION (n : Nat) : Fld := ⟨slicePage n + 0x64, 8, 8⟩
def SLICE.PWR_STATE_TARGET (n : Nat) : Fld := ⟨slicePage n + 0x64, 5, 4⟩
def SLICE.PWR_STATE_STATE (n : Nat) : Fld := ⟨slicePage n + 0x64, 1, 0⟩
def SLICE.ADM_LOAD (n : Nat) : Fld := ⟨slicePage n + 0x100, 31, 0⟩
def SLICE.ADM_WIN (n : Nat) : Fld := ⟨slicePage n + 0x104, 31, 0⟩
def SLICE.PWR_EXITS (n : Nat) : Fld := ⟨slicePage n + 0x120, 31, 0⟩
def SLICE.SPARE_STATUS : Fld := ⟨slicePage 32 + 0x110, 31, 0⟩
def SLICE.SPARE_STATUS_IN_USE : Fld := ⟨slicePage 32 + 0x110, 31, 31⟩
def SLICE.SPARE_STATUS_BUSY : Fld := ⟨slicePage 32 + 0x110, 30, 30⟩
def SLICE.SPARE_STATUS_FOR : Fld := ⟨slicePage 32 + 0x110, 4, 0⟩
def SLICE.REMAP_COUNT : Fld := ⟨slicePage 32 + 0x114, 31, 0⟩
def SLICE.LAST_INTERRUPT : Fld := ⟨slicePage 32 + 0x118, 31, 0⟩

-- LADLE: registers of R281.
def LADLE.LADLE_CFG : Fld := ⟨ladlePage 0 + 0x100, 0, 0⟩
def LADLE.BANK_AVAIL (n : Nat) : Fld := ⟨ladlePage n + 0x104, 20, 0⟩
def LADLE.BANK_FREE (n : Nat) : Fld := ⟨ladlePage n + 0x108, 20, 0⟩
def LADLE.BANK_LOST (n : Nat) : Fld := ⟨ladlePage n + 0x10C, 20, 0⟩
def LADLE.BANK_RETIRED (n : Nat) : Fld := ⟨ladlePage n + 0x110, 20, 0⟩
def LADLE.POOL_WARN (n : Nat) : Fld := ⟨ladlePage n + 0x114, 20, 0⟩
def LADLE.SWEEP_CFG (n : Nat) : Fld := ⟨ladlePage n + 0x118, 0, 0⟩
def LADLE.SWEEP_STATUS (n : Nat) : Fld := ⟨ladlePage n + 0x11C, 31, 0⟩
def LADLE.SWEEP_STATUS_BUSY (n : Nat) : Fld := ⟨ladlePage n + 0x11C, 31, 31⟩
def LADLE.SWEEP_STATUS_FOUND (n : Nat) : Fld := ⟨ladlePage n + 0x11C, 20, 0⟩
def LADLE.SWEEP_COUNT (n : Nat) : Fld := ⟨ladlePage n + 0x120, 31, 0⟩
def LADLE.OVERRUN_TOTAL (n : Nat) : Fld := ⟨ladlePage n + 0x124, 31, 0⟩
def LADLE.LAST_OVERRUN_Q (n : Nat) : Fld := ⟨ladlePage n + 0x128, 13, 0⟩
def LADLE.NOQ_DROP (n : Nat) : Fld := ⟨ladlePage n + 0x12C, 31, 0⟩
def LADLE.LAST_NOQ_Q (n : Nat) : Fld := ⟨ladlePage n + 0x130, 13, 0⟩
def LADLE.LINK_CE (n : Nat) : Fld := ⟨ladlePage n + 0x134, 31, 0⟩
def LADLE.LINK_UE (n : Nat) : Fld := ⟨ladlePage n + 0x138, 31, 0⟩
def LADLE.LINK_UE_CELL (n : Nat) : Fld := ⟨ladlePage n + 0x13C, 23, 0⟩
def LADLE.DUP_MISMATCH (n : Nat) : Fld := ⟨ladlePage n + 0x140, 31, 0⟩
def LADLE.ACCT_ERR (n : Nat) : Fld := ⟨ladlePage n + 0x144, 31, 0⟩
def LADLE.LAST_FAULT_Q (n : Nat) : Fld := ⟨ladlePage n + 0x148, 13, 0⟩

-- QD: registers of R280.
def QD.Q_CFG (n : Nat) : Fld := ⟨queueDesc n, 31, 0⟩
def QD.Q_CFG_EN (n : Nat) : Fld := ⟨queueDesc n, 31, 31⟩
def QD.Q_CFG_ORDERED (n : Nat) : Fld := ⟨queueDesc n, 30, 30⟩
def QD.Q_CFG_CONSUMER (n : Nat) : Fld := ⟨queueDesc n, 27, 26⟩
def QD.Q_CFG_UNIT (n : Nat) : Fld := ⟨queueDesc n, 18, 16⟩
def QD.Q_LIMIT (n : Nat) : Fld := ⟨queueDesc n + 0x4, 20, 0⟩
def QD.Q_CMD (n : Nat) : Fld := ⟨queueDesc n + 0x8, 31, 0⟩
def QD.Q_CMD_CLR_OVR (n : Nat) : Fld := ⟨queueDesc n + 0x8, 3, 3⟩
def QD.Q_CMD_RELEASE (n : Nat) : Fld := ⟨queueDesc n + 0x8, 2, 2⟩
def QD.Q_CMD_FLUSH (n : Nat) : Fld := ⟨queueDesc n + 0x8, 0, 0⟩
def QD.Q_STATUS (n : Nat) : Fld := ⟨queueDesc n + 0xC, 31, 0⟩
def QD.Q_STATUS_FENCED (n : Nat) : Fld := ⟨queueDesc n + 0xC, 31, 31⟩
def QD.Q_STATUS_FLUSHING (n : Nat) : Fld := ⟨queueDesc n + 0xC, 30, 30⟩
def QD.Q_STATUS_CLAIMED (n : Nat) : Fld := ⟨queueDesc n + 0xC, 29, 29⟩
def QD.Q_STATUS_OVERRUN (n : Nat) : Fld := ⟨queueDesc n + 0xC, 28, 28⟩
def QD.Q_STATUS_OPEN (n : Nat) : Fld := ⟨queueDesc n + 0xC, 21, 16⟩
def QD.Q_STATUS_SUB_NONEMPTY (n : Nat) : Fld := ⟨queueDesc n + 0xC, 7, 0⟩
def QD.Q_DEPTH (n : Nat) : Fld := ⟨queueDesc n + 0x10, 20, 0⟩
def QD.Q_OCC (n : Nat) : Fld := ⟨queueDesc n + 0x14, 20, 0⟩
def QD.Q_HEAD_A (n : Nat) : Fld := ⟨queueDesc n + 0x18, 23, 0⟩
def QD.Q_HEAD_B (n : Nat) : Fld := ⟨queueDesc n + 0x1C, 23, 0⟩
def QD.Q_TAIL_A (n : Nat) : Fld := ⟨queueDesc n + 0x20, 23, 0⟩
def QD.Q_TAIL_B (n : Nat) : Fld := ⟨queueDesc n + 0x24, 23, 0⟩
def QD.Q_SEQ (n : Nat) : Fld := ⟨queueDesc n + 0x28, 31, 0⟩
def QD.Q_OVERRUN (n : Nat) : Fld := ⟨queueDesc n + 0x2C, 31, 0⟩
def QD.Q_DROPPED (n : Nat) : Fld := ⟨queueDesc n + 0x30, 31, 0⟩
def QD.Q_PUSHED (n : Nat) : Fld := ⟨queueDesc n + 0x34, 31, 0⟩
def QD.Q_POPPED (n : Nat) : Fld := ⟨queueDesc n + 0x38, 31, 0⟩
def QD.Q_DISCARDED (n : Nat) : Fld := ⟨queueDesc n + 0x3C, 31, 0⟩
def QD.Q_HWM (n : Nat) : Fld := ⟨queueDesc n + 0x40, 20, 0⟩
def QD.Q_SUB_DEPTH (n : Nat) (i : Nat) : Fld := ⟨queueDesc n + 0x60 + 0x4 * i, 20, 0⟩

-- POUR: registers of R314.
def POUR.POUR_CFG : Fld := ⟨pourPage 0 + 0x100, 0, 0⟩
def POUR.POUR_STATUS : Fld := ⟨pourPage 0 + 0x104, 31, 0⟩
def POUR.POUR_STATUS_STOPPED : Fld := ⟨pourPage 0 + 0x104, 31, 31⟩
def POUR.POUR_STATUS_ACTIVE : Fld := ⟨pourPage 0 + 0x104, 6, 0⟩
def POUR.POUR_BYTES_LO : Fld := ⟨pourPage 0 + 0x108, 31, 0⟩
def POUR.POUR_BYTES_HI : Fld := ⟨pourPage 0 + 0x10C, 31, 0⟩
def POUR.POUR_PKTS : Fld := ⟨pourPage 0 + 0x110, 31, 0⟩
def POUR.POUR_ERR_PKTS : Fld := ⟨pourPage 0 + 0x114, 31, 0⟩
def POUR.LAST_ERR : Fld := ⟨pourPage 0 + 0x118, 31, 0⟩
def POUR.LAST_ERR_CSTATUS : Fld := ⟨pourPage 0 + 0x118, 19, 16⟩
def POUR.LAST_ERR_RING : Fld := ⟨pourPage 0 + 0x118, 13, 0⟩
def POUR.POUR_SLAG : Fld := ⟨pourPage 0 + 0x11C, 31, 0⟩

-- RING: registers of R313.
def RING.DESC_BASE_LO (n : Nat) : Fld := ⟨ringConf n, 31, 0⟩
def RING.DESC_BASE_HI (n : Nat) : Fld := ⟨ringConf n + 0x4, 31, 0⟩
def RING.CPL_BASE_LO (n : Nat) : Fld := ⟨ringConf n + 0x8, 31, 0⟩
def RING.CPL_BASE_HI (n : Nat) : Fld := ⟨ringConf n + 0xC, 31, 0⟩
def RING.RING_CFG (n : Nat) : Fld := ⟨ringConf n + 0x10, 31, 0⟩
def RING.RING_CFG_EN (n : Nat) : Fld := ⟨ringConf n + 0x10, 31, 31⟩
def RING.RING_CFG_URGENT (n : Nat) : Fld := ⟨ringConf n + 0x10, 30, 30⟩
def RING.RING_CFG_NOSNOOP (n : Nat) : Fld := ⟨ringConf n + 0x10, 29, 29⟩
def RING.RING_CFG_INT_EN (n : Nat) : Fld := ⟨ringConf n + 0x10, 28, 28⟩
def RING.RING_CFG_AUTO_ARM (n : Nat) : Fld := ⟨ringConf n + 0x10, 27, 27⟩
def RING.RING_CFG_ARMED (n : Nat) : Fld := ⟨ringConf n + 0x10, 24, 24⟩
def RING.RING_CFG_BUSY (n : Nat) : Fld := ⟨ringConf n + 0x10, 22, 22⟩
def RING.RING_CFG_HALTED (n : Nat) : Fld := ⟨ringConf n + 0x10, 21, 21⟩
def RING.RING_CFG_HALT_CAUSE (n : Nat) : Fld := ⟨ringConf n + 0x10, 19, 16⟩
def RING.RING_CFG_SIZE (n : Nat) : Fld := ⟨ringConf n + 0x10, 4, 0⟩
def RING.RING_INT (n : Nat) : Fld := ⟨ringConf n + 0x14, 31, 0⟩
def RING.RING_INT_THRESH (n : Nat) : Fld := ⟨ringConf n + 0x14, 31, 24⟩
def RING.RING_INT_HOLDOFF (n : Nat) : Fld := ⟨ringConf n + 0x14, 23, 12⟩
def RING.RING_INT_VEC (n : Nat) : Fld := ⟨ringConf n + 0x14, 10, 0⟩
def RING.RING_RATE (n : Nat) : Fld := ⟨ringConf n + 0x18, 19, 0⟩
def RING.RING_IDX (n : Nat) : Fld := ⟨ringConf n + 0x1C, 31, 0⟩
def RING.RING_IDX_CPL_TAIL (n : Nat) : Fld := ⟨ringConf n + 0x1C, 31, 16⟩
def RING.RING_IDX_DESC_HEAD (n : Nat) : Fld := ⟨ringConf n + 0x1C, 15, 0⟩

-- SEAM: registers of R219, R220.
def SEAM.SEAM_CFG (n : Nat) : Fld := ⟨seamPage n + 0x100, 31, 0⟩
def SEAM.SEAM_CFG_MEMBERS (n : Nat) : Fld := ⟨seamPage n + 0x100, 21, 16⟩
def SEAM.SEAM_CFG_SAMPLE (n : Nat) : Fld := ⟨seamPage n + 0x100, 0, 0⟩
def SEAM.SEAM_WIDTH (n : Nat) : Fld := ⟨seamPage n + 0x104, 18, 0⟩
def SEAM.SEAM_BLOCK (n : Nat) : Fld := ⟨seamPage n + 0x108, 23, 0⟩
def SEAM.SEAM_PAD (n : Nat) : Fld := ⟨seamPage n + 0x10C, 15, 0⟩
def SEAM.SEAM_TIMEOUT (n : Nat) : Fld := ⟨seamPage n + 0x110, 19, 0⟩
def SEAM.SEAM_QUEUE (n : Nat) : Fld := ⟨seamPage n + 0x114, 31, 0⟩
def SEAM.SEAM_QUEUE_PRIO (n : Nat) : Fld := ⟨seamPage n + 0x114, 18, 16⟩
def SEAM.SEAM_QUEUE_QUEUE (n : Nat) : Fld := ⟨seamPage n + 0x114, 13, 0⟩
def SEAM.SEAM_LINE (n : Nat) : Fld := ⟨seamPage n + 0x118, 31, 0⟩
def SEAM.SEAM_MISS_MASK (n : Nat) : Fld := ⟨seamPage n + 0x11C, 31, 0⟩
def SEAM.SEAM_FORCED (n : Nat) : Fld := ⟨seamPage n + 0x120, 31, 0⟩
def SEAM.SEAM_MISS_LINES (n : Nat) : Fld := ⟨seamPage n + 0x124, 31, 0⟩
def SEAM.SEAM_SKIPPED (n : Nat) : Fld := ⟨seamPage n + 0x128, 31, 0⟩
def SEAM.SEAM_LATE (n : Nat) : Fld := ⟨seamPage n + 0x12C, 31, 0⟩
def SEAM.SEAM_BAD_PKT (n : Nat) : Fld := ⟨seamPage n + 0x130, 31, 0⟩
def SEAM.ADM_VEC (n : Nat) : Fld := ⟨seamPage n + 0x140, 31, 0⟩
def SEAM.ADM_HBM (n : Nat) : Fld := ⟨seamPage n + 0x144, 31, 0⟩
def SEAM.MEM_PORT (n : Nat) (i : Nat) : Fld := ⟨seamPage n + 0x1000 + 0x20 * i, 7, 0⟩
def SEAM.MEM_QUEUE (n : Nat) (i : Nat) : Fld := ⟨seamPage n + 0x1004 + 0x20 * i, 13, 0⟩
def SEAM.MEM_WIDTH (n : Nat) (i : Nat) : Fld := ⟨seamPage n + 0x1008 + 0x20 * i, 14, 0⟩
def SEAM.MEM_POS (n : Nat) (i : Nat) : Fld := ⟨seamPage n + 0x100C + 0x20 * i, 23, 0⟩
def SEAM.MEM_GAIN (n : Nat) (i : Nat) : Fld := ⟨seamPage n + 0x1010 + 0x20 * i, 31, 0⟩
def SEAM.MEM_GAIN_OFFSET (n : Nat) (i : Nat) : Fld := ⟨seamPage n + 0x1010 + 0x20 * i, 31, 16⟩
def SEAM.MEM_GAIN_GAIN (n : Nat) (i : Nat) : Fld := ⟨seamPage n + 0x1010 + 0x20 * i, 15, 0⟩
def SEAM.MEM_DELAY (n : Nat) (i : Nat) : Fld := ⟨seamPage n + 0x1014 + 0x20 * i, 31, 0⟩
def SEAM.MEM_DELAY_FEATHER (n : Nat) (i : Nat) : Fld := ⟨seamPage n + 0x1014 + 0x20 * i, 24, 16⟩
def SEAM.MEM_DELAY_DELAY (n : Nat) (i : Nat) : Fld := ⟨seamPage n + 0x1014 + 0x20 * i, 9, 0⟩
def SEAM.MEM_SEAM_X (n : Nat) (i : Nat) : Fld := ⟨seamPage n + 0x1018 + 0x20 * i, 18, 0⟩
def SEAM.MEM_SHOT_BASE (n : Nat) (i : Nat) : Fld := ⟨seamPage n + 0x101C + 0x20 * i, 31, 0⟩

-- MOULD: registers of R221, R222.
def MOULD.MOULD_CFG (n : Nat) : Fld := ⟨mouldPage n + 0x100, 31, 0⟩
def MOULD.MOULD_CFG_FORMAT (n : Nat) : Fld := ⟨mouldPage n + 0x100, 8, 8⟩
def MOULD.MOULD_CFG_TILES (n : Nat) : Fld := ⟨mouldPage n + 0x100, 6, 0⟩
def MOULD.MOULD_SIZE (n : Nat) : Fld := ⟨mouldPage n + 0x104, 31, 0⟩
def MOULD.MOULD_SIZE_HEIGHT (n : Nat) : Fld := ⟨mouldPage n + 0x104, 28, 16⟩
def MOULD.MOULD_SIZE_WIDTH (n : Nat) : Fld := ⟨mouldPage n + 0x104, 12, 0⟩
def MOULD.MOULD_RATE (n : Nat) : Fld := ⟨mouldPage n + 0x108, 6, 0⟩
def MOULD.MOULD_QUEUE (n : Nat) : Fld := ⟨mouldPage n + 0x10C, 31, 0⟩
def MOULD.MOULD_QUEUE_PRIO (n : Nat) : Fld := ⟨mouldPage n + 0x10C, 18, 16⟩
def MOULD.MOULD_QUEUE_QUEUE (n : Nat) : Fld := ⟨mouldPage n + 0x10C, 13, 0⟩
def MOULD.BG_COLOUR (n : Nat) : Fld := ⟨mouldPage n + 0x110, 23, 0⟩
def MOULD.BORDER_COLOUR (n : Nat) : Fld := ⟨mouldPage n + 0x114, 23, 0⟩
def MOULD.ALARM_COLOUR (n : Nat) : Fld := ⟨mouldPage n + 0x118, 23, 0⟩
def MOULD.STALE_COLOUR (n : Nat) : Fld := ⟨mouldPage n + 0x11C, 23, 0⟩
def MOULD.STALE_MS (n : Nat) : Fld := ⟨mouldPage n + 0x120, 15, 0⟩
def MOULD.ALARM_LO (n : Nat) : Fld := ⟨mouldPage n + 0x124, 31, 0⟩
def MOULD.ALARM_HI (n : Nat) : Fld := ⟨mouldPage n + 0x128, 31, 0⟩
def MOULD.STALE_LO (n : Nat) : Fld := ⟨mouldPage n + 0x12C, 31, 0⟩
def MOULD.STALE_HI (n : Nat) : Fld := ⟨mouldPage n + 0x130, 31, 0⟩
def MOULD.NOFIT_LO (n : Nat) : Fld := ⟨mouldPage n + 0x134, 31, 0⟩
def MOULD.NOFIT_HI (n : Nat) : Fld := ⟨mouldPage n + 0x138, 31, 0⟩
def MOULD.FRAME_COUNT (n : Nat) : Fld := ⟨mouldPage n + 0x13C, 31, 0⟩
def MOULD.FRAME_SKIP (n : Nat) : Fld := ⟨mouldPage n + 0x140, 31, 0⟩
def MOULD.SRC_SKIP (n : Nat) : Fld := ⟨mouldPage n + 0x144, 31, 0⟩
def MOULD.BAD_PKT (n : Nat) : Fld := ⟨mouldPage n + 0x148, 31, 0⟩
def MOULD.ADM_HBM (n : Nat) : Fld := ⟨mouldPage n + 0x14C, 31, 0⟩
def MOULD.TILE_SRC (n : Nat) (i : Nat) : Fld := ⟨mouldPage n + 0x1000 + 0x20 * i, 31, 0⟩
def MOULD.TILE_SRC_KIND (n : Nat) (i : Nat) : Fld := ⟨mouldPage n + 0x1000 + 0x20 * i, 31, 30⟩
def MOULD.TILE_SRC_WIN (n : Nat) (i : Nat) : Fld := ⟨mouldPage n + 0x1000 + 0x20 * i, 29, 24⟩
def MOULD.TILE_SRC_CAM (n : Nat) (i : Nat) : Fld := ⟨mouldPage n + 0x1000 + 0x20 * i, 23, 16⟩
def MOULD.TILE_SRC_QUEUE (n : Nat) (i : Nat) : Fld := ⟨mouldPage n + 0x1000 + 0x20 * i, 13, 0⟩
def MOULD.TILE_POS (n : Nat) (i : Nat) : Fld := ⟨mouldPage n + 0x1004 + 0x20 * i, 31, 0⟩
def MOULD.TILE_POS_DY (n : Nat) (i : Nat) : Fld := ⟨mouldPage n + 0x1004 + 0x20 * i, 28, 16⟩
def MOULD.TILE_POS_DX (n : Nat) (i : Nat) : Fld := ⟨mouldPage n + 0x1004 + 0x20 * i, 12, 0⟩
def MOULD.TILE_SIZE (n : Nat) (i : Nat) : Fld := ⟨mouldPage n + 0x1008 + 0x20 * i, 31, 0⟩
def MOULD.TILE_SIZE_TH (n : Nat) (i : Nat) : Fld := ⟨mouldPage n + 0x1008 + 0x20 * i, 28, 16⟩
def MOULD.TILE_SIZE_TW (n : Nat) (i : Nat) : Fld := ⟨mouldPage n + 0x1008 + 0x20 * i, 12, 0⟩
def MOULD.TILE_SX0 (n : Nat) (i : Nat) : Fld := ⟨mouldPage n + 0x100C + 0x20 * i, 17, 0⟩
def MOULD.TILE_SY0 (n : Nat) (i : Nat) : Fld := ⟨mouldPage n + 0x1010 + 0x20 * i, 23, 0⟩
def MOULD.TILE_CTRL (n : Nat) (i : Nat) : Fld := ⟨mouldPage n + 0x1014 + 0x20 * i, 31, 0⟩
def MOULD.TILE_CTRL_EN (n : Nat) (i : Nat) : Fld := ⟨mouldPage n + 0x1014 + 0x20 * i, 31, 31⟩
def MOULD.TILE_CTRL_TINT (n : Nat) (i : Nat) : Fld := ⟨mouldPage n + 0x1014 + 0x20 * i, 24, 24⟩
def MOULD.TILE_CTRL_BORDER (n : Nat) (i : Nat) : Fld := ⟨mouldPage n + 0x1014 + 0x20 * i, 23, 20⟩
def MOULD.TILE_CTRL_MODE (n : Nat) (i : Nat) : Fld := ⟨mouldPage n + 0x1014 + 0x20 * i, 16, 16⟩
def MOULD.TILE_CTRL_SHIFT (n : Nat) (i : Nat) : Fld := ⟨mouldPage n + 0x1014 + 0x20 * i, 11, 8⟩
def MOULD.TILE_CTRL_SCALE (n : Nat) (i : Nat) : Fld := ⟨mouldPage n + 0x1014 + 0x20 * i, 5, 0⟩

-- HBM: registers of R381, R408, R425.
def HBM.PC_FENCED (n : Nat) : Fld := ⟨hbmPage n + 0x100, 31, 0⟩
def HBM.HBM_PWR_CFG (n : Nat) : Fld := ⟨hbmPage n + 0x104, 31, 0⟩
def HBM.HBM_PWR_CFG_SR_IDLE (n : Nat) : Fld := ⟨hbmPage n + 0x104, 31, 16⟩
def HBM.HBM_PWR_CFG_SR_EN (n : Nat) : Fld := ⟨hbmPage n + 0x104, 1, 1⟩
def HBM.HBM_PWR_CFG_PD_EN (n : Nat) : Fld := ⟨hbmPage n + 0x104, 0, 0⟩
def HBM.HBM_PWR_STATUS (n : Nat) : Fld := ⟨hbmPage n + 0x108, 31, 0⟩
def HBM.HBM_STATUS (n : Nat) : Fld := ⟨hbmPage n + 0x10C, 31, 0⟩
def HBM.HBM_STATUS_TRAINED (n : Nat) : Fld := ⟨hbmPage n + 0x10C, 31, 31⟩
def HBM.HBM_STATUS_TRAIN_FAILED (n : Nat) : Fld := ⟨hbmPage n + 0x10C, 30, 30⟩
def HBM.HBM_STATUS_TRAIN_US (n : Nat) : Fld := ⟨hbmPage n + 0x10C, 15, 0⟩
def HBM.ECC_CE_COUNT (n : Nat) : Fld := ⟨hbmPage n + 0x110, 31, 0⟩
def HBM.ECC_UE_COUNT (n : Nat) : Fld := ⟨hbmPage n + 0x114, 31, 0⟩
def HBM.SCRUB_PASSES (n : Nat) : Fld := ⟨hbmPage n + 0x118, 31, 0⟩
def HBM.LAST_UE_ADDR_LO (n : Nat) : Fld := ⟨hbmPage n + 0x120, 31, 0⟩
def HBM.LAST_UE_ADDR_HI (n : Nat) : Fld := ⟨hbmPage n + 0x124, 31, 0⟩

-- PEX: registers of R316.
def PEX.LINK_STATUS : Fld := ⟨pexPage + 0x100, 31, 0⟩
def PEX.LINK_STATUS_DL_UP : Fld := ⟨pexPage + 0x100, 13, 13⟩
def PEX.LINK_STATUS_FLIT : Fld := ⟨pexPage + 0x100, 12, 12⟩
def PEX.LINK_STATUS_WIDTH : Fld := ⟨pexPage + 0x100, 9, 4⟩
def PEX.LINK_STATUS_SPEED : Fld := ⟨pexPage + 0x100, 3, 0⟩
def PEX.BAD_ACCESS : Fld := ⟨pexPage + 0x104, 31, 0⟩
def PEX.LINK_DOWN : Fld := ⟨pexPage + 0x108, 31, 0⟩

-- CAM: registers of R113, R141, R167, R199, R200, R253.
def CAM.FMT_CFG (n : Nat) : Fld := ⟨camPage n + 0x100, 31, 0⟩
def CAM.FMT_CFG_FRAME_FORMAT (n : Nat) : Fld := ⟨camPage n + 0x100, 8, 8⟩
def CAM.FMT_CFG_PIXEL_FORMAT (n : Nat) : Fld := ⟨camPage n + 0x100, 7, 0⟩
def CAM.FMT_WIDTH (n : Nat) : Fld := ⟨camPage n + 0x104, 14, 0⟩
def CAM.FMT_HEIGHT (n : Nat) : Fld := ⟨camPage n + 0x108, 23, 0⟩
def CAM.LINE_RATE (n : Nat) : Fld := ⟨camPage n + 0x10C, 27, 0⟩
def CAM.ADM_VEC (n : Nat) : Fld := ⟨camPage n + 0x110, 31, 0⟩
def CAM.ADM_HBM (n : Nat) : Fld := ⟨camPage n + 0x114, 31, 0⟩
def CAM.FC_CFG (n : Nat) : Fld := ⟨camPage n + 0x180, 31, 0⟩
def CAM.FC_CFG_GAP_MAX (n : Nat) : Fld := ⟨camPage n + 0x180, 15, 8⟩
def CAM.FC_CFG_PAD_MODE (n : Nat) : Fld := ⟨camPage n + 0x180, 0, 0⟩
def CAM.FC_TIMEOUT (n : Nat) : Fld := ⟨camPage n + 0x184, 19, 0⟩
def CAM.FC_PAD (n : Nat) : Fld := ⟨camPage n + 0x188, 15, 0⟩
def CAM.FC_SHORT_LINE (n : Nat) : Fld := ⟨camPage n + 0x190, 31, 0⟩
def CAM.FC_LONG_LINE (n : Nat) : Fld := ⟨camPage n + 0x194, 31, 0⟩
def CAM.FC_PAD_LINES (n : Nat) : Fld := ⟨camPage n + 0x198, 31, 0⟩
def CAM.FC_LINE_ORDER (n : Nat) : Fld := ⟨camPage n + 0x19C, 31, 0⟩
def CAM.FC_SHORT_FRAME (n : Nat) : Fld := ⟨camPage n + 0x1A0, 31, 0⟩
def CAM.FC_LONG_FRAME (n : Nat) : Fld := ⟨camPage n + 0x1A4, 31, 0⟩
def CAM.FC_ABANDONED (n : Nat) : Fld := ⟨camPage n + 0x1A8, 31, 0⟩
def CAM.FC_NO_FE (n : Nat) : Fld := ⟨camPage n + 0x1AC, 31, 0⟩
def CAM.FC_MISSING_FRAME (n : Nat) : Fld := ⟨camPage n + 0x1B0, 31, 0⟩
def CAM.FC_ORPHAN (n : Nat) : Fld := ⟨camPage n + 0x1B4, 31, 0⟩
def CAM.FC_SLAG_BYTES (n : Nat) : Fld := ⟨camPage n + 0x1B8, 31, 0⟩
def CAM.NR_CTRL (n : Nat) : Fld := ⟨camPage n + 0x200, 31, 0⟩
def CAM.NR_CTRL_REG_AXIS (n : Nat) : Fld := ⟨camPage n + 0x200, 9, 9⟩
def CAM.NR_CTRL_REG_EN (n : Nat) : Fld := ⟨camPage n + 0x200, 8, 8⟩
def CAM.NR_CTRL_DITHER (n : Nat) : Fld := ⟨camPage n + 0x200, 4, 4⟩
def CAM.NR_CTRL_MODE (n : Nat) : Fld := ⟨camPage n + 0x200, 1, 0⟩
def CAM.NR_SP_WEIGHTS (n : Nat) : Fld := ⟨camPage n + 0x204, 31, 0⟩
def CAM.NR_SP_WEIGHTS_W5 (n : Nat) : Fld := ⟨camPage n + 0x204, 29, 24⟩
def CAM.NR_SP_WEIGHTS_W4 (n : Nat) : Fld := ⟨camPage n + 0x204, 23, 18⟩
def CAM.NR_SP_WEIGHTS_W3 (n : Nat) : Fld := ⟨camPage n + 0x204, 17, 12⟩
def CAM.NR_SP_WEIGHTS_W2 (n : Nat) : Fld := ⟨camPage n + 0x204, 11, 6⟩
def CAM.NR_SP_WEIGHTS_W1 (n : Nat) : Fld := ⟨camPage n + 0x204, 5, 0⟩
def CAM.NR_SP_CFG (n : Nat) : Fld := ⟨camPage n + 0x208, 31, 0⟩
def CAM.NR_SP_CFG_SHIFT (n : Nat) : Fld := ⟨camPage n + 0x208, 19, 16⟩
def CAM.NR_SP_CFG_TMUL (n : Nat) : Fld := ⟨camPage n + 0x208, 7, 0⟩
def CAM.NR_TEMPORAL (n : Nat) : Fld := ⟨camPage n + 0x20C, 31, 0⟩
def CAM.NR_TEMPORAL_MG_HI (n : Nat) : Fld := ⟨camPage n + 0x20C, 23, 16⟩
def CAM.NR_TEMPORAL_MG_LO (n : Nat) : Fld := ⟨camPage n + 0x20C, 15, 8⟩
def CAM.NR_TEMPORAL_K (n : Nat) : Fld := ⟨camPage n + 0x20C, 6, 0⟩
def CAM.NR_REG_SCALE (n : Nat) : Fld := ⟨camPage n + 0x210, 31, 0⟩
def CAM.NR_REG_MAX (n : Nat) : Fld := ⟨camPage n + 0x214, 15, 0⟩
def CAM.NR_PEDESTAL (n : Nat) : Fld := ⟨camPage n + 0x218, 15, 0⟩
def CAM.NR_HOLD (n : Nat) : Fld := ⟨camPage n + 0x21C, 19, 0⟩
def CAM.NR_CMD (n : Nat) : Fld := ⟨camPage n + 0x220, 0, 0⟩
def CAM.NR_STATUS (n : Nat) : Fld := ⟨camPage n + 0x224, 31, 0⟩
def CAM.NR_STATUS_CAUSE (n : Nat) : Fld := ⟨camPage n + 0x224, 19, 16⟩
def CAM.NR_STATUS_SUPPRESSED (n : Nat) : Fld := ⟨camPage n + 0x224, 12, 12⟩
def CAM.NR_STATUS_READ_BUF (n : Nat) : Fld := ⟨camPage n + 0x224, 8, 8⟩
def CAM.NR_STATUS_HOLDING (n : Nat) : Fld := ⟨camPage n + 0x224, 0, 0⟩
def CAM.NR_REF_VALID0 (n : Nat) : Fld := ⟨camPage n + 0x228, 23, 0⟩
def CAM.NR_REF_VALID1 (n : Nat) : Fld := ⟨camPage n + 0x22C, 23, 0⟩
def CAM.NR_REF_SHOT (n : Nat) : Fld := ⟨camPage n + 0x230, 31, 0⟩
def CAM.NR_REF_VER (n : Nat) : Fld := ⟨camPage n + 0x234, 31, 0⟩
def CAM.NR_REF_POS_LO (n : Nat) : Fld := ⟨camPage n + 0x238, 31, 0⟩
def CAM.NR_REF_POS_HI (n : Nat) : Fld := ⟨camPage n + 0x23C, 31, 0⟩
def CAM.NR_REF_POS_HI_POS_VALID (n : Nat) : Fld := ⟨camPage n + 0x23C, 31, 31⟩
def CAM.NR_REF_POS_HI_POS_HI (n : Nat) : Fld := ⟨camPage n + 0x23C, 15, 0⟩
def CAM.NR_LAST_D (n : Nat) : Fld := ⟨camPage n + 0x240, 31, 0⟩
def CAM.NR_MISS_LINES (n : Nat) : Fld := ⟨camPage n + 0x244, 31, 0⟩
def CAM.NR_HOLDS (n : Nat) : Fld := ⟨camPage n + 0x248, 31, 0⟩
def CAM.NR_NOREF_FRAMES (n : Nat) : Fld := ⟨camPage n + 0x24C, 31, 0⟩
def CAM.NR_SLOT_SCALE (n : Nat) (i : Nat) : Fld := ⟨camPage n + 0x260 + 0x4 * i, 31, 0⟩
def CAM.NR_SLOT_SCALE_MODE (n : Nat) (i : Nat) : Fld := ⟨camPage n + 0x260 + 0x4 * i, 17, 16⟩
def CAM.NR_SLOT_SCALE_GAIN (n : Nat) (i : Nat) : Fld := ⟨camPage n + 0x260 + 0x4 * i, 15, 0⟩
def CAM.NR_NOISE (n : Nat) (i : Nat) : Fld := ⟨camPage n + 0x280 + 0x4 * i, 15, 0⟩
def CAM.FT_CTRL (n : Nat) : Fld := ⟨camPage n + 0x400, 31, 0⟩
def CAM.FT_CTRL_DYN_METHOD (n : Nat) : Fld := ⟨camPage n + 0x400, 9, 8⟩
def CAM.FT_CTRL_LIST_BANK (n : Nat) : Fld := ⟨camPage n + 0x400, 2, 2⟩
def CAM.FT_CTRL_DYN_EN (n : Nat) : Fld := ⟨camPage n + 0x400, 1, 1⟩
def CAM.FT_CTRL_EN (n : Nat) : Fld := ⟨camPage n + 0x400, 0, 0⟩
def CAM.FT_DYN_TH (n : Nat) : Fld := ⟨camPage n + 0x404, 31, 0⟩
def CAM.FT_DYN_TH_COLD_TH (n : Nat) : Fld := ⟨camPage n + 0x404, 31, 16⟩
def CAM.FT_DYN_TH_HOT_TH (n : Nat) : Fld := ⟨camPage n + 0x404, 15, 0⟩
def CAM.FT_FIXED (n : Nat) : Fld := ⟨camPage n + 0x410, 31, 0⟩
def CAM.FT_DYN (n : Nat) : Fld := ⟨camPage n + 0x414, 31, 0⟩
def CAM.FT_UNFIXED (n : Nat) : Fld := ⟨camPage n + 0x418, 31, 0⟩
def CAM.FF_CTRL (n : Nat) : Fld := ⟨camPage n + 0x500, 31, 0⟩
def CAM.FF_CTRL_COL_BANK (n : Nat) : Fld := ⟨camPage n + 0x500, 5, 5⟩
def CAM.FF_CTRL_GRID_BANK (n : Nat) : Fld := ⟨camPage n + 0x500, 4, 4⟩
def CAM.FF_CTRL_MODE (n : Nat) : Fld := ⟨camPage n + 0x500, 1, 0⟩
def CAM.FF_GRID (n : Nat) (i : Nat) : Fld := ⟨camPage n + 0x504 + 0x4 * i, 31, 0⟩
def CAM.FF_GRID_SY (n : Nat) (i : Nat) : Fld := ⟨camPage n + 0x504 + 0x4 * i, 27, 24⟩
def CAM.FF_GRID_GY (n : Nat) (i : Nat) : Fld := ⟨camPage n + 0x504 + 0x4 * i, 23, 16⟩
def CAM.FF_GRID_SX (n : Nat) (i : Nat) : Fld := ⟨camPage n + 0x504 + 0x4 * i, 11, 8⟩
def CAM.FF_GRID_GX (n : Nat) (i : Nat) : Fld := ⟨camPage n + 0x504 + 0x4 * i, 7, 0⟩
def CAM.FF_OFFSET (n : Nat) : Fld := ⟨camPage n + 0x50C, 15, 0⟩
def CAM.FF_BLACK01 (n : Nat) : Fld := ⟨camPage n + 0x510, 31, 0⟩
def CAM.FF_BLACK01_BL1 (n : Nat) : Fld := ⟨camPage n + 0x510, 31, 16⟩
def CAM.FF_BLACK01_BL0 (n : Nat) : Fld := ⟨camPage n + 0x510, 15, 0⟩
def CAM.FF_BLACK23 (n : Nat) : Fld := ⟨camPage n + 0x514, 31, 0⟩
def CAM.FF_BLACK23_BL3 (n : Nat) : Fld := ⟨camPage n + 0x514, 31, 16⟩
def CAM.FF_BLACK23_BL2 (n : Nat) : Fld := ⟨camPage n + 0x514, 15, 0⟩
def CAM.FF_STATUS (n : Nat) : Fld := ⟨camPage n + 0x518, 31, 0⟩
def CAM.FF_STATUS_COL_LOADING (n : Nat) : Fld := ⟨camPage n + 0x518, 1, 1⟩
def CAM.FF_STATUS_COL_ACTIVE (n : Nat) : Fld := ⟨camPage n + 0x518, 0, 0⟩
def CAM.TBL_HOST_LO (n : Nat) : Fld := ⟨camPage n + 0x600, 31, 0⟩
def CAM.TBL_HOST_HI (n : Nat) : Fld := ⟨camPage n + 0x604, 31, 0⟩
def CAM.TBL_LEN (n : Nat) : Fld := ⟨camPage n + 0x608, 19, 0⟩
def CAM.TBL_CMD (n : Nat) : Fld := ⟨camPage n + 0x60C, 31, 0⟩
def CAM.TBL_CMD_GO (n : Nat) : Fld := ⟨camPage n + 0x60C, 8, 8⟩
def CAM.TBL_CMD_BANK (n : Nat) : Fld := ⟨camPage n + 0x60C, 4, 4⟩
def CAM.TBL_CMD_SEL (n : Nat) : Fld := ⟨camPage n + 0x60C, 1, 0⟩
def CAM.TBL_STATUS (n : Nat) : Fld := ⟨camPage n + 0x610, 31, 0⟩
def CAM.TBL_STATUS_VALID (n : Nat) : Fld := ⟨camPage n + 0x610, 13, 8⟩
def CAM.TBL_STATUS_RESULT (n : Nat) : Fld := ⟨camPage n + 0x610, 7, 4⟩
def CAM.TBL_STATUS_BUSY (n : Nat) : Fld := ⟨camPage n + 0x610, 0, 0⟩
def CAM.TBL_LEN_USED (n : Nat) (i : Nat) : Fld := ⟨camPage n + 0x620 + 0x4 * i, 19, 0⟩
def CAM.WIN_CMD (n : Nat) : Fld := ⟨camPage n + 0x700, 0, 0⟩
def CAM.WIN_STATUS (n : Nat) : Fld := ⟨camPage n + 0x704, 31, 0⟩
def CAM.WIN_STATUS_ACTIVE_COUNT (n : Nat) : Fld := ⟨camPage n + 0x704, 22, 16⟩
def CAM.WIN_STATUS_PENDING (n : Nat) : Fld := ⟨camPage n + 0x704, 0, 0⟩
def CAM.WIN_GEOM_ERR_LO (n : Nat) : Fld := ⟨camPage n + 0x708, 31, 0⟩
def CAM.WIN_GEOM_ERR_HI (n : Nat) : Fld := ⟨camPage n + 0x70C, 31, 0⟩
def CAM.SCHED_CFG (n : Nat) : Fld := ⟨camPage n + 0x800, 31, 0⟩
def CAM.SCHED_CFG_EN (n : Nat) : Fld := ⟨camPage n + 0x800, 31, 31⟩
def CAM.SCHED_CFG_KIND (n : Nat) : Fld := ⟨camPage n + 0x800, 26, 24⟩
def CAM.SCHED_CFG_INDEX (n : Nat) : Fld := ⟨camPage n + 0x800, 21, 16⟩
def CAM.SCHED_CFG_END_ACTION (n : Nat) : Fld := ⟨camPage n + 0x800, 15, 12⟩
def CAM.SCHED_CFG_OUT_STROBE (n : Nat) : Fld := ⟨camPage n + 0x800, 10, 10⟩
def CAM.SCHED_CFG_OUT_SYMBOL (n : Nat) : Fld := ⟨camPage n + 0x800, 9, 9⟩
def CAM.SCHED_CFG_STROBE_PIN (n : Nat) : Fld := ⟨camPage n + 0x800, 5, 0⟩
def CAM.SCHED_DIV (n : Nat) : Fld := ⟨camPage n + 0x804, 31, 0⟩
def CAM.SCHED_DIV_PHASE (n : Nat) : Fld := ⟨camPage n + 0x804, 31, 16⟩
def CAM.SCHED_DIV_DIV (n : Nat) : Fld := ⟨camPage n + 0x804, 15, 0⟩
def CAM.SCHED_DELAY (n : Nat) : Fld := ⟨camPage n + 0x808, 29, 0⟩
def CAM.SCHED_WIDTH (n : Nat) : Fld := ⟨camPage n + 0x80C, 29, 0⟩
def CAM.SCHED_HOLDOFF (n : Nat) : Fld := ⟨camPage n + 0x810, 29, 0⟩
def CAM.SCHED_POS (n : Nat) : Fld := ⟨camPage n + 0x814, 31, 0⟩
def CAM.SCHED_POS_EN (n : Nat) : Fld := ⟨camPage n + 0x814, 3, 3⟩
def CAM.SCHED_POS_ENC (n : Nat) : Fld := ⟨camPage n + 0x814, 2, 0⟩
def CAM.SETTLE_LEAD (n : Nat) : Fld := ⟨camPage n + 0x818, 19, 0⟩
def CAM.SHOT_NEXT (n : Nat) : Fld := ⟨camPage n + 0x820, 31, 0⟩
def CAM.SHOT_SET (n : Nat) : Fld := ⟨camPage n + 0x824, 31, 0⟩
def CAM.SHOT_STATUS (n : Nat) : Fld := ⟨camPage n + 0x828, 31, 0⟩
def CAM.SHOT_STATUS_PENDING (n : Nat) : Fld := ⟨camPage n + 0x828, 20, 16⟩
def CAM.SHOT_STATUS_OUTSTANDING (n : Nat) : Fld := ⟨camPage n + 0x828, 14, 8⟩
def CAM.SHOT_STATUS_SYNC (n : Nat) : Fld := ⟨camPage n + 0x828, 0, 0⟩
def CAM.SHOT_SUPPRESSED (n : Nat) : Fld := ⟨camPage n + 0x830, 31, 0⟩
def CAM.SHOT_OVF (n : Nat) : Fld := ⟨camPage n + 0x834, 31, 0⟩
def CAM.LEDGER_LOST (n : Nat) : Fld := ⟨camPage n + 0x838, 31, 0⟩
def CAM.STAT_SKIP (n : Nat) : Fld := ⟨camPage n + 0x83C, 31, 0⟩
def CAM.VER_LAST (n : Nat) : Fld := ⟨camPage n + 0x840, 31, 0⟩
def CAM.VER_APPLIED (n : Nat) : Fld := ⟨camPage n + 0x844, 31, 0⟩
def CAM.SET_SLOT_STATE (n : Nat) : Fld := ⟨camPage n + 0x848, 31, 0⟩
def CAM.SET_SLOT_STATE_STATE_0 (n : Nat) : Fld := ⟨camPage n + 0x848, 1, 0⟩
def CAM.SET_SLOT_STATE_STATE_1 (n : Nat) : Fld := ⟨camPage n + 0x848, 3, 2⟩
def CAM.SET_SLOT_STATE_STATE_2 (n : Nat) : Fld := ⟨camPage n + 0x848, 5, 4⟩
def CAM.SET_SLOT_STATE_STATE_3 (n : Nat) : Fld := ⟨camPage n + 0x848, 7, 6⟩
def CAM.SET_SLOT_STATE_STATE_4 (n : Nat) : Fld := ⟨camPage n + 0x848, 9, 8⟩
def CAM.SET_SLOT_STATE_STATE_5 (n : Nat) : Fld := ⟨camPage n + 0x848, 11, 10⟩
def CAM.SET_SLOT_STATE_STATE_6 (n : Nat) : Fld := ⟨camPage n + 0x848, 13, 12⟩
def CAM.SET_SLOT_STATE_STATE_7 (n : Nat) : Fld := ⟨camPage n + 0x848, 15, 14⟩
def CAM.SET_TARGET (n : Nat) : Fld := ⟨camPage n + 0x84C, 31, 0⟩
def CAM.SET_CMD (n : Nat) : Fld := ⟨camPage n + 0x850, 31, 0⟩
def CAM.SET_CMD_GO (n : Nat) : Fld := ⟨camPage n + 0x850, 31, 31⟩
def CAM.SET_CMD_NEXT (n : Nat) : Fld := ⟨camPage n + 0x850, 8, 8⟩
def CAM.SET_CMD_SLOT (n : Nat) : Fld := ⟨camPage n + 0x850, 2, 0⟩
def CAM.SET_STATUS (n : Nat) : Fld := ⟨camPage n + 0x854, 0, 0⟩
def CAM.SLOT_COUNT (n : Nat) (i : Nat) : Fld := ⟨camPage n + 0x860 + 0x4 * i, 4, 0⟩
def CAM.STAT_CFG (n : Nat) : Fld := ⟨camPage n + 0x880, 0, 0⟩
def CAM.STAT_QUEUE (n : Nat) : Fld := ⟨camPage n + 0x884, 31, 0⟩
def CAM.STAT_QUEUE_PRIO (n : Nat) : Fld := ⟨camPage n + 0x884, 18, 16⟩
def CAM.STAT_QUEUE_QUEUE (n : Nat) : Fld := ⟨camPage n + 0x884, 13, 0⟩
def CAM.STAT_ROI_X (n : Nat) : Fld := ⟨camPage n + 0x888, 31, 0⟩
def CAM.STAT_ROI_X_WIDTH (n : Nat) : Fld := ⟨camPage n + 0x888, 30, 16⟩
def CAM.STAT_ROI_X_X0 (n : Nat) : Fld := ⟨camPage n + 0x888, 13, 0⟩
def CAM.STAT_ROI_Y0 (n : Nat) : Fld := ⟨camPage n + 0x88C, 23, 0⟩
def CAM.STAT_ROI_H (n : Nat) : Fld := ⟨camPage n + 0x890, 23, 0⟩
def CAM.WIN_X (n : Nat) (i : Nat) : Fld := ⟨camPage n + 0x1000 + 0x20 * i, 31, 0⟩
def CAM.WIN_X_WIDTH (n : Nat) (i : Nat) : Fld := ⟨camPage n + 0x1000 + 0x20 * i, 30, 16⟩
def CAM.WIN_X_X0 (n : Nat) (i : Nat) : Fld := ⟨camPage n + 0x1000 + 0x20 * i, 13, 0⟩
def CAM.WIN_Y0 (n : Nat) (i : Nat) : Fld := ⟨camPage n + 0x1004 + 0x20 * i, 23, 0⟩
def CAM.WIN_H (n : Nat) (i : Nat) : Fld := ⟨camPage n + 0x1008 + 0x20 * i, 23, 0⟩
def CAM.WIN_SHAPE (n : Nat) (i : Nat) : Fld := ⟨camPage n + 0x100C + 0x20 * i, 31, 0⟩
def CAM.WIN_SHAPE_EN (n : Nat) (i : Nat) : Fld := ⟨camPage n + 0x100C + 0x20 * i, 31, 31⟩
def CAM.WIN_SHAPE_CODE (n : Nat) (i : Nat) : Fld := ⟨camPage n + 0x100C + 0x20 * i, 21, 20⟩
def CAM.WIN_SHAPE_OUT_FMT (n : Nat) (i : Nat) : Fld := ⟨camPage n + 0x100C + 0x20 * i, 17, 16⟩
def CAM.WIN_SHAPE_DEC_Y (n : Nat) (i : Nat) : Fld := ⟨camPage n + 0x100C + 0x20 * i, 15, 12⟩
def CAM.WIN_SHAPE_DEC_X (n : Nat) (i : Nat) : Fld := ⟨camPage n + 0x100C + 0x20 * i, 11, 8⟩
def CAM.WIN_SHAPE_BIN_MODE (n : Nat) (i : Nat) : Fld := ⟨camPage n + 0x100C + 0x20 * i, 4, 4⟩
def CAM.WIN_SHAPE_BIN_Y (n : Nat) (i : Nat) : Fld := ⟨camPage n + 0x100C + 0x20 * i, 3, 2⟩
def CAM.WIN_SHAPE_BIN_X (n : Nat) (i : Nat) : Fld := ⟨camPage n + 0x100C + 0x20 * i, 1, 0⟩
def CAM.WIN_QUEUE (n : Nat) (i : Nat) : Fld := ⟨camPage n + 0x1010 + 0x20 * i, 31, 0⟩
def CAM.WIN_QUEUE_PRIO (n : Nat) (i : Nat) : Fld := ⟨camPage n + 0x1010 + 0x20 * i, 18, 16⟩
def CAM.WIN_QUEUE_QUEUE (n : Nat) (i : Nat) : Fld := ⟨camPage n + 0x1010 + 0x20 * i, 13, 0⟩
def CAM.SLOT_ADDR (n : Nat) (i : Nat) : Fld := ⟨camPage n + 0x1800 + 0x8 * i, 31, 0⟩
def CAM.SLOT_DATA (n : Nat) (i : Nat) : Fld := ⟨camPage n + 0x1804 + 0x8 * i, 31, 0⟩

end Sys2Proof.Machine
end

