-- ==== Sys2Proof/Machine/RegMap.lean ====
section
/-!
DEFINITION. The register tables of the specification: for every page, each register with its fields, their access
codes, reset values and whether R387 keeps them through PERST_N; the fault-site table (R365); and the reset word and
field list of any BAR0 address.
-/

namespace Sys2Proof.Machine

/-- Access codes (R10). -/
inductive Access | rw | ro | w1c | wo | rwl
deriving DecidableEq, Repr

/-- A field row: bits hi..lo, access code, reset value, kept through PERST_N (R387). -/
structure FieldDef where
  hi : Nat
  lo : Nat
  acc : Access
  reset : Nat
  keep : Bool
deriving DecidableEq, Repr

/-- A register row: name, first offset in its page, distance between its copies, number of copies, fields. -/
structure RegDef where
  name : String
  off : Nat
  stride : Nat
  count : Nat
  fields : List FieldDef
deriving Repr

/-- The kinds of page and structure that R411 places in BAR0. -/
inductive Page
  | dev | clk | pwr | time | chk | trg | shot | gate | brg | slice | ladle | qd | pour | ring | seam | mould | hbm | pex
  | cam | msix | pba
deriving DecidableEq, Repr

/-- Where a BAR0 byte address lies: page kind, number of the page and offset in it (R411); none where R411 lists nothing. -/
def locate (a : Nat) : Option (Page × Nat × Nat) :=
  if a < 0x1000 then some (.dev, 0, a)
  else if a < 0x2000 then some (.clk, 0, a - 0x1000)
  else if a < 0x3000 then some (.pwr, 0, a - 0x2000)
  else if a < 0x4000 then some (.time, 0, a - 0x3000)
  else if a < 0x8000 then some (.chk, a / 0x1000 - 4, a % 0x1000)
  else if a < 0x10000 then none
  else if a < 0x20000 then some (.trg, a / 0x1000 - 0x10, a % 0x1000)
  else if a < 0x30000 then some (.shot, a / 0x1000 - 0x20, a % 0x1000)
  else if a < 0x100000 then none
  else if a < 0x180000 then some (.gate, a / 0x1000 - 0x100, a % 0x1000)
  else if a < 0x200000 then some (.brg, a / 0x1000 - 0x180, a % 0x1000)
  else if a < 0x221000 then some (.slice, a / 0x1000 - 0x200, a % 0x1000)
  else if a < 0x300000 then none
  else if a < 0x310000 then some (.ladle, a / 0x1000 - 0x300, a % 0x1000)
  else if a < 0x400000 then none
  else if a < 0x600000 then some (.qd, (a - 0x400000) / 0x80, a % 0x80)
  else if a < 0x610000 then some (.pour, a / 0x1000 - 0x600, a % 0x1000)
  else if a < 0x680000 then none
  else if a < 0x700000 then some (.ring, (a - 0x680000) / 0x20, a % 0x20)
  else if a < 0x710000 then some (.seam, (a - 0x700000) / 0x4000, a % 0x4000)
  else if a < 0x730000 then some (.mould, (a - 0x710000) / 0x4000, a % 0x4000)
  else if a < 0x740000 then none
  else if a < 0x750000 then some (.hbm, (a - 0x740000) / 0x4000, a % 0x4000)
  else if a < 0x780000 then none
  else if a < 0x781000 then some (.pex, 0, a - 0x780000)
  else if a < 0x800000 then none
  else if a < 0xC00000 then some (.cam, (a - 0x800000) / 0x4000, a % 0x4000)
  else if a < 0xFF0000 then none
  else if a < 0xFF8000 then some (.msix, (a - 0xFF0000) / 16, a % 16)
  else if a < 0xFF8100 then some (.pba, (a - 0xFF8000) / 4, 0)
  else none

/-- The BAR0 address of page number n of a kind (R411). -/
def pageAddr (p : Page) (n : Nat) : Nat :=
  match p with
  | .dev => devPage | .clk => clkPage | .pwr => pwrPage | .time => timePage | .chk => chkPage n | .trg => trgPage n
  | .shot => shotPage n | .gate => gatePage n | .brg => brgPage n | .slice => slicePage n | .ladle => ladlePage n
  | .qd => queueDesc n | .pour => pourPage n | .ring => ringConf n | .seam => seamPage n | .mould => mouldPage n
  | .hbm => hbmPage n | .pex => pexPage | .cam => camPage n | .msix => msixEntry n | .pba => pbaWord n

/-- The block type of a page kind; none where the page has no common header (R411, R413). -/
def blockType (p : Page) : Option Nat :=
  match p with
  | .dev => some 0x4746 | .clk => some 0x0101 | .pwr => some 0x0102 | .time => some 0x0103 | .chk => some 0x0104
  | .trg => some 0x0201 | .shot => some 0x0202 | .gate => some 0x0301 | .brg => some 0x0302 | .slice => some 0x0401
  | .ladle => some 0x0501 | .qd => none | .pour => some 0x0502 | .ring => none | .seam => some 0x0402
  | .mould => some 0x0403 | .hbm => some 0x0503 | .pex => some 0x0504 | .cam => some 0x0303 | .msix => none
  | .pba => none

/-- The ID register of a page (R2, R411). -/
def pageId (p : Page) (n : Nat) : Nat :=
  match blockType p with
  | none => 0
  | some t => t * 2 ^ 16 + (match p with | .dev => 0x5120 | _ => n)

/-! ### Fault sites (R352, R365) -/

/-- Classes of a fault site (R355): 0 C, 1 U, 2 F. -/
inductive FClass | c | u | f
deriving DecidableEq, Repr

/-- A site row: bit, condition site or event site, default class (also its floor), number of sub-units DETAIL may name. -/
structure Site where
  bit : Nat
  cond : Bool
  cls : FClass
  details : Nat
deriving DecidableEq, Repr

/-- The fault sites of a page (R365). `details` is the number of values DETAIL can take. -/
def sites (p : Page) (n : Nat) : List Site :=
  match p with
  | .dev => [⟨0, false, .c, 1⟩, ⟨1, false, .u, 1⟩, ⟨2, false, .f, 1⟩]
  | .clk => [⟨0, true, .f, 1⟩, ⟨1, true, .f, 1⟩, ⟨2, true, .f, 1⟩]
  | .pwr => [⟨0, true, .f, 1⟩, ⟨1, true, .f, 1⟩, ⟨2, false, .u, 326⟩]
  | .time => [⟨0, false, .u, 1⟩]
  | .chk => [⟨0, false, .u, 1⟩]
  | .trg =>
    if n = 0 then [⟨0, false, .u, 1⟩, ⟨1, false, .c, 64⟩]
    else if n = 1 then [⟨0, true, .u, 8⟩, ⟨1, false, .u, 8⟩]
    else []
  | .shot => [⟨0, false, .c, 1⟩, ⟨1, false, .u, 1⟩]
  | .gate =>
    [⟨0, false, .u, 5⟩, ⟨1, false, .u, 5⟩, ⟨2, false, .u, 5⟩, ⟨3, false, .u, 5⟩, ⟨4, false, .u, 5⟩,
     ⟨5, true, .u, 1⟩, ⟨6, true, .u, 1⟩, ⟨7, false, .u, 5⟩, ⟨8, false, .u, 5⟩, ⟨9, false, .c, 2⟩,
     ⟨10, false, .u, 2⟩, ⟨11, false, .u, 1⟩, ⟨12, false, .u, 1⟩]
  | .brg => [⟨0, false, .u, 1⟩, ⟨1, false, .c, 1⟩, ⟨2, false, .u, 1⟩]
  | .slice => [⟨0, false, .u, 1⟩, ⟨1, false, .c, 1⟩, ⟨2, false, .u, 1⟩, ⟨3, false, .u, 1⟩]
  | .ladle =>
    [⟨0, false, .c, 16384⟩, ⟨1, false, .u, 16384⟩, ⟨2, false, .u, 16384⟩, ⟨3, false, .u, 1⟩, ⟨4, false, .c, 1⟩,
     ⟨5, false, .u, 1⟩]
  | .hbm => [⟨0, false, .c, 32⟩, ⟨1, false, .u, 32⟩, ⟨2, true, .f, 1⟩, ⟨3, false, .u, 2⟩]
  | .pour => if n = 0 then [⟨0, false, .u, 1⟩, ⟨1, false, .u, 1⟩] else []
  | .pex => [⟨0, false, .c, 1⟩, ⟨1, false, .f, 1⟩]
  | .seam => [⟨0, false, .u, 1⟩, ⟨1, false, .u, 1⟩]
  | .mould => [⟨0, false, .u, 1⟩, ⟨1, false, .u, 1⟩]
  | .cam => [⟨0, false, .u, 1⟩]
  | .qd => [] | .ring => [] | .msix => [] | .pba => []

/-- The site of a page at a bit. -/
def siteAt (p : Page) (n bit : Nat) : Option Site := (sites p n).find? (fun x => x.bit == bit)

/-- The number of a class (R355). -/
def FClass.code (c : FClass) : Nat := match c with | .c => 0 | .u => 1 | .f => 2

/-- The reset value of FAULT_CLASS_LO (`half` 0) or FAULT_CLASS_HI (`half` 1): each site's floor (R355). -/
def classReset (p : Page) (n half : Nat) : Nat :=
  ((sites p n).filter (fun x => x.bit / 16 == half)).foldl (fun acc x => acc + x.cls.code * 4 ^ (x.bit % 16)) 0

/-- The mask of a page's sites: a bit without a site reads 0 in every fault register (R352). -/
def siteMask (p : Page) (n : Nat) : Nat := (sites p n).foldl (fun acc x => acc + 2 ^ x.bit) 0

/-! ### Register tables -/

/-- Register rows of the HDR page (R356, R414). -/
def hdrRegsa : List RegDef := [
  ⟨"ID", 0x0, 0x0, 1, [⟨31, 16, .ro, 0, true⟩, ⟨15, 0, .ro, 0, true⟩]⟩,
  ⟨"VERSION", 0x4, 0x0, 1, [⟨23, 16, .ro, 162, true⟩, ⟨15, 0, .ro, 1, true⟩]⟩,
  ⟨"CTRL", 0x8, 0x0, 1, [⟨1, 1, .wo, 0, false⟩, ⟨0, 0, .rw, 0, false⟩]⟩,
  ⟨"STATE", 0xC, 0x0, 1, [⟨31, 31, .w1c, 0, false⟩, ⟨23, 16, .ro, 0, false⟩, ⟨15, 8, .ro, 0, false⟩, ⟨2, 0, .ro, 0, false⟩]⟩,
  ⟨"CMD", 0x10, 0x0, 1, [⟨31, 0, .wo, 0, false⟩]⟩,
  ⟨"CMD_STATUS", 0x14, 0x0, 1, [⟨31, 31, .ro, 0, false⟩, ⟨30, 30, .ro, 0, false⟩, ⟨7, 0, .ro, 0, false⟩]⟩,
  ⟨"IRQ_STAT", 0x20, 0x0, 1, [⟨31, 0, .w1c, 0, false⟩]⟩,
  ⟨"IRQ_EN", 0x24, 0x0, 1, [⟨31, 0, .rw, 0, false⟩]⟩,
  ⟨"IRQ_SET", 0x28, 0x0, 1, [⟨31, 0, .wo, 0, false⟩]⟩,
  ⟨"IRQ_VEC", 0x2C, 0x0, 1, [⟨10, 0, .rw, 0, false⟩]⟩,
  ⟨"FAULT_LIVE", 0x30, 0x0, 1, [⟨31, 0, .ro, 0, false⟩]⟩,
  ⟨"FAULT_STICKY", 0x34, 0x0, 1, [⟨31, 0, .w1c, 0, true⟩]⟩,
  ⟨"FAULT_CLASS_LO", 0x38, 0x0, 1, [⟨31, 0, .rw, 0, false⟩]⟩,
  ⟨"FAULT_CLASS_HI", 0x3C, 0x0, 1, [⟨31, 0, .rw, 0, false⟩]⟩,
  ⟨"FAULT_REACT", 0x40, 0x0, 1, [⟨31, 31, .ro, 0, false⟩, ⟨30, 30, .ro, 0, false⟩, ⟨8, 8, .rw, 0, false⟩, ⟨1, 1, .rw, 1, false⟩, ⟨0, 0, .rw, 0, false⟩]⟩,
  ⟨"FAULT_FIRST", 0x44, 0x0, 1, [⟨31, 31, .ro, 0, true⟩, ⟨30, 30, .ro, 0, true⟩, ⟨29, 28, .ro, 0, true⟩, ⟨20, 16, .ro, 0, true⟩, ⟨15, 0, .ro, 0, true⟩]⟩,
  ⟨"FAULT_FIRST_TIME_LO", 0x48, 0x0, 1, [⟨31, 0, .ro, 0, true⟩]⟩,
  ⟨"FAULT_FIRST_TIME_HI", 0x4C, 0x0, 1, [⟨31, 0, .ro, 0, true⟩]⟩,
  ⟨"FAULT_INJ", 0x50, 0x0, 1, [⟨31, 31, .wo, 0, false⟩, ⟨30, 30, .ro, 0, false⟩, ⟨20, 16, .rw, 0, false⟩, ⟨15, 0, .rw, 0, false⟩]⟩,
  ⟨"FAULT_INJ_TAGGED", 0x54, 0x0, 1, [⟨31, 0, .ro, 0, true⟩]⟩]

/-- Register rows of the HDR page (R356). -/
def hdrRegsb : List RegDef := [
  ⟨"ESC_TIMER", 0x58, 0x0, 1, [⟨15, 0, .rw, 100, false⟩]⟩,
  ⟨"ESC_STATUS", 0x5C, 0x0, 1, [⟨31, 31, .ro, 0, false⟩, ⟨30, 30, .ro, 0, false⟩, ⟨16, 16, .wo, 0, false⟩, ⟨15, 0, .ro, 0, false⟩]⟩]

/-- All register rows of the HDR page. -/
def hdrRegs : List RegDef := hdrRegsa ++ hdrRegsb

/-- Register rows of the DEV page (R142, R380, R424). -/
def devRegs : List RegDef := [
  ⟨"SERIAL_LO", 0x100, 0x0, 1, [⟨31, 0, .ro, 0, true⟩]⟩,
  ⟨"SERIAL_HI", 0x104, 0x0, 1, [⟨31, 0, .ro, 0, true⟩]⟩,
  ⟨"SCRATCH", 0x108, 0x0, 1, [⟨31, 0, .rw, 0, false⟩]⟩,
  ⟨"ADM_HBM_LIMIT", 0x180, 0x0, 1, [⟨31, 0, .rw, 3200000, false⟩]⟩,
  ⟨"ADM_HBM_TOTAL", 0x184, 0x0, 1, [⟨31, 0, .ro, 80000, false⟩]⟩,
  ⟨"QUENCH_STATUS", 0x1C0, 0x0, 1, [⟨31, 31, .ro, 0, true⟩, ⟨30, 30, .ro, 0, true⟩, ⟨27, 24, .ro, 0, true⟩, ⟨23, 12, .ro, 0, true⟩, ⟨4, 0, .ro, 0, true⟩]⟩,
  ⟨"QUENCH_TIME_LO", 0x1C4, 0x0, 1, [⟨31, 0, .ro, 0, true⟩]⟩,
  ⟨"QUENCH_TIME_HI", 0x1C8, 0x0, 1, [⟨31, 0, .ro, 0, true⟩]⟩,
  ⟨"QUENCH_CFG", 0x1CC, 0x0, 1, [⟨0, 0, .rw, 0, true⟩]⟩,
  ⟨"QUENCH_DETAIL", 0x1D0, 0x0, 1, [⟨15, 0, .ro, 0, true⟩]⟩]

/-- Register rows of the CLK page (R406). -/
def clkRegs : List RegDef := [
  ⟨"CLK_STATUS", 0x100, 0x0, 1, [⟨2, 2, .ro, 0, true⟩, ⟨1, 1, .ro, 0, true⟩, ⟨0, 0, .ro, 0, true⟩]⟩,
  ⟨"LOCK_TIME", 0x104, 0x0, 1, [⟨15, 0, .ro, 0, true⟩]⟩,
  ⟨"XING_LOST", 0x108, 0x0, 1, [⟨31, 0, .ro, 0, true⟩]⟩,
  ⟨"XING_LOST_SRC", 0x10C, 0x0, 1, [⟨11, 0, .ro, 0, true⟩]⟩,
  ⟨"PEER_RESETS", 0x110, 0x0, 1, [⟨31, 0, .ro, 0, true⟩]⟩]

/-- Register rows of the PWR page (R407). -/
def pwrRegs : List RegDef := [
  ⟨"DOMAIN_OFF", 0x100, 0x4, 11, [⟨31, 0, .rw, 0, false⟩]⟩,
  ⟨"DOMAIN_STATE", 0x140, 0x4, 11, [⟨31, 0, .ro, 4294967295, true⟩]⟩,
  ⟨"GATE_HYST", 0x180, 0x0, 1, [⟨15, 0, .rw, 100, true⟩]⟩,
  ⟨"SLICE_HYST", 0x184, 0x0, 1, [⟨15, 0, .rw, 50, true⟩]⟩]

/-- Register rows of the TIME page (R315). -/
def timeRegs : List RegDef := [
  ⟨"TIME_LO", 0x100, 0x0, 1, [⟨31, 0, .ro, 0, false⟩]⟩,
  ⟨"TIME_HI", 0x104, 0x0, 1, [⟨31, 0, .ro, 0, false⟩]⟩,
  ⟨"TIME_CTRL", 0x108, 0x0, 1, [⟨0, 0, .rw, 0, false⟩]⟩,
  ⟨"PTM_PERIOD", 0x10C, 0x0, 1, [⟨19, 0, .rw, 10000, false⟩]⟩,
  ⟨"PTM_SLEW", 0x110, 0x0, 1, [⟨9, 0, .rw, 200, false⟩]⟩,
  ⟨"PTM_OFFSET", 0x114, 0x0, 1, [⟨31, 0, .ro, 0, false⟩]⟩,
  ⟨"PTM_ADJ", 0x118, 0x0, 1, [⟨31, 0, .ro, 0, false⟩]⟩,
  ⟨"PTM_STATUS", 0x11C, 0x0, 1, [⟨31, 31, .ro, 0, false⟩, ⟨15, 0, .ro, 0, true⟩]⟩,
  ⟨"TIME_CMD", 0x120, 0x0, 1, [⟨0, 0, .wo, 0, false⟩]⟩,
  ⟨"TIME_SET_LO", 0x124, 0x0, 1, [⟨31, 0, .rw, 0, false⟩]⟩,
  ⟨"TIME_SET_HI", 0x128, 0x0, 1, [⟨31, 0, .rw, 0, false⟩]⟩]

/-- Register rows of the CHK page (R438). -/
def chkRegs : List RegDef := [
  ⟨"CHK_CFG", 0x100, 0x0, 1, [⟨31, 31, .ro, 0, false⟩, ⟨30, 30, .ro, 0, false⟩, ⟨29, 29, .ro, 1, false⟩, ⟨5, 5, .rw, 1, false⟩, ⟨4, 4, .rw, 1, false⟩, ⟨2, 0, .rw, 0, false⟩]⟩,
  ⟨"CHK_INIT", 0x104, 0x0, 1, [⟨31, 0, .rw, 4294967295, false⟩]⟩,
  ⟨"CHK_XOR", 0x108, 0x0, 1, [⟨31, 0, .rw, 4294967295, false⟩]⟩,
  ⟨"CHK_EXPECT", 0x10C, 0x0, 1, [⟨31, 0, .rw, 0, false⟩]⟩,
  ⟨"CHK_DATA8", 0x110, 0x0, 1, [⟨7, 0, .wo, 0, false⟩]⟩,
  ⟨"CHK_DATA16", 0x114, 0x0, 1, [⟨15, 0, .wo, 0, false⟩]⟩,
  ⟨"CHK_DATA32", 0x118, 0x0, 1, [⟨31, 0, .wo, 0, false⟩]⟩,
  ⟨"CHK_FINAL", 0x11C, 0x0, 1, [⟨0, 0, .wo, 0, false⟩]⟩,
  ⟨"CHK_RESULT", 0x120, 0x0, 1, [⟨31, 0, .ro, 0, false⟩]⟩]

/-- Register rows of the TRG0 page (R252). -/
def trg0Regs : List RegDef := [
  ⟨"PIN_CFG", 0x100, 0x4, 64, [⟨15, 8, .rw, 0, false⟩, ⟨5, 4, .rw, 0, false⟩, ⟨1, 1, .rw, 0, false⟩, ⟨0, 0, .rw, 0, false⟩]⟩,
  ⟨"PIN_IN_LO", 0x200, 0x0, 1, [⟨31, 0, .ro, 0, false⟩]⟩,
  ⟨"PIN_IN_HI", 0x204, 0x0, 1, [⟨31, 0, .ro, 0, false⟩]⟩,
  ⟨"SW_TRIG", 0x208, 0x0, 1, [⟨7, 0, .wo, 0, false⟩]⟩]

/-- Register rows of the TRG1 page (R252, R381). -/
def trg1Regs : List RegDef := [
  ⟨"ENC_CFG", 0x100, 0x40, 8, [⟨31, 31, .rw, 0, false⟩, ⟨15, 8, .rw, 4, false⟩, ⟨5, 4, .rw, 0, false⟩, ⟨2, 2, .rw, 0, false⟩, ⟨1, 0, .rw, 0, false⟩]⟩,
  ⟨"ENC_POS_LO", 0x108, 0x40, 8, [⟨31, 0, .ro, 0, false⟩]⟩,
  ⟨"ENC_POS_HI", 0x10C, 0x40, 8, [⟨15, 0, .ro, 0, false⟩]⟩,
  ⟨"ENC_ZLATCH_LO", 0x110, 0x40, 8, [⟨31, 0, .ro, 0, false⟩]⟩,
  ⟨"ENC_ZLATCH_HI", 0x114, 0x40, 8, [⟨15, 0, .ro, 0, false⟩]⟩,
  ⟨"ENC_SET_LO", 0x118, 0x40, 8, [⟨31, 0, .rw, 0, false⟩]⟩,
  ⟨"ENC_SET_HI", 0x11C, 0x40, 8, [⟨15, 0, .rw, 0, false⟩]⟩,
  ⟨"ENC_CMD", 0x120, 0x40, 8, [⟨0, 0, .wo, 0, false⟩]⟩,
  ⟨"ENC_ERR", 0x124, 0x40, 8, [⟨31, 0, .ro, 0, true⟩]⟩,
  ⟨"ENC_FENCED", 0x300, 0x0, 1, [⟨7, 0, .ro, 0, false⟩]⟩]

/-- Register rows of the TRG2 page (R252). -/
def trg2Regs : List RegDef := [
  ⟨"CMP_CFG", 0x100, 0x20, 32, [⟨31, 31, .rw, 0, false⟩, ⟨2, 0, .rw, 0, false⟩]⟩,
  ⟨"CMP_NEXT_LO", 0x104, 0x20, 32, [⟨31, 0, .rw, 0, false⟩]⟩,
  ⟨"CMP_NEXT_HI", 0x108, 0x20, 32, [⟨15, 0, .rw, 0, false⟩]⟩,
  ⟨"CMP_STEP", 0x10C, 0x20, 32, [⟨31, 0, .rw, 1, false⟩]⟩,
  ⟨"CMP_COUNT", 0x110, 0x20, 32, [⟨31, 0, .ro, 0, true⟩]⟩]

/-- Register rows of the TRG3 page (R252). -/
def trg3Regs : List RegDef := [
  ⟨"TMR_CFG", 0x100, 0x20, 16, [⟨31, 31, .rw, 0, false⟩]⟩,
  ⟨"TMR_PERIOD", 0x104, 0x20, 16, [⟨31, 0, .rw, 1000000, false⟩]⟩,
  ⟨"TMR_START_LO", 0x108, 0x20, 16, [⟨31, 0, .rw, 0, false⟩]⟩,
  ⟨"TMR_START_HI", 0x10C, 0x20, 16, [⟨31, 0, .rw, 0, false⟩]⟩,
  ⟨"TMR_COUNT", 0x110, 0x20, 16, [⟨31, 0, .ro, 0, true⟩]⟩]

/-- Register rows of the SHOT page (R254). -/
def shotRegs : List RegDef := [
  ⟨"LEDGER_PORT", 0x100, 0x0, 1, [⟨3, 0, .rw, 0, false⟩]⟩,
  ⟨"LEDGER_SHOT", 0x104, 0x0, 1, [⟨31, 0, .rw, 0, false⟩]⟩,
  ⟨"LEDGER_STATUS", 0x108, 0x0, 1, [⟨2, 2, .ro, 0, false⟩, ⟨1, 1, .ro, 0, false⟩, ⟨0, 0, .ro, 0, false⟩]⟩,
  ⟨"LEDGER_REC", 0x110, 0x4, 8, [⟨31, 0, .ro, 0, false⟩]⟩]

/-- Register rows of the GATE page (R60, R65, R66, R67, R68, R110, R111, R139, R408). -/
def gateRegsa : List RegDef := [
  ⟨"PWR_BUDGET", 0x60, 0x0, 1, [⟨19, 0, .rw, 0, false⟩]⟩,
  ⟨"PWR_STATE", 0x64, 0x0, 1, [⟨8, 8, .ro, 0, false⟩, ⟨5, 4, .ro, 0, false⟩, ⟨1, 0, .ro, 0, false⟩]⟩,
  ⟨"LINK_CFG_A", 0x100, 0x0, 1, [⟨10, 10, .rw, 0, false⟩, ⟨9, 9, .rw, 1, false⟩, ⟨3, 0, .ro, 0, false⟩]⟩,
  ⟨"LINK_CFG_B", 0x104, 0x0, 1, [⟨10, 10, .rw, 0, false⟩, ⟨9, 9, .rw, 1, false⟩, ⟨3, 0, .ro, 0, false⟩]⟩,
  ⟨"LINK_STATUS_A", 0x108, 0x0, 1, [⟨31, 16, .ro, 0, false⟩, ⟨11, 11, .ro, 0, false⟩, ⟨10, 10, .ro, 0, false⟩, ⟨9, 9, .ro, 0, false⟩, ⟨8, 8, .ro, 0, false⟩, ⟨2, 0, .ro, 0, false⟩]⟩,
  ⟨"LINK_STATUS_B", 0x10C, 0x0, 1, [⟨31, 16, .ro, 0, false⟩, ⟨11, 11, .ro, 0, false⟩, ⟨10, 10, .ro, 0, false⟩, ⟨9, 9, .ro, 0, false⟩, ⟨8, 8, .ro, 0, false⟩, ⟨2, 0, .ro, 0, false⟩]⟩,
  ⟨"DESKEW_ERR", 0x110, 0x0, 1, [⟨31, 16, .ro, 0, true⟩, ⟨15, 0, .ro, 0, true⟩]⟩,
  ⟨"TEST_STATUS", 0x114, 0x0, 1, [⟨9, 9, .ro, 0, false⟩, ⟨8, 8, .ro, 0, false⟩, ⟨7, 3, .ro, 0, false⟩, ⟨2, 0, .ro, 0, false⟩]⟩,
  ⟨"CHECK_CFG", 0x120, 0x0, 1, [⟨4, 4, .rw, 0, false⟩, ⟨1, 0, .rw, 0, false⟩]⟩,
  ⟨"LANE_MASK", 0x124, 0x0, 1, [⟨8, 8, .ro, 0, false⟩, ⟨7, 4, .ro, 1, false⟩, ⟨3, 0, .ro, 15, false⟩]⟩,
  ⟨"INJ_CFG", 0x128, 0x0, 1, [⟨31, 24, .rw, 0, true⟩, ⟨23, 20, .rw, 0, false⟩, ⟨18, 16, .rw, 0, false⟩, ⟨8, 8, .rw, 0, false⟩, ⟨3, 0, .rw, 0, false⟩]⟩,
  ⟨"INJ_STATUS", 0x12C, 0x0, 1, [⟨2, 2, .ro, 0, false⟩, ⟨1, 1, .ro, 0, false⟩, ⟨0, 0, .ro, 0, false⟩]⟩,
  ⟨"HDR_CRC_ERR", 0x140, 0x0, 1, [⟨31, 16, .ro, 0, true⟩, ⟨15, 0, .ro, 0, true⟩]⟩,
  ⟨"PAY_CRC_ERR", 0x144, 0x0, 1, [⟨31, 16, .ro, 0, true⟩, ⟨15, 0, .ro, 0, true⟩]⟩,
  ⟨"PROTO_ERR", 0x148, 0x0, 1, [⟨31, 16, .ro, 0, true⟩, ⟨15, 0, .ro, 0, true⟩]⟩,
  ⟨"CTL_ERR", 0x14C, 0x0, 1, [⟨31, 16, .ro, 0, true⟩, ⟨15, 0, .ro, 0, true⟩]⟩,
  ⟨"TRIG_LATE", 0x150, 0x0, 1, [⟨31, 0, .ro, 0, true⟩]⟩,
  ⟨"GATE_CFG", 0x160, 0x0, 1, [⟨15, 8, .rwl, 128, false⟩, ⟨1, 0, .rwl, 0, false⟩]⟩,
  ⟨"RISER_STATUS", 0x164, 0x0, 1, [⟨24, 16, .ro, 0, false⟩, ⟨8, 0, .ro, 0, false⟩]⟩,
  ⟨"RISER_OVF", 0x168, 0x0, 1, [⟨31, 16, .ro, 0, true⟩, ⟨15, 0, .ro, 0, true⟩]⟩]

/-- Register rows of the GATE page (R65, R69, R70, R139, R408). -/
def gateRegsb : List RegDef := [
  ⟨"RISER_HWM", 0x16C, 0x0, 1, [⟨24, 16, .ro, 0, true⟩, ⟨8, 0, .ro, 0, true⟩]⟩,
  ⟨"PWR_EXITS", 0x170, 0x0, 1, [⟨31, 0, .ro, 0, true⟩]⟩,
  ⟨"LANE_CTRL", 0x200, 0x20, 5, [⟨0, 0, .rw, 0, false⟩]⟩,
  ⟨"LANE_STATUS", 0x204, 0x20, 5, [⟨31, 31, .ro, 0, false⟩, ⟨25, 21, .ro, 0, false⟩, ⟨20, 13, .ro, 0, false⟩, ⟨12, 7, .ro, 0, false⟩, ⟨4, 2, .ro, 0, false⟩, ⟨1, 0, .ro, 0, false⟩]⟩,
  ⟨"LANE_ADAPT", 0x208, 0x20, 5, [⟨22, 17, .ro, 0, false⟩, ⟨16, 11, .ro, 0, false⟩, ⟨10, 4, .ro, 0, false⟩, ⟨3, 0, .ro, 8, false⟩]⟩,
  ⟨"LANE_CODE_ERR", 0x20C, 0x20, 5, [⟨31, 0, .ro, 0, true⟩]⟩,
  ⟨"LANE_DISP_ERR", 0x210, 0x20, 5, [⟨31, 0, .ro, 0, true⟩]⟩,
  ⟨"LANE_ALIGN_LOSS", 0x214, 0x20, 5, [⟨31, 0, .ro, 0, true⟩]⟩,
  ⟨"LANE_BURST", 0x218, 0x20, 5, [⟨31, 16, .ro, 0, true⟩, ⟨15, 0, .ro, 0, true⟩]⟩,
  ⟨"LANE_PRBS_ERR", 0x21C, 0x20, 5, [⟨31, 0, .ro, 0, true⟩]⟩,
  ⟨"LOOP_PAT", 0x400, 0x4, 64, [⟨31, 0, .rw, 0, false⟩]⟩]

/-- All register rows of the GATE page. -/
def gateRegs : List RegDef := gateRegsa ++ gateRegsb

/-- Register rows of the BRG page (R346). -/
def brgRegsa : List RegDef := [
  ⟨"BRG_CFG", 0x100, 0x0, 1, [⟨23, 16, .rw, 63, false⟩, ⟨8, 8, .rw, 0, false⟩, ⟨3, 0, .rw, 8, false⟩]⟩,
  ⟨"RSP_TIMEOUT", 0x104, 0x0, 1, [⟨15, 0, .rw, 1000, false⟩]⟩,
  ⟨"READ_LIMIT", 0x108, 0x0, 1, [⟨19, 0, .rw, 5000, false⟩]⟩,
  ⟨"LOCK_LIMIT", 0x10C, 0x0, 1, [⟨19, 0, .rw, 2000, false⟩]⟩,
  ⟨"LOG_HEAD", 0x110, 0x0, 1, [⟨5, 0, .ro, 0, true⟩]⟩,
  ⟨"LOG_COUNT", 0x114, 0x0, 1, [⟨31, 0, .ro, 0, true⟩]⟩,
  ⟨"UNEXPECTED", 0x118, 0x0, 1, [⟨31, 0, .ro, 0, true⟩]⟩,
  ⟨"SE_SEEN", 0x11C, 0x0, 1, [⟨31, 0, .ro, 0, true⟩]⟩,
  ⟨"WIN_BASE", 0x140, 0x40, 2, [⟨31, 20, .rw, 0, false⟩]⟩,
  ⟨"PORT_CFG", 0x144, 0x40, 2, [⟨8, 8, .rw, 0, false⟩, ⟨6, 4, .rw, 0, false⟩, ⟨1, 1, .rw, 0, false⟩, ⟨0, 0, .rw, 0, false⟩]⟩,
  ⟨"FENCE", 0x148, 0x40, 2, [⟨31, 31, .ro, 0, false⟩, ⟨30, 30, .ro, 0, false⟩, ⟨15, 0, .ro, 0, false⟩]⟩,
  ⟨"FAIL_TAG", 0x14C, 0x40, 2, [⟨15, 0, .ro, 0, false⟩]⟩,
  ⟨"PORT_STATUS", 0x150, 0x40, 2, [⟨31, 31, .ro, 0, false⟩, ⟨30, 30, .ro, 0, false⟩, ⟨29, 29, .ro, 0, false⟩, ⟨28, 28, .ro, 0, false⟩, ⟨27, 26, .ro, 0, false⟩, ⟨20, 16, .ro, 16, false⟩, ⟨15, 0, .ro, 0, false⟩]⟩,
  ⟨"CAM_CAPS", 0x154, 0x40, 2, [⟨31, 0, .ro, 0, false⟩]⟩,
  ⟨"CAM_IDENT", 0x158, 0x40, 2, [⟨31, 0, .ro, 0, false⟩]⟩,
  ⟨"PCW_ADDR", 0x15C, 0x40, 2, [⟨31, 0, .rw, 0, false⟩]⟩,
  ⟨"PCW_DATA", 0x160, 0x40, 2, [⟨31, 0, .rw, 0, false⟩]⟩,
  ⟨"POLL_CFG", 0x164, 0x40, 2, [⟨31, 31, .rw, 0, false⟩, ⟨19, 0, .rw, 1000, false⟩]⟩,
  ⟨"POLL_ADDR", 0x168, 0x40, 2, [⟨31, 0, .rw, 16, false⟩]⟩,
  ⟨"POLL_MASK", 0x16C, 0x40, 2, [⟨31, 0, .rw, 4294967295, false⟩]⟩]

/-- Register rows of the BRG page (R346, R348). -/
def brgRegsb : List RegDef := [
  ⟨"POLL_LAST", 0x170, 0x40, 2, [⟨31, 0, .ro, 0, false⟩]⟩,
  ⟨"NAK_COUNT", 0x174, 0x40, 2, [⟨31, 0, .ro, 0, true⟩]⟩,
  ⟨"TIMEOUT_COUNT", 0x178, 0x40, 2, [⟨31, 0, .ro, 0, true⟩]⟩,
  ⟨"POLL_SKIP", 0x17C, 0x40, 2, [⟨31, 0, .ro, 0, true⟩]⟩,
  ⟨"LOG", 0x800, 0x4, 512, [⟨31, 0, .ro, 0, true⟩]⟩]

/-- All register rows of the BRG page. -/
def brgRegs : List RegDef := brgRegsa ++ brgRegsb

/-- Register rows of the SLICE page (R142, R408). -/
def sliceRegs : List RegDef := [
  ⟨"PWR_BUDGET", 0x60, 0x0, 1, [⟨19, 0, .rw, 0, false⟩]⟩,
  ⟨"PWR_STATE", 0x64, 0x0, 1, [⟨8, 8, .ro, 0, false⟩, ⟨5, 4, .ro, 0, false⟩, ⟨1, 0, .ro, 0, false⟩]⟩,
  ⟨"ADM_LOAD", 0x100, 0x0, 1, [⟨31, 0, .ro, 0, false⟩]⟩,
  ⟨"ADM_WIN", 0x104, 0x0, 1, [⟨31, 0, .ro, 0, false⟩]⟩,
  ⟨"PWR_EXITS", 0x120, 0x0, 1, [⟨31, 0, .ro, 0, true⟩]⟩]

/-- Register rows of the SLICE32 page (R381). -/
def slice32Regs : List RegDef := [
  ⟨"SPARE_STATUS", 0x110, 0x0, 1, [⟨31, 31, .ro, 0, true⟩, ⟨30, 30, .ro, 0, true⟩, ⟨4, 0, .ro, 0, true⟩]⟩,
  ⟨"REMAP_COUNT", 0x114, 0x0, 1, [⟨31, 0, .ro, 0, true⟩]⟩,
  ⟨"LAST_INTERRUPT", 0x118, 0x0, 1, [⟨31, 0, .ro, 0, false⟩]⟩]

/-- Register rows of the LADLE0 page (R281). -/
def ladle0Regs : List RegDef := [
  ⟨"LADLE_CFG", 0x100, 0x0, 1, [⟨0, 0, .rw, 0, true⟩]⟩]

/-- Register rows of the LADLE page (R281). -/
def ladleRegs : List RegDef := [
  ⟨"BANK_AVAIL", 0x104, 0x0, 1, [⟨20, 0, .ro, 1048576, true⟩]⟩,
  ⟨"BANK_FREE", 0x108, 0x0, 1, [⟨20, 0, .ro, 1048576, true⟩]⟩,
  ⟨"BANK_LOST", 0x10C, 0x0, 1, [⟨20, 0, .ro, 0, true⟩]⟩,
  ⟨"BANK_RETIRED", 0x110, 0x0, 1, [⟨20, 0, .ro, 0, true⟩]⟩,
  ⟨"POOL_WARN", 0x114, 0x0, 1, [⟨20, 0, .rw, 65536, true⟩]⟩,
  ⟨"SWEEP_CFG", 0x118, 0x0, 1, [⟨0, 0, .rw, 1, true⟩]⟩,
  ⟨"SWEEP_STATUS", 0x11C, 0x0, 1, [⟨31, 31, .ro, 0, true⟩, ⟨20, 0, .ro, 0, true⟩]⟩,
  ⟨"SWEEP_COUNT", 0x120, 0x0, 1, [⟨31, 0, .ro, 0, true⟩]⟩,
  ⟨"OVERRUN_TOTAL", 0x124, 0x0, 1, [⟨31, 0, .ro, 0, true⟩]⟩,
  ⟨"LAST_OVERRUN_Q", 0x128, 0x0, 1, [⟨13, 0, .ro, 0, true⟩]⟩,
  ⟨"NOQ_DROP", 0x12C, 0x0, 1, [⟨31, 0, .ro, 0, true⟩]⟩,
  ⟨"LAST_NOQ_Q", 0x130, 0x0, 1, [⟨13, 0, .ro, 0, true⟩]⟩,
  ⟨"LINK_CE", 0x134, 0x0, 1, [⟨31, 0, .ro, 0, true⟩]⟩,
  ⟨"LINK_UE", 0x138, 0x0, 1, [⟨31, 0, .ro, 0, true⟩]⟩,
  ⟨"LINK_UE_CELL", 0x13C, 0x0, 1, [⟨23, 0, .ro, 0, true⟩]⟩,
  ⟨"DUP_MISMATCH", 0x140, 0x0, 1, [⟨31, 0, .ro, 0, true⟩]⟩,
  ⟨"ACCT_ERR", 0x144, 0x0, 1, [⟨31, 0, .ro, 0, true⟩]⟩,
  ⟨"LAST_FAULT_Q", 0x148, 0x0, 1, [⟨13, 0, .ro, 0, true⟩]⟩]

/-- Register rows of the QD page (R280). -/
def qdRegs : List RegDef := [
  ⟨"Q_CFG", 0x0, 0x0, 1, [⟨31, 31, .rw, 0, true⟩, ⟨30, 30, .rw, 0, true⟩, ⟨27, 26, .rw, 0, true⟩, ⟨18, 16, .rw, 0, true⟩]⟩,
  ⟨"Q_LIMIT", 0x4, 0x0, 1, [⟨20, 0, .rw, 0, true⟩]⟩,
  ⟨"Q_CMD", 0x8, 0x0, 1, [⟨3, 3, .wo, 0, true⟩, ⟨2, 2, .wo, 0, true⟩, ⟨0, 0, .wo, 0, true⟩]⟩,
  ⟨"Q_STATUS", 0xC, 0x0, 1, [⟨31, 31, .ro, 0, true⟩, ⟨30, 30, .ro, 0, true⟩, ⟨29, 29, .ro, 0, true⟩, ⟨28, 28, .ro, 0, true⟩, ⟨21, 16, .ro, 0, true⟩, ⟨7, 0, .ro, 0, true⟩]⟩,
  ⟨"Q_DEPTH", 0x10, 0x0, 1, [⟨20, 0, .ro, 0, true⟩]⟩,
  ⟨"Q_OCC", 0x14, 0x0, 1, [⟨20, 0, .ro, 0, true⟩]⟩,
  ⟨"Q_HEAD_A", 0x18, 0x0, 1, [⟨23, 0, .ro, 0, true⟩]⟩,
  ⟨"Q_HEAD_B", 0x1C, 0x0, 1, [⟨23, 0, .ro, 0, true⟩]⟩,
  ⟨"Q_TAIL_A", 0x20, 0x0, 1, [⟨23, 0, .ro, 0, true⟩]⟩,
  ⟨"Q_TAIL_B", 0x24, 0x0, 1, [⟨23, 0, .ro, 0, true⟩]⟩,
  ⟨"Q_SEQ", 0x28, 0x0, 1, [⟨31, 0, .ro, 0, true⟩]⟩,
  ⟨"Q_OVERRUN", 0x2C, 0x0, 1, [⟨31, 0, .ro, 0, true⟩]⟩,
  ⟨"Q_DROPPED", 0x30, 0x0, 1, [⟨31, 0, .ro, 0, true⟩]⟩,
  ⟨"Q_PUSHED", 0x34, 0x0, 1, [⟨31, 0, .ro, 0, true⟩]⟩,
  ⟨"Q_POPPED", 0x38, 0x0, 1, [⟨31, 0, .ro, 0, true⟩]⟩,
  ⟨"Q_DISCARDED", 0x3C, 0x0, 1, [⟨31, 0, .ro, 0, true⟩]⟩,
  ⟨"Q_HWM", 0x40, 0x0, 1, [⟨20, 0, .ro, 0, true⟩]⟩,
  ⟨"Q_SUB_DEPTH", 0x60, 0x4, 8, [⟨20, 0, .ro, 0, true⟩]⟩]

/-- Register rows of the POUR0 page (R314). -/
def pour0Regs : List RegDef := [
  ⟨"POUR_CFG", 0x100, 0x0, 1, [⟨0, 0, .rw, 0, false⟩]⟩,
  ⟨"POUR_STATUS", 0x104, 0x0, 1, [⟨31, 31, .ro, 0, false⟩, ⟨6, 0, .ro, 0, false⟩]⟩,
  ⟨"POUR_BYTES_LO", 0x108, 0x0, 1, [⟨31, 0, .ro, 0, true⟩]⟩,
  ⟨"POUR_BYTES_HI", 0x10C, 0x0, 1, [⟨31, 0, .ro, 0, true⟩]⟩,
  ⟨"POUR_PKTS", 0x110, 0x0, 1, [⟨31, 0, .ro, 0, true⟩]⟩,
  ⟨"POUR_ERR_PKTS", 0x114, 0x0, 1, [⟨31, 0, .ro, 0, true⟩]⟩,
  ⟨"LAST_ERR", 0x118, 0x0, 1, [⟨19, 16, .ro, 0, false⟩, ⟨13, 0, .ro, 0, false⟩]⟩,
  ⟨"POUR_SLAG", 0x11C, 0x0, 1, [⟨31, 0, .ro, 0, true⟩]⟩]

/-- Register rows of the RING page (R313). -/
def ringRegs : List RegDef := [
  ⟨"DESC_BASE_LO", 0x0, 0x0, 1, [⟨31, 0, .rw, 0, false⟩]⟩,
  ⟨"DESC_BASE_HI", 0x4, 0x0, 1, [⟨31, 0, .rw, 0, false⟩]⟩,
  ⟨"CPL_BASE_LO", 0x8, 0x0, 1, [⟨31, 0, .rw, 0, false⟩]⟩,
  ⟨"CPL_BASE_HI", 0xC, 0x0, 1, [⟨31, 0, .rw, 0, false⟩]⟩,
  ⟨"RING_CFG", 0x10, 0x0, 1, [⟨31, 31, .rw, 0, false⟩, ⟨30, 30, .rw, 0, false⟩, ⟨29, 29, .rw, 0, false⟩, ⟨28, 28, .rw, 0, false⟩, ⟨27, 27, .rw, 0, false⟩, ⟨24, 24, .ro, 0, false⟩, ⟨22, 22, .ro, 0, false⟩, ⟨21, 21, .ro, 0, false⟩, ⟨19, 16, .ro, 0, false⟩, ⟨4, 0, .rw, 4, false⟩]⟩,
  ⟨"RING_INT", 0x14, 0x0, 1, [⟨31, 24, .rw, 1, false⟩, ⟨23, 12, .rw, 0, false⟩, ⟨10, 0, .rw, 0, false⟩]⟩,
  ⟨"RING_RATE", 0x18, 0x0, 1, [⟨19, 0, .rw, 0, false⟩]⟩,
  ⟨"RING_IDX", 0x1C, 0x0, 1, [⟨31, 16, .ro, 0, false⟩, ⟨15, 0, .ro, 0, false⟩]⟩]

/-- Register rows of the SEAM page (R219, R220). -/
def seamRegsa : List RegDef := [
  ⟨"SEAM_CFG", 0x100, 0x0, 1, [⟨21, 16, .rwl, 0, false⟩, ⟨0, 0, .rwl, 0, false⟩]⟩,
  ⟨"SEAM_WIDTH", 0x104, 0x0, 1, [⟨18, 0, .rwl, 0, false⟩]⟩,
  ⟨"SEAM_BLOCK", 0x108, 0x0, 1, [⟨23, 0, .rwl, 1, false⟩]⟩,
  ⟨"SEAM_PAD", 0x10C, 0x0, 1, [⟨15, 0, .rw, 0, false⟩]⟩,
  ⟨"SEAM_TIMEOUT", 0x110, 0x0, 1, [⟨19, 0, .rw, 1000, false⟩]⟩,
  ⟨"SEAM_QUEUE", 0x114, 0x0, 1, [⟨18, 16, .rwl, 0, false⟩, ⟨13, 0, .rwl, 0, false⟩]⟩,
  ⟨"SEAM_LINE", 0x118, 0x0, 1, [⟨31, 0, .ro, 0, false⟩]⟩,
  ⟨"SEAM_MISS_MASK", 0x11C, 0x0, 1, [⟨31, 0, .ro, 0, false⟩]⟩,
  ⟨"SEAM_FORCED", 0x120, 0x0, 1, [⟨31, 0, .ro, 0, true⟩]⟩,
  ⟨"SEAM_MISS_LINES", 0x124, 0x0, 1, [⟨31, 0, .ro, 0, true⟩]⟩,
  ⟨"SEAM_SKIPPED", 0x128, 0x0, 1, [⟨31, 0, .ro, 0, true⟩]⟩,
  ⟨"SEAM_LATE", 0x12C, 0x0, 1, [⟨31, 0, .ro, 0, true⟩]⟩,
  ⟨"SEAM_BAD_PKT", 0x130, 0x0, 1, [⟨31, 0, .ro, 0, true⟩]⟩,
  ⟨"ADM_VEC", 0x140, 0x0, 1, [⟨31, 0, .ro, 0, false⟩]⟩,
  ⟨"ADM_HBM", 0x144, 0x0, 1, [⟨31, 0, .ro, 0, false⟩]⟩,
  ⟨"MEM_PORT", 0x1000, 0x20, 32, [⟨7, 0, .rwl, 0, false⟩]⟩,
  ⟨"MEM_QUEUE", 0x1004, 0x20, 32, [⟨13, 0, .rwl, 0, false⟩]⟩,
  ⟨"MEM_WIDTH", 0x1008, 0x20, 32, [⟨14, 0, .rwl, 1, false⟩]⟩,
  ⟨"MEM_POS", 0x100C, 0x20, 32, [⟨23, 0, .rwl, 0, false⟩]⟩,
  ⟨"MEM_GAIN", 0x1010, 0x20, 32, [⟨31, 16, .rwl, 0, false⟩, ⟨15, 0, .rwl, 4096, false⟩]⟩]

/-- Register rows of the SEAM page (R220). -/
def seamRegsb : List RegDef := [
  ⟨"MEM_DELAY", 0x1014, 0x20, 32, [⟨24, 16, .rwl, 0, false⟩, ⟨9, 0, .rwl, 0, false⟩]⟩,
  ⟨"MEM_SEAM_X", 0x1018, 0x20, 32, [⟨18, 0, .rwl, 0, false⟩]⟩,
  ⟨"MEM_SHOT_BASE", 0x101C, 0x20, 32, [⟨31, 0, .rwl, 0, false⟩]⟩]

/-- All register rows of the SEAM page. -/
def seamRegs : List RegDef := seamRegsa ++ seamRegsb

/-- Register rows of the MOULD page (R221). -/
def mouldRegsa : List RegDef := [
  ⟨"MOULD_CFG", 0x100, 0x0, 1, [⟨8, 8, .rwl, 0, false⟩, ⟨6, 0, .rwl, 0, false⟩]⟩,
  ⟨"MOULD_SIZE", 0x104, 0x0, 1, [⟨28, 16, .rwl, 1080, false⟩, ⟨12, 0, .rwl, 1920, false⟩]⟩,
  ⟨"MOULD_RATE", 0x108, 0x0, 1, [⟨6, 0, .rwl, 30, false⟩]⟩,
  ⟨"MOULD_QUEUE", 0x10C, 0x0, 1, [⟨18, 16, .rwl, 0, false⟩, ⟨13, 0, .rwl, 0, false⟩]⟩,
  ⟨"BG_COLOUR", 0x110, 0x0, 1, [⟨23, 0, .rw, 0, false⟩]⟩,
  ⟨"BORDER_COLOUR", 0x114, 0x0, 1, [⟨23, 0, .rw, 8421504, false⟩]⟩,
  ⟨"ALARM_COLOUR", 0x118, 0x0, 1, [⟨23, 0, .rw, 16711680, false⟩]⟩,
  ⟨"STALE_COLOUR", 0x11C, 0x0, 1, [⟨23, 0, .rw, 16760832, false⟩]⟩,
  ⟨"STALE_MS", 0x120, 0x0, 1, [⟨15, 0, .rw, 100, false⟩]⟩,
  ⟨"ALARM_LO", 0x124, 0x0, 1, [⟨31, 0, .rw, 0, false⟩]⟩,
  ⟨"ALARM_HI", 0x128, 0x0, 1, [⟨31, 0, .rw, 0, false⟩]⟩,
  ⟨"STALE_LO", 0x12C, 0x0, 1, [⟨31, 0, .ro, 0, false⟩]⟩,
  ⟨"STALE_HI", 0x130, 0x0, 1, [⟨31, 0, .ro, 0, false⟩]⟩,
  ⟨"NOFIT_LO", 0x134, 0x0, 1, [⟨31, 0, .ro, 0, false⟩]⟩,
  ⟨"NOFIT_HI", 0x138, 0x0, 1, [⟨31, 0, .ro, 0, false⟩]⟩,
  ⟨"FRAME_COUNT", 0x13C, 0x0, 1, [⟨31, 0, .ro, 0, true⟩]⟩,
  ⟨"FRAME_SKIP", 0x140, 0x0, 1, [⟨31, 0, .ro, 0, true⟩]⟩,
  ⟨"SRC_SKIP", 0x144, 0x0, 1, [⟨31, 0, .ro, 0, true⟩]⟩,
  ⟨"BAD_PKT", 0x148, 0x0, 1, [⟨31, 0, .ro, 0, true⟩]⟩,
  ⟨"ADM_HBM", 0x14C, 0x0, 1, [⟨31, 0, .ro, 0, false⟩]⟩]

/-- Register rows of the MOULD page (R222). -/
def mouldRegsb : List RegDef := [
  ⟨"TILE_SRC", 0x1000, 0x20, 64, [⟨31, 30, .rwl, 0, false⟩, ⟨29, 24, .rwl, 0, false⟩, ⟨23, 16, .rwl, 0, false⟩, ⟨13, 0, .rwl, 0, false⟩]⟩,
  ⟨"TILE_POS", 0x1004, 0x20, 64, [⟨28, 16, .rwl, 0, false⟩, ⟨12, 0, .rwl, 0, false⟩]⟩,
  ⟨"TILE_SIZE", 0x1008, 0x20, 64, [⟨28, 16, .rwl, 0, false⟩, ⟨12, 0, .rwl, 0, false⟩]⟩,
  ⟨"TILE_SX0", 0x100C, 0x20, 64, [⟨17, 0, .rwl, 0, false⟩]⟩,
  ⟨"TILE_SY0", 0x1010, 0x20, 64, [⟨23, 0, .rwl, 0, false⟩]⟩,
  ⟨"TILE_CTRL", 0x1014, 0x20, 64, [⟨31, 31, .rwl, 0, false⟩, ⟨24, 24, .rwl, 0, false⟩, ⟨23, 20, .rwl, 0, false⟩, ⟨16, 16, .rwl, 0, false⟩, ⟨11, 8, .rwl, 0, false⟩, ⟨5, 0, .rwl, 0, false⟩]⟩]

/-- All register rows of the MOULD page. -/
def mouldRegs : List RegDef := mouldRegsa ++ mouldRegsb

/-- Register rows of the HBM page (R381, R408, R425). -/
def hbmRegs : List RegDef := [
  ⟨"PC_FENCED", 0x100, 0x0, 1, [⟨31, 0, .ro, 0, true⟩]⟩,
  ⟨"HBM_PWR_CFG", 0x104, 0x0, 1, [⟨31, 16, .rw, 1000, true⟩, ⟨1, 1, .rw, 0, true⟩, ⟨0, 0, .rw, 1, true⟩]⟩,
  ⟨"HBM_PWR_STATUS", 0x108, 0x0, 1, [⟨31, 0, .ro, 0, false⟩]⟩,
  ⟨"HBM_STATUS", 0x10C, 0x0, 1, [⟨31, 31, .ro, 0, true⟩, ⟨30, 30, .ro, 0, true⟩, ⟨15, 0, .ro, 0, true⟩]⟩,
  ⟨"ECC_CE_COUNT", 0x110, 0x0, 1, [⟨31, 0, .ro, 0, true⟩]⟩,
  ⟨"ECC_UE_COUNT", 0x114, 0x0, 1, [⟨31, 0, .ro, 0, true⟩]⟩,
  ⟨"SCRUB_PASSES", 0x118, 0x0, 1, [⟨31, 0, .ro, 0, true⟩]⟩,
  ⟨"LAST_UE_ADDR_LO", 0x120, 0x0, 1, [⟨31, 0, .ro, 0, false⟩]⟩,
  ⟨"LAST_UE_ADDR_HI", 0x124, 0x0, 1, [⟨31, 0, .ro, 0, false⟩]⟩]

/-- Register rows of the PEX page (R316). -/
def pexRegs : List RegDef := [
  ⟨"LINK_STATUS", 0x100, 0x0, 1, [⟨13, 13, .ro, 0, false⟩, ⟨12, 12, .ro, 0, false⟩, ⟨9, 4, .ro, 0, false⟩, ⟨3, 0, .ro, 0, false⟩]⟩,
  ⟨"BAD_ACCESS", 0x104, 0x0, 1, [⟨31, 0, .ro, 0, true⟩]⟩,
  ⟨"LINK_DOWN", 0x108, 0x0, 1, [⟨31, 0, .ro, 0, true⟩]⟩]

/-- Register rows of the CAM page (R113, R141). -/
def camRegsa : List RegDef := [
  ⟨"FMT_CFG", 0x100, 0x0, 1, [⟨8, 8, .rwl, 0, false⟩, ⟨7, 0, .rwl, 1, false⟩]⟩,
  ⟨"FMT_WIDTH", 0x104, 0x0, 1, [⟨14, 0, .rwl, 0, false⟩]⟩,
  ⟨"FMT_HEIGHT", 0x108, 0x0, 1, [⟨23, 0, .rwl, 0, false⟩]⟩,
  ⟨"LINE_RATE", 0x10C, 0x0, 1, [⟨27, 0, .rwl, 0, false⟩]⟩,
  ⟨"ADM_VEC", 0x110, 0x0, 1, [⟨31, 0, .ro, 0, false⟩]⟩,
  ⟨"ADM_HBM", 0x114, 0x0, 1, [⟨31, 0, .ro, 0, false⟩]⟩,
  ⟨"FC_CFG", 0x180, 0x0, 1, [⟨15, 8, .rwl, 4, false⟩, ⟨0, 0, .rwl, 0, false⟩]⟩,
  ⟨"FC_TIMEOUT", 0x184, 0x0, 1, [⟨19, 0, .rwl, 100000, false⟩]⟩,
  ⟨"FC_PAD", 0x188, 0x0, 1, [⟨15, 0, .rw, 0, false⟩]⟩,
  ⟨"FC_SHORT_LINE", 0x190, 0x0, 1, [⟨31, 0, .ro, 0, true⟩]⟩,
  ⟨"FC_LONG_LINE", 0x194, 0x0, 1, [⟨31, 0, .ro, 0, true⟩]⟩,
  ⟨"FC_PAD_LINES", 0x198, 0x0, 1, [⟨31, 0, .ro, 0, true⟩]⟩,
  ⟨"FC_LINE_ORDER", 0x19C, 0x0, 1, [⟨31, 0, .ro, 0, true⟩]⟩,
  ⟨"FC_SHORT_FRAME", 0x1A0, 0x0, 1, [⟨31, 0, .ro, 0, true⟩]⟩,
  ⟨"FC_LONG_FRAME", 0x1A4, 0x0, 1, [⟨31, 0, .ro, 0, true⟩]⟩,
  ⟨"FC_ABANDONED", 0x1A8, 0x0, 1, [⟨31, 0, .ro, 0, true⟩]⟩,
  ⟨"FC_NO_FE", 0x1AC, 0x0, 1, [⟨31, 0, .ro, 0, true⟩]⟩,
  ⟨"FC_MISSING_FRAME", 0x1B0, 0x0, 1, [⟨31, 0, .ro, 0, true⟩]⟩,
  ⟨"FC_ORPHAN", 0x1B4, 0x0, 1, [⟨31, 0, .ro, 0, true⟩]⟩,
  ⟨"FC_SLAG_BYTES", 0x1B8, 0x0, 1, [⟨31, 0, .ro, 0, true⟩]⟩]

/-- Register rows of the CAM page (R167). -/
def camRegsb : List RegDef := [
  ⟨"NR_CTRL", 0x200, 0x0, 1, [⟨9, 9, .rwl, 0, false⟩, ⟨8, 8, .rwl, 0, false⟩, ⟨4, 4, .rw, 0, false⟩, ⟨1, 0, .rwl, 0, false⟩]⟩,
  ⟨"NR_SP_WEIGHTS", 0x204, 0x0, 1, [⟨29, 24, .rw, 0, false⟩, ⟨23, 18, .rw, 1, false⟩, ⟨17, 12, .rw, 2, false⟩, ⟨11, 6, .rw, 4, false⟩, ⟨5, 0, .rw, 8, false⟩]⟩,
  ⟨"NR_SP_CFG", 0x208, 0x0, 1, [⟨19, 16, .rw, 7, false⟩, ⟨7, 0, .rw, 48, false⟩]⟩,
  ⟨"NR_TEMPORAL", 0x20C, 0x0, 1, [⟨23, 16, .rw, 64, false⟩, ⟨15, 8, .rw, 32, false⟩, ⟨6, 0, .rw, 16, false⟩]⟩,
  ⟨"NR_REG_SCALE", 0x210, 0x0, 1, [⟨31, 0, .rwl, 0, false⟩]⟩,
  ⟨"NR_REG_MAX", 0x214, 0x0, 1, [⟨15, 0, .rwl, 64, false⟩]⟩,
  ⟨"NR_PEDESTAL", 0x218, 0x0, 1, [⟨15, 0, .rw, 0, false⟩]⟩,
  ⟨"NR_HOLD", 0x21C, 0x0, 1, [⟨19, 0, .rw, 0, false⟩]⟩,
  ⟨"NR_CMD", 0x220, 0x0, 1, [⟨0, 0, .wo, 0, false⟩]⟩,
  ⟨"NR_STATUS", 0x224, 0x0, 1, [⟨19, 16, .ro, 0, false⟩, ⟨12, 12, .ro, 0, false⟩, ⟨8, 8, .ro, 0, false⟩, ⟨0, 0, .ro, 0, false⟩]⟩,
  ⟨"NR_REF_VALID0", 0x228, 0x0, 1, [⟨23, 0, .ro, 0, false⟩]⟩,
  ⟨"NR_REF_VALID1", 0x22C, 0x0, 1, [⟨23, 0, .ro, 0, false⟩]⟩,
  ⟨"NR_REF_SHOT", 0x230, 0x0, 1, [⟨31, 0, .ro, 0, false⟩]⟩,
  ⟨"NR_REF_VER", 0x234, 0x0, 1, [⟨31, 0, .ro, 0, false⟩]⟩,
  ⟨"NR_REF_POS_LO", 0x238, 0x0, 1, [⟨31, 0, .ro, 0, false⟩]⟩,
  ⟨"NR_REF_POS_HI", 0x23C, 0x0, 1, [⟨31, 31, .ro, 0, false⟩, ⟨15, 0, .ro, 0, false⟩]⟩,
  ⟨"NR_LAST_D", 0x240, 0x0, 1, [⟨31, 0, .ro, 0, false⟩]⟩,
  ⟨"NR_MISS_LINES", 0x244, 0x0, 1, [⟨31, 0, .ro, 0, true⟩]⟩,
  ⟨"NR_HOLDS", 0x248, 0x0, 1, [⟨31, 0, .ro, 0, true⟩]⟩,
  ⟨"NR_NOREF_FRAMES", 0x24C, 0x0, 1, [⟨31, 0, .ro, 0, true⟩]⟩]

/-- Register rows of the CAM page (R167, R199). -/
def camRegsc : List RegDef := [
  ⟨"NR_SLOT_SCALE", 0x260, 0x4, 8, [⟨17, 16, .rw, 0, false⟩, ⟨15, 0, .rw, 4096, false⟩]⟩,
  ⟨"NR_NOISE", 0x280, 0x4, 33, [⟨15, 0, .rwl, 16, false⟩]⟩,
  ⟨"FT_CTRL", 0x400, 0x0, 1, [⟨9, 8, .rw, 0, false⟩, ⟨2, 2, .rw, 0, false⟩, ⟨1, 1, .rw, 0, false⟩, ⟨0, 0, .rw, 0, false⟩]⟩,
  ⟨"FT_DYN_TH", 0x404, 0x0, 1, [⟨31, 16, .rw, 0, false⟩, ⟨15, 0, .rw, 0, false⟩]⟩,
  ⟨"FT_FIXED", 0x410, 0x0, 1, [⟨31, 0, .ro, 0, true⟩]⟩,
  ⟨"FT_DYN", 0x414, 0x0, 1, [⟨31, 0, .ro, 0, true⟩]⟩,
  ⟨"FT_UNFIXED", 0x418, 0x0, 1, [⟨31, 0, .ro, 0, true⟩]⟩,
  ⟨"FF_CTRL", 0x500, 0x0, 1, [⟨5, 5, .rw, 0, false⟩, ⟨4, 4, .rw, 0, false⟩, ⟨1, 0, .rw, 0, false⟩]⟩,
  ⟨"FF_GRID", 0x504, 0x4, 2, [⟨27, 24, .rw, 5, false⟩, ⟨23, 16, .rw, 129, false⟩, ⟨11, 8, .rw, 5, false⟩, ⟨7, 0, .rw, 129, false⟩]⟩,
  ⟨"FF_OFFSET", 0x50C, 0x0, 1, [⟨15, 0, .rw, 0, false⟩]⟩,
  ⟨"FF_BLACK01", 0x510, 0x0, 1, [⟨31, 16, .rw, 0, false⟩, ⟨15, 0, .rw, 0, false⟩]⟩,
  ⟨"FF_BLACK23", 0x514, 0x0, 1, [⟨31, 16, .rw, 0, false⟩, ⟨15, 0, .rw, 0, false⟩]⟩,
  ⟨"FF_STATUS", 0x518, 0x0, 1, [⟨1, 1, .ro, 0, false⟩, ⟨0, 0, .ro, 0, false⟩]⟩,
  ⟨"TBL_HOST_LO", 0x600, 0x0, 1, [⟨31, 0, .rw, 0, false⟩]⟩,
  ⟨"TBL_HOST_HI", 0x604, 0x0, 1, [⟨31, 0, .rw, 0, false⟩]⟩,
  ⟨"TBL_LEN", 0x608, 0x0, 1, [⟨19, 0, .rw, 0, false⟩]⟩,
  ⟨"TBL_CMD", 0x60C, 0x0, 1, [⟨8, 8, .wo, 0, false⟩, ⟨4, 4, .wo, 0, false⟩, ⟨1, 0, .wo, 0, false⟩]⟩,
  ⟨"TBL_STATUS", 0x610, 0x0, 1, [⟨13, 8, .ro, 0, false⟩, ⟨7, 4, .ro, 0, false⟩, ⟨0, 0, .ro, 0, false⟩]⟩,
  ⟨"TBL_LEN_USED", 0x620, 0x4, 6, [⟨19, 0, .ro, 0, false⟩]⟩,
  ⟨"WIN_CMD", 0x700, 0x0, 1, [⟨0, 0, .wo, 0, false⟩]⟩]

/-- Register rows of the CAM page (R199, R253). -/
def camRegsd : List RegDef := [
  ⟨"WIN_STATUS", 0x704, 0x0, 1, [⟨22, 16, .ro, 0, false⟩, ⟨0, 0, .ro, 0, false⟩]⟩,
  ⟨"WIN_GEOM_ERR_LO", 0x708, 0x0, 1, [⟨31, 0, .ro, 0, false⟩]⟩,
  ⟨"WIN_GEOM_ERR_HI", 0x70C, 0x0, 1, [⟨31, 0, .ro, 0, false⟩]⟩,
  ⟨"SCHED_CFG", 0x800, 0x0, 1, [⟨31, 31, .rw, 0, false⟩, ⟨26, 24, .rw, 0, false⟩, ⟨21, 16, .rw, 0, false⟩, ⟨15, 12, .rw, 0, false⟩, ⟨10, 10, .rw, 0, false⟩, ⟨9, 9, .rw, 1, false⟩, ⟨5, 0, .rw, 0, false⟩]⟩,
  ⟨"SCHED_DIV", 0x804, 0x0, 1, [⟨31, 16, .rw, 0, false⟩, ⟨15, 0, .rw, 0, false⟩]⟩,
  ⟨"SCHED_DELAY", 0x808, 0x0, 1, [⟨29, 0, .rw, 0, false⟩]⟩,
  ⟨"SCHED_WIDTH", 0x80C, 0x0, 1, [⟨29, 0, .rw, 1000, false⟩]⟩,
  ⟨"SCHED_HOLDOFF", 0x810, 0x0, 1, [⟨29, 0, .rw, 0, false⟩]⟩,
  ⟨"SCHED_POS", 0x814, 0x0, 1, [⟨3, 3, .rw, 0, false⟩, ⟨2, 0, .rw, 0, false⟩]⟩,
  ⟨"SETTLE_LEAD", 0x818, 0x0, 1, [⟨19, 0, .rw, 0, false⟩]⟩,
  ⟨"SHOT_NEXT", 0x820, 0x0, 1, [⟨31, 0, .ro, 0, false⟩]⟩,
  ⟨"SHOT_SET", 0x824, 0x0, 1, [⟨31, 0, .wo, 0, false⟩]⟩,
  ⟨"SHOT_STATUS", 0x828, 0x0, 1, [⟨20, 16, .ro, 0, false⟩, ⟨14, 8, .ro, 0, false⟩, ⟨0, 0, .ro, 0, false⟩]⟩,
  ⟨"SHOT_SUPPRESSED", 0x830, 0x0, 1, [⟨31, 0, .ro, 0, true⟩]⟩,
  ⟨"SHOT_OVF", 0x834, 0x0, 1, [⟨31, 0, .ro, 0, true⟩]⟩,
  ⟨"LEDGER_LOST", 0x838, 0x0, 1, [⟨31, 0, .ro, 0, true⟩]⟩,
  ⟨"STAT_SKIP", 0x83C, 0x0, 1, [⟨31, 0, .ro, 0, true⟩]⟩,
  ⟨"VER_LAST", 0x840, 0x0, 1, [⟨31, 0, .ro, 0, false⟩]⟩,
  ⟨"VER_APPLIED", 0x844, 0x0, 1, [⟨31, 0, .ro, 0, false⟩]⟩,
  ⟨"SET_SLOT_STATE", 0x848, 0x0, 1, [⟨15, 14, .ro, 0, false⟩, ⟨13, 12, .ro, 0, false⟩, ⟨11, 10, .ro, 0, false⟩, ⟨9, 8, .ro, 0, false⟩, ⟨7, 6, .ro, 0, false⟩, ⟨5, 4, .ro, 0, false⟩, ⟨3, 2, .ro, 0, false⟩, ⟨1, 0, .ro, 0, false⟩]⟩]

/-- Register rows of the CAM page (R200, R253). -/
def camRegse : List RegDef := [
  ⟨"SET_TARGET", 0x84C, 0x0, 1, [⟨31, 0, .rw, 0, false⟩]⟩,
  ⟨"SET_CMD", 0x850, 0x0, 1, [⟨31, 31, .wo, 0, false⟩, ⟨8, 8, .wo, 0, false⟩, ⟨2, 0, .wo, 0, false⟩]⟩,
  ⟨"SET_STATUS", 0x854, 0x0, 1, [⟨0, 0, .ro, 0, false⟩]⟩,
  ⟨"SLOT_COUNT", 0x860, 0x4, 8, [⟨4, 0, .rw, 0, true⟩]⟩,
  ⟨"STAT_CFG", 0x880, 0x0, 1, [⟨0, 0, .rw, 0, false⟩]⟩,
  ⟨"STAT_QUEUE", 0x884, 0x0, 1, [⟨18, 16, .rw, 0, false⟩, ⟨13, 0, .rw, 0, false⟩]⟩,
  ⟨"STAT_ROI_X", 0x888, 0x0, 1, [⟨30, 16, .rw, 16384, false⟩, ⟨13, 0, .rw, 0, false⟩]⟩,
  ⟨"STAT_ROI_Y0", 0x88C, 0x0, 1, [⟨23, 0, .rw, 0, false⟩]⟩,
  ⟨"STAT_ROI_H", 0x890, 0x0, 1, [⟨23, 0, .rw, 16777215, false⟩]⟩,
  ⟨"WIN_X", 0x1000, 0x20, 64, [⟨30, 16, .rw, 0, false⟩, ⟨13, 0, .rw, 0, false⟩]⟩,
  ⟨"WIN_Y0", 0x1004, 0x20, 64, [⟨23, 0, .rw, 0, false⟩]⟩,
  ⟨"WIN_H", 0x1008, 0x20, 64, [⟨23, 0, .rw, 0, false⟩]⟩,
  ⟨"WIN_SHAPE", 0x100C, 0x20, 64, [⟨31, 31, .rw, 0, false⟩, ⟨21, 20, .rw, 0, false⟩, ⟨17, 16, .rw, 0, false⟩, ⟨15, 12, .rw, 0, false⟩, ⟨11, 8, .rw, 0, false⟩, ⟨4, 4, .rw, 0, false⟩, ⟨3, 2, .rw, 0, false⟩, ⟨1, 0, .rw, 0, false⟩]⟩,
  ⟨"WIN_QUEUE", 0x1010, 0x20, 64, [⟨18, 16, .rw, 0, false⟩, ⟨13, 0, .rw, 0, false⟩]⟩,
  ⟨"SLOT_ADDR", 0x1800, 0x8, 128, [⟨31, 0, .rw, 0, false⟩]⟩,
  ⟨"SLOT_DATA", 0x1804, 0x8, 128, [⟨31, 0, .rw, 0, false⟩]⟩]

/-- All register rows of the CAM page. -/
def camRegs : List RegDef := camRegsa ++ camRegsb ++ camRegsc ++ camRegsd ++ camRegse


/-- The MSI-X table entry words (R426): address, data and the mask bit, which is 1 after either reset. -/
def msixRegs : List RegDef := [
  ⟨"MSIX_ADDR_LO", 0x0, 0x0, 1, [⟨31, 2, .rw, 0, false⟩]⟩,
  ⟨"MSIX_ADDR_HI", 0x4, 0x0, 1, [⟨31, 0, .rw, 0, false⟩]⟩,
  ⟨"MSIX_DATA", 0x8, 0x0, 1, [⟨31, 0, .rw, 0, false⟩]⟩,
  ⟨"MSIX_CTRL", 0xC, 0x0, 1, [⟨0, 0, .rw, 1, false⟩]⟩]

/-- The pending-bit array words (R426). -/
def pbaRegs : List RegDef := [⟨"PBA", 0x0, 0x0, 1, [⟨31, 0, .ro, 0, false⟩]⟩]

/-- The registers of a page beside the common header (R411, R427). -/
def pageRegs (p : Page) (n : Nat) : List RegDef :=
  match p with
  | .dev => devRegs
  | .clk => clkRegs
  | .pwr => pwrRegs
  | .time => timeRegs
  | .chk => chkRegs
  | .trg => if n = 0 then trg0Regs else if n = 1 then trg1Regs else if n = 2 then trg2Regs else if n = 3 then trg3Regs else []
  | .shot => shotRegs
  | .gate => gateRegs
  | .brg => brgRegs
  | .slice => if n = 32 then sliceRegs ++ slice32Regs else sliceRegs
  | .ladle => if n = 0 then ladle0Regs ++ ladleRegs else ladleRegs
  | .qd => qdRegs
  | .pour => if n = 0 then pour0Regs else []
  | .ring => ringRegs
  | .seam => seamRegs
  | .mould => mouldRegs
  | .hbm => hbmRegs
  | .pex => pexRegs
  | .cam => camRegs
  | .msix => msixRegs
  | .pba => pbaRegs

/-- Offset o is one of the copies of the register row r. -/
def RegDef.covers (r : RegDef) (o : Nat) : Bool :=
  if r.count = 1 then o == r.off
  else r.off ≤ o && (o - r.off) % r.stride == 0 && (o - r.off) / r.stride < r.count

/-- The register row at an offset of a page: the common header (R414) below 0x100 in a page that has one, then the
page's own rows. -/
def regAt (p : Page) (n o : Nat) : Option RegDef :=
  let own := (pageRegs p n).find? (fun r => r.covers o)
  match own with
  | some r => some r
  | none => if (blockType p).isSome && o < 0x100 then hdrRegs.find? (fun r => r.covers o) else none

/-- The fields of the register at a BAR0 word address; none where nothing is defined (R412). -/
def fieldsAt (a : Nat) : List FieldDef :=
  match locate a with
  | none => []
  | some (p, n, o) => match regAt p n o with | some r => r.fields | none => []

/-- The word that a list of field rows gives at reset. -/
def resetOf (fs : List FieldDef) : Nat := fs.foldl (fun acc f => acc + f.reset * 2 ^ f.lo) 0

/-- The word at a BAR0 word address after PORESET_N: the Reset column of its fields (R11), with the identification
(R411), serial number (R424), domain state (R407) and fault classes (R355) of the page. -/
def resetWord (a : Nat) : Word :=
  match locate a with
  | none => 0
  | some (p, n, o) =>
    if (blockType p).isSome && o = 0 then BitVec.ofNat 32 (pageId p n)
    else if (blockType p).isSome && o = 0x38 then BitVec.ofNat 32 (classReset p n 0)
    else if (blockType p).isSome && o = 0x3C then BitVec.ofNat 32 (classReset p n 1)
    else if p = .dev && o = 0x100 then Config.serial.extractLsb' 0 32
    else if p = .dev && o = 0x104 then Config.serial.extractLsb' 32 32
    else if p = .pwr && o = 0x168 then 0x3F
    else match regAt p n o with | some r => BitVec.ofNat 32 (resetOf r.fields) | none => 0

end Sys2Proof.Machine
end

