-- ==== Sys2Proof/Machine/Symbols.lean ====
section
/-!
DEFINITION. The symbol layer of the lanes: 8b/10b code groups, 40-bit words, what a word holds at an offset, and the raw
bit patterns (R40, R41, R61, R72, R73, R431, R432).

R431 takes the code groups from the ANSI Fibre Channel physical standard; the tables here are that standard's, whose text
is not in the specification (log entry 48).
-/

namespace Sys2Proof.Machine

/-! ### Code groups (R431) -/

/-- A symbol: a data byte, or the special code group of that byte value (K28.5 is 0xBC). -/
structure Sym where
  special : Bool
  byte : Nat
deriving DecidableEq, Repr

def k28_0 : Nat := 0x1C
def k28_2 : Nat := 0x5C
def k28_3 : Nat := 0x7C
def k28_5 : Nat := 0xBC
def k23_7 : Nat := 0xF7
def k27_7 : Nat := 0xFB
def k29_7 : Nat := 0xFD
def k30_7 : Nat := 0xFE

/-- The twelve special code groups. -/
def specialBytes : List Nat := [0x1C, 0x3C, 0x5C, 0x7C, 0x9C, 0xBC, 0xDC, 0xFC, 0xF7, 0xFB, 0xFD, 0xFE]

/-- Bits a to i of data D.x at negative running disparity, written with bit a first. -/
def sixTable : List Nat :=
  [0b100111, 0b011101, 0b101101, 0b110001, 0b110101, 0b101001, 0b011001, 0b111000,
   0b111001, 0b100101, 0b010101, 0b110100, 0b001101, 0b101100, 0b011100, 0b010111,
   0b011011, 0b100011, 0b010011, 0b110010, 0b001011, 0b101010, 0b011010, 0b111010,
   0b110011, 0b100110, 0b010110, 0b110110, 0b001110, 0b101110, 0b011110, 0b101011]

/-- Bits f to j of data D.x.y at negative running disparity, written with bit f first. -/
def fourTable : List Nat := [0b1011, 0b1001, 0b0101, 0b1100, 0b1101, 0b1010, 0b0110, 0b1110]

/-- Bits f to j of K28.y at negative running disparity, written with bit f first. -/
def fourSpecial : List Nat := [0b1011, 0b0110, 0b1010, 0b1100, 0b1101, 0b0101, 0b1001, 0b0111]

/-- The ones among n bits are as many as the zeros. -/
def balanced (n v : Nat) : Bool := 2 * popCount v n == n

/-- Running disparity after a sub-block of n bits (true: positive). -/
def disparityAfter (n v : Nat) (rd : Bool) : Bool :=
  if balanced n v then rd else decide (n < 2 * popCount v n)

/-- The six bits of a symbol's low five bits at a running disparity, bit a first. -/
def sixBits (special : Bool) (x : Nat) (rd : Bool) : Nat :=
  let v := if special && x == 28 then 0b001111 else sixTable.getD x 0
  if rd && (!balanced 6 v || x == 7) then 63 - v else v

/-- The four bits of a symbol's high three bits at a running disparity, bit f first: D.x.A7 where D.x.P7 would make a run
of five. -/
def fourBits (special : Bool) (x y : Nat) (rd : Bool) : Nat :=
  if special then
    let v := fourSpecial.getD y 0
    if rd then 15 - v else v
  else if y = 7 && (if rd then [11, 13, 14].contains x else [17, 18, 20].contains x) then (if rd then 0b1000 else 0b0111)
  else
    let v := fourTable.getD y 0
    if rd && (!balanced 4 v || y == 3) then 15 - v else v

/-- n bits in reverse order: a code group written with its first bit first, as a number whose bit 0 is the first bit. -/
def firstLowest (n v : Nat) : Nat := (List.range n).foldl (fun acc i => acc * 2 + v / 2 ^ i % 2) 0

/-- The code group of a symbol at a running disparity, bit a in bit 0, and the running disparity after it. -/
def encodeSym (s : Sym) (rd : Bool) : Nat × Bool :=
  let x := s.byte % 32
  let six := sixBits s.special x rd
  let mid := disparityAfter 6 six rd
  let four := fourBits s.special x (s.byte / 32) mid
  (firstLowest 6 six + 64 * firstLowest 4 four, disparityAfter 4 four mid)

/-- The symbol whose code group at a running disparity is given; none where there is none. -/
def symAt (code : Nat) (rd : Bool) : Option Sym :=
  match specialBytes.find? (fun b => (encodeSym ⟨true, b⟩ rd).1 == code) with
  | some b => some ⟨true, b⟩
  | none =>
    (List.range 32).findSome? (fun x =>
      if firstLowest 6 (sixBits false x rd) == code % 64 then
        ((List.range 8).find? (fun y => (encodeSym ⟨false, x + 32 * y⟩ rd).1 == code)).map (fun y => ⟨false, x + 32 * y⟩)
      else none)

/-- How a received code group decodes: its symbol, none where it is no code group; wrong running disparity; and the
running disparity after it. -/
structure Decoded where
  sym : Option Sym
  disp : Bool
  rd : Bool
deriving DecidableEq, Repr

/-- A received code group at a running disparity; none: not known yet, and either fits (R41). -/
def decodeGroup (code : Nat) (rd : Option Bool) : Decoded :=
  let r := rd.getD false
  let after := disparityAfter 10 code r
  match symAt code r with
  | some s => ⟨some s, false, (encodeSym s r).2⟩
  | none =>
    match symAt code (!r) with
    | some s => ⟨some s, rd.isSome, (encodeSym s (!r)).2⟩
    | none => ⟨none, false, after⟩

/-- Code groups of a run of symbols. -/
def encodeAll (rd : Bool) : List Sym → List Nat
  | [] => []
  | s :: t => let e := encodeSym s rd; e.1 :: encodeAll e.2 t

/-- A run of code groups as received. -/
def decodeAll (rd : Option Bool) : List Nat → List Decoded
  | [] => []
  | c :: t => let d := decodeGroup c rd; d :: decodeAll (some d.rd) t

/-! ### Words (R41, R72, R73, R431) -/

/-- The 10 bits of a two-word stretch from a bit offset: bit a at the offset (R431). -/
def groupAt (w next : BitVec 40) (o : Nat) : Nat := (w.toNat + 2 ^ 40 * next.toNat) / 2 ^ o % 1024

/-- The first bit offset of the word at which a comma K28.5 begins, of either running disparity (R41). -/
def commaIn (w next : BitVec 40) : Option Nat :=
  (List.range 40).find? (fun o =>
    groupAt w next o == (encodeSym ⟨true, k28_5⟩ false).1 || groupAt w next o == (encodeSym ⟨true, k28_5⟩ true).1)

/-- The four symbols of the aligned word at an offset (R41, R431). -/
def alignedWord (w next : BitVec 40) (o : Nat) (rd : Option Bool) : List Decoded :=
  decodeAll rd ((List.range 4).map (fun k => groupAt w next (o + 10 * k)))

/-- A special code group that R72 allows on a data lane. -/
def laneSpecial (b : Nat) : Bool := [k28_5, k27_7, k29_7, k30_7, k28_3, k23_7].contains b

/-- A symbol is the special code group b. -/
def Decoded.isK (d : Decoded) (b : Nat) : Bool := d.sym == some ⟨true, b⟩

/-- What an aligner sees of a word. -/
structure WordReport where
  /-- First offset of a comma in the word. -/
  comma : Option Nat
  /-- The symbol at the aligner's own offset is a comma. -/
  here : Bool
  /-- Symbols that are no code group, and symbols of wrong running disparity (R41). -/
  codeErr : Nat
  dispErr : Nat
  /-- Data symbols outside a packet and outside a training burst (R403). -/
  data : Nat
  /-- Special code groups outside a packet that R72 does not allow on a data lane (R73). -/
  badSpecial : Nat
  /-- A symbol other than K28.5 and K23.7 (R403). -/
  other : Bool
  /-- Running disparity after the word. -/
  rd : Bool
deriving DecidableEq, Repr

/-- The symbols of an aligned word that stand outside packets and bursts; `inside`: the word begins in one, whose end
K29.7 or K30.7 may be among its symbols. -/
def outsideSyms (inside : Bool) : List Decoded → List Decoded
  | [] => []
  | d :: t =>
    if inside then outsideSyms (!(d.isK k29_7 || d.isK k30_7)) t
    else if d.isK k27_7 || d.isK k28_3 then outsideSyms true t
    else d :: outsideSyms false t

/-- What an aligner with candidate or stored offset o sees of a word and the word behind it. -/
def reportWord (w next : BitVec 40) (o : Nat) (rd : Option Bool) (inside : Bool) : WordReport :=
  let l := alignedWord w next o rd
  let out := outsideSyms inside l
  { comma := commaIn w next
    here := match l with | d :: _ => d.isK k28_5 | [] => false
    codeErr := (l.filter (fun d => d.sym.isNone)).length
    dispErr := (l.filter (fun d => d.disp)).length
    data := (out.filter (fun d => match d.sym with | some s => !s.special | none => false)).length
    badSpecial := (out.filter (fun d => match d.sym with | some s => s.special && !laneSpecial s.byte | none => false)).length
    other := l.any (fun d => !(d.isK k28_5 || d.isK k23_7))
    rd := match l.getLast? with | some d => d.rd | none => false }

/-! ### Raw patterns (R61, R64, R84, R432) -/

/-- n and m of a PRBS pattern: 1 PRBS-7, 2 PRBS-15, 3 PRBS-31. -/
def prbsTaps (pattern : Nat) : Nat × Nat := if pattern = 1 then (7, 6) else if pattern = 2 then (15, 14) else (31, 28)

/-- One step of the generator of x^n + x^m + 1 on a state: the output bit, and the state with a bit shifted in. -/
def prbsNext (n m x : Nat) : Nat := (x / 2 ^ (n - 1) + x / 2 ^ (m - 1)) % 2

/-- The state with a bit shifted in. -/
def prbsShift (n x b : Nat) : Nat := (x * 2 + b) % 2 ^ n

/-- One step of the generator (R432): the output bit and the next state. -/
def prbsStep (n m x : Nat) : Nat × Nat := (x / 2 ^ (n - 1) % 2, prbsShift n x (prbsNext n m x))

/-- The first k bits that the generator sends from a state. -/
def prbsBits (n m : Nat) : Nat → Nat → List Bool
  | 0, _ => []
  | k + 1, x => let r := prbsStep n m x; (r.1 == 1) :: prbsBits n m k r.2

/-- A raw pattern checker (R61): its register, the bits taken in since it last seeded itself (up to n), the error-free run
while not locked, and the errors among the last bits while locked, newest first. -/
structure Checker where
  reg : Nat := 0
  seen : Nat := 0
  run : Nat := 0
  win : List Bool := []
  locked : Bool := false
  /-- Bit errors counted while locked. -/
  errs : Nat := 0
deriving DecidableEq, Repr

/-- The checker takes in one received bit (R61). The register holds the last n bits sent, so the bit it predicts is the one
that R432 shifts in. It seeds itself with received bits; the register of zeros, which no generator reaches, predicts
nothing (log entry 49). -/
def Checker.take (n m : Nat) (k : Checker) (bit : Bool) : Checker :=
  let p := prbsNext n m k.reg
  let bad := p != b2n bit
  if k.locked then
    let win := (bad :: k.win).take 1024
    if 64 ≤ (win.filter id).length then { errs := k.errs + b2n bad }
    else { k with reg := prbsShift n k.reg p, win := win, errs := k.errs + b2n bad }
  else
    let reg := prbsShift n k.reg (b2n bit)
    if k.seen < n then { k with reg := reg, seen := k.seen + 1 }
    else
      let run := if bad || k.reg == 0 then 0 else k.run + 1
      if run = 1024 then { k with reg := reg, run := 0, win := [], locked := true } else { k with reg := reg, run := run }

end Sys2Proof.Machine
end

