-- ==== Sys2Proof/Machine/Coder.lean ====
section
/-!
DEFINITION. The residual coder: prediction, mapping, segments and choice of form, and its decoder (R194 to R198).
-/

namespace Sys2Proof.Machine

/-- The prediction of R195 for a sample, from the line above (none: absent), the sample s to the left on the same line
(none: x < s), and the position of the sample. -/
def predict (bc s : Nat) (above : Option (List Nat)) (left : Option Nat) (x : Nat) : Nat :=
  match left, above with
  | none, some a => a.getD x 0
  | none, none => 2 ^ (bc - 1)
  | some l, none => l
  | some l, some a =>
    let n := a.getD x 0
    let c := a.getD (x - s) 0
    if max l n ≤ c then min l n else if c ≤ min l n then max l n else l + n - c

/-- The sample s to the left of x on a line; none for x < s. -/
def leftOf (s : Nat) (l : List Nat) (x : Nat) : Option Nat := if x < s then none else some (l.getD (x - s) 0)

/-- The mapped residual of a sample v against its prediction p (R195). -/
def mapResidual (bc v p : Nat) : Nat :=
  let r := sext bc ((v + 2 ^ bc - p % 2 ^ bc) % 2 ^ bc)
  if r ≥ 0 then (2 * r).toNat else (-2 * r - 1).toNat

/-- The sample that a mapped residual m gives against the prediction p (R198). -/
def unmapResidual (bc m p : Nat) : Nat :=
  let r : Int := if m % 2 = 1 then -(((m + 1) / 2 : Nat) : Int) else ((m / 2 : Nat) : Int)
  toBits bc ((p : Int) + r)

/-- n bits of v, most significant first (R196). -/
def bitsMsb (n v : Nat) : List Bool := ((List.range n).map (bitOf v)).reverse

/-- The number that bits spell, most significant first. -/
def bitsNat (l : List Bool) : Nat := l.foldl (fun acc b => 2 * acc + b2n b) 0

/-- The Rice code of a mapped residual (R196). -/
def riceCode (bc k m : Nat) : List Bool :=
  if m / 2 ^ k < 24 then List.replicate (m / 2 ^ k) false ++ [true] ++ bitsMsb k m
  else List.replicate 24 false ++ bitsMsb bc m

/-- The bit cost of one Rice code (R197). -/
def riceCost (bc k m : Nat) : Nat := if m / 2 ^ k < 24 then m / 2 ^ k + 1 + k else 24 + bc

/-- The bit cost of a segment at a parameter k (R197). -/
def segCost (bc k : Nat) (ms : List Nat) : Nat := 5 + (ms.map (riceCost bc k)).sum

/-- The parameter of least cost below n, the smaller at a tie (R197). -/
def bestRice (bc : Nat) (ms : List Nat) : Nat → Nat
  | 0 => 0
  | n + 1 => if segCost bc n ms < segCost bc (bestRice bc ms n) ms then n else bestRice bc ms n

/-- The bits of one segment of samples and mapped residuals (R196, R197). -/
def codeSegment (bc : Nat) (seg : List (Nat × Nat)) : List Bool :=
  let ms := seg.map Prod.snd
  let k := bestRice bc ms bc
  if 1 + seg.length * bc ≤ segCost bc k ms then [false] ++ (seg.map (fun p => bitsMsb bc p.1)).flatten
  else [true] ++ bitsMsb 4 k ++ (ms.map (riceCode bc k)).flatten

/-- Bytes from bits, filled from bit 7 down, the last byte with zeros (R196). -/
def packMsb (l : List Bool) : List Byte :=
  (chunks 8 l).map (fun c => BitVec.ofNat 8 (bitsNat (c ++ List.replicate (8 - c.length) false)))

/-- Bits of bytes, bit 7 first. -/
def unpackMsb (l : List Byte) : List Bool := (l.map (fun b => bitsMsb 8 b.toNat)).flatten

/-- A coded line (R194 to R197): bc bits a sample, s = 2 for Bayer formats and 1 else, and the line above, if any. -/
def codeLine (bc s : Nat) (above : Option (List Nat)) (l : List Nat) : List Byte :=
  let ms := (List.range l.length).map (fun x => mapResidual bc (l.getD x 0) (predict bc s above (leftOf s l x) x))
  packMsb (((chunks 32 (l.zip ms)).map (codeSegment bc)).flatten)

/-- Count zeros of a Rice code up to 24, and what follows it (R198); none at the end of the bits. -/
def readUnary : Nat → List Bool → Option (Nat × List Bool)
  | 0, l => some (0, l)
  | _ + 1, [] => none
  | n + 1, b :: t =>
    if b then some (0, t)
    else match readUnary n t with
      | some (q, r) => some (q + 1, r)
      | none => none

/-- The next n bits as a number; none when fewer are left. -/
def readBits (n : Nat) (l : List Bool) : Option (Nat × List Bool) :=
  if l.length < n then none else some (bitsNat (l.take n), l.drop n)

/-- One sample in a segment of a form (none raw, some k Rice): its value and what follows it. -/
def readSample (bc s : Nat) (above : Option (List Nat)) (form : Option Nat) (done : List Nat) (l : List Bool) :
    Option (Nat × List Bool) :=
  match form with
  | none => readBits bc l
  | some k =>
    match readUnary 24 l with
    | none => none
    | some (q, r) =>
      match (if q = 24 then readBits bc r else readBits k r) with
      | none => none
      | some (v, r) =>
        let m := if q = 24 then v else q * 2 ^ k + v
        let x := done.length
        some (unmapResidual bc m (predict bc s above (leftOf s done x) x), r)

/-- Decode n more samples; `left` samples remain in the segment of the form given. -/
def decodeFrom (bc s : Nat) (above : Option (List Nat)) :
    Nat → Nat → Option Nat → List Nat → List Bool → Option (List Nat × List Bool)
  | 0, _, _, done, l => some (done, l)
  | n + 1, left, form, done, l =>
    let head : Option (Nat × Option Nat × List Bool) :=
      if left > 0 then some (left, form, l)
      else match readBits 1 l with
        | none => none
        | some (0, r) => some (32, none, r)
        | some (_, r) => match readBits 4 r with
          | none => none
          | some (k, r) => some (32, some k, r)
    match head with
    | none => none
    | some (left, form, l) =>
      match readSample bc s above form done l with
      | none => none
      | some (v, r) => decodeFrom bc s above n (left - 1) form (done ++ [v]) r

/-- Decode a coded line of w samples (R198): none when the bytes do not decode to exactly w samples (R163). -/
def decodeLine (bc s w : Nat) (above : Option (List Nat)) (bytes : List Byte) : Option (List Nat) :=
  match decodeFrom bc s above w 0 none [] (unpackMsb bytes) with
  | some (l, rest) => if rest.length < 8 then some l else none
  | none => none

/-- The bound of R198 on the bytes of a coded line. -/
def codedBound (w bc : Nat) : Nat := ceilDiv (w * bc * 103) 800

end Sys2Proof.Machine
end

