-- ==== Sys2Proof/Machine/Pixels.lean ====
section
/-!
DEFINITION. Pixel formats, payload packing and expected lengths (R80, R81).
-/

namespace Sys2Proof.Machine

/-- Pixel bits of a format code of R80; none for a code outside it. -/
def fmtBits (f : Nat) : Option Nat :=
  if f = 1 then some 8 else if f = 2 then some 10 else if f = 3 then some 12 else if f = 4 then some 16
  else if 0x10 ≤ f && f ≤ 0x13 then some 8 else if 0x14 ≤ f && f ≤ 0x17 then some 10
  else if 0x18 ≤ f && f ≤ 0x1B then some 12 else none

/-- Pixel bits of a format; 8 for a code outside R80, with which no port runs (R130). -/
def bitsOf (f : Nat) : Nat := (fmtBits f).getD 8

/-- The format is one of the Bayer formats (R80). -/
def isBayer (f : Nat) : Bool := decide (0x10 ≤ f && f ≤ 0x1B)

/-- u of the window rules and s of the coder: 2 for Bayer formats, 1 for MONO (R187, R195). -/
def cellStep (f : Nat) : Nat := if isBayer f then 2 else 1

/-- The expected payload E of a line of w pixels of b bits (R81). -/
def expectedBytes (w b : Nat) : Nat := ceilDiv (w * b) 8

/-- w pixels of b bits from a payload (R81): pixel j of a group takes bits b·j up of the little-endian group value, and the
groups follow each other, so pixel i takes bits b·i up of the payload's little-endian value. -/
def unpackPixels (w b : Nat) (l : List Byte) : List Nat :=
  (List.range w).map (fun i =>
    let bit := b * i
    leAt l (bit / 8) 3 / 2 ^ (bit % 8) % 2 ^ b)

/-- Pixels of b bits packed into a payload (R81, R189). -/
def packPixels (b : Nat) (l : List Nat) : List Byte :=
  let bits := (l.map (fun v => (List.range b).map (bitOf v))).flatten
  (chunks 8 bits).map (fun c => BitVec.ofNat 8 (c.foldr (fun x acc => b2n x + 2 * acc) 0))

/-- The number of complete pixels in n payload bytes. -/
def completePixels (n b : Nat) : Nat := 8 * n / b

end Sys2Proof.Machine
end

