-- ==== Sys2Proof/Machine/Correct.lean ====
section
/-!
DEFINITION. The correction stages on one line: defect lists, fettle, flat-field gain and black level (R174 to R186).
-/

namespace Sys2Proof.Machine

/-! ### Defect lists (R174) -/

/-- KIND of a defect entry. -/
inductive DefectKind | pixel | column | line
deriving DecidableEq, Repr

/-- An entry of a defect list. -/
structure Defect where
  x : Nat
  y : Nat
  kind : DefectKind
  method : Nat
deriving DecidableEq, Repr

/-- The entry that 8 bytes spell; none when a field breaks R174. -/
def parseDefect (l : List Byte) : Option Defect :=
  let x := leAt l 0 2
  let kind := byteAt l 5
  if 2 ^ 14 ≤ x || 3 ≤ kind || 4 ≤ byteAt l 6 || byteAt l 7 ≠ 0 then none
  else some ⟨x, leAt l 2 3, if kind = 0 then .pixel else if kind = 1 then .column else .line, byteAt l 6⟩

/-- The place of an entry in the order of R174: columns first by X, then lines and pixels by (Y, X), a line before the
pixels of its Y. -/
def Defect.rank (d : Defect) : Nat :=
  match d.kind with
  | .column => d.x
  | .line => 2 ^ 14 + d.y * 2 ^ 15
  | .pixel => 2 ^ 14 + d.y * 2 ^ 15 + 1 + d.x

/-- Entries in strictly ascending order. -/
def ascending : List Defect → Bool
  | [] => true
  | d :: t => (match t with | [] => true | e :: _ => decide (d.rank < e.rank)) && ascending t

/-- The entries of a list; none for an entry that does not parse. -/
def parseDefects (l : List Byte) : List (Option Defect) := (chunks 8 l).map parseDefect

/-- A defect list is in order (R174). -/
def defectsOk (l : List Byte) : Bool :=
  let ds := parseDefects l
  let es := ds.filterMap id
  ds.all Option.isSome && ascending es && decide ((es.filter (fun d => d.kind == .column)).length ≤ 256)

/-- The method by which the list replaces a pixel, none where no entry covers it (R178). -/
def listMethod (ds : List Defect) (x y : Nat) : Option Nat :=
  if ds.any (fun d => d.kind == .line && d.y == y) then some 3
  else if ds.any (fun d => d.kind == .column && d.x == x) then some 0
  else (ds.find? (fun d => d.kind == .pixel && d.x == x && d.y == y)).map (fun d => d.method)

/-! ### Fettle (R177 to R180) -/

/-- What fettle works on: the lines of the frame that have entered it (none outside the frame), whether one is PADDED,
the list in use, and the dynamic thresholds (both 0: detection off). -/
structure FettleIn where
  bayer : Bool
  w : Nat
  rows : Nat → Option (List Nat)
  padded : Nat → Bool
  defects : List Defect
  dynEn : Bool
  hot : Nat
  cold : Nat

/-- The pixel at a signed position, where the line has entered and is not PADDED. -/
def FettleIn.pixel (f : FettleIn) (x y : Int) : Option Nat :=
  if x < 0 || (f.w : Int) ≤ x || y < 0 then none
  else match f.rows y.toNat with
    | some l => if f.padded y.toNat then none else some (l.getD x.toNat 0)
    | none => none

/-- A neighbour's value for detection: inside, not PADDED and covered by no entry (R180). -/
def FettleIn.listed (f : FettleIn) (x y : Int) : Bool := (listMethod f.defects x.toNat y.toNat).isSome

/-- A pixel is flagged by dynamic detection (R180). -/
def FettleIn.dynamic (f : FettleIn) (x y : Nat) : Bool :=
  if !f.dynEn || f.listed x y then false
  else match f.pixel x y with
    | none => false
    | some p =>
      let d : Int := if f.bayer then 2 else 1
      let around : List (Int × Int) := [(-d, -d), (0, -d), (d, -d), (-d, 0), (d, 0), (-d, d), (0, d), (d, d)]
      let vals := around.filterMap (fun o =>
        let u := (x : Int) + o.1
        let v := (y : Int) + o.2
        match f.pixel u v with
        | some q => if f.listed u v then none else some q
        | none => none)
      if vals.length < 5 then false
      else
        let hi := vals.foldl max 0
        let lo := vals.foldl min (vals.headD 0)
        (f.hot != 0 && decide (hi + f.hot < p)) || (f.cold != 0 && decide (p + f.cold < lo))

/-- A neighbour's value for replacement, none where it is unusable (R177). -/
def FettleIn.neighbour (f : FettleIn) (x y : Int) : Option Nat :=
  match f.pixel x y with
  | some q => if f.listed x y || f.dynamic x.toNat y.toNat then none else some q
  | none => none

/-- Ascending order of numbers. -/
def sortNat (l : List Nat) : List Nat :=
  l.foldr (fun v acc => acc.takeWhile (fun u => u < v) ++ v :: acc.dropWhile (fun u => u < v)) []

/-- The value of usable neighbours under a method, none with no usable one (R179). -/
def replaceValue (vals : List Nat) : Option Nat :=
  let s := sortNat vals
  match s with
  | [] => none
  | [a] => some a
  | [a, b] => some ((a + b + 1) / 2)
  | [_, b, _] => some b
  | _ => some ((s.getD 1 0 + s.getD 2 0 + 1) / 2)

/-- The neighbours that a method uses (R179). -/
def FettleIn.methodValues (f : FettleIn) (method x y : Nat) : List Nat :=
  let d : Int := if f.bayer then 2 else 1
  let left := f.neighbour (x - d) y
  let right := f.neighbour (x + d) y
  let above := f.neighbour x (y - d)
  let below := f.neighbour x (y + d)
  let l := if method = 0 then [left, right] else if method = 1 then [left, right, above, below]
    else if method = 2 then [left] else [above, below]
  l.filterMap id

/-- The outcome of fettle at a pixel: its value and what it adds to FT_FIXED, FT_DYN and FT_UNFIXED (R178, R180). -/
def FettleIn.fix (f : FettleIn) (dynMethod x y : Nat) : Nat × Nat × Nat × Nat :=
  let p := (f.pixel x y).getD 0
  match listMethod f.defects x y with
  | some m =>
    match replaceValue (f.methodValues m x y) with
    | some v => (v, 1, 0, 0)
    | none => (p, 0, 0, 1)
  | none =>
    if f.dynamic x y then
      match replaceValue (f.methodValues dynMethod x y) with
      | some v => (v, 0, 1, 0)
      | none => (p, 0, 1, 1)
    else (p, 0, 0, 0)

/-! ### Flat-field and black level (R182 to R184) -/

/-- Geometry of a grid bank (R185). -/
structure GridGeom where
  gx : Nat
  gy : Nat
  sx : Nat
  sy : Nat
deriving DecidableEq, Repr

/-- Bytes of a grid bank (R184). -/
def GridGeom.bytes (g : GridGeom) (bayer : Bool) : Nat := (if bayer then 8 else 2) * g.gx * g.gy

/-- The gain of a grid (R184); a knot that cannot be read gives gain 1.0 to the pixels that need it (R186). `knot` reads
knot (i, j) of the pixel's plane. -/
def gridGain (g : GridGeom) (knot : Nat → Nat → Option Nat) (xp yp : Nat) : Nat :=
  let xc := min xp ((g.gx - 1) * 2 ^ g.sx)
  let i := min (xc / 2 ^ g.sx) (g.gx - 2)
  let fx := xc - i * 2 ^ g.sx
  let yc := min yp ((g.gy - 1) * 2 ^ g.sy)
  let j := min (yc / 2 ^ g.sy) (g.gy - 2)
  let fy := yc - j * 2 ^ g.sy
  match knot i j, knot (i + 1) j, knot i (j + 1), knot (i + 1) (j + 1) with
  | some a, some b, some c, some d =>
    let top := a * (2 ^ g.sx - fx) + b * fx
    let bot := c * (2 ^ g.sx - fx) + d * fx
    (top * (2 ^ g.sy - fy) + bot * fy + 2 ^ (g.sx + g.sy - 1)) / 2 ^ (g.sx + g.sy)
  | _, _, _, _ => 0x1000

/-- The phase of a pixel (R183). -/
def phaseOf (bayer : Bool) (x y : Nat) : Nat := if bayer then y % 2 * 2 + x % 2 else 0

/-- Black level and gain on one pixel (R183). -/
def flatPixel (b gain : Nat) (off bl : Int) (p : Nat) : Nat :=
  let t := (((p : Int) - bl) * gain + 2048) / 4096
  (clampI (t + off) 0 ((2 ^ b : Nat) - 1)).toNat

end Sys2Proof.Machine
end

