-- ==== Sys2Proof/Machine/WindowMath.lean ====
section
/-!
DEFINITION. Windows: geometry, validity, binning, decimation and output samples (R187 to R190), and the statistics of a
frame (R248 to R250).
-/

namespace Sys2Proof.Machine

/-- One window of a set (R200). -/
structure Win where
  j : Nat
  x0 : Nat
  width : Nat
  y0 : Nat
  height : Nat
  code : Nat
  outFmt : Nat
  decY : Nat
  decX : Nat
  mean : Bool
  binY : Nat
  binX : Nat
  prio : Nat
  queue : Nat
deriving DecidableEq, Repr

/-- Binning factors (R187). -/
def Win.bx (w : Win) : Nat := 2 ^ w.binX
def Win.by_ (w : Win) : Nat := 2 ^ w.binY
/-- Decimation factors (R187). -/
def Win.dx (w : Win) : Nat := w.decX + 1
def Win.dy (w : Win) : Nat := w.decY + 1

/-- The conditions of R187 but the one on OUT_FMT and CODE, for a frame of w × h pixels of a format (R193). -/
def Win.fits (v : Win) (w h fmt : Nat) : Bool :=
  let u := cellStep fmt
  decide (v.x0 + v.width ≤ w) && decide (v.y0 + v.height ≤ h) &&
  v.width != 0 && v.width % (u * v.bx) == 0 && v.height != 0 && v.height % (u * v.by_) == 0 &&
  (!isBayer fmt || (v.x0 % 2 == 0 && v.y0 % 2 == 0))

/-- A window is valid for commit (R187). -/
def Win.valid (v : Win) (w h fmt : Nat) : Bool := v.fits w h fmt && v.outFmt != 3 && v.code != 3

/-- Output width and height (R188). -/
def Win.wo (v : Win) (fmt : Nat) : Nat := cellStep fmt * ceilDiv v.width (cellStep fmt * v.bx * v.dx)
def Win.ho (v : Win) (fmt : Nat) : Nat := cellStep fmt * ceilDiv v.height (cellStep fmt * v.by_ * v.dy)

/-- Width bo of a binned sample (R188). -/
def Win.bo (v : Win) (fmt : Nat) : Nat :=
  if v.mean || v.binX + v.binY = 0 then bitsOf fmt else min 16 (bitsOf fmt + v.binX + v.binY)

/-- Width bc of the coder's samples (R189). -/
def Win.bc (v : Win) (fmt : Nat) : Nat := if v.outFmt = 1 then 8 else v.bo fmt

/-- Payload bytes per output line as admission counts them (R189). -/
def Win.lineBytes (v : Win) (fmt : Nat) : Nat :=
  let wo := v.wo fmt
  if v.code != 0 then codedBound wo (v.bc fmt)
  else if v.outFmt = 0 then 2 * wo else if v.outFmt = 1 then wo else ceilDiv (wo * v.bo fmt) 8

/-- The sample value of n binned pixels with a sum (R188). -/
def Win.sample (v : Win) (fmt sum : Nat) : Nat :=
  let n := v.bx * v.by_
  if n = 1 then sum
  else if v.mean then (sum + n / 2) / n
  else min sum (2 ^ v.bo fmt - 1)

/-- First input line of each of the `by` input lines of output line r, and the step between them (R188): for Bayer
formats, lines of one colour in a cell block. -/
def Win.inputLines (v : Win) (fmt r : Nat) : List Nat :=
  let u := cellStep fmt
  let cell := r / u * v.dy
  (List.range v.by_).map (fun m => v.y0 + u * (cell * v.by_ + m) + r % u)

/-- The last input line that contributes to output line r (R190). -/
def Win.lastInput (v : Win) (fmt r : Nat) : Nat := (v.inputLines fmt r).getLastD 0

/-- The binned and decimated samples of output line r from the input lines that contribute to it (R188). -/
def Win.samples (v : Win) (fmt : Nat) (lines : List (List Nat)) : List Nat :=
  let u := cellStep fmt
  (List.range (v.wo fmt)).map (fun i =>
    let cell := i / u * v.dx
    let cols := (List.range v.bx).map (fun m => v.x0 + u * (cell * v.bx + m) + i % u)
    v.sample fmt ((lines.map (fun l => (cols.map (fun x => l.getD x 0)).sum)).sum))

/-- The output sample of a value under OUT_FMT (R189). -/
def Win.outSample (v : Win) (fmt x : Nat) : Nat :=
  let bo := v.bo fmt
  if v.outFmt = 1 && 8 < bo then min 255 ((x + 2 ^ (bo - 9)) / 2 ^ (bo - 8)) else x

/-- The payload of an output line (R189, R194): `above` is the line above in chained mode. -/
def Win.payload (v : Win) (fmt : Nat) (above : Option (List Nat)) (out : List Nat) : List Byte :=
  if v.code != 0 then codeLine (v.bc fmt) (cellStep fmt) above out
  else if v.outFmt = 0 then (out.map (leBytes 2)).flatten
  else if v.outFmt = 1 then (out.map (leBytes 1)).flatten
  else packPixels (v.bo fmt) out

/-- SAMPLE of the packet header (R261). -/
def Win.sampleField (v : Win) (fmt : Nat) : Nat :=
  v.outFmt + 16 * ((if v.code != 0 then v.bc fmt else if v.outFmt = 1 then 8 else v.bo fmt) - 1)

/-! ### Statistics of a frame (R248, R250) -/

/-- The region of interest, clipped to the frame (R248). -/
structure Roi where
  x0 : Nat
  y0 : Nat
  rw : Nat
  rh : Nat
deriving DecidableEq, Repr

/-- The pixels of the region with their positions, from corrected lines with their numbers and PADDED flags. -/
def Roi.pixels (r : Roi) (lines : List (Nat × Bool × List Nat)) : List (Nat × Nat × Nat) :=
  (lines.map (fun p =>
    if p.2.1 || p.1 < r.y0 || r.y0 + r.rh ≤ p.1 then []
    else (List.range r.rw).map (fun i => (r.x0 + i, p.1, p.2.2.getD (r.x0 + i) 0)))).flatten

/-- The payload of a statistics packet after its record (R250). -/
def statPayload (bayer : Bool) (b : Nat) (partial_ : Bool) (r : Roi) (lines : List (Nat × Bool × List Nat)) : List Byte :=
  let px := r.pixels lines
  let vals := px.map (fun p => p.2.2)
  let n := vals.length
  let used := (lines.filter (fun p => r.rw != 0 && !p.2.1 && decide (r.y0 ≤ p.1 && p.1 < r.y0 + r.rh))).map (fun p => p.1)
  let pads := (lines.filter (fun p => p.2.1 && decide (r.y0 ≤ p.1 && p.1 < r.y0 + r.rh))).length
  let top := 2 ^ b - 1
  let sumPhase (k : Nat) : Nat := ((px.filter (fun p => phaseOf bayer p.1 p.2.1 == k)).map (fun p => p.2.2)).sum
  let sumsq := (vals.map (fun v => v * v)).sum
  let hist (k : Nat) : Nat := (vals.filter (fun v => v / 2 ^ (b - 8) == k)).length
  let histSat := (List.range 256).any (fun k => decide (2 ^ 32 ≤ hist k))
  let zone (k : Nat) : Nat :=
    ((px.filter (fun p => (p.1 - r.x0) * 16 / r.rw == k % 16 && (p.2.1 - r.y0) * 16 / r.rh == k / 16)).map
      (fun p => p.2.2)).sum
  let zoneLines (k : Nat) : Nat := (used.filter (fun y => (y - r.y0) * 16 / r.rh == k)).length
  let flags := b2n (decide (2 ^ 64 ≤ sumsq)) + 2 * b2n histSat + 4 * b2n partial_ + 8 * b2n (n == 0)
  leBytes 8 n ++ leBytes 2 (if n = 0 then 0xFFFF else vals.foldl min top) ++ leBytes 2 (vals.foldl max 0) ++
  leBytes 4 used.length ++ ((List.range 4).map (fun k => leBytes 8 (sumPhase k))).flatten ++
  leBytes 8 (min sumsq (2 ^ 64 - 1)) ++ leBytes 4 (min (vals.filter (fun v => v == top)).length (2 ^ 32 - 1)) ++
  leBytes 2 flags ++ leBytes 2 (min pads 0xFFFF) ++
  ((List.range 256).map (fun k => leBytes 4 (min (hist k) (2 ^ 32 - 1)))).flatten ++
  ((List.range 256).map (fun k => leBytes 8 (zone k))).flatten ++
  ((List.range 16).map (fun k => leBytes 4 (zoneLines k))).flatten

end Sys2Proof.Machine
end

