-- ==== Sys2Proof/Machine/State.lean ====
section
/-!
DEFINITION. The state of the FV5120 as plain data: registers, queues, frames in flight, packets, host-link and fault
state, memory, and the queue of commands that wait.

`regs` holds every BAR0 register. What a rule computes from other state at the moment of a read (a pending count, a
queue depth) is computed by `readReg` and has its home in the structures below.
-/

namespace Sys2Proof.Machine

/-! ### What leaves the device -/

/-- The attributes of an upstream write (R301): Relaxed Ordering and No Snoop. -/
structure Attr where
  ro : Bool := false
  ns : Bool := false
deriving DecidableEq, Repr

/-- One thing the device drives or sends, in the model's own log of it (not a register of the specification). -/
inductive Emission
  /-- An MSI-X message: address and data of the table entry (R306). -/
  | msix (vector addr data : Nat) (attr : Attr)
  /-- An upstream write to host memory, with its EP bit and its attributes (R292 to R294, R301). -/
  | dmaWrite (addr : Nat) (data : List Byte) (ep : Bool) (attr : Attr)
  /-- An upstream read request (R298, R300). -/
  | dmaRead (addr len : Nat)
  /-- A completion of a BAR2 read: Completer Abort or the enabled bytes (R340). -/
  | completion (id : Nat) (abort : Bool) (data : List Byte)
  /-- The value that a BAR4 read of a doorbell word of ring q returns (R288, R297). -/
  | doorbell (q value : Nat)
  /-- A request packet on a control lane, its bytes (R87). -/
  | lanePacket (gate : Nat) (bytes : List Byte)
  /-- A grant of the control lane and its duration code (R88, R334). -/
  | laneGrant (gate code : Nat)
  /-- The test serialiser of a gate begins to drive a data lane (R62): LOOP_MODE, the pattern, and the generator's first
  state; LOOP_PAT is sent as 8b/10b data behind a K28.5. -/
  | testPattern (gate lane mode pattern seed : Nat)
  /-- A trigger pair K28.0 and data symbol (R90): gate, symbol, slot in 8 ns. -/
  | trigPair (gate symbol slot : Nat)
  /-- An output pin driven to a level at a device time (R231). -/
  | pin (n : Nat) (level : Bool) (t : Nat)
  /-- An output pin is no longer driven: it is high impedance (R457). -/
  | pinOff (n : Nat)
  /-- Bytes the SMBus target sends (R461). -/
  | smb (bytes : List Byte)
  /-- The SMBus target does not acknowledge a byte (R461, R462): the 0th is the address, the next the command code. -/
  | smbNak (byte : Nat)
  /-- What TDO shifts out in Shift-DR, the first bit in time first (R464 to R466). -/
  | tdo (bits : List Bool)
  /-- ERR_COR or ERR_FATAL (R358, R372). -/
  | errCor | errFatal
  /-- A PTM request (R308). -/
  | ptmRequest
deriving DecidableEq, Repr

/-! ### Lanes, link and gates (chapters 2 to 4) -/

/-- What a lane of a gate holds beside its registers. -/
structure LaneSt where
  /-- Words with a comma at the candidate offset so far (R41). -/
  commaCount : Nat := 0
  /-- Code errors of the last 15 words, newest first (R41). -/
  errHist : List Nat := []
  /-- Bursts since the port entered TRAIN, and the run of the last ones without byte errors (R50). -/
  bursts : Nat := 0
  goodRun : Nat := 0
  /-- A burst has come since the burst timer of the port was last reset (R49). -/
  burstSeen : Bool := false
  /-- Symbols by which injections displace the lane since its aligner last hunted (R107). -/
  displaced : Nat := 0
  /-- Symbols by which injections misalign the lane's packets against its stored skew (R107). -/
  dropNow : Nat := 0
  /-- A LOOP_PAT block matched whole (R63). -/
  blockOk : Bool := false
  /-- Running disparity of the lane's decoder; none until a code group has given it (R41). -/
  rd : Option Bool := none
  /-- The raw pattern checker (R61); LANE_STATUS.PRBS_LOCK shows whether it is locked. -/
  prbs : Checker := {}
deriving DecidableEq, Repr

/-- A link injection: nothing, armed, or acting on its target (R107, R109). -/
inductive InjPhase | idle | armed | acting
deriving DecidableEq, Repr

/-- What a gate holds beside its page. -/
structure GateSt where
  lanes : List LaneSt := [{}, {}, {}, {}, {}]
  inj : InjPhase := .idle
  /-- The line packet that a REORDER holds back until the next one has landed. -/
  held : Option (List Byte) := none
  /-- An entry step is running (R57, R59). -/
  stepping : Bool := false
  /-- A cause of exit has arisen: the exit runs, or begins at the end of the entry step that runs (R58, R59). -/
  wake : Bool := false
deriving DecidableEq, Repr

/-- A packet's marker in the marker queue (R121). -/
structure Marker where
  /-- true FS, false FE. -/
  isFs : Bool
  hdrOk : Bool
  /-- No packet: the FE that FRAME_TIMEOUT implies, behind what has landed (R100). -/
  implied : Bool := false
  /-- The header failed only by tagged alterations (R109). -/
  tagged : Bool := false
  /-- Device time of the landing (R244). -/
  landed : Nat := 0
  echo : Nat := 0
  /-- FS: its fields equal the configuration (R100). -/
  fmtOk : Bool := true
  fcrcPresent : Bool := false
  lineCount : Nat := 0
  status : Nat := 0
  frameCrc : Nat := 0
  /-- FE: line packets received with a valid header, and the CRC of the payloads as received, both also as they would be
  without tagged alterations (R98, R100, R109). -/
  valid : Nat := 0
  crc : Nat := 0
  cleanValid : Nat := 0
  cleanCrc : Nat := 0
  /-- Body bytes not yet counted as slag. -/
  bodyLen : Nat := 0
deriving DecidableEq, Repr

/-- A landed line (R120, R122): the pixels as delivered, flags, and what frame check still needs of the packet. -/
structure Landed where
  /-- LINE_NUMBER; none when the header failed, and the line takes the number expected (R97). -/
  num : Option Nat := none
  pixels : List Nat := []
  /-- LFLAGS bits 0 to 5 and 9 (R102, R262). -/
  flags : Nat := 0
  /-- Failed its payload check (R96, R98). -/
  payFail : Bool := false
  /-- To be replaced by the previous line of the frame as delivered (R96). -/
  replace : Bool := false
  /-- Body bytes not yet counted as slag (R100). -/
  bodyLen : Nat := 0
  /-- Riser blocks reserved (R120); 0 for a pad line. -/
  blocks : Nat := 0
  /-- A link report was made of it, and every one so far by tagged alterations alone (R109). -/
  reported : Bool := false
  allTagged : Bool := true
deriving DecidableEq, Repr

/-- An item that landed at a port, in order (R121, R122). -/
inductive RItem
  | marker (m : Marker)
  | line (l : Landed)
deriving DecidableEq, Repr

/-- Why a line is discarded: after ABANDONED or by the port's state, which reports nothing of the open frame; for a number
of H or more; for a number below e, by an injected swap alone or not (R100, R107, R109). -/
inductive DropWhy | silent | long | order (tagged : Bool)
deriving DecidableEq, Repr

/-- An item the intake has moved to frame check (R127). `frame` is the number intake gave the frame. -/
inductive FcItem
  | fs (c : Nat) (frame : Nat) (m : Marker)
  /-- An FE; none: the FE that the next FS or FRAME_TIMEOUT implies (R100). -/
  | fe (c : Nat) (m : Option Marker)
  /-- A line or pad line, with the valid line count of the reference buffer when the arbiter took it (R152, R160). -/
  | line (c : Nat) (num : Nat) (l : Landed) (cnt : Nat)
  /-- A discarded line; `why`: the link report of the frame that it makes (R100). -/
  | drop (c : Nat) (why : DropWhy)
  /-- Closes the open frame ABANDONED (R100); `tagged`: only injections made the gap (R109). -/
  | abandon (c : Nat) (tagged : Bool)
deriving DecidableEq, Repr

/-- The lane-mask write of a port that is under way (R105): degrade to a mask, or restore the full set. -/
inductive MaskWrite | none | degrade (mask : Nat) | restore
deriving DecidableEq, Repr

/-- A loopback or camera test of a port (R62): LOOP_MODE, the pattern operand, and whether TEST_DONE has been raised. -/
structure PortTest where
  mode : Nat
  pattern : Nat
  done : Bool := false
deriving DecidableEq, Repr

/-- What the link side of a camera port holds beside its registers. -/
structure LinkSt where
  /-- LINK_DOWN holds the port in DOWN (R52). -/
  heldDown : Bool := false
  /-- It has left DOWN and not reached READY since (R51). -/
  trying : Bool := false
  /-- TRAIN_REQ = 0 is to be written at READY (R52, R53). -/
  trainReq : Bool := false
  /-- The rate codes whose LINK_RATE writes are under way, oldest first (R53). -/
  newRates : List Nat := []
  mask : MaskWrite := .none
  /-- The last packet start mismatched the stored skew (R45). -/
  skewMiss : Bool := false
  /-- The packet that starts now is void: its K27.7 spanned too far (R44). -/
  voidNext : Bool := false
  /-- The port has reached CLOCK since the gate was enabled, and discovery started with it (R326). -/
  discovered : Bool := false
  /-- The test that runs on the port (R62). -/
  test : Option PortTest := none
  /-- Items landed and not yet taken in (R120, R121). -/
  riser : List RItem := []
  /-- Riser blocks reserved (R120, R139). -/
  used : Nat := 0
  /-- An FS of the port has landed since the last EXPOSE_START (R100). -/
  fsSince : Bool := true
  /-- Intake's view (R127): a frame is open, its number, the next expected line, lines are discarded until the next FS. -/
  open_ : Bool := false
  frameNo : Nat := 0
  e : Nat := 0
  abandoned : Bool := false
  /-- Pad lines due (R124). -/
  pads : Nat := 0
  /-- An FE or implied FE of the open frame has been taken: pad lines complete the frame, then it closes (R127). -/
  closing : Bool := false
  /-- Since the last FS or FE landed: line packets with a valid header, and the payloads received by line number, as they
  came and as they would have without tagged alterations (R98, R100, R109). -/
  valid : Nat := 0
  pays : List (Nat × List Byte) := []
  cleanValid : Nat := 0
  cleanPays : List (Nat × List Byte) := []
  /-- The line number expected next at the landing, for a packet whose header failed (R97, R98). -/
  payNext : Nat := 0
  /-- FS markers landed, so the number that intake gives the frame now landing (as `frameNo`). -/
  fsNo : Nat := 0
  /-- Frames and line numbers in them whose gap or order only an injection made (R107, R109). -/
  injGap : List (Nat × Nat) := []
  /-- The FE that follows the abandoned frame has been consumed (R100). -/
  feGone : Bool := false
deriving DecidableEq, Repr

/-! ### Camera register bridge (chapter 11) -/

/-- What a request of the bridge is for: its SOURCE (R349) and what its outcome acts on. -/
inductive Purpose
  | hostWrite | hostRead (key : Nat) | pcWrite | settings (slot : Nat) | laneMask | shotCtrl | linkRate (code : Nat) | trainOn | trainOff
  | loopBuf | farLoop | prbsSel | testOff | poll | lock | unlock | discMagic | discCaps | discIdent
deriving DecidableEq, Repr

/-- Where a request stands. -/
inductive ReqState | queued | outstanding | busyWait
deriving DecidableEq, Repr

/-- A request of a section engine (R87, R327). -/
structure Req where
  port : Nat
  tag : Nat
  /-- OP of R87: 1 WRITE, 2 READ, 6 LOCK, 7 UNLOCK. -/
  op : Nat
  /-- CLASS of R87: 0 PW, 1 RR, 2 PC, 4 POLL. -/
  cls : Nat
  addr : Nat
  data : List Byte := []
  /-- Bytes asked for by a READ, the prefetched ones included (R341). -/
  len : Nat := 0
  /-- Bytes of them that the host asked for. -/
  want : Nat := 0
  purpose : Purpose
  state : ReqState := .queued
  crcTries : Nat := 0
  busyTries : Nat := 0
deriving DecidableEq, Repr

/-- A BAR2 read not yet completed (R340). -/
structure HostRead where
  /-- Tag of its completion; a number of the engine's own, which no later read takes. -/
  id : Nat
  key : Nat := 0
  port : Nat
  /-- Camera addresses of the enabled bytes in host order, none where the byte is not enabled. -/
  addrs : List (Option Nat)
  /-- Bytes gathered so far. -/
  got : List (Nat × Byte) := []
  /-- Pieces not yet completed. -/
  pieces : Nat := 0
  /-- Tags of the writes it waits for (R338). -/
  waits : List Nat := []
  /-- It has failed at its receipt, and completes so when its waits have ended (R338, R340). -/
  bad : Bool := false
  /-- It is among the four reads that the engine queues for the port (R331); until then its pieces wait as `parts`:
  camera address, bytes asked for by the host, bytes with the prefetched ones. -/
  admitted : Bool := true
  parts : List (Nat × Nat × Nat) := []
deriving DecidableEq, Repr

/-- The prefetch slot of a port (R341, R342). -/
structure Slot where
  se : Bool
  /-- Tag of the read that fetched them. -/
  tag : Nat
  bytes : List (Nat × Byte)
deriving DecidableEq, Repr

/-- A trigger pair waiting for its slot (R90, R93): the port bit, action, instant and shot. -/
structure TrigPair where
  port : Nat
  action : Nat
  t : Nat
  shot : Nat
deriving DecidableEq, Repr

/-- What a section engine holds beside its page. -/
structure EngineSt where
  /-- Requests of both ports, in order of acceptance. -/
  reqs : List Req := []
  reads : List HostRead := []
  slotA : Option Slot := none
  slotB : Option Slot := none
  /-- Tags of requests that failed by TIMEOUT less than RSP_TIMEOUT ago: port, tag, time (R328). -/
  recent : List (Nat × Nat × Nat) := []
  /-- The port whose lock is pending or held (R343). -/
  lockPort : Option Nat := none
  /-- The next of port A RR, port A PW, port B RR, port B PW (R332). -/
  turn : Nat := 0
  /-- The grant the camera holds (R88). -/
  grant : Option Nat := none
  pairs : List TrigPair := []
  /-- The first slot free of trigger pairs, in multiples of 8 ns (R93). -/
  nextSlot : Nat := 0
  /-- The first poll after EN has come (R345), ports A and B. -/
  polledA : Bool := false
  polledB : Bool := false
  /-- POLL_MASK as the tick of the poll under way found it (R345). -/
  maskA : Nat := 0
  maskB : Nat := 0
  /-- The next host read's own number. -/
  nextKey : Nat := 0
deriving DecidableEq, Repr

/-! ### Shots and triggers (chapter 8) -/

/-- A pending trigger instant (R230), in eighths of a ns, and whether a SOFT event gave it. -/
structure Pend where
  t8 : Nat
  soft : Bool
deriving DecidableEq, Repr

/-- A settings commit not yet in force (R240 to R243). -/
structure Commit where
  slot : Nat
  version : Nat
  /-- The target shot; none for NEXT. -/
  target : Option Nat
  writes : List (Nat × Nat)
  delivering : Bool := false
  /-- Writes handed to the section engine, and writes acknowledged. -/
  sent : Nat := 0
  acked : Nat := 0
  /-- Time of the first and of the last acknowledgement so far. -/
  firstAck : Nat := 0
  tAck : Nat := 0
  delivered : Bool := false
  /-- A write failed (R243): the commit ends when its outstanding writes have ended. -/
  failed : Bool := false
  open_ : Nat := 0
deriving DecidableEq, Repr

/-- A strobe (R231): its pin, its first and its last instant, in eighths of a ns. -/
structure Strobe where
  port : Nat
  pin : Nat
  on8 : Nat
  t8 : Nat
deriving DecidableEq, Repr

/-- What a shot schedule holds beside its registers. -/
structure SchedSt where
  /-- Number of the next source event (R229). -/
  j : Nat := 0
  /-- Pending instants in order of t. -/
  pend : List Pend := []
  /-- Instant of the last shot issued, in eighths of a ns (R229). -/
  last8 : Option Nat := none
  /-- Shot number and end of the exposure window of the last shot issued since a reset (R241). -/
  lastWindow : Option (Nat × Nat) := none
  /-- Shot numbers and ends of the exposure windows that had not ended at the last issue, newest first (R241). -/
  windows : List (Nat × Nat) := []
  /-- The shot numbers issued since a reset, as runs: the first number and how many follow one another, newest first (R241). -/
  runs : List (Nat × Nat) := []
  /-- Outstanding shots, oldest first, with sym(s) (R237). -/
  outst : List (Nat × Bool) := []
  commits : List Commit := []
  /-- SLOT of the records: the slot whose commit produced VER_APPLIED, 0x80 for version 0 (R244). -/
  verSlot : Nat := 0x80
deriving DecidableEq, Repr

/-- A ledger record (R244), with the end of the shot's exposure window (R241) and whether its frame is open. -/
structure Rec where
  held : Bool := false
  shot : Nat := 0
  version : Nat := 0
  tTrig : Nat := 0
  pos : Nat := 0
  fstat : Nat := 0
  flags : Nat := 0
  slot : Nat := 0x80
  late : Nat := 0
  fsDelay : Nat := 0
  windowEnd : Nat := 0
  frameOpen : Bool := false
deriving DecidableEq, Repr

/-- Levels of an encoder's A and B (R226). -/
structure EncSt where
  a : Bool := false
  b : Bool := false
deriving DecidableEq, Repr

/-- Device time of a timer's next firing (R228). -/
structure TimerSt where
  next : Nat := 0
deriving DecidableEq, Repr

/-! ### The ladle (chapter 9) -/

/-- The fields of a packet header (R261) that the producer or the commit fixes; QUEUE, SEQ and PAYLOAD_LEN come from the
packet itself. -/
structure PktHdr where
  kind : Nat := 0
  hflags : Nat := 0
  srcUnit : Nat := 0
  srcSub : Nat := 0
  sample : Nat := 0
  pixfmt : Nat := 0
  shot : Nat := 0
  version : Nat := 0
  line : Nat := 0
  samples : Nat := 0
  lflags : Nat := 0
  fstat : Nat := 0
  xstat : Nat := 0
  nrCause : Nat := 0
  tCommit : Nat := 0
  tTrig : Nat := 0
  aux : Nat := 0
deriving DecidableEq, Repr

/-- A packet: queue, sequence number, priority, header, payload, its cells in chain order, and the cells it has reserved. -/
structure Packet where
  queue : Nat := 0
  seq : Nat := 0
  prio : Nat := 0
  hdr : PktHdr := {}
  payload : List Byte := []
  cells : List Nat := []
  need : Nat := 0
  /-- The frame the packet belongs to (camera port and slice frame), for the status known at commit (R262); none for seam and mould packets. -/
  frame : Option Nat := none
  /-- Marked by a flush or a queue reset: discarded at commit (R273, R274). -/
  marked : Bool := false
  /-- Its reservation no longer stands in OCC (queue reset, R274). -/
  outOfOcc : Bool := false
  /-- A statistics or record packet: it closes a bank at its commit (R249). -/
  statBank : Option Nat := none
deriving DecidableEq, Repr

/-- Producer p (0 to 32 slices, 33 to 36 seam units, 37 to 44 mould units; R263): packets formed and waiting, and the open packet. -/
structure ProdSt where
  todo : List Packet := []
  cur : Option Packet := none
deriving DecidableEq, Repr

/-- What a queue holds beside its descriptor registers. -/
structure QueueSt where
  /-- Committed packets, in commit order; in ordered mode the sub-lists are those of equal priority (R271). -/
  committed : List Packet := []
  /-- The packet its consumer holds (R270), with the bytes read so far. -/
  claimed : Option Packet := none
  readBytes : Nat := 0
  /-- Cells read to their end that return to the pool in the next FCLK cycle (R270). -/
  returning : List Nat := []
  /-- Cells of a packet that its consumer gave up, which the walk over its links has yet to read and return (R275, R295). -/
  walk : List Nat := []
  /-- Marked cells that a flush has yet to return (R273). -/
  markedCells : List Nat := []
  flushing : Bool := false
  /-- A reservation failed for room since the last commit (R262, OVERRUN_BEFORE). -/
  overrunBefore : Bool := false
deriving DecidableEq, Repr

/-- What a ladle bank holds beside its page. -/
structure BankSt where
  /-- Returned cells on the free-cell stack, top first. -/
  top : List Nat := []
  /-- Entries of the free-cell stack never taken since reset, under the returned ones. -/
  untouched : Nat := 1048576
  /-- Cells of debt (R277). -/
  debt : Nat := 0
  /-- Cells lost by queue resets or bad stack entries, and cells no longer retired (R274, R277, R359): what a sweep can find. -/
  stray : List Nat := []
  /-- Retired cells (R277). -/
  retired : List Nat := []
  /-- The cells a running sweep will find: the stray cells of its start (R278). -/
  sweepSet : List Nat := []
  /-- A sweep was asked for while another ran or the bank was fenced. -/
  sweepDue : Bool := false
deriving DecidableEq, Repr

/-! ### Frames and slices (chapters 4 to 8) -/

/-- A line inside a slice. -/
structure SLine where
  pix : List Nat
  /-- LFLAGS bits (R262). -/
  flags : Nat := 0
  /-- Valid line count of the reference buffer when the arbiter took the line (R152, R160). -/
  cnt : Nat := 0
deriving DecidableEq, Repr

/-- A frame in a slice, with everything R247 fixes for it and the lines each stage has put out. -/
structure Frame where
  /-- Camera port. -/
  c : Nat
  id : Nat
  shot : Nat
  bound : Bool := false
  version : Nat := 0
  /-- Settings slot of the version, 0x80 for version 0 (R244). -/
  slot : Nat := 0x80
  tTrig : Nat := 0
  pos : Option Nat := none
  fstat : Nat := 0
  xstat : Nat := 0
  /-- A link report was made of the frame; every one so far was injected (R109). -/
  reported : Bool := false
  allTagged : Bool := true
  /-- A line failed its payload check (R98). -/
  payFailed : Bool := false
  /-- STATUS of the FE, the camera's own error code (R83, R100). -/
  camStatus : Nat := 0
  /-- The FE or implied FE has passed; pad lines may still be due (R127). -/
  ended : Bool := false
  closed : Bool := false
  /-- Closed ABANDONED or FAULT_CUT: only complete lines go on (R149, R181, R191). -/
  cut : Bool := false
  /-- The CAM page's registers as the FS found them (R166, R175, R253). -/
  latch : List (Nat × Word) := []
  colBank : Nat := 0
  /-- Windows that emit for this frame (R193), and the next output line of each. -/
  wins : List Win := []
  winNext : List (Nat × Nat) := []
  statBank : Option Nat := none
  /-- The bank has closed, or there is none. -/
  statDone : Bool := false
  /-- Lines at the entry of noise reduction, after it, and after the correction stages; the line number is the index. -/
  entered : List SLine := []
  nr : List SLine := []
  corr : List SLine := []
  /-- Cause of R158, once the displacement is computed; D16; the buffers read and written (R155). -/
  dispDone : Bool := false
  cause : Nat := 0
  d16 : Int := 0
  readBuf : Nat := 0
  /-- Gain of R159 where the slot scale applies. -/
  scale : Option Nat := none
  /-- Reference lines read so far, decoded; none for a line that failed (R163). -/
  refs : List (Nat × Option (List Nat)) := []
  /-- The first line write has been issued (R155). -/
  wrote : Bool := false
deriving DecidableEq, Repr

/-- A reference buffer (R155, R163): lines acknowledged, writes outstanding, and whether it is sealed. -/
structure RefBuf where
  acked : List Nat := []
  busy : List Nat := []
  sealed : Bool := true
  /-- The frame that writes it. -/
  writer : Option Nat := none
deriving DecidableEq, Repr

/-- What a camera port holds in its slice and beside its page. -/
structure CamSt where
  sched : SchedSt := {}
  /-- Frames that stages still work on, oldest first. -/
  frames : List Frame := []
  /-- No frame has reached frame check since the enable, PERST_N or PORESET_N (R158, FIRST). -/
  first : Bool := true
  /-- REF_RESET was written since the last FS at frame check (R158, RESET). -/
  resetDue : Bool := false
  /-- STATUS of the last FE that closed a frame (R83, R100). -/
  camStatus : Nat := 0
  buf0 : RefBuf := {}
  buf1 : RefBuf := {}
  /-- The hold of the next line has ended by the riser or HOLD_MAX: its missing reference lines stay uncovered (R161). -/
  holdOver : Bool := false
  /-- The active window set, and the pending one (R192): enabled windows only. -/
  wins : List Win := []
  pendWins : Option (List Win) := none
  /-- The bank taken by the last frame that took one (R249), and the banks not free. -/
  lastBank : Option Nat := none
  busyBanks : List Nat := []
  /-- Column tables in slice SRAM by bank, the bank being copied, and the bank copied and not yet in effect (R182). -/
  cols : List (Nat × List Byte) := []
  copying : Option Nat := none
  copied : Option Nat := none
deriving DecidableEq, Repr

/-- What a slice holds beside its page. -/
structure SliceSt where
  /-- The port the intake arbiter served last, as an offset in the group (R126). -/
  last : Nat := 7
  /-- Items between intake and frame check, oldest first (R127). -/
  fc : List FcItem := []
  /-- An entry step is running; a cause of exit has arisen (R59, R401). -/
  stepping : Bool := false
  wake : Bool := false
deriving DecidableEq, Repr

/-! ### Seams and moulds (chapter 7) -/

/-- A slot of a seam's delay store: the member and index it holds, and what the packet's header said (R205, R209).
The samples are in HBM. -/
structure SeamSlot where
  member : Nat
  k : Nat
  /-- The packet was discarded under R204: the member is missing for this index. -/
  bad : Bool := false
  shot : Nat := 0
  line : Nat := 0
  version : Nat := 0
  lflags : Nat := 0
  tTrig : Nat := 0
  /-- HFLAGS.LAST of the packet. -/
  last : Bool := false
deriving DecidableEq, Repr

/-- What a seam unit holds beside its page. -/
structure SeamSt where
  store : List SeamSlot := []
deriving DecidableEq, Repr

/-- A source line of a tile: its pieces that arrived, each with its first column (a strip comes in segments, R209). -/
abbrev SrcLine := List (Nat × List Nat)

/-- A source frame a FRAME tile is taking in (R214): the slot it goes to (none: consumed without effect) and its lines. -/
structure TileFrame where
  slot : Option Nat
  lines : List (Nat × SrcLine) := []
deriving DecidableEq, Repr

/-- A strip line of which segments are still to come: its LINE, its number in the source frame, HFLAGS.LAST, the next
segment and the pieces. -/
structure PartLine where
  strip : Nat
  line : Nat
  last : Bool
  next : Nat
  pieces : SrcLine
deriving DecidableEq, Repr

/-- What a mould holds of one tile (R214 to R216, R218). -/
structure TileSt where
  /-- HBM address of the tile's first slot; none when the tile has no slots. -/
  base : Option Nat := none
  part : Option PartLine := none
  /-- FRAME: the slot with the latest complete frame. -/
  latest : Option Nat := none
  cur : Option TileFrame := none
  /-- SCROLL: lines of the group being gathered with their numbers, oldest first, and the line before it. -/
  group : List (Nat × SrcLine) := []
  before : Option (Nat × SrcLine) := none
  /-- SCROLL: rows written since the enable, and rows written in this output frame period. -/
  rows : Nat := 0
  inPeriod : Nat := 0
  /-- Columns whose box holds no pixel, by row of the two slots (R213). -/
  holes : List (Nat × List Nat) := []
  /-- What the output frame in readout latched: the slot (FRAME) or the number of rows written (SCROLL). -/
  latched : Option Nat := none
deriving DecidableEq, Repr

/-- What a mould unit holds beside its page. -/
structure MouldSt where
  tiles : List (Nat × TileSt) := []
  /-- T0 and the number of the next output frame to come due (R217). -/
  t0 : Nat := 0
  n : Nat := 0
  /-- The output frame being read out: its number, its next line, and the latched alarm and stale masks and colours. -/
  reading : Option (Nat × Nat) := none
  alarm : Nat := 0
  stale : Nat := 0
  bg : Nat := 0
  border : Nat := 0
  alarmColour : Nat := 0
  staleColour : Nat := 0
deriving DecidableEq, Repr

/-! ### Pour engine, host link and device time (chapter 10) -/

/-- A descriptor as read (R291), or a failed read. -/
inductive Desc
  | buffer (addr len cookie : Nat)
  | bad
  | readErr
deriving DecidableEq, Repr

/-- A packet in delivery on a ring (R294 to R296). Its bytes are those of the packet its queue has claimed. -/
structure Delivery where
  /-- SEQ, KIND and HFLAGS of its header, and its length, header included. -/
  seq : Nat
  kind : Nat
  hflags : Nat
  total : Nat
  /-- Index of the first descriptor used, or of the one at which the packet ended. -/
  first : Nat
  /-- Descriptors used so far. -/
  used : Nat := 0
  cookie : Nat := 0
  /-- The buffer being filled: its address and the bytes left in it. -/
  buf : Option (Nat × Nat) := none
  /-- Bytes written to buffers. -/
  written : Nat := 0
  /-- Bytes came from an uncorrectable location. -/
  dataErr : Bool := false
  /-- The code the packet ended with, once every byte is written or the packet has ended. -/
  ended : Option Nat := none
  /-- Device time when the last data write was queued; none before the first. -/
  tDone : Option Nat := none
deriving DecidableEq, Repr

/-- What a ring holds beside its configuration registers (R297, R298, R302, R305). -/
structure RingSt where
  descTail : Nat := 0
  cplHead : Nat := 0
  /-- PHASE of the next completion entry. -/
  phase : Bool := false
  /-- Descriptors read and not yet used. -/
  fetched : List Desc := []
  delivery : Option Delivery := none
  /-- Entries counted and not signalled. -/
  unsignalled : Nat := 0
  /-- Tokens of the rate cap and the device time they were counted at. -/
  tokens : Int := 0
  tokensAt : Int := 0
  /-- EN was written 1 while BUSY: the settings of the enable wait (R295). -/
  enablePending : Bool := false
deriving DecidableEq, Repr

/-- A table load under way or waiting (R170, R300). -/
structure TableLoad where
  port : Nat
  sel : Nat
  bank : Nat
  addr : Nat
  len : Nat
  /-- Bytes asked for so far. -/
  asked : Nat := 0
deriving DecidableEq, Repr

/-- Fields of configuration space that software writes or the device sets (R284, R287), and the turns of the pour engine at
the link (R299). What R284 fixes for good is `pciIdent`. -/
structure CfgSpace where
  busMaster : Bool := false
  d3hot : Bool := false
  /-- The base addresses of the three BARs (R287), which keep their alignment. -/
  bar0 : Nat := 0
  bar2 : Nat := 0
  bar4 : Nat := 0
  /-- PTM Enable, Max_Payload_Size, Max_Read_Request_Size, and the enables of Device Control (log entry 7). -/
  ptmEnable : Bool := true
  mps : Nat := 512
  mrrs : Nat := 4096
  relaxedOrdering : Bool := true
  noSnoop : Bool := true
  extendedTag : Bool := true
  tag10 : Bool := false
  corReporting : Bool := true
  nonFatalReporting : Bool := true
  fatalReporting : Bool := true
  /-- Completion Timeout Value and Disable of Device Control 2. -/
  completionTimeout : Nat := 0
  completionTimeoutOff : Bool := false
  /-- MSI-X Enable and Function Mask of MSI-X Message Control. -/
  msixEnable : Bool := true
  functionMask : Bool := false
  /-- ASPM Control: L1 enabled. -/
  aspmL1 : Bool := false
  /-- The margining command of each lane, as software wrote it last. -/
  margin : List Nat := List.replicate 16 0
  /-- Corrected Internal Error and Uncorrectable Internal Error status in AER, and the four words of the header log
  (R358, R372). -/
  aerCor : Bool := false
  aerUncor : Bool := false
  aerHeader : List Nat := [0, 0, 0, 0]
  /-- The rings that had the last turn, of those with URGENT = 1 and of the others (R299). -/
  lastUrgent : Nat := 16383
  lastOther : Nat := 16383
deriving DecidableEq, Repr

/-- Device time and its discipline (R307 to R309). -/
structure TimeSt where
  /-- Device time in ns, modulo 2^64. -/
  ns : Nat := 0
  /-- The 32-bit fraction of device time, in parts of 2^32 of a ns (R307). -/
  frac : Nat := 0
  /-- The filter value f of R309, in parts per billion. -/
  f : Int := 0
  /-- No dialogue has succeeded since PTM_EN became 1 (R310). -/
  first : Bool := true
deriving DecidableEq, Repr

/-! ### Faults (chapter 12) -/

/-- A unit that a fault site can name (R359, R360, R471). -/
inductive FUnit
  | port (c : Nat) | gate (g : Nat) | slice (s : Nat) | queue (q : Nat) | bank (b : Nat) | channel (h i : Nat)
  | seam (u : Nat) | mould (m : Nat) | engine (g : Nat) | fabric | enc (e : Nat) | group (s : Nat) | chk (n : Nat)
  | pour
  /-- The register ring and device time cannot be fenced. -/
  | ring | time
deriving DecidableEq, Repr

/-- A condition site that is live: page address, bit, DETAIL (R353). -/
structure LiveSite where
  page : Nat
  bit : Nat
  detail : Nat
deriving DecidableEq, Repr

/-- An armed injection (R375): the site and sub-unit it was armed with, and the word that it has altered, where its site
stores words that the state holds and one has been written since. -/
structure Armed where
  bit : Nat
  detail : Nat
  word : Option Nat := none
deriving DecidableEq, Repr

/-- A pulse crossing (R390): a transfer awaits its acknowledgement, the pulses since it began, and the LOST flag. -/
structure Xing where
  busy : Bool := false
  count : Nat := 0
  lost : Bool := false
deriving DecidableEq, Repr

/-- A remap of a slice to S32, or its return (R368, R370). -/
structure Remap where
  k : Nat
  /-- true: the ports return to slice k. -/
  back : Bool
deriving DecidableEq, Repr

/-- A pending occurrence of an escalation (R361): its unit, site bit, DETAIL, and whether it is real. -/
structure PendOcc where
  unit : FUnit
  bit : Nat
  detail : Nat
  real : Bool
deriving DecidableEq, Repr

/-- The escalation timer of a page while it runs (R361): device time and ESC_TIMER at its start, and the pending set. -/
structure Esc where
  start : Nat := 0
  us : Nat := 0
  occs : List PendOcc := []
deriving DecidableEq, Repr

/-- What the fault registers do not show of the fault logic. -/
structure FaultSt where
  /-- Condition sites live now; FAULT_LIVE is computed from them. -/
  live : List LiveSite := []
  /-- Escalation timers by page address. -/
  esc : List (Nat × Esc) := []
  /-- Armed injections by page address. -/
  armed : List (Nat × Armed) := []
  /-- The remap or return that runs (R368, R370). -/
  remap : Option Remap := none
  /-- Occurrences at event sites in the ACLK cycle of the last one, and the device time of that cycle's start (R353). -/
  events : List LiveSite := []
  eventsAt : Nat := 0
  /-- Pulse crossings by source page and kind: page * 2 for IRQ requests, page * 2 + 1 for fault occurrences (R390). -/
  xings : List (Nat × Xing) := []
deriving DecidableEq, Repr

/-! ### Supply, reset, power and package (chapters 13, 15 and 16) -/

/-- Pins and supply phase (R386, R447, R448, R456). -/
structure SupplySt where
  /-- VDD_AON and VDDIO_18 good: ACLK runs, the always-on domain works. -/
  aon : Bool := true
  /-- PORESET_N is low. -/
  poresetLow : Bool := true
  /-- PERST_N is low. -/
  perstLow : Bool := true
  /-- REFCLK is present (R384). -/
  refclk : Bool := true
  /-- Rails outside their operating range (R444). -/
  railsOut : List Nat := []
  /-- A sensor reads 115 degrees or more (R459). -/
  hot : Bool := false
  /-- HBM stacks whose training has ended since PORESET_N rose (R397). -/
  trained : List Nat := []
  /-- Domains being switched: number and the state asked for (R396). -/
  switching : List (Nat × Bool) := []
  /-- Pseudo-channels in power-down, as stack * 32 + channel (R405). -/
  powerDown : List Nat := []
deriving DecidableEq, Repr

/-- A check unit: its running register, with INIT loaded at the first byte (R433). -/
structure ChkSt where
  r : Nat := 0
deriving DecidableEq, Repr

/-- The SMBus target and what it reports (R461 to R463). -/
structure SmbSt where
  /-- SMB_ADDR1, SMB_ADDR0 as sampled (R456). -/
  strap : Nat := 0
  /-- The eight sensor readings in 0.125 degrees; none before the first conversion. -/
  temps : Option (List Int) := none
  /-- Highest TEMP_MAX since VDD_AON good or the last write; none before a conversion. -/
  peak : Option Int := none
  warn : Nat := 800
  /-- Rail voltages in mV, in table order (R444). -/
  rails : List Nat := [750, 800, 800, 900, 900, 1200, 1100, 400, 1800, 1800]
  /-- THERMAL_TRIP since VDD_AON good. -/
  tripped : Bool := false
  alertStatus : Nat := 0
  alertMask : Nat := 15
deriving DecidableEq, Repr

/-- An instruction of the test access port (R464). -/
inductive JtagInstr
  | extest | idcode | samplePreload | extestPulse | extestTrain | highz | clamp | bypass
deriving DecidableEq, Repr

/-- The test access port (R464 to R466). -/
structure JtagSt where
  instr : JtagInstr := .idcode
  /-- The 1,305 boundary cells as last preloaded, and as last captured (log entry 13). -/
  cells : List Bool := List.replicate 1305 false
  sampled : List Bool := List.replicate 1305 false
deriving DecidableEq, Repr

/-! ### The state -/

/-- Everything the device holds. Tables list only the units whose state differs from the default of their type. -/
structure State where
  /-- Commands waiting, first in, first out. -/
  pending : List Instr := []
  supply : SupplySt := {}
  /-- BAR0 registers by word address; an unlisted one reads its reset word (R11). -/
  regs : List (Nat × Word) := []
  /-- High halves latched by reads of RO pairs, by the address of the high half (R421). -/
  latches : List (Nat × Word) := []
  cfg : CfgSpace := {}
  time : TimeSt := {}
  gates : List (Nat × GateSt) := []
  links : List (Nat × LinkSt) := []
  engines : List (Nat × EngineSt) := []
  cams : List (Nat × CamSt) := []
  slices : List (Nat × SliceSt) := []
  seams : List (Nat × SeamSt) := []
  moulds : List (Nat × MouldSt) := []
  encs : List (Nat × EncSt) := []
  timers : List (Nat × TimerSt) := []
  strobes : List Strobe := []
  /-- Ledger records: port c, entry s mod 64, at c * 64 + s mod 64 (R244). -/
  records : List (Nat × Rec) := []
  queues : List (Nat × QueueSt) := []
  banks : List (Nat × BankSt) := []
  prods : List (Nat × ProdSt) := []
  /-- Cells whose link entry is known to be uncorrectable (R275). -/
  badLinks : List Nat := []
  rings : List (Nat × RingSt) := []
  loads : List TableLoad := []
  chks : List (Nat × ChkSt) := []
  faults : FaultSt := {}
  smb : SmbSt := {}
  jtag : JtagSt := {}
  /-- HBM bytes outside the regions of the ladle, whose structures hold what stands there (R257; State.memByte); an unlisted
  byte reads 0 (log entry 6). -/
  hbm : List Host.Cell := []
  /-- How many open values the model has drawn (Config.freeWord); a field of the model, not of the specification. -/
  fresh : Nat := 0
  /-- What the device has driven and sent, newest first; a field of the model, not of the specification. -/
  out : List Emission := []
deriving DecidableEq, Repr

/-- The device right after reset: VDD_AON good, PORESET_N and PERST_N low, every register at its Reset value (R386). -/
def State.reset : State := {}

/-- Why a step can stop. -/
inductive Fault
  /-- Raised by RAIL_FAULT when a rail goes beyond its absolute maximum rating: the device can be damaged and the
  specification implies no operation there (R445). Safe: the model stops where the hardware may go on. -/
  | beyondAbsoluteMaximum (rail : Nat)
deriving DecidableEq, Repr

/-- Why a command can be refused by the model. -/
inductive Refusal
  /-- A command whose meaning is not written. Safe: the model stops where the hardware goes on. -/
  | notModelled (mnemonic : String)
deriving DecidableEq, Repr

end Sys2Proof.Machine
end

