-- ==== Sys2Proof/Machine/Ops.lean ====
section
/-!
DEFINITION. The named operations over registers, events, refusals, time, tables and memory that every meaning uses.
-/

namespace Sys2Proof.Machine

/-! ### Registers -/

/-- The word a register holds. -/
def State.word (s : State) (a : Nat) : Word := tget s.regs a (resetWord a)

/-- Set the word a register holds. -/
def State.setWord (s : State) (a : Nat) (w : Word) : State := { s with regs := tput s.regs a w (resetWord a) }

/-- The value of a field. -/
def State.get (s : State) (f : Fld) : Nat := getBits (s.word f.addr) f.hi f.lo

/-- Set a field; v is taken modulo the field's width. -/
def State.put (s : State) (f : Fld) (v : Nat) : State :=
  s.setWord f.addr (setBits (s.word f.addr) f.hi f.lo v)

/-- A one-bit field is 1. -/
def State.on (s : State) (f : Fld) : Bool := s.get f == 1

/-- Set a one-bit field. -/
def State.putB (s : State) (f : Fld) (b : Bool) : State := s.put f (b2n b)

/-- The largest value of a field. -/
def Fld.top (f : Fld) : Nat := 2 ^ (f.hi + 1 - f.lo) - 1

/-- Add n to a field, modulo its width. -/
def State.add (s : State) (f : Fld) (n : Nat) : State := s.put f (s.get f + n)

/-- Add 1 to a field, modulo its width. -/
def State.inc (s : State) (f : Fld) : State := s.add f 1

/-- Add n to a field, holding at its largest value. -/
def State.addSat (s : State) (f : Fld) (n : Nat) : State := s.put f (satAdd (s.get f) n f.top)

/-- Subtract n from a field, stopping at 0. -/
def State.sub (s : State) (f : Fld) (n : Nat) : State := s.put f (s.get f - n)

/-- Bit n of a field. -/
def State.bitAt (s : State) (f : Fld) (n : Nat) : Bool := bitOf (s.get f) n

/-- Set or clear bit n of a field. -/
def State.putBit (s : State) (f : Fld) (n : Nat) (b : Bool) : State :=
  s.put f (if b then setBitN (s.get f) n else clearBitN (s.get f) n)

/-- A 64-bit value held in two registers (R421). -/
def State.get64 (s : State) (lo hi : Fld) : Nat := s.get lo + 2 ^ 32 * s.get hi

/-- Set a 64-bit value held in two registers (R421). -/
def State.put64 (s : State) (lo hi : Fld) (v : Nat) : State := (s.put lo v).put hi (v / 2 ^ 32)

/-! ### Guards and the model's own fields -/

/-- Apply f where the condition holds; a command whose rule does not apply has no effect (log entry 2). -/
def State.when (s : State) (c : Bool) (f : State → State) : State := if c then f s else s

/-- Apply f for every element of a list, from the left. -/
def State.each {α : Type} (s : State) (l : List α) (f : State → α → State) : State := l.foldl f s

/-- A fresh open value (Config.freeWord). -/
def State.draw (s : State) : Nat × State := ((Config.freeWord s.fresh).toNat, { s with fresh := s.fresh + 1 })

/-- n open bytes (log entry 4). -/
def State.drawBytes (s : State) (n : Nat) : List Byte × State :=
  ((List.range n).map (fun i => BitVec.ofNat 8 (Config.freeWord (s.fresh + i)).toNat), { s with fresh := s.fresh + n })

/-- Record something that leaves the device. -/
def State.emit (s : State) (e : Emission) : State := { s with out := e :: s.out }

/-- Device time in ns (R307). -/
def State.now (s : State) : Nat := s.time.ns

/-- Device time reaches t: the command is dated t, and time never runs backwards (R307). -/
def State.reach (s : State) (t : Nat) : State := { s with time := { s.time with ns := max s.time.ns t } }

/-! ### Phases of operation -/

/-- The device is in quench (R372). -/
def State.quenched (s : State) : Bool := s.on DEV.QUENCH_STATUS_QUENCHED

/-- VDD_AON is good and PORESET_N high: the always-on domain records faults (R384). -/
def State.awake (s : State) : Bool := s.supply.aon && !s.supply.poresetLow

/-- The divided clocks run and the device is not in quench (R384, R372). -/
def State.running (s : State) : Bool := s.awake && s.on CLK.CLK_STATUS_CRUCIBLE_LOCK && !s.quenched

/-- Start-up is complete: the crucible PLL is locked and the training of every HBM stack has ended (R397, R448, R467). -/
def State.started (s : State) : Bool := s.on CLK.CLK_STATUS_CRUCIBLE_LOCK && decide (4 ≤ s.supply.trained.length)

/-- The host reaches the device: it runs, PERST_N is high, and start-up is complete, before which configuration requests receive
Request Retry Status and no BAR is placed (R373, R386, R448). -/
def State.hostOn (s : State) : Bool := s.running && !s.supply.perstLow && s.started

/-- BAR0 can be read: start-up is complete or the device is in quench, and PERST_N is high (R373, R386, R448). -/
def State.readable (s : State) : Bool := s.awake && !s.supply.perstLow && (s.quenched || s.started)

/-- Power domain d is on and out of reset (R396). -/
def State.domainOn (s : State) (d : Nat) : Bool := bitOf (s.get (PWR.DOMAIN_STATE (d / 32))) (d % 32)

/-- Power domain d is on and not being switched (R395, R396). -/
def State.domainReady (s : State) (d : Nat) : Bool := s.domainOn d && !s.supply.switching.any (fun p => p.1 == d)

/-! ### Events and refusals -/

/-- Request an MSI-X vector (R306): it becomes pending. -/
def State.requestVector (s : State) (v : Nat) : State := s.put (PBA.PENDING v) 1

/-- Set event bit n of a page; a bit of IRQ_STAT AND IRQ_EN going from 0 to 1 requests the page's vector (R168, R306). -/
def State.raise (s : State) (page n : Nat) : State :=
  let st := s.get (HDR.IRQ_STAT page)
  let t := s.put (HDR.IRQ_STAT page) (setBitN st n)
  if !bitOf st n && bitOf (s.get (HDR.IRQ_EN page)) n then t.requestVector (s.get (HDR.IRQ_VEC page)) else t

/-- A pulse crossing: number `page` * 2 for the IRQ requests of a page, + 1 for its fault occurrences (R390, R392). -/
def xingOf (page : Nat) (fault : Bool) : Nat := page / 4096 * 2 + b2n fault

/-- State of a pulse crossing. -/
def State.xing (s : State) (n : Nat) : Xing := tget s.faults.xings n {}

def State.setXing (s : State) (n : Nat) (x : Xing) : State :=
  { s with faults := { s.faults with xings := tput s.faults.xings n x {} } }

/-- A pulse from the unit of `page`; `acked`: the acknowledgement of the last transfer has come, so that the pulses that waited
went with a new one. A transfer starts at once where none awaits its acknowledgement; else the pulse is counted, and a count
that would pass 15 loses it (R390). The always-on pages need no crossing (R392). -/
def State.pulse (s : State) (page : Nat) (fault acked : Bool) : State :=
  let n := xingOf page fault
  let x := s.xing n
  let x := if acked then { x with busy := x.count != 0, count := 0 } else x
  if page = clkPage || page = pwrPage then s
  else if !x.busy then s.setXing n { x with busy := true }
  else if x.count < 15 then s.setXing n { x with count := x.count + 1 }
  else
    let t := s.setXing n { x with lost := true }
    ((t.inc CLK.XING_LOST).put CLK.XING_LOST_SRC (page / 4096)).raise clkPage 0

/-- Record a refusal in a page (R417). -/
def State.refuse (s : State) (page code : Nat) : State :=
  ((s.put (HDR.STATE_REFUSED page) 1).put (HDR.STATE_REFUSE_CODE page) code).addSat (HDR.STATE_REFUSE_COUNT page) 1

/-- Record the opcode of an accepted command (R414, R418). -/
def State.accept (s : State) (page op : Nat) : State :=
  ((s.put (HDR.CMD_STATUS_OPCODE page) op).put (HDR.CMD_STATUS_CANCELLED page) 0)

/-- The kind and number of the page with a common header that starts at a BAR0 offset; none elsewhere (R412). -/
def hdrPage (a : Nat) : Option (Page × Nat) :=
  match locate a with
  | some (p, n, o) => if o = 0 && (blockType p).isSome then some (p, n) else none
  | none => none

/-- CTRL.ENABLE has effect in the page (R415). -/
def hasEnable (p : Page) : Bool :=
  match p with
  | .gate => true | .cam => true | .seam => true | .mould => true | .dev => false | .clk => false | .pwr => false
  | .time => false | .chk => false | .trg => false | .shot => false | .brg => false | .slice => false | .ladle => false
  | .qd => false | .pour => false | .ring => false | .hbm => false | .pex => false | .msix => false | .pba => false

/-- A peer reset of the units of some pages (R393): counted, and the pulse counts not yet transferred are dropped. -/
def State.peerReset (s : State) (pages : List Nat) : State :=
  let t := s.each pages (fun t page => t.each [false, true] (fun t fault =>
    t.setXing (xingOf page fault) { t.xing (xingOf page fault) with busy := false, count := 0 }))
  t.inc CLK.PEER_RESETS

/-! ### Armed injections (R375) -/

/-- The injection armed in a page. -/
def State.armedOf (s : State) (page : Nat) : Option Armed := (s.faults.armed.find? (fun a => a.1 == page)).map (fun a => a.2)

/-- The armed injection of a page has acted or ended. -/
def State.disarm (s : State) (page : Nat) : State :=
  let t := s.put (HDR.FAULT_INJ_ARMED page) 0
  { t with faults := { t.faults with armed := t.faults.armed.filter (fun a => a.1 != page) } }

/-- A word that the injection `x` of a page can alter is written: it alters the first one, and ends without an occurrence when
that is overwritten unread. -/
def State.wroteWord (s : State) (page : Nat) (x : Armed) (word : Nat) : State :=
  match x.word with
  | none => { s with faults := { s.faults with
      armed := s.faults.armed.map (fun a => if a.1 == page then (a.1, { a.2 with word := some word }) else a) } }
  | some w => if w = word then s.disarm page else s

/-! ### Tables of units -/

def State.gate (s : State) (g : Nat) : GateSt := tget s.gates g {}
def State.setGate (s : State) (g : Nat) (v : GateSt) : State := { s with gates := tput s.gates g v {} }
def State.link (s : State) (c : Nat) : LinkSt := tget s.links c {}
def State.setLink (s : State) (c : Nat) (v : LinkSt) : State := { s with links := tput s.links c v {} }
def State.engine (s : State) (g : Nat) : EngineSt := tget s.engines g {}
def State.setEngine (s : State) (g : Nat) (v : EngineSt) : State := { s with engines := tput s.engines g v {} }
def State.cam (s : State) (c : Nat) : CamSt := tget s.cams c {}
def State.setCam (s : State) (c : Nat) (v : CamSt) : State := { s with cams := tput s.cams c v {} }
def State.slice (s : State) (k : Nat) : SliceSt := tget s.slices k {}
def State.setSlice (s : State) (k : Nat) (v : SliceSt) : State := { s with slices := tput s.slices k v {} }
def State.seam (s : State) (u : Nat) : SeamSt := tget s.seams u {}
def State.setSeam (s : State) (u : Nat) (v : SeamSt) : State := { s with seams := tput s.seams u v {} }
def State.mould (s : State) (m : Nat) : MouldSt := tget s.moulds m {}
def State.setMould (s : State) (m : Nat) (v : MouldSt) : State := { s with moulds := tput s.moulds m v {} }
def State.enc (s : State) (e : Nat) : EncSt := tget s.encs e {}
def State.setEnc (s : State) (e : Nat) (v : EncSt) : State := { s with encs := tput s.encs e v {} }
def State.timer (s : State) (t : Nat) : TimerSt := tget s.timers t {}
def State.setTimer (s : State) (t : Nat) (v : TimerSt) : State := { s with timers := tput s.timers t v {} }
def State.queue (s : State) (q : Nat) : QueueSt := tget s.queues q {}
def State.setQueue (s : State) (q : Nat) (v : QueueSt) : State := { s with queues := tput s.queues q v {} }
def State.bank (s : State) (b : Nat) : BankSt := tget s.banks b {}
def State.setBank (s : State) (b : Nat) (v : BankSt) : State := { s with banks := tput s.banks b v {} }
def State.prod (s : State) (p : Nat) : ProdSt := tget s.prods p {}
def State.setProd (s : State) (p : Nat) (v : ProdSt) : State := { s with prods := tput s.prods p v {} }
def State.ring (s : State) (q : Nat) : RingSt := tget s.rings q {}
def State.setRing (s : State) (q : Nat) (v : RingSt) : State := { s with rings := tput s.rings q v {} }
def State.chk (s : State) (n : Nat) : ChkSt := tget s.chks n {}
def State.setChk (s : State) (n : Nat) (v : ChkSt) : State := { s with chks := tput s.chks n v {} }
/-- The ledger entry that shot number n of port c uses (R244). -/
def State.record (s : State) (c n : Nat) : Rec := tget s.records (c * 64 + n % 64) {}
def State.setRecord (s : State) (c n : Nat) (v : Rec) : State :=
  { s with records := tput s.records (c * 64 + n % 64) v {} }
/-- The schedule side of a port. -/
def State.sched (s : State) (c : Nat) : SchedSt := (s.cam c).sched
def State.setSched (s : State) (c : Nat) (v : SchedSt) : State := s.setCam c { s.cam c with sched := v }

/-! ### Memory: the HBM (R11, R257) -/

/-- The canonical form of memory: addresses strictly rising, no entry equal to an unlisted byte. -/
abbrev Memory.wf (m : List Host.Cell) : Prop := tableOk (fun _ => (0 : BitVec 8)) m = true

/-- One byte of HBM outside the regions of the ladle. -/
def State.hbmByte (s : State) (a : Nat) : Byte := tget s.hbm a 0

/-- n bytes of HBM from an address. -/
def State.hbmRead (s : State) (a n : Nat) : List Byte := (List.range n).map (fun i => s.hbmByte (a + i))

/-- Memory with bytes stored from an address upward. -/
def hbmStore (m : List Host.Cell) (a : Nat) (l : List Byte) : List Host.Cell :=
  match l with
  | [] => m
  | b :: t => hbmStore (tput m a b 0) (a + 1) t

/-- HBM stack and pseudo-channel of a byte address, stack * 32 + channel (log entry 5). -/
def channelOf (a : Nat) : Nat := Config.hbmChannel a % 128

/-- Some pseudo-channel is in power-down or self-refresh (R405). -/
def State.hbmRests (s : State) : Bool :=
  !s.supply.powerDown.isEmpty || (List.range 4).any (fun h => s.get (HBM.HBM_PWR_STATUS h) != 0)

/-- A request to pseudo-channel c ends its power-down or self-refresh (R405). -/
def State.wakeChannel (s : State) (c : Nat) : State :=
  let t := s.putBit (HBM.HBM_PWR_STATUS (c / 32)) (c % 32) false
  { t with supply := { t.supply with powerDown := t.supply.powerDown.filter (fun x => x != c) } }

/-- Requests to the n bytes of HBM from address a (R405). -/
def State.touch (s : State) (a n : Nat) : State :=
  if s.hbmRests then s.each (List.range n) (fun t i => t.wakeChannel (channelOf (a + i))) else s

/-- The condition of a site is live in a sub-unit (R353). -/
def State.isLive (s : State) (page bit detail : Nat) : Bool :=
  s.faults.live.any (fun l => l.page == page && l.bit == bit && l.detail == detail)

/-- The HBM word that holds a byte, 32 bytes from an address that is a multiple of 32 (log entry 58). -/
def hbmWord (a : Nat) : Nat := a / 32 * 32

/-- The n bytes of HBM from address a are written: an injection armed at an ECC site of their pseudo-channels meets its word
(R375). -/
def State.wroteHbm (s : State) (a n : Nat) : State :=
  if s.faults.armed.isEmpty then s
  else s.each (List.range 4) (fun t h =>
    match t.armedOf (hbmPage h) with
    | none => t
    | some x =>
      if 1 < x.bit then t
      else match x.word with
        | none =>
          match (List.range n).find? (fun i => channelOf (a + i) == 32 * h + x.detail) with
          | some i => t.wroteWord (hbmPage h) x (hbmWord (a + i))
          | none => t
        | some w => if a < w + 32 && decide (w < a + n) then t.wroteWord (hbmPage h) x w else t)

/-- Store bytes in HBM from an address upward. -/
def State.hbmWrite (s : State) (a : Nat) (l : List Byte) : State :=
  let t := (s.touch a l.length).wroteHbm a l.length
  { t with hbm := hbmStore t.hbm a l }

/-- A pseudo-channel is fenced (R381); c is stack * 32 + channel. -/
def State.channelFenced (s : State) (c : Nat) : Bool := s.bitAt (HBM.PC_FENCED (c / 32)) (c % 32)

/-- Some pseudo-channel is fenced. -/
def State.anyChannelFenced (s : State) : Bool := (List.range 4).any (fun h => s.get (HBM.PC_FENCED h) != 0)

/-- Reads and writes of an HBM byte address fail: its pseudo-channel is fenced (R359). -/
def State.hbmFails (s : State) (a : Nat) : Bool := s.anyChannelFenced && s.channelFenced (channelOf a)

end Sys2Proof.Machine
end

