-- ==== Sys2Proof/Machine/Ladle.lean ====
section
/-!
DEFINITION. The ladle: cells, queues, reservation, commit, pop, flush, queue reset and sweep (R257 to R283).

The fault reactions that go with them are in LadleCmd.lean and Faults.lean; these operations only move cells and packets.
-/

namespace Sys2Proof.Machine

/-! ### Banks and cells -/

/-- The home bank of a queue (R258). -/
def homeBank (q : Nat) : Nat := q % 16

/-- Cells that a packet of p payload bytes takes (R260). -/
def cellsFor (p : Nat) : Nat := ceilDiv (64 + p) 256

/-- Cells on the free-cell stack of a bank (BANK_FREE). -/
def State.bankFree (s : State) (b : Nat) : Nat := (s.bank b).top.length + (s.bank b).untouched

/-- Set AVAIL; LOW_POOL is raised when it falls below POOL_WARN (R282). -/
def State.setAvail (s : State) (b v : Nat) : State :=
  let w := s.get (LADLE.POOL_WARN b)
  let t := s.put (LADLE.BANK_AVAIL b) v
  if w ≤ s.get (LADLE.BANK_AVAIL b) && decide (v < w) then t.raise (ladlePage b) 4 else t

/-- A cell lies in a fenced pseudo-channel (R277). -/
def State.cellFails (s : State) (n : Nat) : Bool := s.hbmFails (n * 256)

/-- HBM byte address of entry i of the free-cell stack of bank b (R257). -/
def stackAddr (b i : Nat) : Nat := 0xF84000000 + b * 0x400000 + 4 * i

/-- HBM byte address of the link entry of cell n (R257). -/
def linkAddr (n : Nat) : Nat := 0xF80000000 + 4 * n

/-- The cell at position i of the free-cell stack of bank b; position 0 is the bottom. -/
def State.stackCell (s : State) (b i : Nat) : Nat :=
  let k := s.bank b
  if i < k.untouched then b * 1048576 + ((Config.cellOrder b) (Fin.ofNat 1048576 i)).val
  else k.top.getD (k.top.length + k.untouched - 1 - i) 0

/-- Take the top cell of a bank's free-cell stack; none when it is empty. -/
def State.takeCell (s : State) (b : Nat) : Option (Nat × State) :=
  let k := s.bank b
  let t := s.touch (stackAddr b (s.bankFree b - 1)) 4
  match k.top with
  | n :: rest => some (n, t.setBank b { k with top := rest })
  | [] =>
    if k.untouched = 0 then none
    else some (s.stackCell b (k.untouched - 1), t.setBank b { k with untouched := k.untouched - 1 })

/-- A cell reaches the free-cell stack of its bank: retired when its pseudo-channel is fenced; otherwise its entry is written,
and it settles a debt or raises AVAIL (R270, R277). -/
def State.returnCell (s : State) (n : Nat) : State :=
  let b := n / 1048576
  let k := s.bank b
  if s.cellFails n then (s.setBank b { k with retired := n :: k.retired }).inc (LADLE.BANK_RETIRED b)
  else
    let t := (s.touch (stackAddr b (s.bankFree b)) 4).wroteHbm (stackAddr b (s.bankFree b)) 4
    let t := match t.armedOf (ladlePage b) with
      | some x => if x.bit = 3 then t.wroteWord (ladlePage b) x (s.bankFree b) else t
      | none => t
    if k.debt > 0 then t.setBank b { k with top := n :: k.top, debt := k.debt - 1 }
    else (t.setBank b { k with top := n :: k.top }).setAvail b (t.get (LADLE.BANK_AVAIL b) + 1)

/-- Return several cells. -/
def State.returnCells (s : State) (l : List Nat) : State := s.each l State.returnCell

/-- Cells that only a sweep can find again. -/
def State.strayCells (s : State) (b : Nat) (l : List Nat) : State :=
  s.setBank b { s.bank b with stray := l ++ (s.bank b).stray }

/-! ### Queues -/

/-- Queue q exists (R271). -/
def State.queueExists (s : State) (q : Nat) : Bool := !s.on LADLE.LADLE_CFG || decide (q < 1024)

/-- Queue q accepts reservations (R264, R271). -/
def State.queueEn (s : State) (q : Nat) : Bool := s.queueExists q && s.on (QD.Q_CFG_EN q)

/-- The ladle bank is fenced (R359). -/
def State.bankFenced (s : State) (b : Nat) : Bool := s.on (HDR.FAULT_REACT_FENCED (ladlePage b))

/-- Queue q is fenced, or behaves as fenced with its bank (R276, R359). -/
def State.queueFenced (s : State) (q : Nat) : Bool := s.on (QD.Q_STATUS_FENCED q) || s.bankFenced (homeBank q)

/-- Queue q is ordered (R271). -/
def State.queueOrdered (s : State) (q : Nat) : Bool := s.on LADLE.LADLE_CFG && s.on (QD.Q_CFG_ORDERED q)

/-- Open packets on queue q (R264). -/
def State.openOn (s : State) (q : Nat) : List (Nat × Packet) :=
  s.prods.filterMap (fun p => match p.2.cur with | some k => if k.queue = q then some (p.1, k) else none | none => none)

/-- The packet the next pop claims, and the queue without it: of the lowest-numbered sub-list that holds one (R270). -/
def headOf (ordered : Bool) (l : List Packet) : Option (Packet × List Packet) :=
  match l with
  | [] => none
  | p :: t =>
    if ordered then
      let best := (l.map (fun k => k.prio)).foldl min p.prio
      match l.find? (fun k => k.prio == best) with
      | some k => some (k, l.erase k)
      | none => some (p, t)
    else some (p, t)

/-- Write HEAD: the first cell of the packet the next pop claims; with none, an open value (log entry 4). -/
def State.putHead (s : State) (q : Nat) : State :=
  match headOf (s.queueOrdered q) (s.queue q).committed with
  | some (k, _) => (s.put (QD.Q_HEAD_A q) (k.cells.headD 0)).put (QD.Q_HEAD_B q) (k.cells.headD 0)
  | none =>
    let v := s.draw
    (v.2.put (QD.Q_HEAD_A q) v.1).put (QD.Q_HEAD_B q) v.1

/-- Raise OCC by n and the highest OCC with it (R264, R280). -/
def State.addOcc (s : State) (q n : Nat) : State :=
  let o := s.get (QD.Q_OCC q) + n
  (s.put (QD.Q_OCC q) o).put (QD.Q_HWM q) (max (s.get (QD.Q_HWM q)) o)

/-! ### Reservation, taking cells, commit, abandonment -/

/-- The condition of R264. -/
def State.hasRoom (s : State) (q need : Nat) : Bool :=
  let lim := s.get (QD.Q_LIMIT q)
  (lim == 0 || decide (s.get (QD.Q_OCC q) + need ≤ lim)) && decide (need ≤ s.get (LADLE.BANK_AVAIL (homeBank q)))

/-- Take the queue's next sequence number (R266). -/
def State.takeSeq (s : State) (q : Nat) : State := s.inc (QD.Q_SEQ q)

/-- A reservation that fails for lack of room (R265). -/
def State.overrun (s : State) (q : Nat) : State :=
  let b := homeBank q
  let t := ((s.inc (QD.Q_OVERRUN q)).put (QD.Q_STATUS_OVERRUN q) 1).put (LADLE.LAST_OVERRUN_Q b) q
  let t := (t.inc (LADLE.OVERRUN_TOTAL b)).setQueue q { t.queue q with overrunBefore := true }
  t.raise (ladlePage b) 0

/-- A reservation on a queue that is not enabled (R265). -/
def State.noQueue (s : State) (q : Nat) : State :=
  let b := homeBank q
  ((s.inc (LADLE.NOQ_DROP b)).put (LADLE.LAST_NOQ_Q b) q).raise (ladlePage b) 1

/-- Producer p reserves for the packet k (R264 to R266). Answers whether it succeeded. -/
def State.reserve (s : State) (p : Nat) (k : Packet) : State × Bool :=
  let q := k.queue
  let need := cellsFor k.payload.length
  if !s.queueEn q then (s.noQueue q, false)
  else
    let seq := s.get (QD.Q_SEQ q)
    let t := s.takeSeq q
    if s.queueFenced q then (t.inc (QD.Q_DROPPED q), false)
    else if !s.hasRoom q need then (t.overrun q, false)
    else
      let t := (t.addOcc q need).setAvail (homeBank q) (t.get (LADLE.BANK_AVAIL (homeBank q)) - need)
      (t.setProd p { t.prod p with cur := some { k with seq := seq, need := need, cells := [] } }, true)

/-- An open packet is abandoned (R268): its reservation is released and its cells return. -/
def State.abandonOpen (s : State) (p : Nat) : State :=
  match (s.prod p).cur with
  | none => s
  | some k =>
    let b := homeBank k.queue
    let t := s.setProd p { s.prod p with cur := none }
    let t := t.inc (QD.Q_DROPPED k.queue)
    let t := if k.outOfOcc then t else t.sub (QD.Q_OCC k.queue) k.need
    let t := t.setAvail b (t.get (LADLE.BANK_AVAIL b) + (k.need - k.cells.length))
    t.returnCells k.cells.reverse

/-- The link entry of a cell of queue q is written: it is good from now on (R275), unless an injection alters it (R375). -/
def State.linkWritten (s : State) (q : Nat) (n : Option Nat) : State :=
  match n with
  | none => s
  | some n =>
    let t := (s.touch (linkAddr n) 4).wroteHbm (linkAddr n) 4
    let t := { t with badLinks := t.badLinks.filter (fun x => x != n) }
    match t.armedOf (ladlePage (homeBank q)) with
    | some x => if x.bit < 2 && x.detail == q then t.wroteWord (ladlePage (homeBank q)) x n else t
    | none => t

/-- FLUSHING clears when no marked cell is left to return and no marked packet is open (R273). -/
def State.flushCheck (s : State) (q : Nat) : State :=
  let u := s.queue q
  if u.flushing && u.markedCells.isEmpty && (s.openOn q).all (fun p => !p.2.marked || p.2.outOfOcc) then
    s.setQueue q { u with flushing := false }
  else s

/-- The commit of producer p's open packet with its final header (R260, R267, R273, R274). -/
def State.commitOpen (s : State) (p : Nat) (hdr : PktHdr) : State :=
  match (s.prod p).cur with
  | none => s
  | some k =>
    let q := k.queue
    let t := s.setProd p { s.prod p with cur := none }
    if k.outOfOcc then t.strayCells (homeBank q) k.cells
    else if k.marked then
      let t := t.sub (QD.Q_OCC q) k.need
      t.setQueue q { t.queue q with markedCells := (t.queue q).markedCells ++ k.cells }
    else
      let u := t.queue q
      let k := { k with hdr := hdr }
      let t := t.each k.cells (fun t n => (t.touch (n * 256) 256).wroteHbm (n * 256) 256)
      let t := t.setQueue q { u with committed := u.committed ++ [k], overrunBefore := false }
      let t := (t.inc (QD.Q_PUSHED q)).putHead q
      (t.put (QD.Q_TAIL_A q) (k.cells.getLastD 0)).put (QD.Q_TAIL_B q) (k.cells.getLastD 0)

/-! ### Pop -/

/-- A pop of queue q succeeds (R270, R276). -/
def State.canPop (s : State) (q : Nat) : Bool :=
  s.queueExists q && !s.queueFenced q && !(s.queue q).committed.isEmpty && (s.queue q).claimed.isNone

/-- Claim the head packet (R270). -/
def State.claim (s : State) (q : Nat) : State :=
  match headOf (s.queueOrdered q) (s.queue q).committed with
  | none => s
  | some (k, rest) =>
    let t := s.setQueue q { s.queue q with committed := rest, claimed := some k, readBytes := 0 }
    ((t.sub (QD.Q_OCC q) k.cells.length).inc (QD.Q_POPPED q)).putHead q

/-- The header bytes of a packet (R261). -/
def Packet.headerBytes (k : Packet) : List Byte :=
  let h := k.hdr
  let l :=
    leBytes 1 h.kind ++ leBytes 1 h.hflags ++ leBytes 2 k.queue ++ leBytes 4 k.seq ++ leBytes 4 k.payload.length ++
    leBytes 1 h.srcUnit ++ leBytes 1 h.srcSub ++ leBytes 1 h.sample ++ leBytes 1 h.pixfmt ++ leBytes 4 h.shot ++
    leBytes 4 h.version ++ leBytes 4 h.line ++ leBytes 4 h.samples ++ leBytes 2 h.lflags ++ leBytes 2 h.fstat ++
    leBytes 2 h.xstat ++ leBytes 1 h.nrCause ++ leBytes 1 0 ++ leBytes 8 h.tCommit ++ leBytes 8 h.tTrig ++
    leBytes 4 h.aux
  l ++ leBytes 4 (crc32c l)

/-- All bytes of a packet: header and payload (R260). -/
def Packet.bytes (k : Packet) : List Byte := k.headerBytes ++ k.payload

/-- Cells of a packet that n bytes read bring to their end (R270). -/
def Packet.cellsRead (k : Packet) (n : Nat) : Nat := if 64 + k.payload.length ≤ n then k.cells.length else n / 256

/-- The consumer has read `n` bytes in all: cells read to their end return in the next cycle (R270). -/
def State.readUpTo (s : State) (q n : Nat) : State :=
  let u := s.queue q
  match u.claimed with
  | none => s
  | some k =>
    let back := (k.cells.take (k.cellsRead n)).drop (k.cellsRead u.readBytes)
    (s.each back (fun t n => (t.touch (n * 256) 256).touch (linkAddr n) 4)).setQueue q
      { u with readBytes := n, returning := u.returning ++ back }

/-- The consumer has read the packet it claimed whole: every cell returns (R270). -/
def State.endClaim (s : State) (q : Nat) : State :=
  match (s.queue q).claimed with
  | none => s
  | some k =>
    let t := s.readUpTo q (64 + k.payload.length)
    t.setQueue q { t.queue q with claimed := none, readBytes := 0 }

/-- The consumer gives up the packet it claimed: its remaining cells are read and discarded, by a walk over its links (R210,
R275, R295, R312). -/
def State.dropClaim (s : State) (q : Nat) : State :=
  let u := s.queue q
  match u.claimed with
  | none => s
  | some k => s.setQueue q { u with claimed := none, readBytes := 0, walk := u.walk ++ k.cells.drop (k.cellsRead u.readBytes) }

/-- The consumer's read ends at byte n: the cells past it cannot be reached (R274, R275). -/
def State.cutClaim (s : State) (q n : Nat) : State :=
  match (s.queue q).claimed with
  | none => s
  | some k =>
    let t := s.readUpTo q (min n (k.cells.length * 256 - 1))
    let t := t.strayCells (homeBank q) (k.cells.drop (min n (k.cells.length * 256 - 1) / 256))
    t.setQueue q { t.queue q with claimed := none, readBytes := 0 }

/-! ### Queue reset, fence and flush -/

/-- A queue is reset (R274): its committed packets are lost, its open packets are discarded at commit, its cells leave
OCC for BANK_LOST. -/
def State.resetQueue (s : State) (q : Nat) : State :=
  let b := homeBank q
  let u := s.queue q
  let opens := s.openOn q
  let t := s.addSat (LADLE.BANK_LOST b) (s.get (QD.Q_OCC q))
  let t := (t.put (QD.Q_OCC q) 0).add (QD.Q_DISCARDED q)
    (u.committed.length + (opens.filter (fun p => !p.2.marked && !p.2.outOfOcc)).length)
  let t := t.strayCells b ((u.committed.map (fun k => k.cells)).flatten ++ u.walk ++ u.markedCells)
  let t := t.setQueue q { u with committed := [], walk := [], markedCells := [] }
  let t := t.each opens (fun t p => t.setProd p.1 { t.prod p.1 with cur := some { p.2 with marked := true, outOfOcc := true } })
  t.flushCheck q

/-- A queue fault (R274, R275): the queue is reset and fenced and the reset is reported. -/
def State.queueFault (s : State) (q : Nat) : State :=
  let b := homeBank q
  (((s.resetQueue q).put (QD.Q_STATUS_FENCED q) 1).put (LADLE.LAST_FAULT_Q b) q).raise (ladlePage b) 2

/-- FLUSH (R273). -/
def State.flushQueue (s : State) (q : Nat) : State :=
  let u := s.queue q
  let cells := (u.committed.map (fun k => k.cells)).flatten
  let opens := (s.openOn q).filter (fun p => !p.2.marked)
  let t := (s.sub (QD.Q_OCC q) cells.length).add (QD.Q_DISCARDED q) (u.committed.length + opens.length)
  let t := t.setQueue q { u with committed := [], markedCells := u.markedCells ++ cells, flushing := true }
  let t := t.each opens (fun t p => t.setProd p.1 { t.prod p.1 with cur := some { p.2 with marked := true } })
  t.putHead q

/-! ### The leak sweep -/

/-- Start a sweep of a bank (R278). -/
def State.startSweep (s : State) (b : Nat) : State :=
  (s.setBank b { s.bank b with sweepSet := (s.bank b).stray, sweepDue := false }).put (LADLE.SWEEP_STATUS_BUSY b) 1

/-- A rule asks for a sweep: it starts, or waits for the one that runs or for the bank's release (R278). -/
def State.wantSweep (s : State) (b : Nat) : State :=
  if s.bankFenced b || s.on (LADLE.SWEEP_STATUS_BUSY b) then s.setBank b { s.bank b with sweepDue := true }
  else s.startSweep b

/-- BANK_LOST has become non-zero: with AUTO = 1 a sweep starts on its own, but on a fenced bank none (R278). -/
def State.autoSweep (s : State) (before : Nat) (b : Nat) : State :=
  if before = 0 && s.get (LADLE.BANK_LOST b) != 0 && s.on (LADLE.SWEEP_CFG b) && !s.bankFenced b then s.wantSweep b else s

/-- AVAIL as the end of a sweep computes it (R279). -/
def State.trueAvail (s : State) (b : Nat) : Nat :=
  let held := (s.queues.filter (fun p => homeBank p.1 == b)).map (fun p =>
    (p.2.committed.map (fun k => k.cells.length)).sum +
      (match p.2.claimed with | some k => k.cells.length - k.cellsRead p.2.readBytes | none => 0) +
      p.2.returning.length + p.2.walk.length + p.2.markedCells.length)
  let opens := s.prods.filterMap (fun p => match p.2.cur with
    | some k => if homeBank k.queue = b && !k.outOfOcc then some k.need else none
    | none => none)
  1048576 - (s.get (LADLE.BANK_RETIRED b) + held.sum + opens.sum + s.get (LADLE.BANK_LOST b))

/-- The end of a sweep (R278, R279). Answers whether AVAIL differed from the recomputed value. -/
def State.endSweep (s : State) (b : Nat) : State × Bool :=
  let k := s.bank b
  let t := s.setBank b { k with stray := k.stray.filter (fun n => !k.sweepSet.contains n), sweepSet := [] }
  let t := t.returnCells k.sweepSet
  let t := (t.put (LADLE.SWEEP_STATUS_FOUND b) k.sweepSet.length).sub (LADLE.BANK_LOST b) k.sweepSet.length
  let t := ((t.put (LADLE.SWEEP_STATUS_BUSY b) 0).inc (LADLE.SWEEP_COUNT b)).raise (ladlePage b) 3
  let was := t.get (LADLE.BANK_AVAIL b)
  let v := t.trueAvail b
  let t := t.setBank b { t.bank b with debt := 0 }
  if was = v then (t, false) else ((t.setAvail b v).inc (LADLE.ACCT_ERR b), true)

/-- The free-cell stack of a bank without the entry at position i: those above it move down by one. -/
def State.cutStack (s : State) (b i : Nat) : State :=
  let k := s.bank b
  if i < k.untouched then
    s.setBank b { k with
      top := k.top ++ (List.range (k.untouched - 1 - i)).map (fun j => s.stackCell b (k.untouched - 1 - j)), untouched := i }
  else s.setBank b { k with top := k.top.eraseIdx (k.top.length + k.untouched - 1 - i) }

/-- An uncorrectable free-stack entry, at position i, loses its cell (R277). -/
def State.loseFree (s : State) (b i : Nat) : State :=
  if s.bankFree b ≤ i then s
  else
    let before := s.get (LADLE.BANK_LOST b)
    let t := ((s.cutStack b i).strayCells b [s.stackCell b i]).addSat (LADLE.BANK_LOST b) 1
    let a := t.get (LADLE.BANK_AVAIL b)
    let t := if a > 0 then t.setAvail b (a - 1) else t.setBank b { t.bank b with debt := (t.bank b).debt + 1 }
    t.autoSweep before b

/-! ### What a read of an entry finds (R275, R277, R375) -/

/-- The state of the link entry of a cell that a walk follows: bad when it is known to be, or when an injection has altered it
(R275, R375). -/
def State.linkEcc (s : State) (n : Nat) (e : Ecc) : Ecc :=
  if s.badLinks.contains n then .ue
  else match s.armedOf (ladlePage (n / 1048576)) with
    | some x => if 1 < x.bit || x.word != some n then e else if x.bit = 0 && e != .ue then .ce else .ue
    | none => e

/-- The state of the entry at position i of a bank's free-cell stack, as a read finds it: bad where an injection has altered it
(R375). -/
def State.stackEcc (s : State) (b i : Nat) (e : Ecc) : Ecc :=
  match s.armedOf (ladlePage b) with
  | some x => if x.bit = 3 && x.word == some i then .ue else e
  | none => e

/-! ### What stands in the ladle's HBM regions (R257, R259, R260) -/

/-- The four bytes of an entry that holds a cell number; `own` is the number the check bits cover with it (R259). -/
def entryBytes (cell own : Nat) : List Byte := leBytes 3 cell ++ [Config.checkBits cell own]

/-- The element after n in a list. -/
def after (n : Nat) : List Nat → Option Nat
  | a :: b :: t => if a = n then some b else after n (b :: t)
  | _ => none

/-- The chains of queue q: in each, the cells of a claimed and of the committed packets of the queue or the sub-list, one packet
chained to the next (R259), and those that a walk or a flush has yet to follow. -/
def State.chains (s : State) (q : Nat) : List (List Nat) :=
  let u := s.queue q
  let held := u.claimed.toList ++ u.committed
  let lists := if s.queueOrdered q then (List.range 8).map (fun p => held.filter (fun k => k.prio == p)) else [held]
  lists.map (fun l => (l.map (fun k => k.cells)).flatten) ++ [u.walk, u.markedCells]

/-- The cell chained behind cell n. -/
def State.linkOf (s : State) (n : Nat) : Option Nat :=
  let l := (s.queues.map (fun p => s.chains p.1)).flatten ++
    s.prods.filterMap (fun p => p.2.cur.map (fun k => k.cells))
  l.findSome? (after n)

/-- Byte i of the packet that holds cell n, at offset o of the cell; the header is written at the commit (R260). -/
def State.cellByte (s : State) (n o : Nat) : Option Byte :=
  let at_ (k : Packet) (l : List Byte) : Option Byte :=
    if k.cells.contains n then l[k.cells.idxOf n * 256 + o]? else none
  let done := (s.queues.map (fun p => p.2.claimed.toList ++ p.2.committed)).flatten
  match done.findSome? (fun k => at_ k k.bytes) with
  | some v => some v
  | none => s.prods.findSome? (fun p => match p.2.cur with
    | some k => if k.cells.head? = some n && decide (o < 64) then none else at_ k (List.replicate 64 0 ++ k.payload)
    | none => none)

/-- One byte of HBM, the ladle's regions included: cells, link table and free-cell stacks as the ladle's structures give them,
and an open value where none does (R257, R259, R260). -/
def State.memByte (s : State) (a : Nat) : Byte :=
  let stale := Config.staleByte a
  if a < 0x100000000 then (s.cellByte (a / 256) (a % 256)).getD stale
  else if 0xF80000000 ≤ a && a < 0xF84000000 then
    let n := (a - 0xF80000000) / 4
    match s.linkOf n with
    | some m => if s.badLinks.contains n then stale else (entryBytes m n).getD (a % 4) 0
    | none => stale
  else if 0xF84000000 ≤ a && a < 0xF88000000 then
    let b := (a - 0xF84000000) / 0x400000
    let i := (a - 0xF84000000) % 0x400000 / 4
    if i < s.bankFree b then (entryBytes (s.stackCell b i) i).getD (a % 4) 0 else stale
  else s.hbmByte a

end Sys2Proof.Machine
end

