-- ==== Sys2Proof/Machine/ShotOps.lean ====
section
/-!
DEFINITION. Shared operations on shots: serving slices, ledger records, schedules, source events, pins, encoders, and
the outcomes of settings commits (R20, R225 to R246).
-/

namespace Sys2Proof.Machine

/-! ### Which slice serves a port -/

/-- The slice that serves camera port c (R19, R370). -/
def State.serving (s : State) (c : Nat) : Nat :=
  if s.on SLICE.SPARE_STATUS_IN_USE && s.get SLICE.SPARE_STATUS_FOR == c / 8 then 32 else c / 8

/-- The slice whose ports slice k serves: itself, or for S32 the slice it stands for (R370). -/
def State.servedGroup (s : State) (k : Nat) : Option Nat :=
  if k = 32 then (if s.on SLICE.SPARE_STATUS_IN_USE then some (s.get SLICE.SPARE_STATUS_FOR) else none)
  else if s.on SLICE.SPARE_STATUS_IN_USE && s.get SLICE.SPARE_STATUS_FOR == k then none else some k

/-- The ports that slice k serves. -/
def State.servedPorts (s : State) (k : Nat) : List Nat :=
  match s.servedGroup k with
  | some g => (List.range 8).map (fun i => 8 * g + i)
  | none => []

/-- Camera port c is enabled (R129). -/
def State.portEnabled (s : State) (c : Nat) : Bool := s.on (HDR.CTRL_ENABLE (camPage c))

/-- Camera port c is fenced (R471). -/
def State.portFenced (s : State) (c : Nat) : Bool := s.on (HDR.FAULT_REACT_FENCED (camPage c))

/-- A packet waits at a producer. -/
def State.pushPacket (s : State) (p : Nat) (k : Packet) : State :=
  s.setProd p { s.prod p with todo := (s.prod p).todo ++ [k] }

/-! ### Ledger records (R244, R245) -/

/-- The ledger group of port c is fenced (R360). -/
def State.groupFenced (s : State) (c : Nat) : Bool := s.on (HDR.FAULT_REACT_FENCED (shotPage (c / 16)))

/-- The 32 bytes of a record. -/
def Rec.bytes (r : Rec) : List Byte :=
  leBytes 4 r.shot ++ leBytes 4 r.version ++ leBytes 8 r.tTrig ++ leBytes 6 r.pos ++ leBytes 2 r.fstat ++
  leBytes 2 r.flags ++ leBytes 1 r.slot ++ leBytes 1 r.late ++ leBytes 4 r.fsDelay

/-- The ledger holds shot n of port c. -/
def State.holdsShot (s : State) (c n : Nat) : Bool := (s.record c n).held && (s.record c n).shot == n

/-- Change the record of a shot, where the ledger holds it. -/
def State.onRecord (s : State) (c n : Nat) (f : Rec → Rec) : State :=
  if s.holdsShot c n then s.setRecord c n (f (s.record c n)) else s

/-- Set a flag of a shot's record. -/
def State.flagRecord (s : State) (c n bit : Nat) : State :=
  s.onRecord c n (fun r => { r with flags := setBitN r.flags bit })

/-- A record packet for a shot that is marked MISSING_FRAME (R251). -/
def State.recordPacket (s : State) (c n : Nat) : Packet :=
  let r := if s.holdsShot c n then s.record c n else { shot := n }
  { queue := s.get (CAM.STAT_QUEUE_QUEUE c), prio := s.get (CAM.STAT_QUEUE_PRIO c), payload := r.bytes,
    hdr := { kind := 3, hflags := 16 * s.get (CAM.STAT_QUEUE_PRIO c), srcUnit := c,
             pixfmt := s.get (CAM.FMT_CFG_PIXEL_FORMAT c), shot := n, version := r.version, tTrig := r.tTrig } }

/-- A shot is marked MISSING_FRAME (R100, R237, R251). -/
def State.markMissing (s : State) (c n : Nat) : State :=
  let d := s.sched c
  let t := s.setSched c { d with outst := d.outst.filter (fun p => p.1 != n) }
  let t := ((t.flagRecord c n 2).inc (CAM.FC_MISSING_FRAME c)).raise (gatePage (c / 2)) 11
  if t.on (CAM.STAT_CFG c) then t.pushPacket (t.serving c) (t.recordPacket c n) else t

/-! ### Schedules (R229 to R236) -/

/-- Schedule c is enabled. -/
def State.schedOn (s : State) (c : Nat) : Bool := s.on (CAM.SCHED_CFG_EN c)

/-- Some schedule is enabled. -/
def State.anySched (s : State) : Bool := (List.range 256).any s.schedOn

/-- SCHED_CFG.EN becomes 0: pending instants are discarded and SYNC clears (R233, R236). -/
def State.schedClear (s : State) (c : Nat) : State :=
  let t := (s.put (CAM.SCHED_CFG_EN c) 0).put (CAM.SHOT_STATUS_SYNC c) 0
  t.setSched c { t.sched c with pend := [] }

/-- Events of the schedule are counted from now (R229, R236). -/
def State.schedSync (s : State) (c : Nat) : State :=
  (s.put (CAM.SHOT_STATUS_SYNC c) 1).setSched c { s.sched c with j := 0 }

/-- A pending instant in its place by time, behind those of equal time. -/
def insertPend (l : List Pend) (p : Pend) : List Pend :=
  match l with
  | [] => [p]
  | x :: t => if p.t8 < x.t8 then p :: x :: t else x :: insertPend t p

/-- The trigger fabric is fenced (R360). -/
def State.fabricFenced (s : State) : Bool := s.on (HDR.FAULT_REACT_FENCED (trgPage 0))

/-- One schedule sees a source event at e8, in eighths of a ns (R229, R230). -/
def State.schedEvent (s : State) (c e8 : Nat) (soft : Bool) : State :=
  let d := s.sched c
  let t := s.setSched c { d with j := d.j + 1 }
  if d.j % (s.get (CAM.SCHED_DIV_DIV c) + 1) ≠ s.get (CAM.SCHED_DIV_PHASE c) then t
  else
    let t8 := e8 + 8 * s.get (CAM.SCHED_DELAY c)
    let early := match d.last8 with
      | some l => decide (t8 < l + 8 * s.get (CAM.SCHED_HOLDOFF c))
      | none => false
    if early then t.inc (CAM.SHOT_SUPPRESSED c)
    else if 16 ≤ d.pend.length then (t.inc (CAM.SHOT_OVF c)).raise (camPage c) 10
    else t.setSched c { t.sched c with pend := insertPend d.pend ⟨t8, soft⟩ }

/-- A source event of a kind and index (R225): every enabled, synchronised schedule that names it sees it. -/
def State.sourceEvent (s : State) (kind index e8 : Nat) : State :=
  if s.fabricFenced then s
  else
    s.each (List.range 256) (fun t c =>
      if t.schedOn c && t.on (CAM.SHOT_STATUS_SYNC c) && t.get (CAM.SCHED_CFG_KIND c) == kind &&
          t.get (CAM.SCHED_CFG_INDEX c) == index then t.schedEvent c e8 (kind == 3)
      else t)

/-! ### Trigger pins (R231, R234, R252) -/

/-- The level an output pin is driven to at an instant in eighths of a ns: the OR of its strobes, at its polarity (R231). -/
def State.pinLevel (s : State) (n t8 : Nat) : Bool :=
  xor (s.strobes.any (fun x => x.pin == n && decide (x.on8 ≤ t8) && decide (t8 < x.t8))) (s.on (TRG.PIN_CFG_ACTIVE_LOW n))

/-- Record the level of a pin in PIN_IN. -/
def State.putPin (s : State) (n : Nat) (v : Bool) : State :=
  s.putBit (if n < 32 then TRG.PIN_IN_LO else TRG.PIN_IN_HI) (n % 32) v

/-- Drive an output pin from its strobes at device time t8 / 8. -/
def State.drivePin (s : State) (n t8 : Nat) : State :=
  if s.on (TRG.PIN_CFG_DIR n) then s.emit (.pin n (s.pinLevel n t8) t8) else s

/-- PIN_IN of the 32 pins from `first`: an output reads the level it is driven to, an input the level last seen (R234). -/
def State.pinIn (s : State) (first : Nat) (w : Word) : Word :=
  (List.range 32).foldl (fun (v : Word) i =>
    if s.on (TRG.PIN_CFG_DIR (first + i)) then setBits v i i (b2n (s.pinLevel (first + i) (8 * s.now))) else v) w

/-- Every trigger output is driven inactive and strobes end (R360, R372, R387). -/
def State.endStrobes (s : State) : State :=
  let pins := (s.strobes.map (fun x => x.pin)).dedup
  { s with strobes := [] }.each pins (fun t n => t.drivePin n (8 * t.now))

/-- The fence of the trigger fabric (R360). -/
def State.stopFabric (s : State) : State :=
  let t := s.endStrobes
  t.each (List.range 256) (fun t c => t.setSched c { t.sched c with pend := [] })

/-- The release of the trigger fabric: every schedule counts events from now (R360). -/
def State.restartFabric (s : State) : State :=
  s.each (List.range 256) (fun t c => t.setSched c { t.sched c with j := 0 })

/-! ### Encoders, compare units and timers (R226 to R228) -/

/-- Position of encoder e. -/
def State.encPos (s : State) (e : Nat) : Nat := s.get64 (TRG.ENC_POS_LO e) (TRG.ENC_POS_HI e)

/-- Set the position of encoder e, modulo 2^48. -/
def State.putPos (s : State) (e v : Nat) : State := s.put64 (TRG.ENC_POS_LO e) (TRG.ENC_POS_HI e) (v % 2 ^ 48)

/-- Encoder e is fenced (R360). -/
def State.encFenced (s : State) (e : Nat) : Bool := s.bitAt TRG.ENC_FENCED e

/-- Compare unit k after encoder e has counted to its position (R227). -/
def State.compare (s : State) (k e : Nat) (up : Bool) (t : Nat) : State :=
  let step := sext 32 (s.get (TRG.CMP_STEP k))
  let next := s.get64 (TRG.CMP_NEXT_LO k) (TRG.CMP_NEXT_HI k)
  if s.on (TRG.CMP_CFG_EN k) && s.get (TRG.CMP_CFG_ENC k) == e && s.encPos e == next &&
      (if up then decide (step > 0) else decide (step < 0)) then
    let u := (s.put64 (TRG.CMP_NEXT_LO k) (TRG.CMP_NEXT_HI k) (toBits 48 ((next : Int) + step))).inc (TRG.CMP_COUNT k)
    u.sourceEvent 1 k (8 * (t + s.get (TRG.ENC_CFG_FILTER e) + 4))
  else s

/-- One count of encoder e at time t, and the compare units that see it. -/
def State.encCount (s : State) (e : Nat) (up : Bool) (t : Nat) : State :=
  let p := s.encPos e
  let u := s.putPos e (if up then p + 1 else p + 2 ^ 48 - 1)
  u.each (List.range 32) (fun u k => u.compare k e up t)

/-- The first multiple of a timer not earlier than device time v (R228, R310). -/
def State.timerFirst (s : State) (k v : Nat) : Nat :=
  let st := s.get64 (TRG.TMR_START_LO k) (TRG.TMR_START_HI k)
  let per := s.get (TRG.TMR_PERIOD k)
  if v ≤ st then st else st + per * ceilDiv (v - st) per

/-- Every enabled timer takes its first multiple not earlier than device time (R310). -/
def State.realignTimers (s : State) : State :=
  s.each (List.range 16) (fun t k => if t.on (TRG.TMR_CFG k) then t.setTimer k ⟨t.timerFirst k t.now⟩ else t)

/-! ### Settings commits (R240 to R243) -/

/-- The state code of slot k in SET_SLOT_STATE. -/
def State.slotState (s : State) (c k : Nat) : Nat := s.get (CAM.SET_SLOT_STATE c) / 4 ^ k % 4

/-- Set the state code of slot k. -/
def State.putSlotState (s : State) (c k v : Nat) : State :=
  let w := s.get (CAM.SET_SLOT_STATE c)
  s.put (CAM.SET_SLOT_STATE c) (w - w / 4 ^ k % 4 * 4 ^ k + v * 4 ^ k)

/-- Change the commit of a slot. -/
def State.onCommit (s : State) (c k : Nat) (f : Commit → Commit) : State :=
  let d := s.sched c
  s.setSched c { d with commits := d.commits.map (fun x => if x.slot = k then f x else x) }

/-- The commit of a slot. -/
def State.commitOf (s : State) (c k : Nat) : Option Commit := (s.sched c).commits.find? (fun x => x.slot == k)

/-- A failed commit whose writes have all ended leaves its slot IDLE (R243). -/
def State.endFailed (s : State) (c k : Nat) : State :=
  match s.commitOf c k with
  | some x =>
    if x.failed && x.open_ == 0 then
      let d := s.sched c
      let t := (s.setSched c { d with commits := d.commits.filter (fun y => y.slot != k) }).putSlotState c k 0
      if x.acked > 0 then t.put (CAM.SET_STATUS c) 1 else t
    else s
  | none => s

/-- A write of the commit in slot k is acknowledged (R241, R243). -/
def State.commitAck (s : State) (c k : Nat) : State :=
  match s.commitOf c k with
  | some x =>
    let y := { x with acked := x.acked + 1, open_ := x.open_ - 1, tAck := s.now,
                      firstAck := if x.acked = 0 then s.now else x.firstAck }
    let done := !y.failed && y.acked == y.writes.length
    let t := s.onCommit c k (fun _ => { y with delivered := done })
    if done then t.putSlotState c k 3 else t.endFailed c k
  | none => s

/-- Writes of the commit in slot k end without acknowledgement: one failed, and `withdrawn` were never sent (R243). -/
def State.commitFail (s : State) (c k withdrawn : Nat) : State :=
  match s.commitOf c k with
  | some x =>
    let t := s.onCommit c k (fun y => { y with failed := true, open_ := y.open_ - 1 - withdrawn })
    (if x.failed then t else t.raise (camPage c) 9).endFailed c k
  | none => s

/-- The commits that come into force at a shot with instant t8 (R242): the schedule after it, the version and slot if one
came into force, and the flags LATE (bit 4) and PARTIAL (bit 5) of the first that did not. -/
def applyCommits (lead8 u t8 : Nat) : List Commit → List Commit × Option (Nat × Nat) × Nat
  | [] => ([], none, 0)
  | x :: t =>
    let aimed := match x.target with | none => true | some v => v == u || serialLt v u
    if (x.delivering || x.delivered) && !x.failed && aimed then
      if x.delivered && decide (8 * x.tAck + lead8 ≤ t8) then
        let r := applyCommits lead8 u t8 t
        (r.1, (match r.2.1 with | some v => some v | none => some (x.version, x.slot)), r.2.2)
      else
        let part := if x.acked > 0 && decide (8 * x.firstAck < t8) then 32 else 0
        (x :: t, none, part + (if x.target.isSome then 16 else 0))
    else
      let r := applyCommits lead8 u t8 t
      (x :: r.1, r.2.1, r.2.2)

end Sys2Proof.Machine
end

