-- ==== Sys2Proof/Machine/LinkOps.lean ====
section
/-!
DEFINITION. Shared operations on gates, lanes and link states, and on gate and slice power states (R50 to R59, R114,
R398 to R404).
-/

namespace Sys2Proof.Machine

/-! ### Fields of a camera port in its gate's page -/

/-- The field of port A or of port B. -/
def portFld (a b : Nat → Fld) (c : Nat) : Fld := if c % 2 = 0 then a (c / 2) else b (c / 2)

def LNK.STATE (c : Nat) : Fld := portFld GATE.LINK_STATUS_A_LINK_STATE GATE.LINK_STATUS_B_LINK_STATE c
def LNK.CLOCK_OK (c : Nat) : Fld := portFld GATE.LINK_STATUS_A_CLOCK_OK GATE.LINK_STATUS_B_CLOCK_OK c
def LNK.CLK_COUNT (c : Nat) : Fld := portFld GATE.LINK_STATUS_A_CLK_COUNT GATE.LINK_STATUS_B_CLK_COUNT c
def LNK.DLL_LOCK (c : Nat) : Fld := portFld GATE.LINK_STATUS_A_DLL_LOCK GATE.LINK_STATUS_B_DLL_LOCK c
def LNK.DESKEW_DONE (c : Nat) : Fld := portFld GATE.LINK_STATUS_A_DESKEW_DONE GATE.LINK_STATUS_B_DESKEW_DONE c
def LNK.BURST_WARN (c : Nat) : Fld := portFld GATE.LINK_STATUS_A_BURST_WARN GATE.LINK_STATUS_B_BURST_WARN c
def LNK.RATE (c : Nat) : Fld := portFld GATE.LINK_CFG_A_RATE GATE.LINK_CFG_B_RATE c
def LNK.BURST_WARN_EN (c : Nat) : Fld := portFld GATE.LINK_CFG_A_BURST_WARN_EN GATE.LINK_CFG_B_BURST_WARN_EN c
def LNK.ADAPT_ALL (c : Nat) : Fld := portFld GATE.LINK_CFG_A_ADAPT_ALL GATE.LINK_CFG_B_ADAPT_ALL c
def LNK.MASK (c : Nat) : Fld := portFld GATE.LANE_MASK_MASK_A GATE.LANE_MASK_MASK_B c
def LNK.DESKEW_ERR (c : Nat) : Fld := portFld GATE.DESKEW_ERR_A GATE.DESKEW_ERR_B c
def LNK.HDR_CRC_ERR (c : Nat) : Fld := portFld GATE.HDR_CRC_ERR_A GATE.HDR_CRC_ERR_B c
def LNK.PAY_CRC_ERR (c : Nat) : Fld := portFld GATE.PAY_CRC_ERR_A GATE.PAY_CRC_ERR_B c
def LNK.PROTO_ERR (c : Nat) : Fld := portFld GATE.PROTO_ERR_A GATE.PROTO_ERR_B c
def LNK.RISER_OVF (c : Nat) : Fld := portFld GATE.RISER_OVF_OVF_A GATE.RISER_OVF_OVF_B c
def LNK.RISER_HWM (c : Nat) : Fld := portFld GATE.RISER_HWM_HWM_A GATE.RISER_HWM_HWM_B c
def LNK.FAR_LOCK (c : Nat) : Fld := portFld GATE.TEST_STATUS_FAR_LOCK_A GATE.TEST_STATUS_FAR_LOCK_B c

/-! ### Gate modes and lane roles (R114) -/

/-- Link states (R50). -/
def linkDown : Nat := 0
def linkClock : Nat := 1
def linkAlign : Nat := 2
def linkTrain : Nat := 3
def linkReady : Nat := 4
def linkTest : Nat := 5
def linkFenced : Nat := 6

/-- GATE_MODE of gate g. -/
def State.gateMode (s : State) (g : Nat) : Nat := s.get (GATE.GATE_CFG_GATE_MODE g)

/-- Camera port c exists in the mode of its gate (R114). -/
def State.portPresent (s : State) (c : Nat) : Bool := c % 2 == 0 || s.gateMode (c / 2) != 0

/-- Data lanes of port p of a gate in a mode, ascending (R114). -/
def dataLanes (mode p : Nat) : List Nat :=
  if mode = 0 then (if p = 0 then [1, 2, 3, 4] else [])
  else if mode = 1 then (if p = 0 then [1, 2] else [4])
  else if p = 0 then [1] else [3]

/-- The full lane mask of port p in a mode (R114). -/
def fullMask (mode p : Nat) : Nat :=
  if p = 1 then 1 else if mode = 0 then 0xF else if mode = 1 then 3 else 1

/-- Value of LANE_STATUS.ROLE of a lane in a mode: 0 idle, 1 clock, 2 data of port A, 3 data of port B (R69, R114). -/
def laneRole (mode lane : Nat) : Nat :=
  if lane = 0 then 1
  else if (dataLanes mode 0).contains lane then 2
  else if (dataLanes mode 1).contains lane then 3
  else if (mode = 1 && lane = 3) || (mode = 2 && lane = 2) then 1
  else 0

/-- The data lanes of port c that its mask leaves in force, ascending (R74). -/
def State.lanesOf (s : State) (c : Nat) : List Nat :=
  let l := dataLanes (s.gateMode (c / 2)) (c % 2)
  let m := s.get (LNK.MASK c)
  ((List.range l.length).filter (fun i => bitOf m i)).map (fun i => l.getD i 0)

/-- The port whose data lane a gate lane is, if it is one. -/
def State.portOfLane (s : State) (g lane : Nat) : Option Nat :=
  if (dataLanes (s.gateMode g) 0).contains lane then some (2 * g)
  else if (dataLanes (s.gateMode g) 1).contains lane then some (2 * g + 1)
  else none

/-- Change what is held of one lane of a gate. -/
def State.onLane (s : State) (g lane : Nat) (f : LaneSt → LaneSt) : State :=
  let k := s.gate g
  s.setGate g { k with lanes := modifyAt k.lanes lane f }

/-- What is held of one lane of a gate. -/
def State.lane (s : State) (g lane : Nat) : LaneSt := (s.gate g).lanes.getD lane {}

/-! ### Link state transitions (R50, R51, R115) -/

/-- The link state of port c. -/
def State.linkState (s : State) (c : Nat) : Nat := s.get (LNK.STATE c)

/-- Set the link state of a port that is not fenced. -/
def State.setLinkState (s : State) (c v : Nat) : State := if s.portFenced c then s else s.put (LNK.STATE c) v

/-- What a lane holds once its aligner hunts (R41). -/
def LaneSt.hunting (x : LaneSt) : LaneSt :=
  { x with commaCount := 0, errHist := [], bursts := 0, goodRun := 0, displaced := 0, dropNow := 0, rd := none }

/-- Aligners of the port's data lanes hunt (R41, R50). Only the loss of R41 counts in LANE_ALIGN_LOSS, not the hunt that the
link state orders (log entry 50). -/
def State.huntLanes (s : State) (c : Nat) : State :=
  let g := c / 2
  s.each (dataLanes (s.gateMode g) (c % 2)) (fun t n =>
    (t.put (GATE.LANE_STATUS_ALIGN_STATE g n) 0).onLane g n LaneSt.hunting)

/-- A port goes to DOWN (R50, R51, R115). -/
def State.toDown (s : State) (c : Nat) : State :=
  let t := (s.setLinkState c linkDown).put (LNK.DESKEW_DONE c) 0
  let t := (t.put (LNK.DLL_LOCK c) 0).huntLanes c
  t.setLink c { t.link c with trying := false, skewMiss := false, voidNext := false }

/-- A port goes to CLOCK (R50). -/
def State.toClock (s : State) (c : Nat) : State :=
  let t := s.setLinkState c linkClock
  t.setLink c { t.link c with trying := true }

/-- A port goes to ALIGN: its aligners hunt and skew is measured afresh (R50, R43). -/
def State.toAlign (s : State) (c : Nat) : State :=
  ((s.setLinkState c linkAlign).put (LNK.DESKEW_DONE c) 0).huntLanes c

/-- The gate mode gives lanes their roles and full sets (R111, R115). -/
def State.assignLanes (s : State) (g : Nat) : State :=
  let mode := s.gateMode g
  let t := s.each (List.range 5) (fun t n => t.put (GATE.LANE_STATUS_ROLE g n) (laneRole mode n))
  ((t.put (GATE.LANE_MASK_MASK_A g) (fullMask mode 0)).put (GATE.LANE_MASK_MASK_B g) (fullMask mode 1)).put
    (GATE.LANE_MASK_DEGRADED_A g) 0

/-- The riser part of a port is emptied (R115, R359, R388). -/
def State.emptyRiser (s : State) (c : Nat) : State :=
  s.setLink c { s.link c with riser := [], used := 0, pads := 0, open_ := false, abandoned := false, closing := false,
                                valid := 0, pays := [], cleanValid := 0, cleanPays := [], payNext := 0, injGap := [],
                                feGone := false, fsNo := (s.link c).frameNo }

/-- Count body bytes of a port as slag (R100). -/
def State.slag (s : State) (c n : Nat) : State := s.add (CAM.FC_SLAG_BYTES c) n

/-! ### Power states of gates and slices (R55, R59, R398) -/

/-- The state a gate's wake budget selects (R398). -/
def gateBudget (us : Nat) : Nat := if us = 0 then 0 else if us < 5 then 1 else if us < 300 then 2 else 3

/-- The state a slice's wake budget selects (R398). -/
def sliceBudget (us : Nat) : Nat := if us = 0 then 0 else if us < 20 then 1 else 2

/-- Exit latency of a gate state and of a slice state, in ns (R55, R398). -/
def gateLatency (st : Nat) : Nat := if st = 0 then 0 else if st = 1 then 200 else if st = 2 then 5000 else 300000
def sliceLatency (st : Nat) : Nat := if st = 0 then 0 else if st = 1 then 1000 else 20000

/-- The budget in force for slice k: S32 uses that of the slice it serves (R404). -/
def State.sliceBudgetUs (s : State) (k : Nat) : Nat :=
  if k = 32 && s.on SLICE.SPARE_STATUS_IN_USE then s.get (SLICE.PWR_BUDGET (s.get SLICE.SPARE_STATUS_FOR))
  else s.get (SLICE.PWR_BUDGET k)

/-- Gate g is ACTIVE and not entering another state. -/
def State.gateActive (s : State) (g : Nat) : Bool :=
  s.get (GATE.PWR_STATE_STATE g) == 0 && !s.on (GATE.PWR_STATE_IN_TRANSITION g)

/-- The data receivers of gate g take in symbols: ACTIVE, or WARM and not on its way to BANKED (R55, R403). -/
def State.gateHears (s : State) (g : Nat) : Bool :=
  s.get (GATE.PWR_STATE_STATE g) == 0 || (s.get (GATE.PWR_STATE_STATE g) == 1 && !(s.gate g).stepping)

/-- The aligners and the packet logic of gate g work on received words: ACTIVE, or in a WARM exit, which loses no word
(R55, R58, R403). -/
def State.gateWorks (s : State) (g : Nat) : Bool :=
  s.get (GATE.PWR_STATE_STATE g) == 0 ||
  (s.get (GATE.PWR_STATE_STATE g) == 1 && (s.gate g).wake && !(s.gate g).stepping)

/-- An exit cause at gate g (R58, R59): an entry ends with its step, and the exit begins. -/
def State.gateWake (s : State) (g : Nat) : State :=
  let k := s.gate g
  if s.gateActive g || k.wake then s
  else
    let t := s.setGate g { k with wake := true }
    if k.stepping then t
    else (t.put (GATE.PWR_STATE_TARGET g) (t.get (GATE.PWR_STATE_STATE g))).put (GATE.PWR_STATE_IN_TRANSITION g) 1

/-- Slice k is ON and not entering another state. -/
def State.sliceOn (s : State) (k : Nat) : Bool :=
  s.get (SLICE.PWR_STATE_STATE k) == 0 && !s.on (SLICE.PWR_STATE_IN_TRANSITION k)

/-- Slice k is fenced (R359). -/
def State.sliceFenced (s : State) (k : Nat) : Bool := s.on (HDR.FAULT_REACT_FENCED (slicePage k))

/-- An exit cause at slice k (R59, R401); a fenced slice stays OFF (R404). -/
def State.sliceWake (s : State) (k : Nat) : State :=
  let x := s.slice k
  if s.sliceFenced k || s.sliceOn k || x.wake then s
  else
    let t := s.setSlice k { x with wake := true }
    if x.stepping then t
    else (t.put (SLICE.PWR_STATE_TARGET k) (t.get (SLICE.PWR_STATE_STATE k))).put (SLICE.PWR_STATE_IN_TRANSITION k) 1

/-- A slice is ready to move lines: ON, not fenced, and no remap or return of it runs (R401, R368). -/
def State.sliceServes (s : State) (k : Nat) : Bool :=
  s.running && s.sliceOn k && !s.sliceFenced k && s.domainOn (256 + k) &&
  (match s.faults.remap with | some r => r.k != k && k != 32 | none => true)

/-- An accepted gate command brings the gate to ACTIVE (R52); the conditions of an entry keep it there until its ports are
READY, DOWN or FENCED. -/
def State.gateCommand (s : State) (g : Nat) : State := s.gateWake g

end Sys2Proof.Machine
end

