-- ==== Sys2Proof/Machine/NrMath.lean ====
section
/-!
DEFINITION. Noise-reduction arithmetic: the noise model, the spatial filter, the temporal filter, displacement and the
registered reference value (R145 to R152, R159).
-/

namespace Sys2Proof.Machine

/-- The noise at level v, for b-bit pixels and the table of 33 knots (R145). -/
def sigma16 (noise : List Nat) (b v : Nat) : Nat :=
  let sh := b - 5
  let i := v / 2 ^ sh
  let lo : Int := noise.getD i 0
  let step : Int := (noise.getD (i + 1) 0 : Int) - lo
  let frac := (step * ((v - i * 2 ^ sh : Nat) : Int) + (2 ^ (sh - 1) : Nat)) / (2 ^ sh : Nat)
  (lo + frac).toNat

/-- The weight class, 1 to 5, of a tap's offset (R146). -/
def tapClass (dy dx : Int) : Nat :=
  let a := dy.natAbs
  let c := dx.natAbs
  if a + c = 1 then 1 else if a = 1 && c = 1 then 2 else if a + c = 2 then 3 else if a + c = 3 then 4 else 5

/-- The offsets of the taps in use (R146). -/
def tapOffsets (bayer : Bool) : List (Int × Int) :=
  let r : List Int := if bayer then [-2, 0, 2] else [-2, -1, 0, 1, 2]
  (r.map (fun dy => r.map (fun dx => (dy, dx)))).flatten.filter (fun p => p != (0, 0))

/-- The five lines round a centre line, from two above to two below; none where a line is outside the frame or flagged
PADDED or REPLACED (R148). -/
abbrev Lines5 := List (Option (List Nat))

/-- The line at offset dy of the five. -/
def lineAt (ls : Lines5) (dy : Int) : Option (List Nat) := (ls.getD (dy + 2).toNat none)

/-- The line that gives a tap at offset dy its value: the usable line in use nearest to it, the one nearer the centre at
a tie (R148). -/
def tapLine (bayer : Bool) (ls : Lines5) (dy : Int) : Option (List Nat) :=
  let cands : List Int := if bayer then [0, -2, 2] else [0, -1, 1, -2, 2]
  let usable := cands.filter (fun d => (lineAt ls d).isSome)
  let best := usable.foldl (fun (acc : Option Int) d =>
    match acc with
    | none => some d
    | some e => if (d - dy).natAbs < (e - dy).natAbs then some d else some e) none
  match best with
  | some d => lineAt ls d
  | none => none

/-- The pixel of a line at column x + dx; beyond an end, the nearest of the line and, for Bayer, of the colour (R148). -/
def tapPixel (bayer : Bool) (l : List Nat) (x : Nat) (dx : Int) : Nat :=
  let u := (x : Int) + dx
  if 0 ≤ u && u < l.length then l.getD u.toNat 0
  else if bayer then l.getD x 0
  else if u < 0 then l.getD 0 0 else l.getD (l.length - 1) 0

/-- The spatial filter at a centre pixel of column x (R147): weights W1 to W5, SHIFT and TMUL. -/
def spatialPixel (bayer : Bool) (b : Nat) (noise weights : List Nat) (shift tmul : Nat) (ls : Lines5) (x : Nat) : Nat :=
  let p := ((lineAt ls 0).getD []).getD x 0
  let t : Int := ((tmul * sigma16 noise b p / 256 : Nat) : Int)
  let s : Int := ((tapOffsets bayer).map (fun o =>
    match tapLine bayer ls o.1 with
    | some l =>
      let q := clampI (tapPixel bayer l x o.2) (p - t) (p + t)
      (weights.getD (tapClass o.1 o.2 - 1) 0 : Int) * (q - p)
    | none => 0)).sum
  let rnd : Int := if shift = 0 then 0 else ((2 ^ (shift - 1) : Nat) : Int)
  (clampI (p + (s + rnd) / (2 ^ shift : Nat)) 0 ((2 ^ b : Nat) - 1)).toNat

/-- The ordered matrix M4 (R150). -/
def ditherM4 (y x : Nat) : Nat :=
  ([0, 8, 2, 10, 12, 4, 14, 6, 3, 11, 1, 9, 15, 7, 13, 5] : List Nat).getD (4 * (y % 4) + x % 4) 0

/-- The parameters of the temporal filter (R150). -/
structure Temporal where
  b : Nat
  noise : List Nat
  k : Nat
  mgLo : Nat
  mgHi : Nat
  dither : Bool
deriving DecidableEq, Repr

/-- The blend weight for current value c and reference r (R150). -/
def blendWeight (t : Temporal) (c r : Nat) : Nat :=
  let a := 16 * ((c : Int) - r).natAbs
  let sg := sigma16 t.noise t.b c
  let lo := t.mgLo * sg / 16
  let hi := t.mgHi * sg / 16
  if a ≤ lo then t.k else if hi ≤ a then 64 else t.k + (64 - t.k) * (a - lo) / (hi - lo)

/-- The temporal filter at (x, y) for current value c and reference r, none where the pixel has no reference (R150). -/
def temporalPixel (t : Temporal) (x y c : Nat) (r : Option Nat) : Nat :=
  match r with
  | none => c
  | some r =>
    let k : Int := blendWeight t c r
    let rnd : Int := if t.dither then 4 * (ditherM4 y x : Int) + 2 else 32
    (clampI (r + (k * ((c : Int) - r) + rnd) / 64) 0 ((2 ^ t.b : Nat) - 1)).toNat

/-- The displacement D16 of R151 between two positions, and whether it is in range; none where the positions are too far apart
for it to be computed. -/
def displacement (scale : Int) (regMax cur ref : Nat) : Option (Int × Bool) :=
  let delta := sext 48 ((cur + 2 ^ 48 - ref % 2 ^ 48) % 2 ^ 48)
  if delta.natAbs ≥ 2 ^ 32 then none
  else
    let d := (delta * scale + 0x8000) / 65536
    some (d, decide (d.natAbs ≤ 16 * regMax))

/-- The points on the registration axis that coordinate u needs, first and, unless the fraction is 0, second (R152). -/
def refPoints (bayer : Bool) (d16 : Int) (u : Nat) : Int × Option Int :=
  let e := -d16
  if bayer then
    let u0 := (u : Int) + 2 * (e / 32)
    (u0, if e % 32 = 0 then none else some (u0 + 2))
  else
    let u0 := (u : Int) + e / 16
    (u0, if e % 16 = 0 then none else some (u0 + 1))

/-- The interpolation of R152 between the values at the two points. -/
def refBlend (bayer : Bool) (d16 : Int) (v0 v1 : Nat) : Nat :=
  let e := -d16
  if bayer then
    let g := (e % 32).toNat
    (v0 * (32 - g) + v1 * g + 16) / 32
  else
    let f := (e % 16).toNat
    (v0 * (16 - f) + v1 * f + 8) / 16

/-- A point of the axis as an index below a bound. -/
def pointIn (n : Nat) (u : Int) : Option Nat := if 0 ≤ u && u < n then some u.toNat else none

/-- The reference lines that line y needs (R152): with the axis across lines those of the formulas, else line y. -/
def refLines (bayer across : Bool) (d16 : Int) (y : Nat) : List Int :=
  if across then
    match refPoints bayer d16 y with
    | (u0, none) => [u0]
    | (u0, some u1) => [u0, u1]
  else [(y : Int)]

/-- The registered reference value of pixel (x, y), none when it is uncovered (R152); `ref` gives a usable reference line. -/
def refPixel (bayer across : Bool) (d16 : Int) (w h x y : Nat) (ref : Nat → Option (List Nat)) : Option Nat :=
  let at_ (line : Option Nat) (col : Option Nat) : Option Nat :=
    match line, col with
    | some l, some c => (ref l).map (fun v => v.getD c 0)
    | _, _ => none
  let pair (p0 : Option Nat) (p1 : Option (Option Nat)) : Option Nat :=
    match p0, p1 with
    | some a, none => some (refBlend bayer d16 a 0)
    | some a, some (some b) => some (refBlend bayer d16 a b)
    | _, _ => none
  if across then
    let p := refPoints bayer d16 y
    pair (at_ (pointIn h p.1) (some x)) (p.2.map (fun u => at_ (pointIn h u) (some x)))
  else
    let p := refPoints bayer d16 x
    pair (at_ (some y) (pointIn w p.1)) (p.2.map (fun u => at_ (some y) (pointIn w u)))

/-- The scaling of a reference value at a settings change (R159). -/
def scaleRef (b gain pedestal r : Nat) : Nat :=
  (clampI ((((r : Int) - pedestal) * gain + 2048) / 4096 + pedestal) 0 ((2 ^ b : Nat) - 1)).toNat

/-- The slot size P of a line in a reference buffer (R153). -/
def refSlot (w b : Nat) : Nat := 64 * ceilDiv (16 + codedBound w b) 64

/-- HBM byte address of line y of a buffer of port c (R153). -/
def refAddr (c buf w b y : Nat) : Nat := 0x100000000 + c * 0xC000000 + buf * 0x6000000 + y * refSlot w b

end Sys2Proof.Machine
end

