-- ==== Sys2Proof/Machine/FrameOps.lean ====
section
/-!
DEFINITION. Frames in a slice: what a frame latched, its progress through the stages, its closure, the reference buffers
and the cut of a frame (R100, R143 to R166, R247, R249).
-/

namespace Sys2Proof.Machine

/-! ### What a frame latched at its FS (R166, R175, R247) -/

/-- A register field as the frame's FS found it. -/
def Frame.get (fr : Frame) (f : Fld) : Nat := getBits (tget fr.latch f.addr (resetWord f.addr)) f.hi f.lo

/-- A one-bit field as the frame's FS found it. -/
def Frame.on (fr : Frame) (f : Fld) : Bool := fr.get f == 1

/-- Pixel format, width and height of the frame. -/
def Frame.fmt (fr : Frame) : Nat := fr.get (CAM.FMT_CFG_PIXEL_FORMAT fr.c)
def Frame.w (fr : Frame) : Nat := fr.get (CAM.FMT_WIDTH fr.c)
def Frame.h (fr : Frame) : Nat := fr.get (CAM.FMT_HEIGHT fr.c)
def Frame.bits (fr : Frame) : Nat := bitsOf fr.fmt
def Frame.bayer (fr : Frame) : Bool := isBayer fr.fmt

/-- The noise table (R145). -/
def Frame.noise (fr : Frame) : List Nat := (List.range 33).map (fun i => fr.get (CAM.NR_NOISE fr.c i))

/-- NR_CTRL.MODE (R144); suppressed (cause SIZE) the temporal filter is off (R154). -/
def Frame.temporal (fr : Frame) : Bool := decide (2 ≤ fr.get (CAM.NR_CTRL_MODE fr.c)) && fr.cause != 6
def Frame.spatial (fr : Frame) : Bool := fr.get (CAM.NR_CTRL_MODE fr.c) % 2 == 1

/-- The registration axis is across lines and registration is on (R151, R152). -/
def Frame.across (fr : Frame) : Bool := fr.on (CAM.NR_CTRL_REG_AXIS fr.c) && fr.on (CAM.NR_CTRL_REG_EN fr.c)

/-- A reference is in use: the temporal filter runs and no cause applies (R158, R160). -/
def Frame.useRef (fr : Frame) : Bool := fr.temporal && fr.cause == 0

/-- The buffer the frame writes (R155). -/
def Frame.writeBuf (fr : Frame) : Nat := 1 - fr.readBuf

/-- The registers of a port's CAM page below its window sets, as they stand. -/
def State.latchRegs (s : State) (c : Nat) : List (Nat × Word) :=
  s.regs.filter (fun p => decide (camPage c ≤ p.1) && decide (p.1 < camPage c + 0x1000))

/-! ### Progress -/

/-- Every line of the frame has left noise reduction. -/
def Frame.nrDone (fr : Frame) : Bool := fr.closed && fr.nr.length == fr.entered.length

/-- Every line of the frame has left the correction stages. -/
def Frame.corrDone (fr : Frame) : Bool := fr.nrDone && fr.corr.length == fr.nr.length

/-- The next output line of a window of the frame. -/
def Frame.nextRow (fr : Frame) (v : Win) : Nat := tget fr.winNext v.j 0

/-- The window and output line that come next (R190): of the lines whose input is complete, the one completed first, in
ascending j. -/
def Frame.nextOut (fr : Frame) : Option (Win × Nat) :=
  let ready := fr.wins.filter (fun v =>
    decide (fr.nextRow v < v.ho fr.fmt) && decide (v.lastInput fr.fmt (fr.nextRow v) < fr.corr.length))
  ready.foldl (fun acc v =>
    match acc with
    | none => some (v, fr.nextRow v)
    | some (u, r) =>
      if v.lastInput fr.fmt (fr.nextRow v) < u.lastInput fr.fmt r then some (v, fr.nextRow v) else some (u, r)) none

/-- The windows have emitted everything they can. -/
def Frame.winDone (fr : Frame) : Bool := fr.corrDone && fr.nextOut.isNone

/-- Nothing is left to do for the frame. -/
def Frame.finished (fr : Frame) : Bool := fr.winDone && fr.statDone

/-! ### Frames of a port -/

/-- The open frame of a port at frame check. -/
def State.openFrame (s : State) (c : Nat) : Option Frame := (s.cam c).frames.find? (fun f => !f.closed)

/-- A frame of a port by its number. -/
def State.frameOf (s : State) (c id : Nat) : Option Frame := (s.cam c).frames.find? (fun f => f.id == id)

/-- Replace a frame of a port. -/
def State.putFrame (s : State) (fr : Frame) : State :=
  let k := s.cam fr.c
  s.setCam fr.c { k with frames := k.frames.map (fun f => if f.id = fr.id then fr else f) }

/-- A packet that waits or is open belongs to frame id of port c. -/
def State.packetsOf (s : State) (c id : Nat) : Bool :=
  s.prods.any (fun p =>
    p.2.todo.any (fun k => k.frame == some id && k.hdr.srcUnit == c) ||
    (match p.2.cur with | some k => k.frame == some id && k.hdr.srcUnit == c | none => false))

/-- Forget the frames that are finished and to which no packet refers. -/
def State.retireFrames (s : State) (c : Nat) : State :=
  let k := s.cam c
  s.setCam c { k with frames := k.frames.filter (fun f => !(f.finished && !s.packetsOf c f.id)) }

/-! ### Reference buffers (R153 to R157) -/

/-- A reference buffer of a port. -/
def State.refBuf (s : State) (c b : Nat) : RefBuf := if b = 0 then (s.cam c).buf0 else (s.cam c).buf1

/-- Set a reference buffer of a port. -/
def State.setRefBuf (s : State) (c b : Nat) (v : RefBuf) : State :=
  s.setCam c (if b = 0 then { s.cam c with buf0 := v } else { s.cam c with buf1 := v })

/-- NR_REF_VALID of a buffer. -/
def refValid (c b : Nat) : Fld := if b = 0 then CAM.NR_REF_VALID0 c else CAM.NR_REF_VALID1 c

/-- The number of lines counted from line 0 without a gap (R155); n bounds it. -/
def gapFree (acked : List Nat) : Nat → Nat → Nat
  | 0, y => y
  | n + 1, y => if acked.contains y then gapFree acked n (y + 1) else y

/-- Whether a buffer is sealed now: its frame has closed, the stage has emitted its lines, and none of their writes is
outstanding (R155). -/
def State.sealCheck (s : State) (c b : Nat) : State :=
  let r := s.refBuf c b
  let done := match r.writer with
    | none => true
    | some id => match s.frameOf c id with
      | none => true
      | some f => f.nrDone
  if r.busy.isEmpty && done && !r.sealed then s.setRefBuf c b { r with sealed := true } else s

/-- Both buffers of a port. -/
def State.sealBoth (s : State) (c : Nat) : State := (s.sealCheck c 0).sealCheck c 1

/-! ### Holds (R160, R161) -/

/-- The highest reference line that line y of a frame needs and its frame has (R160); none when it needs none inside the
frame, or one beyond it. -/
def Frame.highestNeeded (fr : Frame) (y : Nat) : Option Nat :=
  let l := refLines fr.bayer fr.across fr.d16 y
  let top := l.foldl max (l.headD 0)
  if 0 ≤ top && top < (fr.h : Int) then some top.toNat else none

/-- The three conditions of R160 for line y of the open frame. -/
def State.heldLine (s : State) (fr : Frame) (y : Nat) : Bool :=
  fr.useRef && !(s.refBuf fr.c fr.readBuf).sealed &&
  (match fr.highestNeeded y with
   | some n => decide (s.get (refValid fr.c fr.readBuf) ≤ n)
   | none => false)

/-- End the hold of a port (R161). -/
def State.endHold (s : State) (c : Nat) : State :=
  (s.put (CAM.NR_STATUS_HOLDING c) 0).setCam c { s.cam c with holdOver := false }

/-! ### Closure (R100, R101, R109, R244) -/

/-- FSTAT of a frame at its closing, INJECTED included (R109). -/
def Frame.closingStat (fr : Frame) (bits : List Nat) : Nat :=
  let v := bits.foldl setBitN fr.fstat
  if fr.reported && fr.allTagged then setBitN v 14 else v

/-- The open frame of a port closes with FSTAT bits; `cut`: ABANDONED or FAULT_CUT. -/
def State.closeFrame (s : State) (c : Nat) (bits : List Nat) (cut : Bool) : State :=
  match s.openFrame c with
  | none => s
  | some fr =>
    let v := fr.closingStat bits
    let t := s.putFrame { fr with fstat := v, closed := true, cut := cut }
    let t := if fr.bound then
        t.onRecord c fr.shot (fun r => { r with fstat := v, flags := setBitN r.flags 1, frameOpen := false })
      else t
    let t := if bitOf v 3 || bitOf v 5 || bitOf v 6 then t.raise (gatePage (c / 2)) 11 else t
    t.sealBoth c

/-- The intake of a port forgets its open frame (R100, R103, R129). -/
def State.intakeClosed (s : State) (c : Nat) : State :=
  s.setLink c { s.link c with open_ := false, pads := 0, closing := false }

/-- The frame open on a port closes FAULT_CUT (R103, R129, R359); a hold on the port is abandoned. -/
def State.cutFrame (s : State) (c : Nat) : State := ((s.closeFrame c [11] true).intakeClosed c).endHold c

/-- Lines and markers of a port not yet taken by intake are discarded as slag and their blocks freed (R129). -/
def State.dropRiser (s : State) (c : Nat) : State :=
  let l := s.link c
  let bytes := (l.riser.map (fun i => match i with | .marker m => m.bodyLen | .line x => x.bodyLen)).sum
  ((s.slag c bytes).setLink c { l with riser := [], used := 0, fsNo := l.frameNo })

/-! ### Statistics banks (R249, R250) -/

/-- The bank a frame takes (R249): the one not taken last, else the other if it alone is free. -/
def State.chooseBank (s : State) (c : Nat) : Option Nat :=
  let k := s.cam c
  let first := match k.lastBank with | none => 0 | some b => 1 - b
  if !k.busyBanks.contains first then some first
  else if !k.busyBanks.contains (1 - first) then some (1 - first) else none

/-- A statistics bank is free again. -/
def State.freeBank (s : State) (c b : Nat) : State :=
  s.setCam c { s.cam c with busyBanks := (s.cam c).busyBanks.filter (fun x => x != b) }

/-- The RECORD of a statistics packet (R250). -/
def State.statRecord (s : State) (fr : Frame) : List Byte :=
  if fr.bound && s.holdsShot fr.c fr.shot then (s.record fr.c fr.shot).bytes
  else Rec.bytes { shot := fr.shot, version := fr.version, slot := 0 }

/-! ### The frames of a slice that stops (R143, R164, R368, R369) -/

/-- A slice with the frames of port c in it is lost: the open frame closes FAULT_CUT, reference buffers are sealed at
their counts, and statistics banks are lost. -/
def State.loseFrames (s : State) (c : Nat) : State :=
  let t := s.cutFrame c
  let t := t.each (t.cam c).frames (fun t fr =>
    if fr.bound && !fr.statDone && fr.on (CAM.STAT_CFG c) then t.flagRecord c fr.shot 8 else t)
  let k := t.cam c
  t.setCam c { k with frames := [], busyBanks := [],
                      buf0 := { k.buf0 with busy := [], sealed := true, writer := none },
                      buf1 := { k.buf1 with busy := [], sealed := true, writer := none } }

/-- Packets of a slice that wait at its producer are lost, and the open one is abandoned (R268, R368). Statistics packets
among them never reach their queue: their records carry STAT_SKIP (R245). -/
def State.loseProducer (s : State) (k : Nat) : State :=
  let all := (s.prod k).todo ++ (match (s.prod k).cur with | some p => [p] | none => [])
  let t := s.abandonOpen k
  let t := t.setProd k { t.prod k with todo := [] }
  t.each all (fun t p => if p.hdr.kind = 2 && !bitOf p.hdr.xstat 4 then t.flagRecord p.hdr.srcUnit p.hdr.shot 8 else t)

/-- The slice halts: intake, stages and ladle writer (R368, steps 1 and 2), and slice state OFF for its frames. -/
def State.haltSlice (s : State) (k : Nat) : State :=
  let t := s.each (s.servedPorts k) State.loseFrames
  (t.loseProducer k).setSlice k { t.slice k with fc := [], last := 7 }

end Sys2Proof.Machine
end

