-- ==== Sys2Proof/Machine/PortFence.lean ====
section
/-!
DEFINITION. The fence of a camera port and its release (R103, R115, R359, R471).
-/

namespace Sys2Proof.Machine

/-- Camera port c is fenced (R359, R471): the frame in flight closes FAULT_CUT, the link state reads FENCED and FENCED is set
in the GATE and the CAM page. A fenced port is left as it is. -/
def State.fencePort (s : State) (c : Nat) : State :=
  if s.portFenced c then s
  else
    let t := (s.cutFrame c).put (LNK.STATE c) linkFenced
    let t := t.putB (HDR.FAULT_REACT_FENCED (camPage c)) true
    let t := t.setLink c { t.link c with mask := .none, trying := false, trainReq := false }
    (t.raise (camPage c) 30).raise (gatePage (c / 2)) 30

/-- The fence of R103 and R104, which raises PORT_FENCED (R112). -/
def State.fenceLink (s : State) (c : Nat) : State :=
  if s.portFenced c then s else (s.fencePort c).raise (gatePage (c / 2)) 13

/-- The release of a port's fence (R359): to DOWN, then as R50. -/
def State.releasePort (s : State) (c : Nat) : State :=
  (s.putB (HDR.FAULT_REACT_FENCED (camPage c)) false).toDown c

/-- The enabled ports of slice k fence as ports (R20, R367). -/
def State.fencePorts (s : State) (k : Nat) : State :=
  s.each ((List.range 8).map (fun i => 8 * k + i)) (fun t c => if t.portEnabled c then t.fencePort c else t)

/-- The gate is enabled (R115, R116). -/
def State.gateEnabled (s : State) (g : Nat) : Bool := s.on (HDR.CTRL_ENABLE (gatePage g))

end Sys2Proof.Machine
end

