-- ==== Sys2Proof/Machine/BridgeOps.lean ====
section
/-!
DEFINITION. Shared operations of the section engines: tags, requests, the error log, failures and completions with the
outcomes of the rules that own a request (R319 to R349, R53, R105, R236, R243).
-/

namespace Sys2Proof.Machine

/-! ### Tags (R328) -/

/-- A tag is held: by a request of the port, or by one that failed by TIMEOUT less than RSP_TIMEOUT ago. -/
def State.tagHeld (s : State) (c tag : Nat) : Bool :=
  let e := s.engine (c / 2)
  e.reqs.any (fun r => r.port == c && r.tag == tag) ||
  e.recent.any (fun p => p.1 == c && p.2.1 == tag &&
    decide (s.now < p.2.2 + 1000 * s.get (BRG.RSP_TIMEOUT (c / 2))))

/-- The first tag not held, from a value upward; the fuel is more than the values ever held. -/
def State.freeTag (s : State) (c : Nat) : Nat → Nat → Nat
  | 0, v => v
  | n + 1, v => if s.tagHeld c v then s.freeTag c n ((v + 1) % 65536) else v

/-- The tag that the port's next request takes. -/
def State.nextTag (s : State) (c : Nat) : Nat :=
  s.freeTag c 1024 (s.get (BRG.PORT_STATUS_NEXT_TAG (c / 2) (c % 2)))

/-- Take a tag: the counter increments. -/
def State.takeTag (s : State) (c : Nat) : Nat × State :=
  let v := s.nextTag c
  (v, s.put (BRG.PORT_STATUS_NEXT_TAG (c / 2) (c % 2)) (v + 1))

/-! ### When a port is down (R320) -/

/-- The section engine of gate g is fenced (R360). -/
def State.engineFenced (s : State) (g : Nat) : Bool := s.on (HDR.FAULT_REACT_FENCED (brgPage g))

/-- Accesses to the port fail with PORT_DOWN (R320). -/
def State.portDown (s : State) (c : Nat) : Bool :=
  !s.portPresent c || !s.gateEnabled (c / 2) || s.engineFenced (c / 2)

/-! ### Byte rules (R321, R332) -/

/-- The camera address of the byte at window offset o (R321). -/
def State.cameraAddr (s : State) (c o : Nat) : Nat :=
  let base := s.get (BRG.WIN_BASE (c / 2) (c % 2)) * 2 ^ 20
  if s.on (BRG.PORT_CFG_RULE (c / 2) (c % 2)) && s.on (BRG.PORT_CFG_BE (c / 2) (c % 2)) then
    base + (o - o % 4) + 3 - o % 4
  else base + o

/-- A 32-bit word in the camera's byte order (DI rule). -/
def State.diWord (s : State) (c v : Nat) : List Byte :=
  if s.on (BRG.PORT_CFG_BE (c / 2) (c % 2)) then beBytes 4 v else leBytes 4 v

/-- The value of four bytes in the camera's byte order (DI rule). -/
def State.diValue (s : State) (c : Nat) (l : List Byte) : Nat :=
  if s.on (BRG.PORT_CFG_BE (c / 2) (c % 2)) then leNat l.reverse else leNat l

/-! ### The error log (R339, R348, R349) -/

/-- SOURCE of a request. -/
def Purpose.source : Purpose → Nat
  | .hostWrite => 0 | .hostRead _ => 1 | .pcWrite => 2 | .settings _ => 3 | .laneMask => 4 | .shotCtrl => 5
  | .linkRate _ => 6 | .trainOn => 6 | .trainOff => 6 | .loopBuf => 6 | .farLoop => 6 | .prbsSel => 6 | .testOff => 6
  | .poll => 7 | .lock => 8 | .unlock => 8 | .discMagic => 9 | .discCaps => 9 | .discIdent => 9

/-- Write an entry of the error log of port c's engine. -/
def State.logEntry (s : State) (c addr : Nat) (data : List Byte) (tag cause source cstatus len : Nat) : State :=
  let g := c / 2
  let i := s.get (BRG.LOG_HEAD g)
  let ws : List Nat := [s.now % 2 ^ 32, s.now / 2 ^ 32 % 2 ^ 32, addr, leNat (data.take 4),
    tag % 65536 + 65536 * c + 2 ^ 24 * cause, source + 256 * cstatus + 65536 * len, 0, 0]
  let t := s.each (List.range 8) (fun t k => t.put (BRG.LOG g (8 * i + k)) (ws.getD k 0))
  (t.inc (BRG.LOG_HEAD g)).inc (BRG.LOG_COUNT g)

/-! ### BAR2 reads (R338, R340) -/

/-- Change a host read of an engine. -/
def State.onRead (s : State) (g key : Nat) (f : HostRead → HostRead) : State :=
  let e := s.engine g
  s.setEngine g { e with reads := e.reads.map (fun r => if r.key = key then f r else r) }

/-- The completion of a failed read (R340). -/
def State.failedCompletion (s : State) (g : Nat) (r : HostRead) : Emission :=
  if s.on (BRG.BRG_CFG_READ_ERR_CA g) then .completion r.id true []
  else .completion r.id false ((r.addrs.filterMap id).map (fun _ => 0xFF))

/-- The prefetch slot of a port. -/
def State.slotOf (s : State) (c : Nat) : Option Slot :=
  if c % 2 = 0 then (s.engine (c / 2)).slotA else (s.engine (c / 2)).slotB

/-- Set the prefetch slot of a port; a slot without bytes is free. -/
def State.setSlot (s : State) (c : Nat) (x : Option Slot) : State :=
  let y := match x with | some k => if k.bytes.isEmpty then none else some k | none => none
  if c % 2 = 0 then s.setEngine (c / 2) { s.engine (c / 2) with slotA := y }
  else s.setEngine (c / 2) { s.engine (c / 2) with slotB := y }

/-- A write of the port is accepted: bytes fetched before it are dropped unless they carry SE (R341, R342). -/
def State.dropPrefetch (s : State) (c : Nat) : State :=
  match s.slotOf c with
  | some k => if k.se then s else s.setSlot c none
  | none => s

/-- A request joins the queue of its engine with the next tag of its port (R328, R331). -/
def State.enqueue (s : State) (c op cls addr : Nat) (data : List Byte) (len want : Nat) (p : Purpose) : State :=
  let k := s.takeTag c
  let t := k.2
  let e := t.engine (c / 2)
  let t := t.setEngine (c / 2) { e with reqs := e.reqs ++
    [{ port := c, tag := k.1, op := op, cls := cls, addr := addr, data := data, len := len, want := want, purpose := p }] }
  if op = 1 then (t.put (BRG.FENCE_LAST_TAG (c / 2) (c % 2)) k.1).dropPrefetch c else t

/-- Reads of port c that wait for the engine join its queue, which holds four reads with pieces (R331). -/
def State.admitReads (s : State) (c : Nat) : State :=
  let g := c / 2
  s.each (((s.engine g).reads.filter (fun r => r.port == c && !r.admitted)).map (fun r => r.key)) (fun t key =>
    match (t.engine g).reads.find? (fun r => r.key == key) with
    | none => t
    | some r =>
      if ((t.engine g).reads.filter (fun x => x.port == c && x.admitted && x.pieces != 0)).length < 4 then
        let u := t.onRead g key (fun x => { x with admitted := true, parts := [] })
        u.each r.parts (fun u q => u.enqueue c 2 1 q.1 [] q.2.2 q.2.1 (.hostRead key))
      else t)

/-- A request has not been sent yet. -/
def Req.unsent (r : Req) : Bool := r.state == .queued && r.crcTries == 0 && r.busyTries == 0

/-- A host read fails: it completes, and its pieces not yet sent are withdrawn (R340), but where the port is down: there each of
them fails on its own (R320). -/
def State.failRead (s : State) (g key : Nat) : State :=
  let e := s.engine g
  match e.reads.find? (fun r => r.key == key) with
  | none => s
  | some r =>
    let t := s.setEngine g { e with
      reads := e.reads.filter (fun x => x.key != key),
      reqs := if s.portDown r.port then e.reqs else e.reqs.filter (fun q => !(q.purpose == .hostRead key && q.unsent)) }
    (t.emit (s.failedCompletion g r)).admitReads r.port

/-- Host reads of an engine whose pieces and earlier writes have all ended complete with their data, or as failed. -/
def State.settleReads (s : State) (g : Nat) : State :=
  let e := s.engine g
  let done := e.reads.filter (fun r => r.pieces == 0 && r.waits.isEmpty)
  let t := s.setEngine g { e with reads := e.reads.filter (fun r => !(r.pieces == 0 && r.waits.isEmpty)) }
  let t := t.each done (fun t r => t.emit (if r.bad then s.failedCompletion g r
    else .completion r.id false ((r.addrs.filterMap id).map (fun a => tget r.got a 0))))
  (t.admitReads (2 * g)).admitReads (2 * g + 1)

/-- A write of port c has completed or failed: reads that waited for it wait no longer. -/
def State.writeEnded (s : State) (c tag : Nat) : State :=
  let e := s.engine (c / 2)
  (s.setEngine (c / 2) { e with reads := e.reads.map (fun r =>
    if r.port = c then { r with waits := r.waits.filter (fun x => x != tag) } else r) }).settleReads (c / 2)

/-! ### Requests -/

/-- Take a request out of its engine. -/
def State.dropReq (s : State) (r : Req) : State :=
  let e := s.engine (r.port / 2)
  s.setEngine (r.port / 2) { e with reqs := e.reqs.filter (fun q => !(q.port == r.port && q.tag == r.tag)) }

/-- Withdraw the writes of a commit that are not yet sent (R243); answers how many. -/
def State.withdraw (s : State) (c slot : Nat) : Nat × State :=
  let e := s.engine (c / 2)
  let mine (q : Req) : Bool := q.port == c && q.purpose == .settings slot && q.unsent
  let gone := e.reqs.filter mine
  let t := s.setEngine (c / 2) { e with reqs := e.reqs.filter (fun q => !mine q) }
  (gone.length, t.each gone (fun t q => t.writeEnded c q.tag))

/-- The enabled schedule of a port waits for its SHOT_CTRL write, and no later one is under way (R236). -/
def State.echoDue (s : State) (c : Nat) : Bool :=
  s.schedOn c && !s.on (CAM.SHOT_STATUS_SYNC c) &&
  !(s.engine (c / 2)).reqs.any (fun r => r.port == c && r.purpose == .shotCtrl)

/-- A later lane-mask write of the port is under way, and its outcome counts (R104, R105). -/
def State.maskDue (s : State) (c : Nat) : Bool :=
  !(s.engine (c / 2)).reqs.any (fun r => r.port == c && r.purpose == .laneMask)

/-- What the failure of a request means to the rule that owns it (R53, R105, R236, R243, R326, R343, R345). -/
def State.failOutcome (s : State) (r : Req) : State :=
  let c := r.port
  let g := c / 2
  let p := c % 2
  match r.purpose with
  | .hostWrite => s
  | .hostRead key => s.failRead g key
  | .pcWrite => s.put (BRG.PORT_STATUS_PCW_BUSY g p) 0
  | .settings k =>
    let w := s.withdraw c k
    w.2.commitFail c k w.1
  | .laneMask =>
    if !s.maskDue c then s else
    match (s.link c).mask with
    | .degrade _ => (s.setLink c { s.link c with mask := .none }).fenceLink c
    | .restore => (s.setLink c { s.link c with mask := .none }).raise (gatePage g) 2
    | .none => s
  | .shotCtrl => if s.echoDue c then (s.schedClear c).raise (camPage c) 12 else s
  | .linkRate v => (s.setLink c { s.link c with newRates := (s.link c).newRates.erase v }).raise (gatePage g) 2
  | .trainOn => s | .trainOff => s | .loopBuf => s | .farLoop => s | .prbsSel => s | .testOff => s
  | .poll => s.raise (brgPage g) 6
  | .lock => (s.put (BRG.PORT_STATUS_LOCK_PENDING g p) 0).setEngine g { s.engine g with lockPort := none }
  | .unlock =>
    if (s.engine g).lockPort == some c then
      (s.put (BRG.PORT_STATUS_LOCKED g p) 0).setEngine g { s.engine g with lockPort := none }
    else s
  | .discMagic => (s.put (BRG.PORT_STATUS_DISC g p) 3).put (BRG.CAM_CAPS g p) 0
  | .discCaps => (s.put (BRG.PORT_STATUS_DISC g p) 3).put (BRG.CAM_CAPS g p) 0
  | .discIdent => (s.put (BRG.PORT_STATUS_DISC g p) 3).put (BRG.CAM_CAPS g p) 0

/-- Report a failed write or read (R337). -/
def State.reportFail (s : State) (c tag op : Nat) : State :=
  let g := c / 2
  let p := c % 2
  if op = 1 then
    let t := if s.on (BRG.FENCE_FAIL g p) then s else (s.put (BRG.FENCE_FAIL g p) 1).put (BRG.FAIL_TAG g p) tag
    t.raise (brgPage g) 0
  else if op = 2 then s.raise (brgPage g) 1
  else s

/-- Bytes of a request's piece. -/
def Req.pieceLen (r : Req) : Nat := if r.op = 2 then r.len else r.data.length

/-- A request fails (R337): logged, reported, and its owner's outcome. -/
def State.failReq (s : State) (r : Req) (cause cstatus : Nat) : State :=
  let g := r.port / 2
  let t := s.dropReq r
  let t := if cause = 5 then
      let u := t.inc (BRG.TIMEOUT_COUNT g (r.port % 2))
      u.setEngine g { u.engine g with recent := (r.port, r.tag, u.now) :: (u.engine g).recent }
    else t
  let t := t.logEntry r.port r.addr (if r.op = 1 then r.data else []) r.tag cause r.purpose.source cstatus r.pieceLen
  let t := (t.reportFail r.port r.tag r.op).failOutcome r
  if r.op = 1 then t.writeEnded r.port r.tag else t

/-- Every request of a port that is down fails with PORT_DOWN (R320); the failure of one may withdraw others. -/
def State.failAll (s : State) (c : Nat) : Nat → State
  | 0 => s
  | n + 1 =>
    match (s.engine (c / 2)).reqs.find? (fun r => r.port == c) with
    | none => s
    | some r => (s.failReq r 8 0).failAll c n

/-- A host read that fails without a piece of its own: logged with an open TAG, and an open LEN of 1 to 256 (R337, R339, R348;
log entry 4). -/
def State.failWhole (s : State) (c addr cause : Nat) : State :=
  let a := s.draw
  let b := a.2.draw
  (b.2.logEntry c addr [] a.1 cause 1 0 (1 + b.1 % 256)).raise (brgPage (c / 2)) 1

/-- The camera address a read of port c begins at. -/
def HostRead.first (r : HostRead) : Nat := (r.addrs.filterMap (fun a => a)).headD 0

/-- Host reads of a port that wait for earlier writes alone, with no piece to fail, fail with PORT_DOWN (R320). -/
def State.failWaiting (s : State) (c : Nat) : State :=
  s.each ((s.engine (c / 2)).reads.filter (fun r => r.port == c && r.pieces == 0)) (fun t r =>
    (if r.bad then t else t.failWhole c r.first 8).failRead (c / 2) r.key)

/-- Fail what the port holds when it is down (R320). -/
def State.downCheck (s : State) (c : Nat) : State :=
  if s.portDown c then
    let t := s.failWaiting c
    let e := t.engine (c / 2)
    t.failAll c (e.reqs.length + (e.reads.map (fun r => r.parts.length)).sum)
  else s

/-- A write that the device generates for port c, of data at a camera address (R332). -/
def State.deviceWrite (s : State) (c : Nat) (p : Purpose) (addr : Nat) (data : List Byte) : State :=
  (s.enqueue c 1 2 addr data 0 0 p).downCheck c

/-- A device write of a 32-bit word at a camera address that is a multiple of 4, under the DI rule. -/
def State.deviceWord (s : State) (c : Nat) (p : Purpose) (addr v : Nat) : State :=
  s.deviceWrite c p addr (s.diWord c v)

/-- SHOT_NEXT[15:0] into the port's half of SHOT_CTRL (R236), under the DI rule. -/
def State.writeEcho (s : State) (c : Nat) : State :=
  let v := s.get (CAM.SHOT_NEXT c) % 65536
  if s.on (BRG.PORT_CFG_BE (c / 2) (c % 2)) then s.deviceWrite c .shotCtrl (if c % 2 = 0 then 0x22 else 0x20) (beBytes 2 v)
  else s.deviceWrite c .shotCtrl (if c % 2 = 0 then 0x20 else 0x22) (leBytes 2 v)

/-- A discovery read of 4 bytes under AI in class RR (R326). -/
def State.discoveryRead (s : State) (c : Nat) (p : Purpose) (addr : Nat) : State :=
  (s.enqueue c 2 1 addr [] 4 4 p).downCheck c

/-- Discovery of the camera of a port starts (R326). -/
def State.startDiscovery (s : State) (c : Nat) : State :=
  let t := (s.put (BRG.PORT_STATUS_DISC (c / 2) (c % 2)) 0).put (BRG.CAM_CAPS (c / 2) (c % 2)) 0
  t.discoveryRead c .discMagic 0

/-- A port reaches CLOCK (R50): the first time since the gate was enabled it starts discovery, whatever DISCOVER has done
before (R326, R470). -/
def State.enterClock (s : State) (c : Nat) : State :=
  let t := s.toClock c
  if (t.link c).discovered then t else (t.setLink c { t.link c with discovered := true }).startDiscovery c

/-- A port in DOWN with its clock accepted goes to CLOCK (R50); a fenced one stays as it is (R115, R359). -/
def State.leaveDown (s : State) (c : Nat) : State :=
  if s.linkState c == linkDown && s.on (LNK.CLOCK_OK c) && !(s.link c).heldDown && s.gateEnabled (c / 2) &&
      s.portPresent c && !s.portFenced c then s.enterClock c
  else s

/-- What the acknowledgement of a request means to the rule that owns it. -/
def State.ackOutcome (s : State) (r : Req) : State :=
  let c := r.port
  let g := c / 2
  let p := c % 2
  match r.purpose with
  | .pcWrite => (s.put (BRG.PORT_STATUS_PCW_BUSY g p) 0).raise (brgPage g) 7
  | .settings k => s.commitAck c k
  | .laneMask =>
    if !s.maskDue c then s else
    match (s.link c).mask with
    | .degrade m =>
      let t := ((s.put (LNK.MASK c) m).put (GATE.LANE_MASK_DEGRADED_A g) 1).put (LNK.DESKEW_DONE c) 0
      (t.setLink c { t.link c with mask := .none }).raise (gatePage g) 14
    | .restore =>
      let t := s.put (LNK.MASK c) (fullMask (s.gateMode g) p)
      let t := if p = 0 then t.put (GATE.LANE_MASK_DEGRADED_A g) 0 else t
      t.setLink c { t.link c with mask := .none }
    | .none => s
  | .shotCtrl => if s.echoDue c then s.schedSync c else s
  | .linkRate v =>
    let t := ((s.put (LNK.RATE c) v).toDown c).put (LNK.CLOCK_OK c) 0
    t.setLink c { t.link c with newRates := (t.link c).newRates.erase v, trying := false }
  | .lock => ((s.put (BRG.PORT_STATUS_LOCK_PENDING g p) 0).put (BRG.PORT_STATUS_LOCKED g p) 1).raise (brgPage g) 8
  | .hostWrite => s | .hostRead _ => s | .trainOn => s | .trainOff => s | .loopBuf => s | .farLoop => s
  | .prbsSel => s | .testOff => s | .poll => s | .unlock => s | .discMagic => s | .discCaps => s | .discIdent => s

/-- A WRITE, LOCK or UNLOCK completes (R330). -/
def State.completeWrite (s : State) (r : Req) : State :=
  let t := (s.dropReq r).ackOutcome r
  if r.op = 1 then t.writeEnded r.port r.tag else t

/-- The outstanding request of a port with a tag. -/
def State.outstanding (s : State) (c tag : Nat) : Option Req :=
  (s.engine (c / 2)).reqs.find? (fun r => r.port == c && r.tag == tag && r.state == .outstanding)

/-- The outstanding write of a port for a purpose. -/
def State.outstandingFor (s : State) (c : Nat) (p : Purpose) : Option Req :=
  (s.engine (c / 2)).reqs.find? (fun r => r.port == c && r.purpose == p && r.state == .outstanding)

/-- The oldest LINK_RATE write of a port that is outstanding (R53). -/
def State.outstandingRate (s : State) (c : Nat) : Option Req :=
  (s.engine (c / 2)).reqs.find? (fun r => r.port == c && r.state == .outstanding &&
    (match r.purpose with | .linkRate _ => true | _ => false))

/-- The fence of a section engine (R360): every request of its ports fails with PORT_DOWN. -/
def State.stopEngine (s : State) (g : Nat) : State :=
  ((s.downCheck (2 * g)).downCheck (2 * g + 1))

end Sys2Proof.Machine
end

