-- ==== Sys2Proof/Machine/Chk.lean ====
section
/-!
DEFINITION. The check units CHK0 to CHK3 (R433 to R440).
-/

namespace Sys2Proof.Machine

/-- Width w of the parameter set in force (R428). -/
def State.chkWidth (s : State) (n : Nat) : Nat := (crcAlg (s.get (CHK.CHK_CFG_ALG n))).w

/-- The computation a unit is set up for: POLY and w of its ALG, and its own INIT, XOR and reflections (R429, R438). -/
def State.chkAlg (s : State) (n : Nat) : CrcAlg :=
  let a := crcAlg (s.get (CHK.CHK_CFG_ALG n))
  { w := a.w, poly := a.poly, init := s.get (CHK.CHK_INIT n), refin := s.on (CHK.CHK_CFG_REFIN n),
    refout := s.on (CHK.CHK_CFG_REFOUT n), xor := s.get (CHK.CHK_XOR n) }

/-- Check unit n is fenced (R360). -/
def State.chkFenced (s : State) (n : Nat) : Bool := s.on (HDR.FAULT_REACT_FENCED (chkPage n))

/-- The running register, INIT while EMPTY (R433, R435). -/
def State.chkRunningReg (s : State) (n : Nat) : Nat :=
  let a := s.chkAlg n
  if s.on (CHK.CHK_CFG_EMPTY n) then a.init % 2 ^ a.w else (s.chk n).r

/-- The value FINAL would give now (R435). -/
def State.chkValue (s : State) (n : Nat) : Nat := crcFinal (s.chkAlg n) (s.chkRunningReg n)

/-- RUNNING with EMPTY = 1; DONE and MISMATCH clear (R433, R437). -/
def State.chkRestart (s : State) (n : Nat) : State :=
  ((s.put (CHK.CHK_CFG_EMPTY n) 1).put (CHK.CHK_CFG_DONE n) 0).put (CHK.CHK_CFG_MISMATCH n) 0

/-- The unit is RUNNING and has taken a byte: its parameters are locked (R436). -/
def State.chkBusy (s : State) (n : Nat) : Bool := !s.on (CHK.CHK_CFG_DONE n) && !s.on (CHK.CHK_CFG_EMPTY n)

/-- Feed bytes to a unit (R433, R434, R436, R437). -/
def State.chkFeed (s : State) (n : Nat) (l : List Byte) : State :=
  if s.chkFenced n then s
  else if s.on (CHK.CHK_CFG_DONE n) then s.refuse (chkPage n) 0xC2
  else
    let r := crcBytes (s.chkAlg n) (s.chkRunningReg n) l
    (s.put (CHK.CHK_CFG_EMPTY n) 0).setChk n ⟨r⟩

/-- The low k bytes of a written word, least significant first (R434). -/
def dataBytes (k : Nat) (v : Word) : List Byte := leBytes k v.toNat

/-- START (R433). -/
def State.chkStart (s : State) (n : Nat) : State :=
  if s.chkFenced n then s.refuse (chkPage n) 0xC4 else (s.chkRestart n).accept (chkPage n) 1

/-- PRESET (R433, R436, R437, R438). -/
def State.chkPreset (s : State) (n alg : Nat) : State :=
  if s.chkFenced n then s.refuse (chkPage n) 0xC4
  else if s.chkBusy n then s.refuse (chkPage n) 0xC1
  else if alg > 3 then s.refuse (chkPage n) 0xC0
  else
    let a := crcAlg alg
    let t := ((s.put (CHK.CHK_CFG_ALG n) alg).putB (CHK.CHK_CFG_REFIN n) a.refin).putB (CHK.CHK_CFG_REFOUT n) a.refout
    (((t.put (CHK.CHK_INIT n) a.init).put (CHK.CHK_XOR n) a.xor).put (CHK.CHK_EXPECT n) 0).accept (chkPage n) 2

/-- CHK_FINAL.GO (R435 to R437). -/
def State.chkFinal (s : State) (n : Nat) : State :=
  if s.chkFenced n then s.refuse (chkPage n) 0xC4
  else if s.on (CHK.CHK_CFG_DONE n) then s.refuse (chkPage n) 0xC3
  else
    let v := s.chkValue n
    let t := (s.put (CHK.CHK_RESULT n) v).put (CHK.CHK_CFG_DONE n) 1
    if v = s.get (CHK.CHK_EXPECT n) % 2 ^ s.chkWidth n then t
    else (t.put (CHK.CHK_CFG_MISMATCH n) 1).raise (chkPage n) 0

/-- CHK_START. -/
def execChkStart (n : Fin 4) (s : State) : Host.Outcome State Fault Refusal := .next (s.when s.hostOn (·.chkStart n))
/-- CHK_PRESET. -/
def execChkPreset (n : Fin 4) (alg : Fin 8) (s : State) : Host.Outcome State Fault Refusal :=
  .next (s.when s.hostOn (·.chkPreset n alg))
/-- CHK_DATA8. -/
def execChkData8 (n : Fin 4) (v : Word) (s : State) : Host.Outcome State Fault Refusal :=
  .next (s.when s.hostOn (·.chkFeed n (dataBytes 1 v)))
/-- CHK_DATA16. -/
def execChkData16 (n : Fin 4) (v : Word) (s : State) : Host.Outcome State Fault Refusal :=
  .next (s.when s.hostOn (·.chkFeed n (dataBytes 2 v)))
/-- CHK_DATA32. -/
def execChkData32 (n : Fin 4) (v : Word) (s : State) : Host.Outcome State Fault Refusal :=
  .next (s.when s.hostOn (·.chkFeed n (dataBytes 4 v)))
/-- CHK_FINAL. -/
def execChkFinal (n : Fin 4) (s : State) : Host.Outcome State Fault Refusal := .next (s.when s.hostOn (·.chkFinal n))

end Sys2Proof.Machine
end

