-- ==== Sys2Proof/Machine/MouldOps.lean ====
section
/-!
DEFINITION. Mould units: colour conversion, tile rows, slots, output lines, and starting and stopping a unit (R211 to R218).
-/

namespace Sys2Proof.Machine

/-! ### Colours (R212) -/

/-- A colour as channels: one for Y8, three for RGB888. -/
abbrev Chan := List Nat

/-- Y of R212. -/
def lumaOf (r g b : Nat) : Nat := (77 * r + 150 * g + 29 * b + 128) / 256

/-- Channels of an RGB triple in an output format (true: RGB888). -/
def chanOf (rgb : Bool) (r g b : Nat) : Chan := if rgb then [r, g, b] else [lumaOf r g b]

/-- Channels of a colour register (R221). -/
def chanReg (rgb : Bool) (v : Nat) : Chan := chanOf rgb (v / 65536 % 256) (v / 256 % 256) (v % 256)

/-- y of R212 for a source sample. -/
def shadeOf (shift v : Nat) : Nat :=
  let k := min shift 8
  min 255 ((v + (if k = 0 then 0 else 2 ^ (k - 1))) / 2 ^ k)

/-- The mean of neighbours, rounded; with none, the pixel's own value (R212). -/
def meanOr (own : Nat) (l : List Nat) : Nat := if l.isEmpty then own else (l.sum + l.length / 2) / l.length

/-- The pixel of a source line at a column: of the piece that holds it. -/
def SrcLine.at (l : SrcLine) (x : Nat) : Option Nat :=
  match l.find? (fun p => decide (p.1 ≤ x) && decide (x < p.1 + p.2.length)) with
  | some p => p.2[x - p.1]?
  | none => none

/-- The source pixel at signed coordinates, shaded. -/
def srcAt (shift : Nat) (lines : Nat → Option SrcLine) (y x : Int) : Option Nat :=
  if y < 0 || x < 0 then none
  else match lines y.toNat with
    | some l => (l.at x.toNat).map (shadeOf shift)
    | none => none

/-- The colour of a source pixel (R212): `bayer` is the phase code 0 to 3 (RG, GR, GB, BG), none for a mono source. -/
def rgbAt (bayer : Option Nat) (src : Int → Int → Option Nat) (y x : Nat) : Option (Nat × Nat × Nat) :=
  match src y x with
  | none => none
  | some v =>
    match bayer with
    | none => some (v, v, v)
    | some k =>
      let at_ (l : List (Int × Int)) : Nat := meanOr v (l.filterMap (fun o => src ((y : Int) + o.1) ((x : Int) + o.2)))
      let side : List (Int × Int) := [(0, -1), (0, 1)]
      let vert : List (Int × Int) := [(-1, 0), (1, 0)]
      let diag : List (Int × Int) := [(-1, -1), (-1, 1), (1, -1), (1, 1)]
      let redX := x % 2 == k % 2
      let redY := y % 2 == k / 2 % 2
      if redX && redY then some (v, at_ (side ++ vert), at_ diag)
      else if !redX && !redY then some (at_ diag, at_ (side ++ vert), v)
      else if redY then some (at_ side, v, at_ vert)
      else some (at_ vert, v, at_ side)

/-- The box value of R213 over source lines and columns, none with no existing pixel. -/
def boxPixel (rgb : Bool) (bayer : Option Nat) (src : Int → Int → Option Nat) (ys xs : List Nat) : Option Chan :=
  let px := (ys.map (fun y => xs.filterMap (fun x => (rgbAt bayer src y x).map (fun c => chanOf rgb c.1 c.2.1 c.2.2)))).flatten
  if px.isEmpty then none
  else some ((List.range (if rgb then 3 else 1)).map (fun k =>
    ((px.map (fun c => c.getD k 0)).sum + px.length / 2) / px.length))

/-! ### Tiles -/

/-- The output is RGB888 (R221). -/
def State.mouldRgb (s : State) (m : Nat) : Bool := s.on (MOULD.MOULD_CFG_FORMAT m)

/-- Bm (R211). -/
def State.mouldBytes (s : State) (m : Nat) : Nat := if s.mouldRgb m then 3 else 1

/-- Mould m works: enabled, not fenced, and the device runs. -/
def State.mouldRuns (s : State) (m : Nat) : Bool :=
  s.running && s.on (HDR.CTRL_ENABLE (mouldPage m)) && !s.on (HDR.FAULT_REACT_FENCED (mouldPage m)) && s.domainOn (317 + m)

/-- Tile t is in use (R211). -/
def State.tileOn (s : State) (m t : Nat) : Bool :=
  decide (t < s.get (MOULD.MOULD_CFG_TILES m)) && decide (t < 64) && s.on (MOULD.TILE_CTRL_EN m t)

/-- A 64-bit mask over the tiles in two registers. -/
def tileBit (lo hi : Fld) (t : Nat) : Fld := if t < 32 then lo else hi

/-- NOFIT of a tile (R218). -/
def State.nofit (s : State) (m t : Nat) : Bool := s.bitAt (tileBit (MOULD.NOFIT_LO m) (MOULD.NOFIT_HI m) t) (t % 32)

/-- STALE_STATUS of a tile (R216). -/
def State.isStale (s : State) (m t : Nat) : Bool := s.bitAt (tileBit (MOULD.STALE_LO m) (MOULD.STALE_HI m) t) (t % 32)

/-- Set or clear STALE_STATUS of a tile. -/
def State.setStale (s : State) (m t : Nat) (v : Bool) : State :=
  s.putBit (tileBit (MOULD.STALE_LO m) (MOULD.STALE_HI m) t) (t % 32) v

/-- What is held of a tile. -/
def State.tile (s : State) (m t : Nat) : TileSt := tget (s.mould m).tiles t {}

/-- Set what is held of a tile. -/
def State.setTile (s : State) (m t : Nat) (v : TileSt) : State :=
  s.setMould m { s.mould m with tiles := tput (s.mould m).tiles t v {} }

/-- Bytes of one slot of a tile (R218). -/
def State.slotBytes (s : State) (m t : Nat) : Nat :=
  4096 * ceilDiv (s.get (MOULD.TILE_SIZE_TW m t) * s.get (MOULD.TILE_SIZE_TH m t) * s.mouldBytes m) 4096

/-- What a tile's source is: width, height, bytes of a sample, Bayer phase, packed, strip (R211). -/
structure TileSource where
  width : Nat
  height : Nat
  bytes : Nat
  bayer : Option Nat := none
  packed : Bool := false
  strip : Bool := false
deriving DecidableEq, Repr

/-- The source of a tile (R211); none when its window is not in the active set, or KIND names nothing. -/
def State.tileSource (s : State) (m t : Nat) : Option TileSource :=
  let kind := s.get (MOULD.TILE_SRC_KIND m t)
  let c := s.get (MOULD.TILE_SRC_CAM m t)
  if kind = 0 then
    let fmt := s.get (CAM.FMT_CFG_PIXEL_FORMAT c)
    ((s.cam c).wins.find? (fun v => v.j == s.get (MOULD.TILE_SRC_WIN m t))).map (fun v =>
      { width := v.wo fmt, height := v.ho fmt, bytes := if v.outFmt = 1 then 1 else 2,
        bayer := if isBayer fmt then some (fmt % 4) else none, packed := v.outFmt == 2 })
  else if kind = 1 then
    let u := c % 4
    some { width := s.get (SEAM.SEAM_WIDTH u), height := s.get (SEAM.SEAM_BLOCK u),
           bytes := if s.on (SEAM.SEAM_CFG_SAMPLE u) then 1 else 2, strip := true }
  else none

/-- Samples that a packet of the source must hold: the width, or the segment's samples (R209, R211). -/
def TileSource.samples (x : TileSource) (sub : Nat) : Nat := if x.strip then min 32768 (x.width - 32768 * sub) else x.width

/-! ### Writing tile rows (R213 to R215) -/

/-- Write one tile row into row `at_` of the two slots (rows TH and up are the second slot's). A box without a pixel is
kept as a hole. -/
def State.writeRow (s : State) (m t at_ : Nat) (px : List (Option Chan)) : State :=
  let x := s.tile m t
  let th := s.get (MOULD.TILE_SIZE_TH m t)
  let bm := s.mouldBytes m
  let blank : Chan := List.replicate bm 0
  match x.base with
  | none => s
  | some base =>
    let addr := base + at_ / th * s.slotBytes m t + at_ % th * s.get (MOULD.TILE_SIZE_TW m t) * bm
    let bytes := ((px.map (fun c => (c.getD blank).map (BitVec.ofNat 8))).flatten)
    let holes := (List.range px.length).filter (fun i => (px.getD i none).isNone)
    (s.hbmWrite addr bytes).setTile m t { x with holes := tput x.holes at_ holes [] }

/-- The boxes of a tile row over source lines ys (R213). -/
def State.tileRow (s : State) (m t : Nat) (bayer : Option Nat) (ys : List Nat) (lines : Nat → Option SrcLine) :
    List (Option Chan) :=
  let n := s.get (MOULD.TILE_CTRL_SCALE m t) + 1
  let sx := s.get (MOULD.TILE_SX0 m t)
  let src := srcAt (s.get (MOULD.TILE_CTRL_SHIFT m t)) lines
  (List.range (s.get (MOULD.TILE_SIZE_TW m t))).map (fun i =>
    boxPixel (s.mouldRgb m) bayer src ys ((List.range n).map (fun d => sx + n * i + d)))

/-- A source frame of a FRAME tile ends (R214): its slot becomes the latest. -/
def State.endTileFrame (s : State) (m t : Nat) (x : TileSource) : State :=
  match (s.tile m t).cur with
  | none => s
  | some f =>
    let u := s.setTile m t { s.tile m t with cur := none }
    match f.slot with
    | none => u
    | some k =>
      let n := s.get (MOULD.TILE_CTRL_SCALE m t) + 1
      let th := s.get (MOULD.TILE_SIZE_TH m t)
      let find (y : Nat) : Option SrcLine := (f.lines.find? (fun p => p.1 == y)).map Prod.snd
      let u := u.each (List.range th) (fun u r =>
        let y0 := s.get (MOULD.TILE_SY0 m t) + n * r
        let ys := ((List.range n).map (fun d => y0 + d)).filter (fun y => (find y).isSome)
        if x.height ≤ y0 then u.writeRow m t (k * th + r) (List.replicate (s.get (MOULD.TILE_SIZE_TW m t)) none)
        else if ys.isEmpty then u
        else u.writeRow m t (k * th + r) (s.tileRow m t x.bayer ys find))
      (u.setTile m t { u.tile m t with latest := some k }).setStale m t false

/-- A source frame of a FRAME tile begins (R214). -/
def State.startTileFrame (s : State) (m t : Nat) : State :=
  let x := s.tile m t
  let k := match x.latest with | some 0 => 1 | _ => 0
  if (s.mould m).reading.isSome && x.latched == some k then
    (s.setTile m t { x with cur := some { slot := none } }).inc (MOULD.SRC_SKIP m)
  else s.setTile m t { x with cur := some { slot := some k } }

/-- Row coordinates for lines in the order of their arrival, behind one of number `num` at row v: the parity of a row is that of
its line's number, and rows are neighbours where the numbers are (R212, R215). -/
def placeAfter (v num : Nat) : List (Nat × SrcLine) → List (Nat × SrcLine)
  | [] => []
  | (n, l) :: t =>
    let w := if n = num + 1 then v + 1 else if (v + n) % 2 = 0 then v + 2 else v + 3
    (w, l) :: placeAfter w n t

/-- Row coordinates for lines in the order of their arrival. -/
def placeLines : List (Nat × SrcLine) → List (Nat × SrcLine)
  | [] => []
  | (n, l) :: t => (n % 2, l) :: placeAfter (n % 2) n t

/-- A line joins the group of a SCROLL tile; a full group yields a row, of the group's lines in the order of their arrival
(R213, R215). -/
def State.scrollLine (s : State) (m t : Nat) (x : TileSource) (num : Nat) (l : SrcLine) : State :=
  let e := s.tile m t
  let group := e.group ++ [(num, l)]
  let n := s.get (MOULD.TILE_CTRL_SCALE m t) + 1
  let th := s.get (MOULD.TILE_SIZE_TH m t)
  if group.length < n then s.setTile m t { e with group := group }
  else
    let u := s.setTile m t { e with group := [], before := some (num, l) }
    if th ≤ e.inPeriod then u.inc (MOULD.SRC_SKIP m)
    else
      let near := placeLines (e.before.toList ++ group)
      let find (y : Nat) : Option SrcLine := (near.find? (fun p => p.1 == y)).map Prod.snd
      let ys := (near.drop e.before.toList.length).map Prod.fst
      let u := u.writeRow m t (e.rows % (2 * th)) (s.tileRow m t x.bayer ys find)
      (u.setTile m t { u.tile m t with rows := e.rows + 1, inPeriod := e.inPeriod + 1 }).setStale m t false

/-- A whole source line of a tile (R214, R215): its number in the source frame and HFLAGS FIRST and LAST. -/
def State.tileLine (s : State) (m t : Nat) (x : TileSource) (num : Nat) (first last : Bool) (l : SrcLine) : State :=
  if s.on (MOULD.TILE_CTRL_MODE m t) then s.scrollLine m t x num l
  else
    let u := if first then (s.endTileFrame m t x).startTileFrame m t else s
    let u := match (u.tile m t).cur with
      | some f => u.setTile m t { u.tile m t with cur := some { f with lines := f.lines ++ [(num, l)] } }
      | none => u
    if last then u.endTileFrame m t x else u

/-- The strip line in assembly is taken as it stands. -/
def State.endPart (s : State) (m t : Nat) (x : TileSource) : State :=
  match (s.tile m t).part with
  | none => s
  | some p => (s.setTile m t { s.tile m t with part := none }).tileLine m t x p.line (p.line == 0) p.last p.pieces

/-- A segment of a strip line (R209): segments of one line follow each other; the line is whole at its last one. -/
def State.tileSegment (s : State) (m t : Nat) (x : TileSource) (k : Packet) (px : List Nat) : State :=
  let sub := k.hdr.srcSub
  let same := match (s.tile m t).part with | some p => p.strip == k.hdr.line && decide (p.next ≤ sub) | none => false
  let u := if same then s else s.endPart m t x
  let p : PartLine := match (u.tile m t).part with
    | some p => p
    | none => { strip := k.hdr.line, line := k.hdr.aux, last := bitOf k.hdr.hflags 1, next := 0, pieces := [] }
  let p := { p with next := sub + 1, pieces := p.pieces ++ [(32768 * sub, px)] }
  let u := u.setTile m t { u.tile m t with part := some p }
  if x.width ≤ 32768 * (sub + 1) then u.endPart m t x else u

/-- Mould m takes a packet of tile t (R211, R214, R215, R218). -/
def State.takeTile (s : State) (m t : Nat) (k : Packet) : State :=
  if 2 ≤ s.get (MOULD.TILE_SRC_KIND m t) || s.nofit m t then s
  else
    let bad := (s.inc (MOULD.BAD_PKT m)).raise (mouldPage m) 2
    match s.tileSource m t with
    | none => bad
    | some x =>
      if bitOf k.hdr.hflags 2 || x.packed || k.payload.length ≠ x.samples k.hdr.srcSub * x.bytes then bad
      else
        let px := (chunks x.bytes k.payload).map leNat
        if x.strip then s.tileSegment m t x k px
        else s.tileLine m t x k.hdr.line (bitOf k.hdr.hflags 0) (bitOf k.hdr.hflags 1) [(0, px)]

/-! ### Output lines (R216, R217) -/

/-- The highest-numbered tile that covers a panel pixel (R216). -/
def State.coverTile (s : State) (m x y : Nat) : Option Nat :=
  ((List.range 64).filter (fun t =>
    s.tileOn m t && decide (s.get (MOULD.TILE_SRC_KIND m t) < 2) && !s.nofit m t &&
    decide (s.get (MOULD.TILE_POS_DX m t) ≤ x) && decide (x < s.get (MOULD.TILE_POS_DX m t) + s.get (MOULD.TILE_SIZE_TW m t)) &&
    decide (s.get (MOULD.TILE_POS_DY m t) ≤ y) &&
    decide (y < s.get (MOULD.TILE_POS_DY m t) + s.get (MOULD.TILE_SIZE_TH m t)))).getLast?

/-- The row of the two slots that row r of a tile shows; none: background (R214, R215). -/
def State.shownRow (s : State) (m t r : Nat) : Option Nat :=
  let th := s.get (MOULD.TILE_SIZE_TH m t)
  match (s.tile m t).latched with
  | none => none
  | some v =>
    if s.on (MOULD.TILE_CTRL_MODE m t) then
      if th ≤ v + r then some ((v + r - th) % (2 * th)) else none
    else some (v * th + r)

/-- The pixel that a slot gives at (i, r) of a tile, none where it shows the background. -/
def State.slotPixel (s : State) (m t i r : Nat) : Option Chan :=
  let th := s.get (MOULD.TILE_SIZE_TH m t)
  let bm := s.mouldBytes m
  let x := s.tile m t
  match x.base, s.shownRow m t r with
  | some base, some q =>
    let addr := base + q / th * s.slotBytes m t + (q % th * s.get (MOULD.TILE_SIZE_TW m t) + i) * bm
    if (tget x.holes q []).contains i || (List.range bm).any (fun d => s.hbmFails (addr + d)) then none
    else some ((s.hbmRead addr bm).map (fun b => b.toNat))
  | _, _ => none

/-- One output pixel (R216); `bad`: its slot read is uncorrectable (R218). -/
def State.panelPixel (s : State) (m x y : Nat) (bad : Bool) : Chan :=
  let rgb := s.mouldRgb m
  let k := s.mould m
  let bg := chanReg rgb k.bg
  match s.coverTile m x y with
  | none => bg
  | some t =>
    let i := x - s.get (MOULD.TILE_POS_DX m t)
    let r := y - s.get (MOULD.TILE_POS_DY m t)
    let b := s.get (MOULD.TILE_CTRL_BORDER m t)
    let edge := decide (i < b) || decide (s.get (MOULD.TILE_SIZE_TW m t) ≤ i + b) || decide (r < b) ||
      decide (s.get (MOULD.TILE_SIZE_TH m t) ≤ r + b)
    let alarm := bitOf k.alarm t
    let a := chanReg rgb k.alarmColour
    if edge then (if alarm then a else if bitOf k.stale t then chanReg rgb k.staleColour else chanReg rgb k.border)
    else
      let p := if bad then bg else (s.slotPixel m t i r).getD bg
      if alarm && s.on (MOULD.TILE_CTRL_TINT m t) then
        (List.range p.length).map (fun c => (p.getD c 0 + a.getD c 0 + 1) / 2)
      else p

/-- The packet of output line y of frame n (R217, R261). -/
def State.panelPacket (s : State) (m n y : Nat) (bad : List Nat) : Packet :=
  let w := s.get (MOULD.MOULD_SIZE_WIDTH m)
  let prio := s.get (MOULD.MOULD_QUEUE_PRIO m)
  let px := (List.range w).map (fun x => s.panelPixel m x y (bad.contains x))
  { queue := s.get (MOULD.MOULD_QUEUE_QUEUE m), prio := prio, payload := (px.map (fun c => c.map (BitVec.ofNat 8))).flatten,
    hdr := { kind := 5, hflags := b2n (y == 0) + 2 * b2n (y + 1 == s.get (MOULD.MOULD_SIZE_HEIGHT m)) + 16 * prio,
             srcUnit := m, sample := s.get (MOULD.MOULD_CFG_FORMAT m) + 16 * 7, shot := n % 2 ^ 32, line := y,
             samples := w } }

/-! ### Starting and stopping (R217, R218, R359) -/

/-- T0: device time rounded up to a whole µs. -/
def State.mouldT0 (s : State) : Nat := 1000 * ceilDiv s.now 1000

/-- Slots for the tiles in ascending order from an offset in the unit's region (R218). -/
def State.allocTiles (s : State) (m : Nat) : List Nat → Nat → State
  | [], _ => s
  | t :: rest, off =>
    if !s.tileOn m t then s.allocTiles m rest off
    else
      let need := 2 * s.slotBytes m t
      if off + need ≤ 0x10000000 then
        (s.setTile m t { base := some (0xF00000000 + m * 0x10000000 + off) }).allocTiles m rest (off + need)
      else
        ((s.putBit (tileBit (MOULD.NOFIT_LO m) (MOULD.NOFIT_HI m) t) (t % 32) true).raise (mouldPage m) 3).allocTiles m rest off

/-- The unit is enabled (R217, R218). -/
def State.mouldStart (s : State) (m : Nat) : State :=
  let t := (((s.put (MOULD.NOFIT_LO m) 0).put (MOULD.NOFIT_HI m) 0).put (MOULD.STALE_LO m) 0).put (MOULD.STALE_HI m) 0
  (t.setMould m { t0 := s.mouldT0 }).allocTiles m (List.range 64) 0

/-- Readout restarts at a release (R359). -/
def State.mouldRestart (s : State) (m : Nat) : State :=
  s.setMould m { s.mould m with t0 := s.mouldT0, n := 0, reading := none }

/-- Queue q is bound to mould m as tile t (R269): the lowest-numbered tile that names it. -/
def State.mouldBinds (s : State) (m t : Nat) : Bool :=
  let q := s.get (MOULD.TILE_SRC_QUEUE m t)
  s.tileOn m t && s.get (QD.Q_CFG_CONSUMER q) == 3 && s.get (QD.Q_CFG_UNIT q) == m &&
  !(List.range t).any (fun n => s.tileOn m n && s.get (MOULD.TILE_SRC_QUEUE m n) == q)

/-- Readout stops at once (R217, R359): lines not begun are not sent, and a claimed packet is read out as slag. -/
def State.mouldStop (s : State) (m : Nat) : State :=
  let t := s.setProd (37 + m) { s.prod (37 + m) with todo := [] }
  let t := t.setMould m { t.mould m with reading := none }
  t.each (List.range 64) (fun t n => if t.mouldBinds m n then t.dropClaim (t.get (MOULD.TILE_SRC_QUEUE m n)) else t)

end Sys2Proof.Machine
end

