-- ==== Sys2Proof/Machine/Pour.lean ====
section
/-!
DEFINITION. The pour engine's shared operations: rings, delivery, rate caps, completion entries (R291 to R305), and the
host requests of table loads (R300).
-/

namespace Sys2Proof.Machine

/-! ### Ring indices (R298) -/

/-- 2^SIZE, the entries of each structure of ring q. -/
def State.ringEntries (s : State) (q : Nat) : Nat := 2 ^ s.get (RING.RING_CFG_SIZE q)

/-- Posted descriptors (R298). -/
def State.posted (s : State) (q : Nat) : Nat :=
  let n := s.ringEntries q
  ((s.ring q).descTail + n - s.get (RING.RING_IDX_DESC_HEAD q) % n) % n

/-- Completion entries unread (R298). -/
def State.unread (s : State) (q : Nat) : Nat :=
  let n := s.ringEntries q
  (s.get (RING.RING_IDX_CPL_TAIL q) + n - (s.ring q).cplHead % n) % n

/-- Packets in delivery (POUR_STATUS.ACTIVE). -/
def State.delivering (s : State) : Nat := (s.rings.filter (fun p => p.2.delivery.isSome)).length

/-- The pour engine is fenced (R360). -/
def State.pourFenced (s : State) : Bool := s.on (HDR.FAULT_REACT_FENCED (pourPage 0))

/-! ### Rate cap (R302) -/

/-- Tokens of a ring now: CAP bytes each µs, up to the depth. -/
def State.ringTokens (s : State) (q : Nat) : Int :=
  let r := s.ring q
  min 131072 (r.tokens + s.get (RING.RING_RATE q) * (((s.now : Int) - r.tokensAt) / 1000))

/-- A write request of the ring is eligible (R302). -/
def State.hasTokens (s : State) (q : Nat) : Bool := s.get (RING.RING_RATE q) == 0 || decide (s.ringTokens q > 0)

/-- Queuing a write request of n data bytes (R302). -/
def State.spendTokens (s : State) (q n : Nat) : State :=
  if s.get (RING.RING_RATE q) = 0 then s
  else
    let r := s.ring q
    s.setRing q { r with tokens := s.ringTokens q - n, tokensAt := s.now - ((s.now : Int) - r.tokensAt) % 1000 }

/-! ### Enabling (R295) -/

/-- The settings of a write of 1 to EN. -/
def State.ringStart (s : State) (q : Nat) : State :=
  let t := s.setRing q { (s.ring q) with descTail := 0, cplHead := 0, phase := true, fetched := [], unsignalled := 0,
                                          tokens := 131072, tokensAt := s.now, enablePending := false }
  let t := ((t.put (RING.RING_IDX_DESC_HEAD q) 0).put (RING.RING_IDX_CPL_TAIL q) 0).put (RING.RING_CFG_ARMED q) 1
  (t.put (RING.RING_CFG_HALTED q) 0).put (RING.RING_CFG_HALT_CAUSE q) 0

/-! ### Delivery -/

/-- Change the delivery of a ring. -/
def State.setDelivery (s : State) (q : Nat) (d : Option Delivery) : State :=
  (s.setRing q { s.ring q with delivery := d }).putB (RING.RING_CFG_BUSY q) d.isSome

/-- The engine claims the head packet of queue q (R295). -/
def State.pourStart (s : State) (q : Nat) : State :=
  let t := s.claim q
  match (t.queue q).claimed with
  | none => t
  | some k =>
    t.setDelivery q (some { seq := k.seq, kind := k.hdr.kind, hflags := k.hdr.hflags, total := 64 + k.payload.length,
                            first := s.get (RING.RING_IDX_DESC_HEAD q) })

/-- The conditions of R295 for a claim. -/
def State.mayClaim (s : State) (q : Nat) : Bool :=
  let r := s.ring q
  s.on (RING.RING_CFG_EN q) && !s.on (RING.RING_CFG_HALTED q) && r.delivery.isNone && !r.enablePending &&
  decide (1 ≤ s.posted q) && decide (s.unread q < s.ringEntries q - 1) && s.hasTokens q && s.cfg.busMaster &&
  !s.cfg.d3hot && s.running && !s.supply.perstLow && !s.pourFenced && decide (s.delivering < 64) &&
  s.get (QD.Q_CFG_CONSUMER q) == 1 && s.canPop q

/-- A packet in delivery ends with a code before its bytes are all written: the rest is read and discarded
(R295, R296); codes 4 to 6 halt the ring. -/
def State.endDelivery (s : State) (q code : Nat) : State :=
  match (s.ring q).delivery with
  | none => s
  | some d =>
    let t := s.add POUR.POUR_SLAG (d.total - d.written)
    let t := (t.dropClaim q).setDelivery q (some { d with ended := some code, buf := none })
    if code < 4 then t
    else ((t.put (RING.RING_CFG_HALTED q) 1).put (RING.RING_CFG_HALT_CAUSE q) code).raise (pourPage 0) 0

/-- A packet in delivery ends at an uncorrectable link entry (R275): CHAIN_ERR. -/
def State.chainErr (s : State) (q : Nat) : State :=
  match (s.ring q).delivery with
  | none => s
  | some d =>
    if d.ended.isSome then s
    else (s.cutClaim q d.written).setDelivery q (some { d with ended := some 2, buf := none })

/-- Look at what the delivery of ring q needs next: a bad descriptor, a failed read, too small a ring or a stop ends it
(R295, R296, R311). `stop`: nothing more will be posted. -/
def State.settleDelivery (s : State) (q : Nat) : State :=
  let r := s.ring q
  match r.delivery with
  | none => s
  | some d =>
    if d.ended.isSome || d.buf.isSome || decide (d.total ≤ d.written) then s
    else if d.used = s.ringEntries q - 1 then s.endDelivery q 6
    else
      match r.fetched with
      | .bad :: _ => s.endDelivery q 4
      | .readErr :: _ => s.endDelivery q 5
      | .buffer _ _ _ :: _ => s
      | [] =>
        if s.posted q = d.used && (!s.on (RING.RING_CFG_EN q) || r.enablePending || s.cfg.d3hot) then s.endDelivery q 3
        else s

/-- Every packet in delivery that still has bytes to write ends with RING_STOPPED (R360). -/
def State.stopDeliveries (s : State) : State :=
  s.each s.rings (fun t p => match p.2.delivery with
    | some d => if d.ended.isSome then t else t.endDelivery p.1 3
    | none => t)

/-- PERST_N: packets in delivery are abandoned without completion entries and their cells return (R312). -/
def State.abandonDeliveries (s : State) : State :=
  s.each s.rings (fun t p => match p.2.delivery with
    | some _ => (t.dropClaim p.1).setDelivery p.1 none
    | none => t)

/-! ### Completion (R292, R305) -/

/-- The ring requests its vector (R305). -/
def State.ringRequest (s : State) (q : Nat) : State :=
  let t := s.requestVector (s.get (RING.RING_INT_VEC q))
  let t := t.setRing q { t.ring q with unsignalled := 0 }
  t.put (RING.RING_CFG_ARMED q) (s.get (RING.RING_CFG_AUTO_ARM q))

/-- The request conditions that need no time: the count reaches THRESH, or HOLDOFF is 0 (R305). -/
def State.ringCheck (s : State) (q : Nat) : State :=
  let n := (s.ring q).unsignalled
  if s.on (RING.RING_CFG_INT_EN q) && s.on (RING.RING_CFG_ARMED q) && decide (1 ≤ n) &&
      (decide (max 1 (s.get (RING.RING_INT_THRESH q)) ≤ n) || s.get (RING.RING_INT_HOLDOFF q) == 0) then s.ringRequest q
  else s

/-- The 32 bytes of a completion entry (R292); `t` is T_DONE, an open value when no data write was queued. -/
def completionBytes (d : Delivery) (code : Nat) (phase : Bool) (t : Nat) : List Byte :=
  leBytes 4 d.seq ++ leBytes 4 d.written ++ leBytes 2 d.first ++ leBytes 2 d.used ++ leBytes 1 code ++
  leBytes 1 (b2n phase) ++ leBytes 1 d.kind ++ leBytes 1 d.hflags ++ leBytes 8 (if d.used = 0 then 0 else d.cookie) ++
  leBytes 8 t

/-- The completion entry of a finished packet is queued at the link (R292 to R296, R305). -/
def State.complete (s : State) (q : Nat) (d : Delivery) (code : Nat) : State :=
  let n := s.ringEntries q
  let tail := s.get (RING.RING_IDX_CPL_TAIL q)
  let base := s.get64 (RING.CPL_BASE_LO q) (RING.CPL_BASE_HI q)
  let lo := s.draw
  let hi := lo.2.draw
  let open64 := lo.1 + 2 ^ 32 * hi.1
  let t := (match d.tDone with | some _ => s | none => hi.2)
  let stamp := (match d.tDone with | some v => v | none => open64)
  let t := t.emit (.dmaWrite (base + 32 * tail) (completionBytes d code (t.ring q).phase stamp) false {})
  let wrap := decide (tail + 1 = n)
  let t := t.put (RING.RING_IDX_CPL_TAIL q) ((tail + 1) % n)
  let t := t.put (RING.RING_IDX_DESC_HEAD q) ((s.get (RING.RING_IDX_DESC_HEAD q) + d.used) % n)
  let t := t.setRing q { t.ring q with phase := xor (t.ring q).phase wrap }
  let t := (t.endClaim q).setDelivery q none
  let t := t.inc POUR.POUR_PKTS
  let t := if code = 0 then t
    else ((t.inc POUR.POUR_ERR_PKTS).put POUR.LAST_ERR_CSTATUS code).put POUR.LAST_ERR_RING q
  let t := if code = 1 || code = 2 then t.raise (pourPage 0) 1 else t
  let t := if t.on (RING.RING_CFG_INT_EN q) then
      (t.setRing q { t.ring q with unsignalled := (t.ring q).unsignalled + 1 }).ringCheck q
    else t
  if (t.ring q).enablePending then t.ringStart q else t

end Sys2Proof.Machine
end

