-- ==== Sys2Proof/Machine/SeamOps.lean ====
section
/-!
DEFINITION. Seam units: the strip arithmetic, the delay store, forming and forcing of strip lines, and stopping a unit
(R203 to R210).
-/

namespace Sys2Proof.Machine

/-! ### Strip arithmetic (R208) -/

/-- What R208 reads of one member: its table entry and, where it is not missing, its samples. -/
structure StripMember where
  w : Nat
  pos : Int
  gain : Nat
  offset : Int
  feather : Nat
  seamX : Nat
  line : Option (List Nat)
deriving DecidableEq, Repr

/-- sample(i, x) of R208, with MS. -/
def StripMember.sample (m : StripMember) (ms x : Nat) : Option Nat :=
  match m.line with
  | none => none
  | some s =>
    let e : Int := 16 * (x : Int) - m.pos
    if e < 0 then none
    else
      let u0 := (e / 16).toNat
      let f := (e % 16).toNat
      if (f = 0 && m.w ≤ u0) || (f != 0 && m.w ≤ u0 + 1) then none
      else
        let v := if f = 0 then s.getD u0 0 else (s.getD u0 0 * (16 - f) + s.getD (u0 + 1) 0 * f + 8) / 16
        some (clampI ((((v * m.gain + 2048) / 4096 : Nat) : Int) + m.offset) 0 ms).toNat

/-- The first feather zone that contains column x, as its number k and first column (R208). -/
def zoneOf (ms : List StripMember) (x : Nat) : Option (Nat × Int) :=
  ((List.range (ms.length - 1)).filterMap (fun k =>
    match ms[k]? with
    | some m =>
      let x0 : Int := (m.seamX : Int) - ((m.feather / 2 : Nat) : Int)
      if m.feather != 0 && decide (x0 ≤ (x : Int)) && decide ((x : Int) < x0 + m.feather) then some (k, x0) else none
    | none => none)).head?

/-- The sample of member i at column x. -/
def memberSample (ms : List StripMember) (top i x : Nat) : Option Nat :=
  match ms[i]? with
  | some m => m.sample top x
  | none => none

/-- column(x) of R208; none where the column takes PAD. -/
def stripColumn (ms : List StripMember) (top x : Nat) : Option Nat :=
  match zoneOf ms x with
  | some (k, x0) =>
    match memberSample ms top k x, memberSample ms top (k + 1) x with
    | some a, some b =>
      let f := match ms[k]? with | some m => m.feather | none => 1
      let wr := ((2 * ((x : Int) - x0) + 1).toNat * 128) / f
      some ((a * (256 - wr) + b * wr + 128) / 256)
    | some a, none => some a
    | none, b => b
  | none =>
    let i := ((ms.take (ms.length - 1)).filter (fun m => decide (m.seamX ≤ x))).length
    memberSample ms top i x

/-! ### The delay store (R205, R210) -/

/-- HBM byte address of the slot of member i for index k (R210). -/
def seamSlotAddr (u i k : Nat) : Nat := 0xE00000000 + u * 0x40000000 + i * 0x2000000 + k % 1024 * 0x8000

/-- Members of seam u (R203). -/
def State.seamMembers (s : State) (u : Nat) : Nat := s.get (SEAM.SEAM_CFG_MEMBERS u)

/-- Bytes of a sample of the seam (R204). -/
def State.seamSample (s : State) (u : Nat) : Nat := if s.on (SEAM.SEAM_CFG_SAMPLE u) then 1 else 2

/-- Seam u works: enabled, not fenced, and the device runs (R203, R359). -/
def State.seamRuns (s : State) (u : Nat) : Bool :=
  s.running && s.on (HDR.CTRL_ENABLE (seamPage u)) && !s.on (HDR.FAULT_REACT_FENCED (seamPage u)) && s.domainOn (313 + u)

/-- The index of member i that strip line L needs. -/
def State.needIndex (s : State) (u i : Nat) : Nat :=
  (s.get (SEAM.SEAM_LINE u) + s.get (SEAM.MEM_DELAY_DELAY u i)) % 2 ^ 32

/-- The stored line of member i for an index. -/
def State.stored (s : State) (u i k : Nat) : Option SeamSlot :=
  (s.seam u).store.find? (fun x => x.member == i && x.k == k && !x.bad)

/-- The member's packet for an index was discarded under R204. -/
def State.markedBad (s : State) (u i k : Nat) : Bool :=
  (s.seam u).store.any (fun x => x.member == i && x.k == k && x.bad)

/-- The member's port is fenced or disabled (R206). -/
def State.memberOut (s : State) (u i : Nat) : Bool :=
  let c := s.get (SEAM.MEM_PORT u i)
  s.portFenced c || !s.portEnabled c

/-- Member i is missing for the current strip line without a force (R206). -/
def State.memberMissing (s : State) (u i : Nat) : Bool :=
  s.memberOut u i || s.markedBad u i (s.needIndex u i)

/-- The strip line is complete: every member is stored or missing (R205). -/
def State.lineReady (s : State) (u : Nat) : Bool :=
  decide (0 < s.seamMembers u) &&
  (List.range (s.seamMembers u)).all (fun i => s.memberMissing u i || (s.stored u i (s.needIndex u i)).isSome)

/-- Some member line of the current strip line is stored. -/
def State.lineStarted (s : State) (u : Nat) : Bool :=
  (List.range (s.seamMembers u)).any (fun i => (s.stored u i (s.needIndex u i)).isSome)

/-- A slot read of member i for an index is uncorrectable: a pseudo-channel under it is fenced (R210, R359). -/
def State.slotFails (s : State) (u i k : Nat) : Bool :=
  s.anyChannelFenced && (List.range (2 * s.get (SEAM.MEM_WIDTH u i))).any (fun n => s.hbmFails (seamSlotAddr u i k + n))

/-- The samples of a slot. -/
def State.slotSamples (s : State) (u i k : Nat) : List Nat :=
  (chunks 2 (s.hbmRead (seamSlotAddr u i k) (2 * s.get (SEAM.MEM_WIDTH u i)))).map leNat

/-- Byte of the delay store of member i at which its slot for the current strip line begins. -/
def State.slotOffset (s : State) (u i : Nat) : Nat := s.needIndex u i % 1024 * 0x8000

/-- Among uncorrectable reads of the store of seam u, member and byte, those of stored lines of the current strip line
(R210). -/
def State.badReads (s : State) (u : Nat) (bad : List (Nat × Nat)) : List (Nat × Nat) :=
  bad.filter (fun x => decide (x.1 < s.seamMembers u) && (s.stored u x.1 (s.needIndex u x.1)).isSome &&
    decide (s.slotOffset u x.1 ≤ x.2) && decide (x.2 < s.slotOffset u x.1 + 2 * s.get (SEAM.MEM_WIDTH u x.1)))

/-- The HBM byte address of a byte of a member's delay store (R210). -/
def storeAddr (u : Nat) (x : Nat × Nat) : Nat := 0xE00000000 + u * 0x40000000 + x.1 * 0x2000000 + x.2

/-- A stored line of member i cannot be read for the current strip line. -/
def State.slotBad (s : State) (u i : Nat) (bad : List (Nat × Nat)) : Bool :=
  (s.badReads u bad).any (fun x => x.1 == i) || s.slotFails u i (s.needIndex u i)

/-- Member i as R208 reads it, and the packet that contributes; `bad`: the slot read was uncorrectable. -/
def State.stripMember (s : State) (u i : Nat) (bad : Bool) : StripMember × Option SeamSlot :=
  let k := s.needIndex u i
  let slot := if s.memberMissing u i || bad then none else s.stored u i k
  ({ w := s.get (SEAM.MEM_WIDTH u i), pos := sext 24 (s.get (SEAM.MEM_POS u i)), gain := s.get (SEAM.MEM_GAIN_GAIN u i),
     offset := sext 16 (s.get (SEAM.MEM_GAIN_OFFSET u i)), feather := s.get (SEAM.MEM_DELAY_FEATHER u i),
     seamX := s.get (SEAM.MEM_SEAM_X u i), line := slot.map (fun _ => s.slotSamples u i k) }, slot)

/-! ### Strip lines (R205, R206, R209) -/

/-- The segment packets of a strip line (R209, R261). The header of a line to which no member contributed has open shot,
line, version and trigger fields: the values given (log entry 4). -/
def State.stripPackets (s : State) (u : Nat) (cols : List (Option Nat)) (slots : List SeamSlot) (blank : SeamSlot) :
    List Packet :=
  let bytes := s.seamSample u
  let prio := s.get (SEAM.SEAM_QUEUE_PRIO u)
  let h := slots.headD blank
  let pad := s.get (SEAM.SEAM_PAD u)
  let flags := slots.foldl (fun acc x => Nat.lor acc x.lflags) 0
  let flags := if cols.any Option.isNone then setBitN flags 2 else flags
  let segs := chunks 32768 (cols.map (fun v => v.getD pad))
  (List.range segs.length).map (fun n =>
    let seg := segs.getD n []
    { queue := s.get (SEAM.SEAM_QUEUE_QUEUE u), prio := prio, payload := (seg.map (leBytes bytes)).flatten,
      hdr := { kind := 4, hflags := b2n (h.line == 0) + 2 * b2n h.last + 16 * prio, srcUnit := u, srcSub := n,
               sample := s.get (SEAM.SEAM_CFG_SAMPLE u) + 16 * (8 * bytes - 1), shot := h.shot, version := h.version,
               line := s.get (SEAM.SEAM_LINE u), samples := seg.length, lflags := flags, tTrig := h.tTrig, aux := h.line } })

/-- Strip line L is built and emitted as it stands (R208, R209); `bad`: uncorrectable reads, member and byte of its store. -/
def State.emitStrip (s : State) (u : Nat) (bad : List (Nat × Nat)) : State :=
  let ms := (List.range (s.seamMembers u)).map (fun i => s.stripMember u i (s.slotBad u i bad))
  let slots := ms.filterMap Prod.snd
  let top := if s.on (SEAM.SEAM_CFG_SAMPLE u) then 255 else 65535
  let cols := (List.range (s.get (SEAM.SEAM_WIDTH u))).map (stripColumn (ms.map Prod.fst) top)
  let a := s.draw
  let b := a.2.draw
  let c := b.2.draw
  let d := c.2.draw
  let blank : SeamSlot := { member := 0, k := 0, shot := a.1, line := b.1, version := c.1, tTrig := d.1 }
  let t := if slots.isEmpty then d.2 else s
  let t := t.each slots (fun t x => t.touch (seamSlotAddr u x.member x.k) (2 * s.get (SEAM.MEM_WIDTH u x.member)))
  t.each (s.stripPackets u cols slots blank) (fun t k => t.pushPacket (33 + u) k)

/-- L advances, and lines no longer needed leave the store (R205). -/
def State.nextStrip (s : State) (u : Nat) : State :=
  let t := s.inc (SEAM.SEAM_LINE u)
  t.setSeam u { t.seam u with store := (t.seam u).store.filter (fun x => !serialLt x.k (t.needIndex u x.member)) }

/-- Strip line L is forced (R206): a stored line that cannot be read is missing too (R210). -/
def State.forceStrip (s : State) (u : Nat) (bad : List (Nat × Nat)) : State :=
  let gone := (List.range (s.seamMembers u)).filter (fun i =>
    s.memberMissing u i || (s.stored u i (s.needIndex u i)).isNone || s.slotBad u i bad)
  let t := (s.inc (SEAM.SEAM_FORCED u)).add (SEAM.SEAM_MISS_LINES u) gone.length
  let t := (t.put (SEAM.SEAM_MISS_MASK u) (gone.foldl setBitN 0)).raise (seamPage u) 0
  let t := if s.lineStarted u then t.emitStrip u bad else t.inc (SEAM.SEAM_SKIPPED u)
  t.nextStrip u

/-! ### Member packets (R204, R207) -/

/-- Index k of a packet of member i (R204). -/
def State.memberIndex (s : State) (u i shot line : Nat) : Nat :=
  (serialDiff shot (s.get (SEAM.MEM_SHOT_BASE u i)) * s.get (SEAM.SEAM_BLOCK u) + line) % 2 ^ 32

/-- A packet of member i is discarded (R204, R275): counted, and the member is missing for its index. -/
def State.badMember (s : State) (u i : Nat) (p : Packet) : State :=
  let k := s.memberIndex u i p.hdr.shot p.hdr.line
  let t := (s.inc (SEAM.SEAM_BAD_PKT u)).raise (seamPage u) 1
  t.setSeam u { t.seam u with store := (t.seam u).store ++ [{ member := i, k := k, bad := true }] }

/-- A packet of member i is stored in its slot (R205, R210). -/
def State.storeMember (s : State) (u i k : Nat) (p : Packet) : State :=
  let vals := (chunks (s.seamSample u) p.payload).map leNat
  let t := s.hbmWrite (seamSlotAddr u i k) ((vals.map (leBytes 2)).flatten)
  t.setSeam u { t.seam u with store := (t.seam u).store ++
    [{ member := i, k := k, shot := p.hdr.shot, line := p.hdr.line, version := p.hdr.version, lflags := p.hdr.lflags,
       tTrig := p.hdr.tTrig, last := bitOf p.hdr.hflags 1 }] }

/-! ### Starting and stopping (R203, R210, R359) -/

/-- The store is empty and L is 0. -/
def State.seamStart (s : State) (u : Nat) : State := (s.put (SEAM.SEAM_LINE u) 0).setSeam u {}

/-- Queue q is bound to seam unit u as member i (R269): the lowest-numbered member that names it. -/
def State.seamBinds (s : State) (u i : Nat) : Bool :=
  let q := s.get (SEAM.MEM_QUEUE u i)
  decide (i < s.seamMembers u) && s.get (QD.Q_CFG_CONSUMER q) == 2 && s.get (QD.Q_CFG_UNIT q) == u &&
  !(List.range i).any (fun n => s.get (SEAM.MEM_QUEUE u n) == q)

/-- The unit stops at once (R210, R359): packets not begun are dropped, and one it holds claimed is read out as slag. -/
def State.seamStop (s : State) (u : Nat) : State :=
  let t := s.setProd (33 + u) { s.prod (33 + u) with todo := [] }
  t.each (List.range 32) (fun t i => if t.seamBinds u i then t.dropClaim (t.get (SEAM.MEM_QUEUE u i)) else t)

end Sys2Proof.Machine
end

