-- ==== Sys2Proof/Machine/Smbus.lean ====
section
/-!
DEFINITION. The SMBus target (R461 to R463) and the test access port (R464 to R466).
-/

namespace Sys2Proof.Machine

/-! ### What the target reports -/

/-- The target answers: VDD_AON, VDDIO_18 (rail 9 of R444) and REFCLK are up (R461). -/
def State.smbOn (s : State) : Bool := s.supply.aon && s.supply.refclk && !s.supply.railsOut.contains 9

/-- Its 7-bit address (R461). -/
def State.smbAddr (s : State) : Nat := 0x5C + s.smb.strap

/-- The highest of the eight readings; none before the first conversion (R461). -/
def State.tempMax (s : State) : Option Int := s.smb.temps.map (fun l => l.foldl max (l.headD 0))

/-- A reading as a 16-bit word; 0x8000 before the first conversion. -/
def tempWord (t : Option Int) : Nat := match t with | some v => toBits 16 v | none => 0x8000

/-- Nominal voltages of the rails in mV, in table order (R444). -/
def railNominal : List Nat := [750, 800, 800, 900, 900, 1200, 1100, 400, 1800, 1800]

/-- Operating ranges of the rails in mV (R444). -/
def railRange : List (Nat × Nat) :=
  [(727, 773), (776, 824), (776, 824), (873, 927), (873, 927), (1164, 1236), (1067, 1133), (388, 412), (1746, 1854),
   (1710, 1890)]

/-- Absolute maximum ratings of the rails in mV (R445). -/
def railMax : List Nat := [900, 950, 950, 1050, 1050, 1400, 1400, 500, 2100, 2100]

/-- Every rail reads in its operating range. -/
def State.powerGood (s : State) : Bool :=
  (s.smb.rails.zip railRange).all (fun p => decide (p.2.1 ≤ p.1) && decide (p.1 ≤ p.2.2))

/-- Some rail reads more than 2 % from nominal. -/
def State.railWarn (s : State) : Bool :=
  (s.smb.rails.zip railNominal).any (fun p => decide (50 * (max p.1 p.2 - min p.1 p.2) > p.2))

/-- TEMP_MAX is at or above the threshold. -/
def State.tempWarn (s : State) : Bool := match s.tempMax with | some v => decide ((s.smb.warn : Int) ≤ v) | none => false

/-- The live conditions of ALERT_STATUS: TRIPPED, QUENCHED, RAIL_WARN, TEMP_WARN. -/
def State.alertLive (s : State) : Nat :=
  8 * b2n s.smb.tripped + 4 * b2n s.quenched + 2 * b2n s.railWarn + b2n s.tempWarn

/-- Latch the alert conditions that have arisen (R463). -/
def State.latchAlerts (s : State) (before : Nat) : State :=
  let now := s.alertLive
  let bits := (List.range 4).foldl (fun acc i =>
    if bitOf now i && !bitOf before i then setBitN acc i else acc) s.smb.alertStatus
  { s with smb := { s.smb with alertStatus := bits } }

/-- SMB_ALERT_N is driven low (R463). -/
def State.alerting (s : State) : Bool := Nat.land s.smb.alertStatus s.smb.alertMask != 0

/-- The STATUS byte. -/
def State.smbStatusByte (s : State) : Nat :=
  128 * b2n s.powerGood + 64 * b2n s.smb.tripped + 32 * b2n s.railWarn + 16 * b2n s.tempWarn +
  8 * s.get PEX.LINK_STATUS_DL_UP + 4 * b2n ((List.range 4).all (fun h => s.on (HBM.HBM_STATUS_TRAINED h))) +
  2 * s.get CLK.CLK_STATUS_CRUCIBLE_LOCK + b2n s.quenched

/-! ### Protocols -/

/-- The bytes of a read: the data, and the PEC when the controller reads one byte more (R462). -/
def State.smbReply (s : State) (code : Nat) (data : List Byte) (pec : Bool) : State :=
  let a := s.smbAddr
  let all := [BitVec.ofNat 8 (2 * a), BitVec.ofNat 8 code, BitVec.ofNat 8 (2 * a + 1)] ++ data
  s.emit (.smb (if pec then data ++ leBytes 1 (crc8 all) else data))

/-- The command codes that the target acknowledges (R461). -/
def smbCodes : List Nat :=
  [0x00, 0x01, 0x02] ++ (List.range 11).map (fun i => 0x10 + i) ++ (List.range 10).map (fun i => 0x20 + i) ++
  [0x30, 0x31, 0x38, 0x39]

/-- The byte at which the target ends a transfer before its data: its own address while it does not answer, and the code where
it has no such command (R461). -/
def State.smbEnds (s : State) (code : Nat) : Option Nat :=
  if !s.smbOn then some 0 else if !smbCodes.contains code then some 1 else none

/-- A read command: served while the target answers. -/
def State.smbRead (s : State) (code : Nat) (data : List Byte) (pec : Bool) : State :=
  match s.smbEnds code with
  | some n => s.emit (.smbNak n)
  | none => s.smbReply code data pec

/-- A block read: the count first. -/
def State.smbBlock (s : State) (code : Nat) (data : List Byte) (pec : Bool) : State :=
  s.smbRead code (leBytes 1 data.length ++ data) pec

/-- The PEC of a write is absent or right (R462). -/
def State.pecOk (s : State) (code : Nat) (data : List Byte) (pec : Option Byte) : Bool :=
  match pec with
  | none => true
  | some p => p.toNat == crc8 ([BitVec.ofNat 8 (2 * s.smbAddr), BitVec.ofNat 8 code] ++ data)

/-- A write command: without effect, and not acknowledged at its last data byte when its value is refused, or at the PEC byte
when that is wrong (R462). -/
def State.smbWrite (s : State) (code : Nat) (data : List Byte) (pec : Option Byte) (ok : Bool) (f : State → State) : State :=
  match s.smbEnds code with
  | some n => s.emit (.smbNak n)
  | none =>
    if !ok then s.emit (.smbNak (1 + data.length))
    else if s.pecOk code data pec then f s
    else s.emit (.smbNak (2 + data.length))

/-- SMB_DEV_ID. -/
def execSmbDevId (pec : Bool) (s : State) : Host.Outcome State Fault Refusal := .next (s.smbRead 0x00 (leBytes 2 0x5120) pec)
/-- SMB_REVISION. -/
def execSmbRevision (pec : Bool) (s : State) : Host.Outcome State Fault Refusal := .next (s.smbRead 0x01 (leBytes 1 0xA2) pec)
/-- SMB_STATUS. -/
def execSmbStatus (pec : Bool) (s : State) : Host.Outcome State Fault Refusal :=
  .next (s.smbRead 0x02 (leBytes 1 s.smbStatusByte) pec)
/-- SMB_TEMP. -/
def execSmbTemp (i : Fin 8) (pec : Bool) (s : State) : Host.Outcome State Fault Refusal :=
  .next (s.smbRead (0x10 + i) (leBytes 2 (tempWord (s.smb.temps.map (fun l => l.getD i 0)))) pec)
/-- SMB_TEMP_MAX. -/
def execSmbTempMax (pec : Bool) (s : State) : Host.Outcome State Fault Refusal :=
  .next (s.smbRead 0x18 (leBytes 2 (tempWord s.tempMax)) pec)
/-- SMB_TEMP_PEAK_READ. -/
def execSmbTempPeakRead (pec : Bool) (s : State) : Host.Outcome State Fault Refusal :=
  .next (s.smbRead 0x19 (leBytes 2 (tempWord s.smb.peak)) pec)
/-- SMB_TEMP_PEAK_WRITE: the peak becomes the current TEMP_MAX. -/
def execSmbTempPeakWrite (v : Byte) (pec : Option Byte) (s : State) : Host.Outcome State Fault Refusal :=
  .next (s.smbWrite 0x19 [v] pec true (fun t => { t with smb := { t.smb with peak := t.tempMax } }))
/-- SMB_TEMP_WARN_READ. -/
def execSmbTempWarnRead (pec : Bool) (s : State) : Host.Outcome State Fault Refusal :=
  .next (s.smbRead 0x1A (leBytes 2 s.smb.warn) pec)
/-- SMB_TEMP_WARN_WRITE: a value above 896 is not acknowledged (R462). -/
def execSmbTempWarnWrite (v : BitVec 16) (pec : Option Byte) (s : State) : Host.Outcome State Fault Refusal :=
  .next (s.smbWrite 0x1A (leBytes 2 v.toNat) pec (decide (v.toNat ≤ 896))
    (fun t => ({ t with smb := { t.smb with warn := v.toNat } } : State).latchAlerts t.alertLive))
/-- SMB_RAIL. -/
def execSmbRail (i : Fin 10) (pec : Bool) (s : State) : Host.Outcome State Fault Refusal :=
  .next (s.smbRead (0x20 + i) (leBytes 2 (s.smb.rails.getD i 0)) pec)
/-- SMB_QUENCH. -/
def execSmbQuench (pec : Bool) (s : State) : Host.Outcome State Fault Refusal :=
  .next (s.smbBlock 0x30 (leBytes 4 (s.get DEV.QUENCH_STATUS) ++ leBytes 4 (s.get DEV.QUENCH_TIME_LO) ++
    leBytes 4 (s.get DEV.QUENCH_TIME_HI)) pec)
/-- SMB_SERIAL. -/
def execSmbSerial (pec : Bool) (s : State) : Host.Outcome State Fault Refusal :=
  .next (s.smbBlock 0x31 (leBytes 4 (s.get DEV.SERIAL_LO) ++ leBytes 4 (s.get DEV.SERIAL_HI)) pec)
/-- SMB_ALERT_STATUS: returns the bits, then clears those whose condition is gone (R463). -/
def execSmbAlertStatus (pec : Bool) (s : State) : Host.Outcome State Fault Refusal :=
  let t := s.smbRead 0x38 (leBytes 1 s.smb.alertStatus) pec
  .next (if s.smbOn then { t with smb := { t.smb with alertStatus := Nat.land s.smb.alertStatus s.alertLive } } else t)
/-- SMB_ALERT_MASK_READ. -/
def execSmbAlertMaskRead (pec : Bool) (s : State) : Host.Outcome State Fault Refusal :=
  .next (s.smbRead 0x39 (leBytes 1 s.smb.alertMask) pec)
/-- SMB_ALERT_MASK_WRITE. -/
def execSmbAlertMaskWrite (v : Byte) (pec : Option Byte) (s : State) : Host.Outcome State Fault Refusal :=
  .next (s.smbWrite 0x39 [v] pec true (fun t => { t with smb := { t.smb with alertMask := v.toNat % 16 } }))
/-- ALERT_RESPONSE_ADDRESS: the target answers with its own address while it alerts (R463). -/
def execAlertResponseAddress (s : State) : Host.Outcome State Fault Refusal :=
  .next (if s.smbOn && s.alerting then s.emit (.smb [BitVec.ofNat 8 (2 * s.smbAddr)]) else s.emit (.smbNak 0))

/-! ### The test access port -/

/-- The instruction that an opcode in the 8-bit instruction register selects; one that the table does not give acts as
BYPASS (R464). -/
def jtagDecode (code : Nat) : JtagInstr :=
  if code = 0x00 then .extest else if code = 0x01 then .idcode else if code = 0x02 then .samplePreload
  else if code = 0x05 then .extestPulse else if code = 0x06 then .extestTrain else if code = 0x07 then .highz
  else if code = 0x08 then .clamp else .bypass

/-- The identification register (R464). -/
def jtagIdcode : Nat := 0x2512059B

/-- The balls with boundary cells by group: balls or pairs of the group, cells for each (R465); the last group holds the
status, reset and SMBus balls, whose 16 cells the rule does not spread. -/
def boundaryGroups : List (Nat × Nat) :=
  [(64, 3), (640, 1), (128, 3), (16, 2), (16, 1), (1, 1), (24, 1), (1, 16)]

/-- Cells of the boundary register (R465). -/
def boundaryCells : Nat := (boundaryGroups.map (fun g => g.1 * g.2)).sum

/-- An opcode is loaded into the instruction register. -/
def State.loadInstr (s : State) (code : Nat) : State := { s with jtag := { s.jtag with instr := jtagDecode code } }

/-- A register of n cells is shifted by as many bits as come in: what TDO gives. -/
def shiftOut (reg tdi : List Bool) : List Bool := (reg ++ tdi).take tdi.length

/-- A scan of the boundary register: it captures the balls, shifts them out, and the cells take what is shifted in (R464,
R465). -/
def State.scanBoundary (s : State) (balls shift : List Bool) : State :=
  let t := { s with jtag := { s.jtag with sampled := balls.take boundaryCells, cells := shift.take boundaryCells } }
  t.emit (.tdo (shiftOut (balls.take boundaryCells) shift))

/-- An instruction that selects the boundary register is loaded and the register scanned. -/
def State.jtagScan (s : State) (code : Nat) (balls shift : List Bool) : State :=
  s.when s.supply.aon (fun t => (t.loadInstr code).scanBoundary balls shift)

/-- HIGHZ or CLAMP: with PORESET_N high it acts as SAMPLE/PRELOAD (R466); with PORESET_N low it drives the balls, and what is
shifted in passes the one-bit bypass register. -/
def State.jtagHold (s : State) (code : Nat) (balls shift : List Bool) : State :=
  if s.supply.poresetLow then
    s.when s.supply.aon (fun t => (t.loadInstr code).emit (.tdo (shiftOut [false] shift)))
  else s.jtagScan code balls shift

/-- The instruction in control of the balls: only while PORESET_N is low (R466). -/
def State.ballControl (s : State) : Option JtagInstr :=
  if !s.supply.poresetLow then none
  else match s.jtag.instr with
    | .extest => some .extest | .extestPulse => some .extestPulse | .extestTrain => some .extestTrain
    | .highz => some .highz | .clamp => some .clamp | .idcode => none | .samplePreload => none | .bypass => none

/-- EXTEST. -/
def execExtest (balls shift : List Bool) (s : State) : Host.Outcome State Fault Refusal := .next (s.jtagScan 0x00 balls shift)
/-- IDCODE: the identification register is captured and shifted out, bit 0 first. -/
def execIdcode (s : State) (tdi : List Bool := []) : Host.Outcome State Fault Refusal :=
  .next (s.when s.supply.aon (fun t => (t.loadInstr 0x01).emit (.tdo (shiftOut ((List.range 32).map (bitOf jtagIdcode)) tdi))))
/-- SAMPLE_PRELOAD. -/
def execSamplePreload (balls shift : List Bool) (s : State) : Host.Outcome State Fault Refusal :=
  .next (s.jtagScan 0x02 balls shift)
/-- EXTEST_PULSE. -/
def execExtestPulse (balls shift : List Bool) (s : State) : Host.Outcome State Fault Refusal :=
  .next (s.jtagScan 0x05 balls shift)
/-- EXTEST_TRAIN. -/
def execExtestTrain (balls shift : List Bool) (s : State) : Host.Outcome State Fault Refusal :=
  .next (s.jtagScan 0x06 balls shift)
/-- HIGHZ. -/
def execHighz (s : State) (balls : List Bool := []) (shift : List Bool := []) : Host.Outcome State Fault Refusal :=
  .next (s.jtagHold 0x07 balls shift)
/-- CLAMP. -/
def execClamp (s : State) (balls : List Bool := []) (shift : List Bool := []) : Host.Outcome State Fault Refusal :=
  .next (s.jtagHold 0x08 balls shift)
/-- BYPASS: a one-bit register, 0 when captured, between TDI and TDO. -/
def execBypass (s : State) (code : BitVec 8 := 0xFF) (tdi : List Bool := []) : Host.Outcome State Fault Refusal :=
  .next (s.when s.supply.aon (fun t => (t.loadInstr code.toNat).emit (.tdo (shiftOut [false] tdi))))
/-- TEST_LOGIC_RESET: IDCODE is selected in Test-Logic-Reset (R464, R466). -/
def execTestLogicReset (s : State) : Host.Outcome State Fault Refusal := .next (s.when s.supply.aon (·.loadInstr 0x01))

end Sys2Proof.Machine
end

