-- ==== Sys2Proof/Machine/Faults.lean ====
section
/-!
DEFINITION. Faults: the unit a site names, fencing and releasing units, the record and the reaction of an occurrence,
escalation, and quench (R352 to R377, R471, with R104 and R105 for the loss of a lane).
-/

namespace Sys2Proof.Machine

/-! ### Loss of a data lane (R104, R105) -/

/-- The lane set that DEGRADE chooses for a port of n data lanes, from the positions still available (R104). -/
def degradeSet (n : Nat) (free : List Nat) : Option Nat :=
  if n = 4 then
    if free.contains 0 && free.contains 1 then some 3
    else if free.contains 2 && free.contains 3 then some 0xC
    else free.head?.map (fun i => 2 ^ i)
  else if n = 2 then free.head?.map (fun i => 2 ^ i)
  else none

/-- Alignment loss of a lane on port c in READY is handled by CHECK_CFG.LANE_LOSS (R104, R105). -/
def State.laneLoss (s : State) (c lane : Nat) : State :=
  let g := c / 2
  if s.portFenced c then s
  else if !s.on (GATE.CHECK_CFG_LANE_LOSS g) then s.fenceLink c
  else
    let l := dataLanes (s.gateMode g) (c % 2)
    let free := (List.range l.length).filter (fun i =>
      let n := l.getD i 0
      bitOf (s.get (LNK.MASK c)) i && n != lane && s.get (GATE.LANE_STATUS_ALIGN_STATE g n) == 2)
    match degradeSet l.length free with
    | none => s.fenceLink c
    | some m =>
      let t := s.cutFrame c
      (t.setLink c { t.link c with mask := .degrade m, voidNext := false }).deviceWord c .laneMask 0x14 m

/-! ### Units of sites (R365, R366) -/

/-- The unit that power domain d supplies (R366). -/
def domainUnits (d : Nat) : List FUnit :=
  if d < 128 then [.gate d]
  else if d < 256 then [.gate (d - 128)]
  else if d < 289 then [.slice (d - 256)]
  else if d < 297 then (List.range 16).map (fun i => .channel ((d - 289) / 2) (16 * ((d - 289) % 2) + i))
  else if d < 313 then [.bank (d - 297)]
  else if d < 317 then [.seam (d - 313)]
  else if d < 325 then [.mould (d - 317)]
  else []

/-- The units that an occurrence at a site names (R365); none where the table gives "—" or "Cell". -/
def siteUnits (p : Page) (n bit detail : Nat) : List FUnit :=
  match p with
  | .dev => if bit < 2 then [.ring] else []
  | .clk => []
  | .pwr => if bit = 2 then domainUnits detail else []
  | .time => [.time]
  | .chk => [.chk n]
  | .trg => if n = 0 then [.fabric] else if n = 1 then [.enc detail] else []
  | .shot => [.group n]
  | .gate =>
    if bit < 5 || bit = 11 || bit = 12 then [.gate n]
    else if bit = 5 || bit = 7 then [.port (2 * n)]
    else if bit = 6 || bit = 8 then [.port (2 * n + 1)]
    else [.port (2 * n + detail)]
  | .brg => [.engine n]
  | .slice => [.slice n]
  | .ladle => if bit < 3 then [.queue detail] else if bit = 3 then [] else [.bank n]
  | .hbm =>
    if bit < 2 then [.channel n detail]
    else if bit = 3 then (List.range 16).map (fun i => .channel n (16 * detail + i))
    else []
  | .pour => [.pour]
  | .pex => []
  | .seam => [.seam n]
  | .mould => [.mould n]
  | .cam => [.port n]
  | .qd => [] | .ring => [] | .msix => [] | .pba => []

/-- The unit belongs to the control plane: its U occurrences escalate (R360, R361). -/
def FUnit.control : FUnit → Bool
  | .engine _ => true | .fabric => true | .enc _ => true | .group _ => true | .chk _ => true | .pour => true
  | .ring => true | .time => true
  | .port _ => false | .gate _ => false | .slice _ => false | .queue _ => false | .bank _ => false
  | .channel _ _ => false | .seam _ => false | .mould _ => false

/-- The unit can be fenced (R360). -/
def FUnit.fenceable : FUnit → Bool
  | .ring => false | .time => false
  | .engine _ => true | .fabric => true | .enc _ => true | .group _ => true | .chk _ => true | .pour => true
  | .port _ => true | .gate _ => true | .slice _ => true | .queue _ => true | .bank _ => true
  | .channel _ _ => true | .seam _ => true | .mould _ => true

/-- The page in which a unit's fence shows (R358, R471). -/
def FUnit.page : FUnit → Nat
  | .port c => camPage c | .gate g => gatePage g | .slice k => slicePage k | .queue q => ladlePage (homeBank q)
  | .bank b => ladlePage b | .channel h _ => hbmPage h | .seam u => seamPage u | .mould m => mouldPage m
  | .engine g => brgPage g | .fabric => trgPage 0 | .enc _ => trgPage 1 | .group k => shotPage k | .chk n => chkPage n
  | .pour => pourPage 0 | .ring => devPage | .time => timePage

/-- The unit is fenced. -/
def State.unitFenced (s : State) (u : FUnit) : Bool :=
  match u with
  | .queue q => s.on (QD.Q_STATUS_FENCED q)
  | .channel h i => s.channelFenced (32 * h + i)
  | .enc e => s.encFenced e
  | .ring => false
  | .time => false
  | .port c => s.portFenced c
  | .gate g => s.on (HDR.FAULT_REACT_FENCED (gatePage g))
  | .slice k => s.sliceFenced k
  | .bank b => s.bankFenced b
  | .seam n => s.on (HDR.FAULT_REACT_FENCED (seamPage n))
  | .mould m => s.on (HDR.FAULT_REACT_FENCED (mouldPage m))
  | .engine g => s.engineFenced g
  | .fabric => s.fabricFenced
  | .group k => s.on (HDR.FAULT_REACT_FENCED (shotPage k))
  | .chk n => s.chkFenced n
  | .pour => s.pourFenced

/-! ### Slices and the spare (R367 to R370) -/

/-- FAULT_REACT.FENCED of a page is set and IRQ_STAT.FENCED raised (R358, R471). -/
def State.markFenced (s : State) (page : Nat) : State :=
  (s.put (HDR.FAULT_REACT_FENCED page) 1).raise page 30

/-- A slice that is fenced is OFF (R404): its switch opens (R393). -/
def State.sliceOff (s : State) (k : Nat) : State :=
  let t := if s.domainOn (256 + k) then s.peerReset (slicePage k :: (s.servedPorts k).map camPage) else s
  let t := ((t.put (SLICE.PWR_STATE_STATE k) 2).put (SLICE.PWR_STATE_TARGET k) 2).put (SLICE.PWR_STATE_IN_TRANSITION k) 0
  let t := t.put (PWR.DOMAIN_STATE ((256 + k) / 32)) (clearBitN (t.get (PWR.DOMAIN_STATE ((256 + k) / 32))) ((256 + k) % 32))
  t.setSlice k { t.slice k with stepping := false, wake := false }

/-- S32 serves no slice: SPARE_STATUS returns to IN_USE = 0, FOR = 0, BUSY = 0. -/
def State.freeSpare (s : State) : State :=
  let t := ((s.put SLICE.SPARE_STATUS_IN_USE 0).put SLICE.SPARE_STATUS_FOR 0).put SLICE.SPARE_STATUS_BUSY 0
  { t with faults := { t.faults with remap := none } }

/-- S32 can take over a slice (R367). -/
def State.spareFree (s : State) : Bool :=
  !s.on SLICE.SPARE_STATUS_IN_USE && s.faults.remap.isNone && !s.sliceFenced 32

/-- A slice starts to be brought up as the new server of slice k's ports (R368, steps 3 to 5). -/
def State.startRemap (s : State) (k : Nat) (back : Bool) : State :=
  let t := s.put SLICE.SPARE_STATUS_BUSY 1
  ({ t with faults := { t.faults with remap := some ⟨k, back⟩ } }).sliceWake (if back then k else 32)

/-- The fence of S32 (R368, R370). -/
def State.fenceSpare (s : State) : State :=
  match s.faults.remap with
  | some r =>
    if r.back then (((s.haltSlice 32).freeSpare.markFenced (slicePage 32)).sliceOff 32).fencePorts r.k
    else ((s.freeSpare.markFenced (slicePage 32)).sliceOff 32).fencePorts r.k
  | none =>
    if s.on SLICE.SPARE_STATUS_IN_USE then
      let k := s.get SLICE.SPARE_STATUS_FOR
      ((((s.haltSlice 32).freeSpare).markFenced (slicePage 32)).sliceOff 32).fencePorts k
    else (s.markFenced (slicePage 32)).sliceOff 32

/-- The fence of slice k, 0 to 31 (R367 to R370). -/
def State.fenceActive (s : State) (k : Nat) : State :=
  if s.faults.remap == some ⟨k, true⟩ then
    (((s.haltSlice k).freeSpare.markFenced (slicePage k)).sliceOff k).fencePorts k
  else
    let free := s.spareFree
    let t := ((s.haltSlice k).markFenced (slicePage k)).sliceOff k
    if free then t.startRemap k false else t.fencePorts k

/-! ### Fencing and releasing a unit (R359, R360, R276) -/

/-- The delivery of a claimed packet of queue q ends as for an uncorrectable link entry, unless it has been read whole
(R274, R275): the pour engine reports it, and seam and mould units discard it and count it in BAD_PKT. -/
def State.breakClaim (s : State) (q : Nat) : State :=
  let u := s.queue q
  match u.claimed with
  | none => s
  | some k =>
    if 64 + k.payload.length ≤ u.readBytes then s
    else
      let c := s.get (QD.Q_CFG_CONSUMER q)
      let n := s.get (QD.Q_CFG_UNIT q)
      if c = 1 then s.chainErr q
      else
        let t := s.cutClaim q u.readBytes
        if c = 2 then
          match (List.range 32).find? (fun i => s.seamBinds n i && s.get (SEAM.MEM_QUEUE n i) == q) with
          | some i => t.badMember n i k
          | none => t
        else if c = 3 then (t.inc (MOULD.BAD_PKT n)).raise (mouldPage n) 2
        else t

/-- A queue is fenced by a fault or command: reset and reported (R274, R275). -/
def State.fenceQueue (s : State) (q : Nat) : State :=
  let b := homeBank q
  (((s.breakClaim q).queueFault q).raise (ladlePage b) 30).autoSweep (s.get (LADLE.BANK_LOST b)) b

/-- A ladle bank is fenced: a running sweep stops (R278, R359). -/
def State.fenceBank (s : State) (b : Nat) : State :=
  if s.bankFenced b then s
  else
    let t := (s.markFenced (ladlePage b)).put (LADLE.SWEEP_STATUS_BUSY b) 0
    t.setBank b { t.bank b with sweepSet := [], sweepDue := false }

/-- A ladle bank's link-table or free-stack entries lie in a pseudo-channel (R257, R359). -/
def bankTouches (b ch : Nat) : Bool :=
  (List.range 0x400000).any (fun i =>
    channelOf (0xF80000000 + b * 0x400000 + i) == ch || channelOf (0xF84000000 + b * 0x400000 + i) == ch)

/-- A pseudo-channel is fenced, and with it the banks whose structures it holds (R359). -/
def State.fenceChannel (s : State) (h i : Nat) : State :=
  let t := (s.putBit (HBM.PC_FENCED h) i true).markFenced (hbmPage h)
  t.each ((List.range 16).filter (fun b => bankTouches b (32 * h + i))) State.fenceBank

/-- The records of a ledger group are not kept (R360). -/
def State.dropRecords (s : State) (k : Nat) : State :=
  s.each ((List.range 16).map (fun i => 16 * k + i)) (fun t c =>
    let t := t.setSched c { t.sched c with outst := [] }
    { t with records := t.records.filter (fun p => p.1 / 64 != c) })

/-- A unit is fenced with the effects of R359 and R360; a fenced unit is left as it is. -/
def State.fenceUnit (s : State) (u : FUnit) : State :=
  if s.unitFenced u then s
  else match u with
    | .port c => s.fencePort c
    | .gate g =>
      let t := s.each ([2 * g, 2 * g + 1].filter s.portPresent) (fun t c => t.fencePort c)
      (((t.dropRiser (2 * g)).dropRiser (2 * g + 1)).emptyRiser (2 * g)).emptyRiser (2 * g + 1) |>.markFenced (gatePage g)
    | .slice k => if k = 32 then s.fenceSpare else s.fenceActive k
    | .queue q => s.fenceQueue q
    | .bank b => s.fenceBank b
    | .channel h i => s.fenceChannel h i
    | .seam n => (s.markFenced (seamPage n)).seamStop n
    | .mould m => (s.markFenced (mouldPage m)).mouldStop m
    | .engine g =>
      let t := (s.markFenced (brgPage g)).stopEngine g
      let t := t.each [0, 1] (fun t p => (t.put (BRG.PORT_STATUS_LOCKED g p) 0).put (BRG.PORT_STATUS_LOCK_PENDING g p) 0)
      t.setEngine g { t.engine g with lockPort := none, grant := none }
    | .fabric => (s.markFenced (trgPage 0)).stopFabric
    | .enc e => (s.putBit TRG.ENC_FENCED e true).markFenced (trgPage 1)
    | .group k => (s.markFenced (shotPage k)).dropRecords k
    | .chk n => s.markFenced (chkPage n)
    | .pour => (s.markFenced (pourPage 0)).stopDeliveries
    | .ring => s
    | .time => s

/-- FENCED of a page's own unit clears, with what its escalation had set (R356). -/
def State.clearFenced (s : State) (page : Nat) : State :=
  ((s.put (HDR.FAULT_REACT_FENCED page) 0).put (HDR.FAULT_REACT_ESC_FENCED page) 0).put (HDR.ESC_STATUS_EXPIRED page) 0

/-- A pseudo-channel is released: its retired cells can be swept up again (R359). -/
def State.releaseChannel (s : State) (h i : Nat) : State :=
  let t := s.putBit (HBM.PC_FENCED h) i false
  let t := if t.get (HBM.PC_FENCED h) = 0 then t.clearFenced (hbmPage h) else t
  t.each (List.range 16) (fun t b =>
    let k := t.bank b
    let mine := k.retired.filter (fun n => channelOf (n * 256) == 32 * h + i)
    if mine.isEmpty then t
    else
      let t := t.setBank b { k with retired := k.retired.filter (fun n => channelOf (n * 256) != 32 * h + i),
                                    stray := mine ++ k.stray }
      (t.sub (LADLE.BANK_RETIRED b) mine.length).wantSweep b)

/-- The release of slice k (R370). -/
def State.releaseSlice (s : State) (k : Nat) : State :=
  let t := s.clearFenced (slicePage k)
  if s.on SLICE.SPARE_STATUS_IN_USE && s.get SLICE.SPARE_STATUS_FOR == k && k != 32 then
    (t.haltSlice 32).startRemap k true
  else if sliceBudget (t.sliceBudgetUs k) < 2 then t.sliceWake k
  else t

/-- A fenced unit is released (R359, R360). -/
def State.releaseUnit (s : State) (u : FUnit) : State :=
  match u with
  | .port c => ((s.releasePort c).clearFenced (camPage c)).leaveDown c
  | .gate g =>
    let t := s.clearFenced (gatePage g)
    t.each ([2 * g, 2 * g + 1].filter t.portPresent) (fun t c =>
      if t.portFenced c then ((t.releasePort c).clearFenced (camPage c)).leaveDown c else t)
  | .slice k => s.releaseSlice k
  | .queue q => s.put (QD.Q_STATUS_FENCED q) 0
  | .bank b =>
    let t := s.each ((List.range 1024).map (fun i => 16 * i + b)) (fun t q =>
      if t.queueExists q then (t.resetQueue q).put (QD.Q_STATUS_FENCED q) 1 else t)
    let a := t.draw
    let t := a.2.put (LADLE.LAST_FAULT_Q b) (a.1 % 1024 * 16 + b)
    (((t.clearFenced (ladlePage b)).raise (ladlePage b) 2).raise (ladlePage b) 30).startSweep b
  | .channel h i => s.releaseChannel h i
  | .seam n => (s.clearFenced (seamPage n)).seamStart n
  | .mould m => (s.clearFenced (mouldPage m)).mouldRestart m
  | .engine g => s.clearFenced (brgPage g)
  | .fabric => (s.clearFenced (trgPage 0)).restartFabric
  | .enc e =>
    let t := s.putBit TRG.ENC_FENCED e false
    if t.get TRG.ENC_FENCED = 0 then t.clearFenced (trgPage 1) else t
  | .group k => s.clearFenced (shotPage k)
  | .chk n => (((s.clearFenced (chkPage n)).chkRestart n).setChk n {}).put (CHK.CHK_RESULT n) 0
  | .pour => s.clearFenced (pourPage 0)
  | .ring => s
  | .time => s

/-! ### Quench (R371, R372) -/

/-- The device quenches; a device in quench records nothing more in DEV (R371). -/
def State.quench (s : State) (cause page bit detail : Nat) (injected : Bool) : State :=
  if s.quenched then s
  else
    let before := s.alertLive
    let t := s.endStrobes
    let held : List HostRead := (t.engines.map (fun (p : Nat × EngineSt) => p.2.reads)).flatten
    let t := t.each held (fun t r => t.emit (.completion r.id false ((r.addrs.filterMap id).map (fun _ => 0xFF))))
    let t := { t with engines := (t.engines.map (fun (p : Nat × EngineSt) =>
      (p.1, { p.2 with pairs := [], reads := [], grant := none }))).filter (fun p => p.2 != ({} : EngineSt)) }
    let t := (t.put DEV.QUENCH_STATUS_QUENCHED 1).putB DEV.QUENCH_STATUS_INJECTED injected
    let t := (t.put DEV.QUENCH_STATUS_CAUSE cause).put DEV.QUENCH_STATUS_PAGE (page / 4096)
    let t := (t.put DEV.QUENCH_STATUS_BIT bit).put64 DEV.QUENCH_TIME_LO DEV.QUENCH_TIME_HI t.now
    let t := (t.put DEV.QUENCH_DETAIL detail).put POUR.POUR_STATUS_STOPPED 1
    let t := t.each (List.range 4) (fun t h => t.put (HBM.HBM_PWR_STATUS h) 0xFFFFFFFF)
    let d := t.draw
    let d1 := d.2.draw
    let d2 := d1.2.draw
    let d3 := d2.2.draw
    let t := { d3.2 with cfg := { d3.2.cfg with aerUncor := true, aerHeader := [d.1, d1.1, d2.1, d3.1] } }
    let t := if t.cfg.fatalReporting then t.emit .errFatal else t
    t.latchAlerts before

/-! ### Escalation (R361 to R363) -/

/-- The escalation timer of a page stops with nothing pending. -/
def State.stopEsc (s : State) (page : Nat) : State :=
  let t := s.put (HDR.ESC_STATUS_RUNNING page) 0
  { t with faults := { t.faults with esc := tdel t.faults.esc page } }

/-- The escalation of a page, while it runs. -/
def State.escOf (s : State) (page : Nat) : Esc := tget s.faults.esc page {}

/-- Fence what an expired escalation names, or quench when a unit cannot be fenced (R363). -/
def State.expire (s : State) (page : Nat) (occs : List PendOcc) : State :=
  let t := (s.stopEsc page).put (HDR.ESC_STATUS_EXPIRED page) 1
  match occs.find? (fun o => !o.unit.fenceable) with
  | some o => t.quench 2 page o.bit o.detail (!o.real)
  | none =>
    t.each occs (fun t o =>
      if t.unitFenced o.unit then t else (t.fenceUnit o.unit).put (HDR.FAULT_REACT_ESC_FENCED o.unit.page) 1)

/-- An occurrence becomes pending (R361). With ESC_TIMER = 0 its reaction comes at detection. -/
def State.pendOcc (s : State) (page : Nat) (o : PendOcc) : State :=
  if s.on (HDR.ESC_STATUS_RUNNING page) then
    let e := s.escOf page
    { s with faults := { s.faults with esc := tput s.faults.esc page { e with occs := e.occs ++ [o] } {} } }
  else if s.get (HDR.ESC_TIMER page) = 0 then s.expire page [o]
  else
    let t := s.put (HDR.ESC_STATUS_RUNNING page) 1
    { t with faults := { t.faults with
        esc := tput t.faults.esc page { start := s.now, us := s.get (HDR.ESC_TIMER page), occs := [o] } {} } }

/-- A unit is fenced by command: its pending occurrences go, and the timer stops with nothing pending (R363). -/
def State.unpend (s : State) (u : FUnit) : State :=
  s.each s.faults.esc (fun (t : State) (p : Nat × Esc) =>
    let left := p.2.occs.filter (fun o => o.unit != u)
    if left.length = p.2.occs.length then t
    else if left.isEmpty then t.stopEsc p.1
    else { t with faults := { t.faults with esc := tput t.faults.esc p.1 { p.2 with occs := left } {} } })

/-! ### Occurrences (R353 to R358, R377) -/

/-- The class of a site as its field stands (R355). -/
def State.siteClass (s : State) (page bit : Nat) : Nat :=
  let f := if bit < 16 then HDR.FAULT_CLASS_LO page else HDR.FAULT_CLASS_HI page
  s.get f / 4 ^ (bit % 16) % 4

/-- FAULT_FIRST of a page takes an occurrence: VALID is 0, or it holds one of the same ACLK cycle with a higher bit, or an
injected one of the same bit (R354, R377). -/
def State.firstTakes (s : State) (page bit : Nat) (real : Bool) : Bool :=
  let same := s.get64 (HDR.FAULT_FIRST_TIME_LO page) (HDR.FAULT_FIRST_TIME_HI page) / 40 == s.now / 40
  let held := s.get (HDR.FAULT_FIRST_BIT page)
  !s.on (HDR.FAULT_FIRST_VALID page) ||
    (same && (decide (bit < held) || (bit == held && real && s.on (HDR.FAULT_FIRST_INJECTED page))))

/-- What an occurrence writes in the fault registers of its page and reports (R353, R354, R358, R377). -/
def State.occurRecord (s : State) (page bit detail : Nat) (real : Bool) : State :=
  let cls := s.siteClass page bit
  let was := s.bitAt (HDR.FAULT_STICKY page) bit
  let t := s.putBit (HDR.FAULT_STICKY page) bit true
  let t := if real then t.putBit (HDR.FAULT_INJ_TAGGED page) bit false
    else if was then t else t.putBit (HDR.FAULT_INJ_TAGGED page) bit true
  let t := if !t.firstTakes page bit real then t
    else
      let t := (t.put (HDR.FAULT_FIRST_VALID page) 1).putB (HDR.FAULT_FIRST_INJECTED page) (!real)
      let t := (t.put (HDR.FAULT_FIRST_CLASS page) cls).put (HDR.FAULT_FIRST_BIT page) bit
      (t.put (HDR.FAULT_FIRST_DETAIL page) detail).put64 (HDR.FAULT_FIRST_TIME_LO page) (HDR.FAULT_FIRST_TIME_HI page) t.now
  let t := if cls = 2 || (cls = 1 && t.on (HDR.FAULT_REACT_EVT_U page)) || (cls = 0 && t.on (HDR.FAULT_REACT_EVT_C page))
    then t.raise page 31 else t
  if cls < 2 && t.on (HDR.FAULT_REACT_AER page) && !t.quenched then
    let t := { t with cfg := { t.cfg with aerCor := true } }
    if t.cfg.corReporting then t.emit .errCor else t
  else t

/-- The reaction of a class U occurrence at one unit (R359, R361). -/
def State.reactUnit (s : State) (page bit detail : Nat) (real : Bool) (u : FUnit) : State :=
  if s.unitFenced u then s
  else if u.control then s.pendOcc page ⟨u, bit, detail, real⟩
  else s.fenceUnit u

/-- The reaction of an occurrence (R355, R359 to R361, R371). In quench nothing reacts. -/
def State.occurReact (s : State) (p : Page) (n bit detail : Nat) (real : Bool) : State :=
  let page := pageAddr p n
  let cls := s.siteClass page bit
  if s.quenched then s
  else if cls = 2 then
    s.quench 1 page bit detail (!real)
  else if cls = 1 then
    if p = .pwr && detail = 325 then s.quench 4 page bit detail (!real)
    else if p = .gate && (bit = 5 || bit = 6) then s.fenceLink (2 * n + bit - 5)
    else if p = .gate && (bit = 7 || bit = 8) then s.laneLoss (2 * n + bit - 7) detail
    else s.each (siteUnits p n bit detail) (fun t u => t.reactUnit page bit detail real u)
  else s

/-- The condition of a site holds, or holds no more, in a sub-unit. -/
def State.setLive (s : State) (page bit detail : Nat) (v : Bool) : State :=
  let l := s.faults.live.filter (fun l => !(l.page == page && l.bit == bit && l.detail == detail))
  { s with faults := { s.faults with live := if v then ⟨page, bit, detail⟩ :: l else l } }

/-- The condition sites of a page that are live, by bit (R353). -/
def State.liveConds (s : State) (page : Nat) : Nat :=
  (s.faults.live.filter (fun l => l.page == page)).foldl (fun v l => setBitN v l.bit) 0

/-- The event sites of a page that occurred in the ACLK cycle of 40 ns that runs, by bit (R353). -/
def State.liveEvents (s : State) (page : Nat) : Nat :=
  if s.faults.eventsAt = s.now / 40 * 40 then
    (s.faults.events.filter (fun l => l.page == page)).foldl (fun v l => setBitN v l.bit) 0
  else 0

/-- FAULT_LIVE of a page (R353). -/
def State.liveBits (s : State) (page : Nat) : Nat := Nat.lor (s.liveConds page) (s.liveEvents page)

/-- An event site occurs in this ACLK cycle (R353). -/
def State.noteEvent (s : State) (page bit detail : Nat) : State :=
  let cycle := s.now / 40 * 40
  let old := if s.faults.eventsAt = cycle then s.faults.events else []
  { s with faults := { s.faults with events := ⟨page, bit, detail⟩ :: old, eventsAt := cycle } }

/-- The site has a monitored condition. -/
def condSite (p : Page) (n bit : Nat) : Bool := match siteAt p n bit with | some x => x.cond | none => false

/-- A sub-unit's condition changes no live bit: that of its site is 1 already (R353). -/
def State.alreadyLive (s : State) (p : Page) (n bit : Nat) : Bool := condSite p n bit && bitOf (s.liveConds (pageAddr p n)) bit

/-- One occurrence at a site: recorded, and its reaction (R353, R359 to R361). At a condition site only the change of its live
bit from 0 to 1 is one. -/
def State.occur (s : State) (p : Page) (n bit detail : Nat) (real : Bool) : State :=
  let page := pageAddr p n
  if s.alreadyLive p n bit then s.setLive page bit detail true
  else
    let t := if condSite p n bit then s.setLive page bit detail true else s.noteEvent page bit detail
    (t.occurRecord page bit detail real).occurReact p n bit detail real

/-- An injection is armed at a site and sub-unit (R375). -/
def State.armedAt (s : State) (page bit detail : Nat) : Bool :=
  match s.armedOf page with
  | some x => x.bit == bit && x.detail == detail
  | none => false

/-- An occurrence that a unit's own rule detects, in a word where the site stores words that the state addresses: injected
where the injection armed at its site and sub-unit has altered that word, else real (R375, R377). Answers also whether it is
real. -/
def State.claimInjection (s : State) (page bit detail : Nat) (word : Option Nat) : Bool × State :=
  match s.armedOf page with
  | some x => if x.bit = bit && x.detail == detail && x.word == word then (false, s.disarm page) else (true, s)
  | none => (true, s)

/-- An occurrence that a unit's own rule detects, recorded with its reaction. -/
def State.occurAuto (s : State) (p : Page) (n bit detail : Nat) (word : Option Nat) : State :=
  let k := s.claimInjection (pageAddr p n) bit detail word
  k.2.occur p n bit detail k.1

/-- The word that an injection armed at a site and sub-unit has altered. -/
def State.armedWord (s : State) (page bit detail : Nat) : Option Nat :=
  if s.armedAt page bit detail then (s.armedOf page).bind (fun x => x.word) else none

/-- An occurrence that the scrub detects in the sub-unit, at the word that an injection has altered where one has (R375). -/
def State.occurWord (s : State) (p : Page) (n bit detail : Nat) : State :=
  match s.armedWord (pageAddr p n) bit detail with
  | some w => s.occurAuto p n bit detail (some w)
  | none => s.occur p n bit detail true

/-- An occurrence that a unit's own rule detects, recorded without a reaction (R275: a bad link entry that the scrub finds). -/
def State.recordAuto (s : State) (p : Page) (n bit detail : Nat) (word : Option Nat) : State :=
  let k := s.claimInjection (pageAddr p n) bit detail word
  (k.2.noteEvent (pageAddr p n) bit detail).occurRecord (pageAddr p n) bit detail k.1

/-! ### Faults that the pixel plane meets -/

/-- A read of HBM at an address was uncorrectable (R163, R186, R210, R218): counted and reported by the HBM page. -/
def State.hbmUe (s : State) (a : Nat) : State :=
  let h := channelOf a / 32
  let i := channelOf a % 32
  ((s.inc (HBM.ECC_UE_COUNT h)).put64 (HBM.LAST_UE_ADDR_LO h) (HBM.LAST_UE_ADDR_HI h) a).occurAuto .hbm h 1 i (some (hbmWord a))

/-- A read of HBM at an address was corrected (R258, R425): counted and reported by the HBM page. -/
def State.hbmCe (s : State) (a : Nat) : State :=
  let h := channelOf a / 32
  (s.inc (HBM.ECC_CE_COUNT h)).occurAuto .hbm h 0 (channelOf a % 32) (some (hbmWord a))

/-- Whatever the reaction of its class, a damaged queue is reset and fenced (R276). -/
def State.containQueue (s : State) (q : Nat) : State := if s.on (QD.Q_STATUS_FENCED q) then s else s.fenceQueue q

/-- The queue structures of queue q disagree (R274). -/
def State.dupMismatch (s : State) (q : Nat) : State :=
  ((s.inc (LADLE.DUP_MISMATCH (homeBank q))).occurAuto .ladle (homeBank q) 2 q none).containQueue q

/-- The link entry of a cell was corrected (R275). -/
def State.linkCe (s : State) (q cell : Nat) : State :=
  (s.inc (LADLE.LINK_CE (homeBank q))).occurAuto .ladle (homeBank q) 0 q (some cell)

/-- A walk of queue q met an uncorrectable link entry, that of a cell (R275). -/
def State.linkUe (s : State) (q cell : Nat) : State :=
  let b := homeBank q
  (((s.inc (LADLE.LINK_UE b)).put (LADLE.LINK_UE_CELL b) cell).occurAuto .ladle b 1 q (some cell)).containQueue q

/-- An uncorrectable entry of bank b's free-cell stack, at position i (R277). -/
def State.freeUe (s : State) (b i : Nat) : State := (s.loseFree b i).occurAuto .ladle b 3 0 (some i)

end Sys2Proof.Machine
end

