-- ==== Sys2Proof/Machine/Link.lean ====
section
/-!
DEFINITION. The commands of the receive lanes and the link: clock monitor, aligners, deskew, training, link commands and
tests (R37 to R63, R104, R105).
-/

namespace Sys2Proof.Machine

/-! ### Which ports and lanes work -/

/-- The camera port of port p of gate g. -/
def portNo (g p : Nat) : Nat := 2 * g + p

/-- The gate's domains are on and out of reset (R394). -/
def State.gatePowered (s : State) (g : Nat) : Bool := s.domainOn g && s.domainOn (128 + g)

/-- Port c receives: it is present, its gate enabled and powered, and the device runs (R114, R115). -/
def State.portLive (s : State) (c : Nat) : Bool :=
  s.running && s.portPresent c && s.gateEnabled (c / 2) && s.gatePowered (c / 2)

/-- The clock receiver and the monitor of port c work: in every power state of the gate, and while the gate is disabled
(R38, R50). -/
def State.clockRuns (s : State) (c : Nat) : Bool := s.running && s.portPresent c && s.gatePowered (c / 2)

/-- The data lanes of port c under its gate mode. -/
def State.portLanes (s : State) (c : Nat) : List Nat := dataLanes (s.gateMode (c / 2)) (c % 2)

/-! ### Tests (R62, R68) -/

/-- TEST_STATUS shows the tests that run: the lanes of both ports under test, and the mode given. -/
def State.showTest (s : State) (g mode : Nat) : State :=
  let lanesOf (c : Nat) : List Nat := if (s.link c).test.isSome then s.portLanes c else []
  let other := match (s.link (2 * g)).test, (s.link (2 * g + 1)).test with
    | some a, _ => a.mode
    | none, some b => b.mode
    | none, none => 0
  (s.put (GATE.TEST_STATUS_LANES g) ((lanesOf (2 * g) ++ lanesOf (2 * g + 1)).foldl setBitN 0)).put
    (GATE.TEST_STATUS_LOOP_MODE g) (if mode = 0 then other else mode)

/-- Any test on a port ends. -/
def State.endTest (s : State) (c : Nat) : State :=
  match (s.link c).test with
  | none => s
  | some _ => (s.setLink c { s.link c with test := none }).showTest (c / 2) 0

/-- A near-end test (R62): the gate's test serialiser drives the lane from a generator state that the specification does
not fix, other than 0 (log entry 4). -/
def State.drivePattern (s : State) (g n mode pattern : Nat) : State :=
  if mode = 1 || mode = 2 then
    let a := s.draw
    a.2.emit (.testPattern g n mode pattern (1 + a.1 % (2 ^ (prbsTaps pattern).1 - 1)))
  else s

/-- A test starts on a port that its gate does not hold in DOWN and that is not fenced: tests run in LINK_STATE TEST, and
such a port stays DOWN or FENCED (R62, R115, R359; log entry 25). FAR_LOCK and PRBS_LOCK are cleared at the start and
stand after the end of the test (log entry 51). -/
def State.startTest (s : State) (c mode pattern : Nat) : State :=
  if !s.gateEnabled (c / 2) || s.portFenced c then s
  else
    let g := c / 2
    let t := (s.setLinkState c linkTest).setLink c { s.link c with test := some ⟨mode, pattern, false⟩, trying := false }
    let t := t.each (s.portLanes c) (fun t n =>
      ((t.put (GATE.LANE_STATUS_PRBS_LOCK g n) 0).onLane g n (fun x => { x with blockOk := false, prbs := {} })).drivePattern
        g n mode pattern)
    (t.put (LNK.FAR_LOCK c) 0).showTest g mode

/-- TEST_DONE when every lane under test has locked for the first time (R71). -/
def State.testDone (s : State) (c : Nat) (all : Bool) : State :=
  match (s.link c).test with
  | some x =>
    if all && !x.done then (s.setLink c { s.link c with test := some { x with done := true } }).raise (gatePage (c / 2)) 7
    else s
  | none => s

/-- The lane's equaliser, taps and interpolator adapt: their codes are open (R46; log entry 4). -/
def State.adapt (s : State) (g n : Nat) : State :=
  let a := s.draw
  let b := a.2.draw
  (b.2.put (GATE.LANE_ADAPT g n) (a.1 % 2 ^ 23)).put (GATE.LANE_STATUS_PI_CODE g n) b.1

/-- Symbols outside training bursts on lane n of port c: with ADAPT_ALL the lane adapts while it is ALIGNED, in tests too
(R46). -/
def State.adaptAll (s : State) (c n : Nat) : State :=
  if s.on (LNK.ADAPT_ALL c) && s.get (GATE.LANE_STATUS_ALIGN_STATE (c / 2) n) == 2 then s.adapt (c / 2) n else s

/-- A data receiver with LANE_CTRL.INVERT inverts its input before it samples (R33). -/
def State.inverts (s : State) (g n : Nat) : Bool := s.on (GATE.LANE_CTRL g n)

/-- A word as the receiver of a lane samples it (R33). -/
def State.sampled (s : State) (g n : Nat) (w : BitVec 40) : BitVec 40 := if s.inverts g n then ~~~w else w

/-- The bits that the checker of a lane takes in: LOOP_NEP enters behind the receiver (R33, R62). -/
def State.rawBits (s : State) (g n mode : Nat) (bits : List Bool) : List Bool :=
  if mode != 2 && s.inverts g n then bits.map not else bits

/-- A raw pattern checker takes in a run of bits (R61). -/
def Checker.run_ (k : Checker) (pattern : Nat) (bits : List Bool) : Checker :=
  bits.foldl (Checker.take (prbsTaps pattern).1 (prbsTaps pattern).2) { k with errs := 0 }

/-- PRBS_LOCK: raw bits at the checker of a lane (R61). -/
def State.prbsBlock (s : State) (g lane : Nat) (bits : List Bool) : State :=
  match s.portOfLane g lane with
  | none => s
  | some c =>
    match (s.link c).test with
    | none => s
    | some x =>
      if x.mode = 3 || 3 < x.pattern then s
      else
        let k := (s.lane g lane).prbs.run_ x.pattern (s.rawBits g lane x.mode bits)
        let t := (s.adaptAll c lane).onLane g lane (fun y => { y with prbs := k })
        let t := (t.addSat (GATE.LANE_PRBS_ERR g lane) k.errs).putB (GATE.LANE_STATUS_PRBS_LOCK g lane) k.locked
        t.testDone c ((t.portLanes c).all (fun n => t.on (GATE.LANE_STATUS_PRBS_LOCK g n)))

/-- The 256 bytes of LOOP_PAT (R65). -/
def State.loopPat (s : State) (g : Nat) : List Byte :=
  ((List.range 64).map (fun i => leBytes 4 (s.get (GATE.LOOP_PAT g i)))).flatten

/-- Bits in which two byte strings differ. -/
def bitErrors (a b : List Byte) : Nat := ((a.zip b).map (fun p => popCount ((p.1 ^^^ p.2).toNat) 8)).sum

/-- FAR_LOCK: a block of 256 bytes of LOOP_PAT on a lane (R63). -/
def State.farBlock (s : State) (g lane : Nat) (block : List Byte) : State :=
  match s.portOfLane g lane with
  | none => s
  | some c =>
    match (s.link c).test with
    | none => s
    | some x =>
      if block.length ≠ 256 || !(x.mode = 3 || x.pattern = 4) then s
      else
        let pat := s.loopPat g
        let s := s.adaptAll c lane
        if s.on (LNK.FAR_LOCK c) then s.addSat (GATE.LANE_PRBS_ERR g lane) (bitErrors block pat)
        else if block = pat then
          let t := s.onLane g lane (fun y => { y with blockOk := true })
          if (t.portLanes c).all (fun n => (t.lane g n).blockOk) then (t.put (LNK.FAR_LOCK c) 1).testDone c true else t
        else s

/-! ### Clock (R37 to R39, R103) -/

/-- Expected count and tolerance of a window at a rate code (R37). -/
def expectedCount (rate : Nat) : Nat := ([4096, 8192, 16384, 20480, 26214, 32768, 40960] : List Nat).getD rate 0

/-- The monitor accepts a window (R37). -/
def windowOk (rate count : Nat) : Bool :=
  let e := expectedCount rate
  decide (rate ≤ 6) && decide (max count e - min count e ≤ e / 1024)

/-- CLOCK_OK falls (R38, R51, R103, R385): in READY the port is fenced. -/
def State.clockLoss (s : State) (c : Nat) : State :=
  let ready := s.linkState c == linkReady
  let t := (s.put (LNK.CLOCK_OK c) 0).raise (gatePage (c / 2)) 4
  let t := (((t.endTest c).toDown c).dropRiser c).peerReset [gatePage (c / 2)]
  if ready then t.occur .gate (c / 2) (5 + c % 2) 0 true else t

/-- CLOCK_WINDOW_END. -/
def State.clockWindow (s : State) (c count : Nat) : State :=
  let t := s.put (LNK.CLK_COUNT c) count
  if windowOk (s.get (LNK.RATE c)) count then
    ((t.put (LNK.CLOCK_OK c) 1).setLive (gatePage (c / 2)) (5 + c % 2) 0 false).leaveDown c
  else if s.on (LNK.CLOCK_OK c) then t.clockLoss c
  else t

/-- DLL_LOCK (R39, R50): the DLL runs in every gate power state but COLD (R55). -/
def State.dllLocked (s : State) (c : Nat) : State :=
  if s.linkState c == linkClock && s.get (GATE.PWR_STATE_STATE (c / 2)) != 3 then (s.put (LNK.DLL_LOCK c) 1).toAlign c
  else s

/-! ### Alignment (R41, R51, R104) -/

/-- Every data lane in the mask of port c is ALIGNED. -/
def State.allAligned (s : State) (c : Nat) : Bool :=
  (s.lanesOf c).all (fun n => s.get (GATE.LANE_STATUS_ALIGN_STATE (c / 2) n) == 2)

/-- A lane loses alignment (R41, R51, R104). -/
def State.alignLoss (s : State) (c n : Nat) : State :=
  let g := c / 2
  let mine := (s.lanesOf c).contains n
  let t := (s.put (GATE.LANE_STATUS_ALIGN_STATE g n) 0).onLane g n
    (fun x => { x with commaCount := 0, errHist := [], displaced := 0, dropNow := 0, rd := none })
  let t := (t.addSat (GATE.LANE_ALIGN_LOSS g n) 1).raise (gatePage g) 3
  if !mine then t
  else if s.linkState c == linkReady then t.occur .gate g (7 + c % 2) n true
  else if s.linkState c == linkAlign || s.linkState c == linkTrain then t.toAlign c
  else t

/-- All lanes of a port in ALIGN are ALIGNED: TRAIN (R50). -/
def State.alignDone (s : State) (c : Nat) : State :=
  if s.linkState c == linkAlign && s.allAligned c then
    (s.setLinkState c linkTrain).each (s.lanesOf c) (fun t n => t.onLane (c / 2) n (fun x => { x with bursts := 0, goodRun := 0 }))
  else s

/-- What a word holds outside packets beside idles: slag and protocol errors (R73, R100, R403). -/
def State.strayWord (s : State) (c : Nat) (w : WordReport) : State :=
  let t := s.slag c w.data
  if w.badSpecial = 0 then t else (t.add (LNK.PROTO_ERR c) w.badSpecial).raise (gatePage (c / 2)) 10

/-- What the aligner of a lane sees of a received word and the word behind it: at its own offset, inverted where
LANE_CTRL says so (R33, R41). -/
def State.lookAt (s : State) (g n : Nat) (w next : BitVec 40) (inside : Bool) : WordReport :=
  reportWord (s.sampled g n w) (s.sampled g n next) (s.get (GATE.LANE_STATUS_BIT_OFFSET g n)) (s.lane g n).rd inside

/-- Running disparity after the word in which a hunting aligner finds its comma. -/
def State.huntRd (s : State) (g n o : Nat) (w next : BitVec 40) : Bool :=
  (reportWord (s.sampled g n w) (s.sampled g n next) o none false).rd

/-- The aligner of lane n of port c takes in a word, of which it sees w (R41); `rd` gives the running disparity after the
word at a new candidate offset. -/
def State.alignWord (s : State) (c n : Nat) (w : WordReport) (rd : Nat → Bool) : State :=
  let g := c / 2
  let st := s.get (GATE.LANE_STATUS_ALIGN_STATE g n)
  let errs := w.codeErr + w.dispErr
  if st = 0 then
    match w.comma with
    | some o =>
      ((s.put (GATE.LANE_STATUS_BIT_OFFSET g n) o).put (GATE.LANE_STATUS_ALIGN_STATE g n) 1).onLane g n
        (fun x => { x with commaCount := 1, rd := some (rd o) })
    | none => s
  else if st = 1 then
    if errs ≠ 0 then
      (s.put (GATE.LANE_STATUS_ALIGN_STATE g n) 0).onLane g n (fun x => { x with commaCount := 0, rd := none })
    else if w.here then
      let k := (s.lane g n).commaCount + 1
      let t := s.onLane g n (fun x => { x with commaCount := k, rd := some w.rd })
      if k < 4 then t
      else
        ((t.put (GATE.LANE_STATUS_ALIGN_STATE g n) 2).onLane g n (fun x => { x with commaCount := 0, errHist := [] })).alignDone c
    else s.onLane g n (fun x => { x with rd := some w.rd })
  else
    let t := (s.addSat (GATE.LANE_CODE_ERR g n) w.codeErr).addSat (GATE.LANE_DISP_ERR g n) w.dispErr
    let h := (errs :: (s.lane g n).errHist).take 16
    let t := (t.onLane g n (fun x => { x with errHist := h.take 15, rd := some w.rd })).adaptAll c n
    let t := if s.linkState c == linkReady then t.strayWord c w else t
    if 4 ≤ h.sum then t.alignLoss c n else t

/-- The receivers of port c take in symbols outside tests: DLL locked, gate ACTIVE or WARM (R55, R62, R385, R403). -/
def State.receiving (s : State) (c : Nat) : Bool :=
  s.portLive c && s.on (LNK.DLL_LOCK c) && s.gateHears (c / 2) && s.linkState c != linkTest

/-- Words of a lane are processed: DLL locked, gate ACTIVE or in a WARM exit (R55, R403). -/
def State.wordsOn (s : State) (c : Nat) : Bool := s.portLive c && s.on (LNK.DLL_LOCK c) && s.gateWorks (c / 2)

/-- COMMA_DETECT on lane n of port c: a word goes to the aligner; in a test it only adapts the lane (R41, R46, R62). -/
def State.takeWord (s : State) (c n : Nat) (w next : BitVec 40) (inside : Bool) : State :=
  if !s.wordsOn c then s
  else if s.linkState c == linkTest then s.adaptAll c n
  else s.alignWord c n (s.lookAt (c / 2) n w next inside) (fun o => s.huntRd (c / 2) n o w next)

/-- ALIGN_CHECK_TIMEOUT (R41). -/
def State.checkTimeout (s : State) (c n : Nat) : State :=
  if s.get (GATE.LANE_STATUS_ALIGN_STATE (c / 2) n) = 1 then
    (s.put (GATE.LANE_STATUS_ALIGN_STATE (c / 2) n) 0).onLane (c / 2) n (fun x => { x with commaCount := 0, rd := none })
  else s

/-! ### Deskew (R42 to R45) -/

/-- The lanes of port c hold no misalignment against their stored skews (R107). -/
def State.skewHolds (s : State) (c : Nat) : State :=
  s.each (s.lanesOf c) (fun t n => t.onLane (c / 2) n (fun x => { x with dropNow := 0 }))

/-- Skews of arrivals: by how many symbols each precedes the latest. -/
def skewsOf (l : List Int) : List Nat := l.map (fun a => (l.foldl max (l.headD 0) - a).toNat)

/-- DESKEW_MEASURE: a packet starts, with K27.7 at these symbol times on the lanes of the mask; injected drops bring a
lane's symbols forward (R107). -/
def State.deskew (s : State) (c : Nat) (arrivals : List Nat) : State :=
  let g := c / 2
  let lanes := s.lanesOf c
  if arrivals.length ≠ lanes.length || !s.allAligned c then s
  else
    let eff := (lanes.zip arrivals).map (fun p => (p.2 : Int) - (s.lane g p.1).displaced)
    let sk := skewsOf eff
    let clean := skewsOf (arrivals.map (fun a => (a : Int)))
    let stored := lanes.map (fun n => s.get (GATE.LANE_STATUS_SKEW g n))
    let err (t : State) : State := (t.addSat (LNK.DESKEW_ERR c) 1).raise (gatePage g) 6
    if !s.on (LNK.DESKEW_DONE c) then
      if sk.any (fun v => decide (31 < v)) then (err s).setLink c { s.link c with voidNext := true }
      else
        let t := s.each (lanes.zip sk) (fun t p =>
          (t.put (GATE.LANE_STATUS_SKEW g p.1) p.2).onLane g p.1 (fun x => { x with dropNow := 0 }))
        (t.put (LNK.DESKEW_DONE c) 1).setLink c { t.link c with skewMiss := false, voidNext := false }
    else if sk = stored then (s.skewHolds c).setLink c { s.link c with skewMiss := false }
    else
      let t := err s
      let t := if clean != stored && sk != clean then t.put (GATE.INJ_STATUS_REAL_SEEN g) 1 else t
      if (s.link c).skewMiss then (t.put (LNK.DESKEW_DONE c) 0).setLink c { t.link c with skewMiss := false }
      else t.setLink c { t.link c with skewMiss := true }

/-! ### Training bursts (R46 to R50, R84) -/

/-- One step of the PRBS-7 generator of R84 on a 7-bit state: the output bit and the next state. -/
def prbs7Step (x : Nat) : Nat × Nat := prbsStep 7 6 x

/-- One byte of the generator, first bit lowest. -/
def prbs7Byte : Nat → Nat → Nat × Nat
  | 0, x => (0, x)
  | n + 1, x =>
    let a := prbs7Step x
    let b := prbs7Byte n a.2
    (a.1 + 2 * b.1, b.2)

/-- n bytes of a training burst (R84) from a state. -/
def burstBytes : Nat → Nat → List Byte
  | 0, _ => []
  | n + 1, x => let b := prbs7Byte 8 x; BitVec.ofNat 8 b.1 :: burstBytes n b.2

/-- The port has trained: READY (R50, R52, R53, R71). -/
def State.toReady (s : State) (c : Nat) : State :=
  let t := (s.setLinkState c linkReady).raise (gatePage (c / 2)) (c % 2)
  let t := t.setLink c { t.link c with trying := false, trainReq := false }
  if (s.link c).trainReq then t.deviceWord c .trainOff 0x1C 0 else t

/-- A port in TRAIN whose lanes have had their bursts goes to READY (R50). -/
def State.trainDone (s : State) (c : Nat) : State :=
  if s.linkState c == linkTrain && (s.lanesOf c).all (fun n =>
      decide (16 ≤ (s.lane (c / 2) n).bursts) && decide (2 ≤ (s.lane (c / 2) n).goodRun)) then s.toReady c
  else s

/-- A burst on every lane resets the burst timer (R49). -/
def State.burstTimer (s : State) (c n : Nat) : State :=
  let g := c / 2
  let t := s.onLane g n (fun x => { x with burstSeen := true })
  if (t.lanesOf c).all (fun m => (t.lane g m).burstSeen) then
    (t.each (t.lanesOf c) (fun t m => t.onLane g m (fun x => { x with burstSeen := false }))).put (LNK.BURST_WARN c) 0
  else t

/-- TRAINING_BURST on lane n of port c. -/
def State.burst (s : State) (c n : Nat) (bytes : List Byte) : State :=
  let g := c / 2
  if s.get (GATE.LANE_STATUS_ALIGN_STATE g n) ≠ 2 || !s.gateActive g then s
  else
    let good := decide (bytes = burstBytes 254 0x7F)
    let t := s.addSat (GATE.LANE_BURST_BURST_CNT g n) 1
    let t := (if good then t else t.addSat (GATE.LANE_BURST_BURST_ERR g n) 1).adapt g n
    let t := t.onLane g n (fun x => { x with bursts := x.bursts + 1, goodRun := if good then x.goodRun + 1 else 0, rd := none })
    (t.burstTimer c n).trainDone c

/-! ### Link commands (R52, R53, R105) -/

/-- The refusal that LINK_TRAIN, SET_RATE and the tests share, or none (R52). -/
def State.linkRefusal (s : State) (c : Nat) : Option Nat :=
  if !s.portPresent c then some 0x21
  else if s.portEnabled c then some 0x22
  else if s.linkState c == linkTest then some 0x26
  else none

/-- The link state of port c is past the lock of its DLL: ALIGN, TRAIN or READY (R50). In COLD the DLL is off, and the exit
that the command brings about locks it again (R52, R58). -/
def State.pastLock (s : State) (c : Nat) : Bool :=
  s.linkState c == linkAlign || s.linkState c == linkTrain || s.linkState c == linkReady

/-- LINK_TRAIN. -/
def State.linkTrainCmd (s : State) (c : Nat) : State :=
  let g := c / 2
  match s.linkRefusal c with
  | some code => s.refuse (gatePage g) code
  | none =>
    let t := (s.gateCommand g).accept (gatePage g) 0x01
    let t := t.setLink c { t.link c with trainReq := true, mask := .restore }
    let t := if t.pastLock c && !(t.link c).heldDown then
        let u := t.toAlign c
        u.setLink c { u.link c with trying := true }
      else t
    (t.deviceWord c .laneMask 0x14 (fullMask (t.gateMode g) (c % 2))).deviceWord c .trainOn 0x1C 0x10

/-- SET_RATE. -/
def State.setRateCmd (s : State) (c code : Nat) : State :=
  let g := c / 2
  match s.linkRefusal c with
  | some r => s.refuse (gatePage g) r
  | none =>
    if 7 ≤ code || s.get (BRG.CAM_CAPS g (c % 2)) / 16 % 16 < code then s.refuse (gatePage g) 0x23
    else
      let t := (s.gateCommand g).accept (gatePage g) 0x02
      let t := t.setLink c { t.link c with newRates := (t.link c).newRates ++ [code], trainReq := true }
      (t.deviceWord c (.linkRate code) 0x18 code).deviceWord c .trainOn 0x1C 0x10

/-- LINK_DOWN. -/
def State.linkDownCmd (s : State) (c : Nat) : State :=
  let g := c / 2
  if !s.portPresent c then s.refuse (gatePage g) 0x21
  else if s.portEnabled c then s.refuse (gatePage g) 0x22
  else
    let t := (((s.gateCommand g).accept (gatePage g) 0x03).endTest c).toDown c
    t.setLink c { t.link c with heldDown := true }

/-- LINK_UP. -/
def State.linkUpCmd (s : State) (c : Nat) : State :=
  let g := c / 2
  if !s.portPresent c then s.refuse (gatePage g) 0x21
  else
    let t := (s.gateCommand g).accept (gatePage g) 0x04
    (t.setLink c { t.link c with heldDown := false }).leaveDown c

/-- CLEAR_COUNTERS. -/
def State.clearCountersCmd (s : State) (g : Nat) : State :=
  let t := (s.gateCommand g).accept (gatePage g) 0x05
  let t := t.each (List.range 5) (fun t n =>
    let t := ((t.put (GATE.LANE_CODE_ERR g n) 0).put (GATE.LANE_DISP_ERR g n) 0).put (GATE.LANE_ALIGN_LOSS g n) 0
    (t.put (GATE.LANE_BURST g n) 0).put (GATE.LANE_PRBS_ERR g n) 0)
  let t := (t.put (GATE.DESKEW_ERR_A g) 0).put (GATE.DESKEW_ERR_B g) 0
  (t.put (GATE.RISER_HWM_HWM_A g) 0).put (GATE.RISER_HWM_HWM_B g) 0

/-- LOOP_NES and LOOP_NEP: near-end loopbacks, mode 1 or 2. -/
def State.loopNearCmd (s : State) (c mode pat : Nat) : State :=
  let g := c / 2
  match s.linkRefusal c with
  | some code => s.refuse (gatePage g) code
  | none =>
    if pat = 0 || 4 < pat then s.refuse (gatePage g) 0x27
    else ((s.gateCommand g).accept (gatePage g) (5 + mode)).startTest c mode pat

/-- The refusal of LOOP_FAR and CAM_PRBS, or none (R52). -/
def State.farRefusal (s : State) (c : Nat) : Option Nat :=
  match s.linkRefusal c with
  | some code => some code
  | none => if s.linkState c != linkReady then some 0x24 else if s.schedOn c then some 0x25 else none

/-- LOOP_FAR (R63). -/
def State.loopFarCmd (s : State) (c : Nat) : State :=
  let g := c / 2
  match s.farRefusal c with
  | some code => s.refuse (gatePage g) code
  | none =>
    let t := ((s.gateCommand g).accept (gatePage g) 0x08).startTest c 3 4
    (t.deviceWrite c .loopBuf 0x100 (t.loopPat g)).deviceWord c .farLoop 0x1C 1

/-- CAM_PRBS. -/
def State.camPrbsCmd (s : State) (c pat : Nat) : State :=
  let g := c / 2
  match s.farRefusal c with
  | some code => s.refuse (gatePage g) code
  | none =>
    if pat = 0 || 3 < pat then s.refuse (gatePage g) 0x27
    else (((s.gateCommand g).accept (gatePage g) 0x09).startTest c 4 pat).deviceWord c .prbsSel 0x1C (4 * pat)

/-- TEST_STOP: the port goes to CLOCK, in which the DLL locks, so it is out of lock and its aligners hunt (R50, R52; log
entry 52). -/
def State.testStopCmd (s : State) (c : Nat) : State :=
  let g := c / 2
  if s.linkState c != linkTest then s.refuse (gatePage g) 0x24
  else
    let t := ((s.gateCommand g).accept (gatePage g) 0x0A).endTest c
    let t := (((t.put (LNK.DLL_LOCK c) 0).put (LNK.DESKEW_DONE c) 0).huntLanes c).enterClock c
    t.deviceWord c .testOff 0x1C 0

/-! ### The commands -/

/-- The command concerns lane n of gate g where it is a data lane of a port that receives. -/
def State.onDataLane (s : State) (g n : Nat) (f : State → Nat → State) : State :=
  match s.portOfLane g n with
  | some c => if s.receiving c then f s c else s
  | none => s

/-- CLOCK_WINDOW_END. -/
def execClockWindowEnd (g : Fin 128) (p : Fin 2) (count : Fin 65536) (s : State) : Host.Outcome State Fault Refusal :=
  .next (s.when (s.clockRuns (portNo g p)) (·.clockWindow (portNo g p) count))
/-- CLOCK_EDGE_TIMEOUT. -/
def execClockEdgeTimeout (g : Fin 128) (p : Fin 2) (s : State) : Host.Outcome State Fault Refusal :=
  .next (s.when (s.clockRuns (portNo g p) && s.on (LNK.CLOCK_OK (portNo g p))) (·.clockLoss (portNo g p)))
/-- DLL_LOCK. -/
def execDllLock (g : Fin 128) (p : Fin 2) (s : State) : Host.Outcome State Fault Refusal :=
  .next (s.when (s.portLive (portNo g p)) (·.dllLocked (portNo g p)))
/-- COMMA_DETECT. -/
def execCommaDetect (g : Fin 128) (lane : Fin 5) (w : BitVec 40) (s : State) (next : BitVec 40 := 0) (inside : Bool := false) :
    Host.Outcome State Fault Refusal :=
  .next (match s.portOfLane g lane with
    | some c => s.takeWord c lane w next inside
    | none => s)
/-- ALIGN_CHECK_TIMEOUT. -/
def execAlignCheckTimeout (g : Fin 128) (lane : Fin 5) (s : State) : Host.Outcome State Fault Refusal :=
  .next (s.onDataLane g lane (fun t c => if t.gateWorks g then t.checkTimeout c lane else t))
/-- LANE_MASK_ACK. -/
def execLaneMaskAck (g : Fin 128) (p : Fin 2) (s : State) : Host.Outcome State Fault Refusal :=
  .next (s.when s.running (fun t => match t.outstandingFor (portNo g p) .laneMask with
    | some r => t.completeWrite r
    | none => t))
/-- DEGRADE_TIMEOUT. -/
def execDegradeTimeout (g : Fin 128) (p : Fin 2) (s : State) : Host.Outcome State Fault Refusal :=
  .next (s.when s.running (fun t => match (t.link (portNo g p)).mask with
    | .degrade _ => (t.setLink (portNo g p) { t.link (portNo g p) with mask := .none }).fenceLink (portNo g p)
    | .restore => t
    | .none => t))
/-- DESKEW_MEASURE. -/
def execDeskewMeasure (g : Fin 128) (p : Fin 2) (arrivals : List Nat) (s : State) : Host.Outcome State Fault Refusal :=
  .next (s.when (s.receiving (portNo g p)) (fun t => (t.gateWake g).deskew (portNo g p) arrivals))
/-- TRAINING_BURST. -/
def execTrainingBurst (g : Fin 128) (lane : Fin 5) (bytes : List Byte) (s : State) : Host.Outcome State Fault Refusal :=
  .next (s.onDataLane g lane (fun t c => t.burst c lane bytes))
/-- BURST_WARN. -/
def execBurstWarn (g : Fin 128) (p : Fin 2) (s : State) : Host.Outcome State Fault Refusal :=
  .next (s.when (s.receiving (portNo g p) && s.gateActive g && s.linkState (portNo g p) == linkReady) (fun t =>
    let u := t.put (LNK.BURST_WARN (portNo g p)) 1
    if u.on (LNK.BURST_WARN_EN (portNo g p)) then u.raise (gatePage g) 5 else u))
/-- LINK_FAIL. -/
def execLinkFail (g : Fin 128) (p : Fin 2) (s : State) : Host.Outcome State Fault Refusal :=
  .next (s.when (s.portLive (portNo g p) && (s.link (portNo g p)).trying) (·.raise (gatePage g) 2))
/-- LINK_TRAIN. -/
def execLinkTrain (g : Fin 128) (p : Fin 2) (s : State) : Host.Outcome State Fault Refusal :=
  .next (s.when s.hostOn (·.linkTrainCmd (portNo g p)))
/-- SET_RATE. -/
def execSetRate (g : Fin 128) (p : Fin 2) (code : Fin 16) (s : State) : Host.Outcome State Fault Refusal :=
  .next (s.when s.hostOn (·.setRateCmd (portNo g p) code))
/-- SET_RATE_ACK. -/
def execSetRateAck (g : Fin 128) (p : Fin 2) (s : State) : Host.Outcome State Fault Refusal :=
  .next (s.when s.running (fun t => match t.outstandingRate (portNo g p) with
    | some r => t.completeWrite r
    | none => t))
/-- LINK_DOWN. -/
def execLinkDown (g : Fin 128) (p : Fin 2) (s : State) : Host.Outcome State Fault Refusal :=
  .next (s.when s.hostOn (·.linkDownCmd (portNo g p)))
/-- LINK_UP. -/
def execLinkUp (g : Fin 128) (p : Fin 2) (s : State) : Host.Outcome State Fault Refusal :=
  .next (s.when s.hostOn (·.linkUpCmd (portNo g p)))
/-- CLEAR_COUNTERS. -/
def execClearCounters (g : Fin 128) (s : State) : Host.Outcome State Fault Refusal :=
  .next (s.when s.hostOn (·.clearCountersCmd g))
/-- LOOP_NES. -/
def execLoopNes (g : Fin 128) (p : Fin 2) (pat : Fin 16) (s : State) : Host.Outcome State Fault Refusal :=
  .next (s.when s.hostOn (·.loopNearCmd (portNo g p) 1 pat))
/-- LOOP_NEP. -/
def execLoopNep (g : Fin 128) (p : Fin 2) (pat : Fin 16) (s : State) : Host.Outcome State Fault Refusal :=
  .next (s.when s.hostOn (·.loopNearCmd (portNo g p) 2 pat))
/-- LOOP_FAR. -/
def execLoopFar (g : Fin 128) (p : Fin 2) (s : State) : Host.Outcome State Fault Refusal :=
  .next (s.when s.hostOn (·.loopFarCmd (portNo g p)))
/-- CAM_PRBS. -/
def execCamPrbs (g : Fin 128) (p : Fin 2) (pat : Fin 16) (s : State) : Host.Outcome State Fault Refusal :=
  .next (s.when s.hostOn (·.camPrbsCmd (portNo g p) pat))
/-- TEST_STOP. -/
def execTestStop (g : Fin 128) (p : Fin 2) (s : State) : Host.Outcome State Fault Refusal :=
  .next (s.when s.hostOn (·.testStopCmd (portNo g p)))
/-- PRBS_LOCK. -/
def execPrbsLock (g : Fin 128) (lane : Fin 5) (bits : List Bool) (s : State) : Host.Outcome State Fault Refusal :=
  .next (s.when s.running (·.prbsBlock g lane bits))
/-- FAR_LOCK. -/
def execFarLock (g : Fin 128) (lane : Fin 5) (block : List Byte) (s : State) : Host.Outcome State Fault Refusal :=
  .next (s.when s.running (·.farBlock g lane block))

end Sys2Proof.Machine
end

