-- ==== Sys2Proof/Machine/Packet.lean ====
section
/-!
DEFINITION. Packets on the data lanes: their layout, the checks, the line-level rules, landing in the riser, and link
injections (R74 to R85, R96 to R102, R107 to R109, R116, R119 to R122).
-/

namespace Sys2Proof.Machine

/-! ### Layout (R75, R78, R79, R82, R83, R97) -/

/-- What a packet is taken for. -/
inductive PktKind | fs | line | fe | void
deriving DecidableEq, Repr

/-- A packet as the checker reads it. -/
structure Parsed where
  kind : PktKind
  hdrOk : Bool
  /-- Line: LINE_NUMBER, CAM_SUSPECT, the payload that arrived, whether it passes its check. -/
  num : Nat := 0
  suspect : Bool := false
  payload : List Byte := []
  payOk : Bool := true
  /-- Bytes after the declared length of an overlong packet (R75). -/
  extra : Nat := 0
deriving DecidableEq, Repr

/-- The header CRC checks with the CRC at byte k. -/
def hdrChecks (body : List Byte) (k : Nat) : Bool := decide (k + 2 ≤ body.length) && crc16 (body.take k) == leAt body k 2

/-- A body length fits a declared length with the pad bytes of n lanes (R74). -/
def fitsLen (n declared len : Nat) : Bool := decide (declared ≤ len) && decide (len ≤ declared + n - 1)

/-- The bytes past a declared length that are not pad bytes of n lanes. -/
def extraBytes (n declared len : Nat) : Nat := if declared + n - 1 < len then len - declared else 0

/-- A packet whose header failed and that is taken for a line packet (R97). -/
def untrustedLine (body : List Byte) : Parsed :=
  { kind := .line, hdrOk := false, payload := (body.take (body.length - 4)).drop 9, payOk := false }

/-- A packet on n lanes as the checker reads it. -/
def parsePacket (n : Nat) (body : List Byte) : Parsed :=
  let t := byteAt body 0
  let len := body.length
  if t = 1 then
    if hdrChecks body 12 then { kind := .fs, hdrOk := true, extra := extraBytes n 14 len }
    else if fitsLen n 14 len then { kind := .fs, hdrOk := false } else untrustedLine body
  else if t = 3 then
    if hdrChecks body 10 then { kind := .fe, hdrOk := true, extra := extraBytes n 12 len }
    else if fitsLen n 12 len then { kind := .fe, hdrOk := false } else untrustedLine body
  else if t = 2 then
    if hdrChecks body 7 then
      let l := leAt body 5 2
      let pay := (body.drop 9).take l
      { kind := .line, hdrOk := true, num := leAt body 2 3, suspect := bitOf (byteAt body 1) 0, payload := pay,
        payOk := decide (13 + l ≤ len) && crc32 pay == leAt body (9 + l) 4, extra := extraBytes n (13 + l) len }
    else untrustedLine body
  else if hdrChecks body 12 || hdrChecks body 7 || hdrChecks body 10 then { kind := .void, hdrOk := true }
  else untrustedLine body

/-! ### Reports and their tags (R109) -/

/-- A check of a packet with and without its tagged alterations: it failed, and it failed without them too. -/
structure Check where
  bad : Bool
  clean : Bool
deriving DecidableEq, Repr

/-- The check's report is injected: it fails only by tagged alterations. -/
def Check.tagged (k : Check) : Bool := k.bad && !k.clean

/-- REAL_SEEN: a real report of a packet that also has tagged alterations. -/
def State.noteReal (s : State) (g : Nat) (altered : Bool) (ks : List Check) : State :=
  if altered && ks.any (fun k => k.bad && k.clean) then s.put (GATE.INJ_STATUS_REAL_SEEN g) 1 else s

/-- A line with what the reports of its checks set: flag INJECTED, and what FSTAT.INJECTED needs. -/
def Landed.report (l : Landed) (ks : List Check) : Landed :=
  let bad := ks.filter (fun k => k.bad)
  if bad.isEmpty then l
  else { l with reported := true, allTagged := l.allTagged && bad.all Check.tagged,
                flags := if bad.any Check.tagged then setBitN l.flags 5 else l.flags }

/-! ### Ports and their riser parts (R116, R119) -/

/-- Blocks of port c's part of the riser (R119). -/
def State.riserPart (s : State) (c : Nat) : Nat :=
  if s.gateMode (c / 2) = 0 then (if c % 2 = 0 then 256 else 0)
  else if c % 2 = 0 then s.get (GATE.GATE_CFG_RISER_SPLIT_A (c / 2))
  else 256 - s.get (GATE.GATE_CFG_RISER_SPLIT_A (c / 2))

/-- Pixel bits, width and height that port c is configured for (R118). -/
def State.portBits (s : State) (c : Nat) : Nat := bitsOf (s.get (CAM.FMT_CFG_PIXEL_FORMAT c))
def State.portW (s : State) (c : Nat) : Nat := s.get (CAM.FMT_WIDTH c)
def State.portH (s : State) (c : Nat) : Nat := s.get (CAM.FMT_HEIGHT c)
/-- E of port c (R81). -/
def State.portE (s : State) (c : Nat) : Nat := expectedBytes (s.portW c) (s.portBits c)

/-- Blocks that a line of port c takes (R120). -/
def State.lineBlocks (s : State) (c : Nat) : Nat := ceilDiv (min (s.portE c) 49152) 256

/-- The pad value of port c, clamped to its format (R100). -/
def State.padValue (s : State) (c : Nat) : Nat := min (s.get (CAM.FC_PAD c)) (2 ^ s.portBits c - 1)

/-- The pixels of a pad line. -/
def State.padPixels (s : State) (c : Nat) : List Nat := List.replicate (s.portW c) (s.padValue c)

/-- An overflow of the riser part or the marker queue (R120, R121, R140). -/
def State.riserOvf (s : State) (c : Nat) : State := (s.inc (LNK.RISER_OVF c)).raise (gatePage (c / 2)) 16

/-- A protocol error (R73, R76, R78, R112). -/
def State.protoErr (s : State) (c : Nat) : State := (s.inc (LNK.PROTO_ERR c)).raise (gatePage (c / 2)) 10

/-- The checker's reports of a packet (R96, R97). -/
def State.countChecks (s : State) (c : Nat) (p : Parsed) : State :=
  let g := c / 2
  if p.kind = .void then s.protoErr c
  else if !p.hdrOk then (s.inc (LNK.HDR_CRC_ERR c)).raise (gatePage g) 8
  else if !p.payOk then (s.inc (LNK.PAY_CRC_ERR c)).raise (gatePage g) 9
  else s

/-! ### Holds of the next line (R160, R161) -/

/-- The free blocks of the port's riser part are fewer than a line needs (R161). -/
def State.riserTight (s : State) (c : Nat) : Bool := decide (s.riserPart c - (s.link c).used < s.lineBlocks c)

/-- The number of the line or pad line that the port's next turn would carry into its open frame: none when its next item
is a marker, a line to be discarded, or nothing. -/
def State.nextLine (s : State) (c : Nat) : Option Nat :=
  let l := s.link c
  if !l.open_ then none
  else if l.pads != 0 then some l.e
  else match l.riser with
    | .line x :: _ =>
      let n := x.num.getD l.e
      if l.e ≤ n && decide (n < s.portH c) && decide (n - l.e ≤ s.get (CAM.FC_CFG_GAP_MAX c)) then some l.e else none
    | .marker _ :: _ => none
    | [] => none

/-- The three conditions of R160 hold for the port's next line. -/
def State.needsHold (s : State) (c : Nat) : Bool :=
  match s.nextLine c, s.openFrame c with
  | some y, some fr => fr.dispDone && s.heldLine fr y
  | _, _ => false

/-- A hold ends with lines missing (R161). -/
def State.holdEnds (s : State) (c : Nat) : State :=
  let t := s.setCam c { s.cam c with holdOver := true }
  ((t.put (CAM.NR_STATUS_HOLDING c) 0).inc (CAM.NR_MISS_LINES c)).raise (camPage c) 0

/-- Holds of a port begin and end as its riser, its reference and its next line stand (R160, R161). -/
def State.holdCheck (s : State) (c : Nat) : State :=
  if s.needsHold c then
    if (s.cam c).holdOver then s
    else
      let t := if s.on (CAM.NR_STATUS_HOLDING c) then s
        else (s.inc (CAM.NR_HOLDS c)).put (CAM.NR_STATUS_HOLDING c) 1
      if t.riserTight c then t.holdEnds c else t
  else s.put (CAM.NR_STATUS_HOLDING c) 0

/-! ### Landing (R98 to R102, R120 to R122) -/

/-- An item lands at a port. -/
def State.land (s : State) (c : Nat) (i : RItem) : State :=
  s.setLink c { s.link c with riser := (s.link c).riser ++ [i] }

/-- Put a payload at its line number: of two packets of one number the later counts in the frame CRC (log entry 53). -/
def putPay (l : List (Nat × List Byte)) (n : Nat) (v : List Byte) : List (Nat × List Byte) := tins (tdel l n) n v

/-- A line packet is counted for its frame: the number of packets with a valid header and the payloads as received, with
and without tagged alterations (R98, R100, R109). -/
def State.countLine (s : State) (c : Nat) (p q : Parsed) : State :=
  let l := s.link c
  let n := if p.hdrOk then p.num else l.payNext
  let m := if q.hdrOk then q.num else l.payNext
  let next := if p.hdrOk then (if p.num < s.portH c then max l.payNext (p.num + 1) else l.payNext) else l.payNext + 1
  s.setLink c { l with
    valid := l.valid + b2n p.hdrOk, pays := putPay l.pays n p.payload,
    cleanValid := l.cleanValid + b2n (q.kind == .line && q.hdrOk), cleanPays := putPay l.cleanPays m q.payload,
    payNext := next }

/-- The pixels of a line under the length rules (R100), and its flags SHORT, CUT and LEN_CUT. -/
def State.lengthRules (s : State) (c : Nat) (payload : List Byte) : List Nat × List Nat :=
  let b := s.portBits c
  let w := s.portW c
  let e := s.portE c
  if payload.length < e then
    let k := min w (completePixels payload.length b)
    let px := unpackPixels k b payload
    let fill := if s.on (CAM.FC_CFG_PAD_MODE c) && k != 0 then px.getLastD 0 else s.padValue c
    (px ++ List.replicate (w - k) fill, [3])
  else (unpackPixels w b (payload.take e), if payload.length ≤ e then [] else if payload.length ≤ 49152 then [4] else [4, 9])

/-- A line packet lands (R96, R97, R99, R100, R120, R122); q: as it is without tagged alterations. -/
def State.landLine (s : State) (c : Nat) (p q : Parsed) (rest : Nat) (altered : Bool) : State :=
  let g := c / 2
  let need := s.lineBlocks c
  let hdr : Check := ⟨!p.hdrOk, !q.hdrOk⟩
  let pay : Check := ⟨p.hdrOk && !p.payOk, !q.hdrOk || !q.payOk⟩
  if s.riserPart c < (s.link c).used + need then ((s.noteReal g altered [hdr, pay]).slag c rest).riserOvf c
  else
    let t := s.countLine c p q
    let l := t.link c
    let e := t.portE c
    let sz := p.payload.length
    let rules := t.lengthRules c p.payload
    let len : Check := ⟨!rules.2.isEmpty, decide (q.payload.length ≠ e)⟩
    let sus : Check := ⟨p.suspect, q.suspect⟩
    let ks := [hdr, pay, len, sus]
    let t := if sz < e then t.inc (CAM.FC_SHORT_LINE c) else if e < sz then t.inc (CAM.FC_LONG_LINE c) else t
    let t := if rules.2.isEmpty then t else t.raise (gatePage g) 10
    let fail := !p.hdrOk || !p.payOk
    let policy := t.get (GATE.CHECK_CFG_CRC_POLICY g)
    let drop := fail && policy == 2
    let gone := (sz - e) + (if drop then min sz e else 0)
    let bits := (if p.suspect || (fail && policy == 0) then [0] else []) ++ (if fail && policy == 1 then [1] else []) ++
      (if drop then [2] else []) ++ rules.2
    let item : Landed :=
      { num := if p.hdrOk then some p.num else none, pixels := if drop then t.padPixels c else rules.1,
        flags := bits.foldl setBitN 0, payFail := fail, replace := fail && policy == 1, bodyLen := rest - gone,
        blocks := need }
    let t := ((t.noteReal g altered ks).slag c gone).land c (.line (item.report ks))
    let used := l.used + need
    let t := (t.setLink c { t.link c with used := used }).put (LNK.RISER_HWM c) (max (t.get (LNK.RISER_HWM c)) used)
    (t.holdCheck c).sliceWake (t.serving c)

/-- The reservation of a line packet that is voided after its header: it comes before the first payload byte, and ends with
the packet (R76, R120). -/
def State.reserveBriefly (s : State) (c : Nat) : State :=
  let used := (s.link c).used + s.lineBlocks c
  if s.riserPart c < used then s.riserOvf c
  else
    let t := (s.setLink c { s.link c with used := used }).put (LNK.RISER_HWM c) (max (s.get (LNK.RISER_HWM c)) used)
    let t := t.holdCheck c
    t.setLink c { t.link c with used := (s.link c).used }

/-- Markers in the queue of a port (R121). -/
def LinkSt.markers (l : LinkSt) : Nat :=
  (l.riser.filter (fun i => match i with | .marker m => !m.implied | .line _ => false)).length

/-- The fields of an FS equal the configuration of its port (R100). -/
def State.fsMatches (s : State) (c : Nat) (body : List Byte) : Bool :=
  byteAt body 4 == s.get (CAM.FMT_CFG_FRAME_FORMAT c) && byteAt body 5 == s.get (CAM.FMT_CFG_PIXEL_FORMAT c) &&
  leAt body 6 2 == s.portW c && leAt body 8 3 == s.portH c

/-- An FS or FE packet lands in the marker queue (R121); the frame's counts go with an FE and start again. -/
def State.landMarker (s : State) (c : Nat) (p q : Parsed) (body : List Byte) (rest : Nat) (altered : Bool) : State :=
  let t := s.noteReal (c / 2) altered [⟨!p.hdrOk, !q.hdrOk⟩]
  let l := t.link c
  let fresh (x : LinkSt) : LinkSt := { x with valid := 0, pays := [], cleanValid := 0, cleanPays := [], payNext := 0 }
  if 16 ≤ l.markers then (t.slag c rest).riserOvf c
  else
    let m : Marker := { isFs := p.kind == .fs, hdrOk := p.hdrOk, tagged := !p.hdrOk && q.hdrOk, landed := t.now, bodyLen := rest }
    if p.kind = .fs then
      let m := { m with echo := leAt body 2 2, fmtOk := !p.hdrOk || t.fsMatches c body }
      (t.setLink c { fresh l with fsSince := true, fsNo := l.fsNo + 1 }).land c (.marker m)
    else
      let m := { m with fcrcPresent := bitOf (byteAt body 1) 0, lineCount := leAt body 2 3, status := byteAt body 5,
                        frameCrc := leAt body 6 4, valid := l.valid, cleanValid := l.cleanValid,
                        crc := crc32 ((l.pays.map Prod.snd).flatten), cleanCrc := crc32 ((l.cleanPays.map Prod.snd).flatten) }
      (t.setLink c (fresh l)).land c (.marker m)

/-- A packet of a port in READY: checked, and on an enabled port landed (R96 to R100, R116). `clean`: its body without
tagged alterations. -/
def State.arrive (s : State) (c : Nat) (body clean : List Byte) : State :=
  let n := (s.lanesOf c).length
  let p := parsePacket n body
  let q := parsePacket n clean
  let altered := decide (body ≠ clean)
  let t := s.countChecks c p
  if !t.portEnabled c || p.kind = .void then
    (t.noteReal (c / 2) altered [⟨p.kind == .void, q.kind == .void⟩, ⟨!p.hdrOk, !q.hdrOk⟩]).slag c body.length
  else
    let t := t.slag c p.extra
    let rest := body.length - p.extra
    if p.kind = .line then t.landLine c p q rest altered else t.landMarker c p q body rest altered

/-! ### Link injections (R107 to R109) -/

/-- The lane that INJ_CFG names, as its place among the lanes of port c's mask (R74). -/
def State.lanePlace (s : State) (c lane : Nat) : Option Nat := (s.lanesOf c).findIdx? (fun n => n == lane)

/-- The port an injection is for: INJ_CFG.PORT, and for the symbol injections the port of LANE. -/
def State.injPort (s : State) (g : Nat) : Nat :=
  let op := s.get (GATE.INJ_CFG_OP g)
  if op = 1 || op = 3 then (s.portOfLane g (s.get (GATE.INJ_CFG_LANE g))).getD (2 * g)
  else 2 * g + s.get (GATE.INJ_CFG_PORT g)

/-- The condition under which INJECT is refused, or none (R108). -/
def State.injRefusal (s : State) (g : Nat) : Option Nat :=
  let op := s.get (GATE.INJ_CFG_OP g)
  let c := 2 * g + s.get (GATE.INJ_CFG_PORT g)
  if !s.portPresent c then some 0x21
  else if s.linkState c != linkReady then some 0x24
  else if op = 0 || 6 < op || ((op = 1 || op = 3) && s.get (GATE.INJ_CFG_COUNT g) = 0) then some 0x27
  else if s.on (GATE.INJ_STATUS_ARMED g) then some 0x28
  else if (op = 1 || op = 3) && !(s.lanesOf c).contains (s.get (GATE.INJ_CFG_LANE g)) then some 0x29
  else none

/-- INJECT. -/
def State.injectCmd (s : State) (g : Nat) : State :=
  match s.injRefusal g with
  | some code => s.refuse (gatePage g) code
  | none =>
    let t := (s.gateCommand g).accept (gatePage g) 0x10
    let t := ((t.put (GATE.INJ_STATUS_ARMED g) 1).put (GATE.INJ_STATUS_DONE g) 0).put (GATE.INJ_STATUS_REAL_SEEN g) 0
    t.setGate g { t.gate g with inj := .armed }

/-- INJ_CANCEL. -/
def State.injCancelCmd (s : State) (g : Nat) : State :=
  if !s.on (GATE.INJ_STATUS_ARMED g) then s.refuse (gatePage g) 0x2A
  else
    let t := ((s.gateCommand g).accept (gatePage g) 0x11).put (GATE.INJ_STATUS_ARMED g) 0
    t.setGate g { t.gate g with inj := .idle }

/-- An armed injection acts: it is done when it takes its first packet, REORDER too, as INJ_CFG describes it at that moment
(log entries 54 and 55), and its alterations fall on its target (R107). DROP_SYMBOLS displaces its lane
from the next symbol on. -/
def State.injActs (s : State) (g : Nat) : State :=
  if (s.gate g).inj ≠ .armed then s
  else
    let t := ((s.put (GATE.INJ_STATUS_ARMED g) 0).put (GATE.INJ_STATUS_DONE g) 1).raise (gatePage g) 15
    if t.get (GATE.INJ_CFG_OP g) = 1 then
      let n := t.get (GATE.INJ_CFG_COUNT g)
      let t := t.onLane g (t.get (GATE.INJ_CFG_LANE g)) (fun x =>
        { x with displaced := x.displaced + n, dropNow := x.dropNow + n })
      t.setGate g { t.gate g with inj := .idle }
    else t.setGate g { t.gate g with inj := .acting }

/-- A packet of port c is the target of the gate's injection (R107). -/
def State.injTarget (s : State) (c : Nat) (isLine : Bool) : Bool :=
  let op := s.get (GATE.INJ_CFG_OP (c / 2))
  s.injPort (c / 2) == c && (op == 1 || op == 3 || isLine)

/-- The body with the byte at index i changed. -/
def flipBit (body : List Byte) (i bit : Nat) : List Byte :=
  modifyAt body (i + bit / 8) (fun b => b ^^^ BitVec.ofNat 8 (2 ^ (bit % 8)))

/-- The body of a packet of port c with the symbols of misaligned lanes displaced (R107); what then stands at the end of
each stripe is open. -/
def State.displace (s : State) (c : Nat) (body : List Byte) : List Byte × State :=
  let lanes := s.lanesOf c
  let n := lanes.length
  if lanes.all (fun m => (s.lane (c / 2) m).dropNow == 0) then (body, s)
  else
    let f := s.drawBytes body.length
    ((List.range body.length).map (fun k =>
      let m := lanes.getD (k % n) 0
      let j := k + n * (s.lane (c / 2) m).dropNow
      if j < body.length then body.getD j 0 else f.1.getD k 0), f.2)

/-- Bytes of a packet's body that lane number i of n carries (R74). -/
def laneBytes (n i : Nat) (body : List Byte) : List Byte :=
  ((List.range body.length).filter (fun k => k % n == i)).map (fun k => body.getD k 0)

/-- A lane's symbols of a packet behind its K27.7, with bit `bit` of symbol number k inverted on the way (R107, R431): the
running disparity at the start is open. -/
def corruptLane (rd : Bool) (bytes : List Byte) (k bit : Nat) : List Decoded :=
  let syms := bytes.map (fun b => (⟨false, b.toNat⟩ : Sym)) ++ [⟨true, k29_7⟩]
  decodeAll (some rd) (modifyAt (encodeAll rd syms) k (fun v => if bitOf v bit then clearBitN v bit else setBitN v bit))

/-- The byte that a decoded symbol gives the packet; what an invalid code group gives is open. -/
def Decoded.value (d : Decoded) (open_ : Byte) : Byte :=
  match d.sym with | some s => BitVec.ofNat 8 s.byte | none => open_

/-- The alteration of a packet by CORRUPT_SYMBOL, CORRUPT_HDR_CRC or CORRUPT_PAY_CRC (R107), and whether the inverted code
group is a special one, which ends the packet as K30.7 would (R73). Errors that the lane's decoder finds are counted (R41). -/
def State.corrupt (s : State) (c : Nat) (body : List Byte) : List Byte × Bool × State :=
  let g := c / 2
  let op := s.get (GATE.INJ_CFG_OP g)
  let bit := s.get (GATE.INJ_CFG_BIT g)
  if op = 3 then
    let lane := s.get (GATE.INJ_CFG_LANE g)
    let n := (s.lanesOf c).length
    match s.lanePlace c lane with
    | some i =>
      let a := s.draw
      let f := a.2.drawBytes 1
      let k := s.get (GATE.INJ_CFG_COUNT g) - 1
      let ds := corruptLane (a.1 % 2 == 1) (laneBytes n i body) k bit
      let t := f.2.addSat (GATE.LANE_CODE_ERR g lane) (ds.filter (fun d => d.sym.isNone)).length
      let t := t.addSat (GATE.LANE_DISP_ERR g lane) (ds.filter (fun d => d.disp)).length
      if k * n + i < body.length then
        match ds[k]? with
        | some d =>
          (modifyAt body (k * n + i) (fun _ => d.value (f.1.getD 0 0)),
           (match d.sym with | some y => y.special | none => false), t)
        | none => (body, false, t)
      else (body, false, t)
    | none => (body, false, s)
  else if op = 4 then (flipBit body 7 bit, false, s)
  else if op = 5 then (flipBit body (9 + leAt body 5 2) bit, false, s)
  else (body, false, s)

/-- The number of a line that an injection keeps from its place (R107, R109). -/
def State.noteGap (s : State) (c : Nat) (body : List Byte) : State :=
  let p := parsePacket (s.lanesOf c).length body
  let l := s.link c
  if p.hdrOk then
    s.setLink c { l with injGap := (l.fsNo, p.num) :: l.injGap, cleanValid := l.cleanValid + 1, cleanPays := putPay l.cleanPays p.num p.payload }
  else s

/-- A packet in progress is void (R73, R76): slag, a protocol error, and for a line packet whose header has come the
reservation that came with it (R120). -/
def State.voidPacket (s : State) (c : Nat) (body : List Byte) : State :=
  let t := (s.slag c body.length).protoErr c
  if t.portEnabled c && byteAt body 0 == 2 && decide (9 ≤ body.length) then t.reserveBriefly c else t

/-- A packet of a port in READY meets the gate's injection, then arrives (R107). -/
def State.injected (s : State) (c : Nat) (body : List Byte) : State :=
  let g := c / 2
  let isLine := (parsePacket (s.lanesOf c).length body).kind == .line
  let t := if s.injTarget c isLine then s.injActs g else s
  let op := t.get (GATE.INJ_CFG_OP g)
  let k := t.gate g
  if k.inj = .acting && t.injTarget c isLine then
    match k.held with
    | some h =>
      let u := t.setGate g { k with inj := .idle, held := none }
      (u.arrive c body body).arrive c h h
    | none =>
      if op = 2 then (t.setGate g { k with inj := .idle }).noteGap c body
      else if op = 6 then
        let u := t.setGate g { k with held := some body }
        u.setLink c { u.link c with
          injGap := ((u.link c).fsNo, (parsePacket (u.lanesOf c).length body).num) :: (u.link c).injGap }
      else
        let a := (t.setGate g { k with inj := .idle }).corrupt c body
        if a.2.1 then a.2.2.voidPacket c a.1 else a.2.2.arrive c a.1 body
  else
    match (if t.injPort g = c then k.held else none) with
    | some h =>
      let u := t.setGate g { k with inj := .idle, held := none }
      (u.arrive c h h).arrive c body body
    | none =>
      let a := t.displace c body
      a.2.arrive c a.1 body

/-- The symbols of a packet on the lanes of port c: with ADAPT_ALL they adapt (R46), and the running disparity behind them is
not followed. -/
def State.packetSymbols (s : State) (c : Nat) : State :=
  s.each (s.lanesOf c) (fun t n => (t.adaptAll c n).onLane (c / 2) n (fun x => { x with rd := none }))

/-- A packet of port c is received whole (R44, R103, R105, R359). -/
def State.receive (s : State) (c : Nat) (body : List Byte) : State :=
  let s := s.packetSymbols c
  let l := s.link c
  let cut := match l.mask with | .degrade _ => true | .restore => false | .none => false
  if l.voidNext then (s.setLink c { l with voidNext := false }).slag c body.length
  else if s.portFenced c || cut then s.slag c body.length
  else if s.linkState c != linkReady then s
  else s.injected c body

/-- A symbol injection meets a packet that K30.7 voids (R107): it acts, and its alteration falls on the packet. -/
def State.injectVoid (s : State) (c : Nat) (body : List Byte) : State :=
  let g := c / 2
  let t := if s.injTarget c false then s.injActs g else s
  if (t.gate g).inj = .acting && t.injTarget c false then
    ((t.setGate g { t.gate g with inj := .idle }).corrupt c body).2.2
  else t

/-- The packet had its declared body, and more symbols than a K29.7 may wait for: it is closed at its declared length (R75). -/
def State.overlong (s : State) (c : Nat) (body : List Byte) : Bool :=
  let p := parsePacket (s.lanesOf c).length body
  p.hdrOk && p.kind != .void && p.extra != 0

/-- K30.7 voids the packet in progress (R76); one that is closed already at its declared length stays received, and only its
excess is slag (R75). -/
def State.abortPacket (s : State) (c : Nat) (body : List Byte) : State :=
  let l := s.link c
  if s.portFenced c || (s.overlong c body && !l.voidNext) then s.receive c body
  else if s.linkState c != linkReady then s
  else if l.voidNext then ((s.setLink c { l with voidNext := false }).slag c body.length).protoErr c
  else ((s.packetSymbols c).injectVoid c body).voidPacket c body

/-! ### Frame timeouts (R100) -/

/-- A frame of port c is open at the landing: the last marker landed is an FS, or none waits and intake has one open. -/
def LinkSt.frameLanding (l : LinkSt) : Bool :=
  match (l.riser.filterMap (fun i => match i with | .marker m => some m | .line _ => none)).getLast? with
  | some m => m.isFs
  | none => l.open_ && !l.closing

/-- FRAME_TIMEOUT: the open frame closes as by FE, behind what has landed. -/
def State.frameTimeout (s : State) (c : Nat) : State :=
  if s.get (CAM.FC_TIMEOUT c) = 0 || !(s.link c).frameLanding then s
  else s.land c (.marker { isFs := false, hdrOk := true, implied := true })

/-- MISSING_FRAME_TIMEOUT: no FS within FRAME_TIMEOUT after the EXPOSE_START of a shot. -/
def State.missingFrame (s : State) (c shot : Nat) : State :=
  if s.get (CAM.FC_TIMEOUT c) = 0 || (s.link c).fsSince || !(s.sched c).outst.any (fun p => p.1 == shot) then s
  else s.markMissing c shot

/-! ### The commands -/

/-- In quench, port c still has the link over which its packets come, to be discarded (R372). -/
def State.hears (s : State) (c : Nat) : Bool :=
  s.awake && s.portPresent c && s.gateEnabled (c / 2) && s.gatePowered (c / 2) && s.gateHears (c / 2) &&
  (s.linkState c == linkReady || s.linkState c == linkFenced)

/-- A packet arrives at port c: in quench it is discarded as slag (R372), otherwise f takes it in. -/
def State.heard (s : State) (c : Nat) (body : List Byte) (f : State → State) : State :=
  if s.quenched then s.when (s.hears c) (·.slag c body.length) else f s

/-- A packet of the type that the row names; its K27.7 wakes a gate that is WARM (R403). -/
def State.packetOf (s : State) (g p : Nat) (type : Nat → Bool) (body : List Byte) : State :=
  s.heard (2 * g + p) body (fun t =>
    t.when (t.receiving (2 * g + p) && type (byteAt body 0)) (fun t => (t.gateWake g).receive (2 * g + p) body))

/-- INJECT with the operation that the row names. -/
def State.injectOp (s : State) (g op : Nat) : State :=
  s.when (s.hostOn && s.get (GATE.INJ_CFG_OP g) == op) (·.injectCmd g)

/-- FS_PACKET. -/
def execFsPacket (g : Fin 128) (p : Fin 2) (body : List Byte) (s : State) : Host.Outcome State Fault Refusal :=
  .next (s.packetOf g p (fun t => t == 1) body)
/-- LINE_PACKET. -/
def execLinePacket (g : Fin 128) (p : Fin 2) (body : List Byte) (s : State) : Host.Outcome State Fault Refusal :=
  .next (s.packetOf g p (fun t => t == 2) body)
/-- FE_PACKET. -/
def execFePacket (g : Fin 128) (p : Fin 2) (body : List Byte) (s : State) : Host.Outcome State Fault Refusal :=
  .next (s.packetOf g p (fun t => t == 3) body)
/-- UNKNOWN_TYPE_PACKET. -/
def execUnknownTypePacket (g : Fin 128) (p : Fin 2) (body : List Byte) (s : State) : Host.Outcome State Fault Refusal :=
  .next (s.packetOf g p (fun t => t == 0 || decide (3 < t)) body)
/-- ABORT_SYMBOL. -/
def execAbortSymbol (g : Fin 128) (p : Fin 2) (body : List Byte) (s : State) : Host.Outcome State Fault Refusal :=
  .next (s.heard (2 * g.val + p.val) body (fun t =>
    t.when (t.receiving (2 * g.val + p.val)) (fun t => (t.gateWake g).abortPacket (2 * g.val + p.val) body)))
/-- FRAME_TIMEOUT. -/
def execFrameTimeout (c : Fin 256) (s : State) : Host.Outcome State Fault Refusal :=
  .next (s.when s.running (·.frameTimeout c))
/-- MISSING_FRAME_TIMEOUT. -/
def execMissingFrameTimeout (c : Fin 256) (shot : Word) (s : State) : Host.Outcome State Fault Refusal :=
  .next (s.when s.running (·.missingFrame c shot.toNat))
/-- DROP_SYMBOLS. -/
def execDropSymbols (g : Fin 128) (s : State) : Host.Outcome State Fault Refusal := .next (s.injectOp g 1)
/-- DROP_LINE. -/
def execDropLine (g : Fin 128) (s : State) : Host.Outcome State Fault Refusal := .next (s.injectOp g 2)
/-- CORRUPT_SYMBOL. -/
def execCorruptSymbol (g : Fin 128) (s : State) : Host.Outcome State Fault Refusal := .next (s.injectOp g 3)
/-- CORRUPT_HDR_CRC. -/
def execCorruptHdrCrc (g : Fin 128) (s : State) : Host.Outcome State Fault Refusal := .next (s.injectOp g 4)
/-- CORRUPT_PAY_CRC. -/
def execCorruptPayCrc (g : Fin 128) (s : State) : Host.Outcome State Fault Refusal := .next (s.injectOp g 5)
/-- REORDER. -/
def execReorder (g : Fin 128) (s : State) : Host.Outcome State Fault Refusal := .next (s.injectOp g 6)
/-- INJ_CANCEL. -/
def execInjCancel (g : Fin 128) (s : State) : Host.Outcome State Fault Refusal :=
  .next (s.when s.hostOn (·.injCancelCmd g))
/-- INJECTION_ACTS. -/
def execInjectionActs (g : Fin 128) (s : State) : Host.Outcome State Fault Refusal :=
  .next (s.when s.running (·.injActs g))

end Sys2Proof.Machine
end

