-- ==== Sys2Proof/Machine/Intake.lean ====
section
/-!
DEFINITION. The intake arbiter and the frame-check stage: turns, line-number rules, pad lines, binding of frames to shots,
and closure (R100, R101, R109, R121 to R127, R158 to R162, R175, R192, R193, R237, R238, R247, R249).
-/

namespace Sys2Proof.Machine

/-! ### The arbiter (R123 to R127) -/

/-- A line taken for a port waits for no displacement and is not held (R160, R162). -/
def State.lineFree (s : State) (c : Nat) : Bool :=
  match s.openFrame c with
  | some fr => (fr.get (CAM.NR_CTRL_MODE c) < 2 || fr.dispDone) && (!s.needsHold c || (s.cam c).holdOver)
  | none => true

/-- A marker of the port is between intake and frame check, or its closing frame awaits frame check. -/
def State.markerBusy (s : State) (k c : Nat) : Bool :=
  (s.slice k).fc.any (fun i => match i with
    | .fs d _ _ => d == c | .fe d _ => d == c | .abandon d _ => d == c | .line _ _ _ _ => false | .drop _ _ => false)

/-- The port has an item ready (R123). -/
def State.itemReady (s : State) (k c : Nat) : Bool :=
  let l := s.link c
  s.portEnabled c && !s.markerBusy k c &&
  (if l.pads != 0 then s.lineFree c
   else !l.closing && match l.riser with
    | [] => false
    | .line _ :: _ => s.lineFree c
    | .marker m :: rest =>
      if m.isFs then
        decide (2 ≤ s.get (CAM.NR_CTRL_MODE c)) || rest.any (fun i => match i with | .line _ => true | .marker _ => false)
      else true)

/-- The valid line count of the buffer that the port's open frame reads (R152, R155). -/
def State.refCount (s : State) (c : Nat) : Nat :=
  match s.openFrame c with
  | some fr => s.get (refValid c fr.readBuf)
  | none => 0

/-- An item goes to frame check. -/
def State.toCheck (s : State) (k : Nat) (i : FcItem) : State :=
  s.setSlice k { s.slice k with fc := (s.slice k).fc ++ [i] }

/-- The line that a turn carries, with REF_MISS where its hold ended with lines missing (R161). -/
def State.carry (s : State) (k c num : Nat) (x : Landed) : State :=
  let x := if (s.cam c).holdOver then { x with flags := setBitN x.flags 6 } else x
  let t := (s.toCheck k (.line c num x (s.refCount c))).setCam c { s.cam c with holdOver := false }
  t.put (CAM.NR_STATUS_HOLDING c) 0

/-- A turn with a pad line (R100, R124). -/
def State.takePad (s : State) (k c : Nat) : State :=
  let l := s.link c
  let inj := l.injGap.contains (l.frameNo, l.e)
  let x : Landed := { num := some l.e, pixels := s.padPixels c, flags := if inj then 36 else 4, reported := true, allTagged := inj }
  let t := s.carry k c l.e x
  let last := l.pads == 1 && l.closing
  t.setLink c { l with e := l.e + 1, pads := l.pads - 1, open_ := l.open_ && !last, closing := l.closing && !last }

/-- The head of the port's riser leaves it: its blocks are free (R122). -/
def State.popRiser (s : State) (c : Nat) : State :=
  let l := s.link c
  match l.riser with
  | [] => s
  | .line x :: t => s.setLink c { l with riser := t, used := l.used - x.blocks }
  | .marker _ :: t => s.setLink c { l with riser := t }

/-- An FE at the head of the riser goes to frame check; the first one that follows an abandoned frame is consumed (R100). -/
def State.takeFe (s : State) (k c : Nat) (m : Marker) : State :=
  let t := s.popRiser c
  let l := t.link c
  if l.abandoned && (m.implied || !l.feGone) then
    (t.setLink c { l with feGone := l.feGone || !m.implied }).slag c m.bodyLen
  else (t.toCheck k (.fe c (if m.implied then none else some m))).setLink c { l with closing := l.open_ }

/-- An FE that follows a line passes with its last vector (R127). -/
def State.feBehind (s : State) (k c : Nat) : State :=
  match (s.link c).riser with
  | .marker m :: _ => if m.isFs then s else s.takeFe k c m
  | .line _ :: _ => s
  | [] => s

/-- A malformed line is discarded at its choice, as slag (R100, R112). -/
def State.dropLine (s : State) (k c : Nat) (f : Fld) (i : FcItem) (x : Landed) : State :=
  ((((s.popRiser c).slag c x.bodyLen).inc f).raise (gatePage (c / 2)) 10).toCheck k i

/-- Line numbers e to n - 1 of the port's open frame are missing by injections alone, and by some injection (R107, R109). -/
def LinkSt.gapTagged (l : LinkSt) (n : Nat) : Bool × Bool :=
  let mine := (List.range (n - l.e)).map (fun i => l.injGap.contains (l.frameNo, l.e + i))
  (mine.all id, mine.any id)

/-- REAL_SEEN: a real report of a gap that injections also helped to make (R109). -/
def State.noteGapReal (s : State) (c : Nat) (p : Bool × Bool) : State :=
  if !p.1 && p.2 then s.put (GATE.INJ_STATUS_REAL_SEEN (c / 2)) 1 else s

/-- A turn with the line at the head of the riser: its number is tested against H and e (R99, R100, R127). An FE behind it
passes with its last vector, also where the line is discarded. -/
def State.takeLine (s : State) (k c : Nat) (x : Landed) : State :=
  let l := s.link c
  let n := x.num.getD l.e
  if l.abandoned then (((s.popRiser c).slag c x.bodyLen).toCheck k (.drop c .silent)).feBehind k c
  else if !l.open_ then ((s.popRiser c).toCheck k (.line c n x 0)).feBehind k c
  else if s.portH c ≤ n then (s.dropLine k c (CAM.FC_LONG_FRAME c) (.drop c .long) x).feBehind k c
  else if n < l.e then
    (s.dropLine k c (CAM.FC_LINE_ORDER c) (.drop c (.order (l.injGap.contains (l.frameNo, n)))) x).feBehind k c
  else if n = l.e then
    let t := (s.popRiser c).carry k c n x
    (t.setLink c { t.link c with e := n + 1 }).feBehind k c
  else if n - l.e ≤ s.get (CAM.FC_CFG_GAP_MAX c) then
    ((s.add (CAM.FC_PAD_LINES c) (n - l.e)).setLink c { l with pads := n - l.e }).takePad k c
  else
    let t := (s.noteGapReal c (l.gapTagged n)).dropLine k c (CAM.FC_ABANDONED c) (.abandon c (l.gapTagged n).1) x
    ((t.setLink c { t.link c with open_ := false, abandoned := true, feGone := false }).endHold c).feBehind k c

/-- The line or FE at the head of the riser, if it is a line, in the turn of the FS before it (R123). -/
def State.lineBehind (s : State) (k c : Nat) : State :=
  match (s.link c).riser with
  | .line x :: _ => s.takeLine k c x
  | .marker _ :: _ => s
  | [] => s

/-- The FS at the head of the riser opens the new frame, and the first line of the frame rides with it (R123). -/
def State.openFs (s : State) (k c : Nat) (m : Marker) : State :=
  let l := s.link c
  let t := s.popRiser c
  let t := t.setLink c { t.link c with open_ := true, e := 0, frameNo := l.frameNo + 1, abandoned := false, feGone := false,
                                       pads := 0, closing := false,
                                       injGap := l.injGap.filter (fun p => decide (l.frameNo < p.1)) }
  let t := t.toCheck k (.fs c (l.frameNo + 1) m)
  if 2 ≤ t.get (CAM.NR_CTRL_MODE c) then t else t.lineBehind k c

/-- A turn with an FS at the head of the riser. It implies FE for an open frame: the implied FE comes with the FS where the
frame has all its lines, and makes the pad lines due that stand before the FS where it has not (R100, R123, R124, R127). -/
def State.takeFs (s : State) (k c : Nat) (m : Marker) : State :=
  let l := s.link c
  if !l.open_ then s.openFs k c m
  else if l.e < s.portH c then (s.toCheck k (.fe c none)).setLink c { l with closing := true }
  else (s.toCheck k (.fe c none)).openFs k c m

/-- One turn of port c (R123, R124). -/
def State.turnOf (s : State) (k c : Nat) : State :=
  let l := s.link c
  if l.pads != 0 then s.takePad k c
  else match l.riser with
    | .line x :: _ => s.takeLine k c x
    | .marker m :: _ => if m.isFs then s.takeFs k c m else s.takeFe k c m
    | [] => s

/-- The arbiter of slice k takes its next item: of the first port after the last one served (R123, R126). -/
def State.intake (s : State) (k : Nat) : State :=
  let ports := s.servedPorts k
  let t := s.each ports State.holdCheck
  let order := (List.range 8).map (fun i => ((t.slice k).last + 1 + i) % 8)
  match order.find? (fun i => match ports[i]? with | some c => t.itemReady k c | none => false) with
  | none => t
  | some i =>
    match ports[i]? with
    | none => t
    | some c => ((t.setSlice k { t.slice k with last := i }).turnOf k c).holdCheck c

/-! ### Binding (R237, R238) -/

/-- A record flag of R245 in the record that the ledger holds of a shot. -/
def State.recFlag (s : State) (c n bit : Nat) : Bool := s.holdsShot c n && bitOf (s.record c n).flags bit

/-- The shot a frame is bound to, the shots passed over, and whether the echo mismatches (R237); none: UNBOUND. -/
def bindChoice (outst : List (Nat × Bool)) (hdrOk : Bool) (echo : Nat) : Option (Nat × List Nat × Bool) :=
  match outst with
  | [] => none
  | o :: _ =>
    if !o.2 || !hdrOk then some (o.1, [], o.2)
    else match outst.findIdx? (fun p => p.2 && p.1 % 65536 == echo) with
      | some i => some ((outst.getD i o).1, (outst.take i).map Prod.fst, false)
      | none => some (o.1, [], true)

/-- The version, slot, trigger instant and position of a bound frame, from its shot's record (R247). -/
def State.bindFrame (s : State) (fr : Frame) (n : Nat) (mismatch : Bool) (landed : Nat) : State × Frame :=
  let c := fr.c
  let d := s.sched c
  let t := s.setSched c { d with outst := d.outst.filter (fun p => p.1 != n) }
  let t := t.onRecord c n (fun r => { r with
    flags := setBitN (if mismatch then setBitN r.flags 3 else r.flags) 0,
    fsDelay := min (landed - r.tTrig) (2 ^ 32 - 1), frameOpen := true })
  let r := t.record c n
  let bits := (if mismatch then [5] else []) ++ (if bitOf r.flags 4 then [6] else []) ++
    (if bitOf r.flags 5 then [7] else []) ++ (if bitOf r.flags 6 then [8] else [])
  (t, { fr with shot := n, bound := true, version := r.version, slot := r.slot, tTrig := r.tTrig,
                pos := if bitOf r.flags 10 then some r.pos else none, xstat := bits.foldl setBitN fr.xstat })

/-- A frame is bound at its FS (R237), or is UNBOUND (R238, R360). -/
def State.bindAtFs (s : State) (fr : Frame) (m : Marker) : State × Frame :=
  let c := fr.c
  match (if s.groupFenced c then none else bindChoice (s.sched c).outst m.hdrOk m.echo) with
  | some (n, passed, mismatch) => (s.each passed (fun t x => t.markMissing c x)).bindFrame fr n mismatch m.landed
  | none =>
    (s, { fr with shot := (s.get (CAM.SHOT_NEXT c) + 2 ^ 32 - 1) % 2 ^ 32, version := s.get (CAM.VER_APPLIED c),
                  slot := (s.sched c).verSlot, xstat := setBitN fr.xstat 4 })

/-! ### What a frame fixes at its FS (R154 to R159, R182, R192, R193, R249) -/

/-- A frame reports its cause (R158). -/
def State.noRef (s : State) (fr : Frame) (cause : Nat) : State × Frame :=
  (((s.put (CAM.NR_STATUS_CAUSE fr.c) cause).inc (CAM.NR_NOREF_FRAMES fr.c)).raise (camPage fr.c) 1,
   { fr with cause := cause, xstat := setBitN fr.xstat 0 })

/-- The causes known at the FS, and the slot scale (R158, R159). -/
def State.refAtFs (s : State) (fr : Frame) : State × Frame :=
  let c := fr.c
  let k := s.cam c
  let t := s.setCam c { k with first := false, resetDue := false }
  if fr.get (CAM.NR_CTRL_MODE c) < 2 then (t, fr)
  else
    let fr := { fr with readBuf := t.get (CAM.NR_STATUS_READ_BUF c) }
    let scaled := fr.version != t.get (CAM.NR_REF_VER c) && fr.slot < 8
    let mode := if scaled then t.get (CAM.NR_SLOT_SCALE_MODE c fr.slot) else 0
    let cause := if t.on (CAM.NR_STATUS_SUPPRESSED c) then 6 else if k.first then 1 else if k.resetDue then 2
      else if mode = 2 then 3 else 0
    let fr := { fr with scale := if mode = 1 then some (t.get (CAM.NR_SLOT_SCALE_GAIN c fr.slot)) else none }
    if cause = 0 then (t.put (CAM.NR_STATUS_CAUSE c) 0, fr) else t.noRef fr cause

/-- The statistics bank of a frame (R249). -/
def State.bankAtFs (s : State) (fr : Frame) : State × Frame :=
  let c := fr.c
  if !fr.on (CAM.STAT_CFG c) then (s, { fr with statDone := true })
  else match s.chooseBank c with
    | some b =>
      (s.setCam c { s.cam c with lastBank := some b, busyBanks := b :: (s.cam c).busyBanks }, { fr with statBank := some b })
    | none =>
      let t := (s.inc (CAM.STAT_SKIP c)).raise (camPage c) 11
      (if fr.bound then t.flagRecord c fr.shot 8 else t, { fr with statDone := true })

/-- A pending window set becomes active (R192). -/
def State.applyWindows (s : State) (c : Nat) : State :=
  match (s.cam c).pendWins with
  | none => s
  | some l =>
    let t := s.setCam c { s.cam c with wins := l, pendWins := none }
    ((t.put (CAM.WIN_STATUS_ACTIVE_COUNT c) l.length).put (CAM.WIN_STATUS_PENDING c) 0).raise (camPage c) 5

/-- The windows that emit for a frame, and WIN_GEOM_ERR (R193). -/
def State.windowsAtFs (s : State) (fr : Frame) : State × Frame :=
  let c := fr.c
  let t := s.applyWindows c
  let l := (t.cam c).wins
  let bad := (l.filter (fun v => !v.fits fr.w fr.h fr.fmt)).foldl (fun acc v => setBitN acc v.j) 0
  ((t.put (CAM.WIN_GEOM_ERR_LO c) bad).put (CAM.WIN_GEOM_ERR_HI c) (bad / 2 ^ 32),
   { fr with wins := l.filter (fun v => v.fits fr.w fr.h fr.fmt) })

/-- A column table copied since the last FS comes into effect (R182). -/
def State.columnsAtFs (s : State) (fr : Frame) : State × Frame :=
  let c := fr.c
  let t := match (s.cam c).copied with
    | some b => (s.setCam c { s.cam c with copied := none }).put (CAM.FF_STATUS_COL_ACTIVE c) b
    | none => s
  (t, { fr with colBank := t.get (CAM.FF_STATUS_COL_ACTIVE c) })

/-- An FS reaches frame check: the frame opens, and everything R247 names is fixed for it. -/
def State.openAtFs (s : State) (c id : Nat) (m : Marker) : State :=
  let bits := (if m.fmtOk then [] else [10]) ++ (if m.hdrOk then [] else [13])
  let fr : Frame := { c := c, id := id, shot := 0, latch := s.latchRegs c, fstat := bits.foldl setBitN 0,
                      reported := !bits.isEmpty, allTagged := m.fmtOk && (m.hdrOk || m.tagged) }
  let a := s.bindAtFs fr m
  let a := a.1.refAtFs a.2
  let a := a.1.bankAtFs a.2
  let a := a.1.windowsAtFs a.2
  let a := a.1.columnsAtFs a.2
  a.1.setCam c { a.1.cam c with frames := (a.1.cam c).frames ++ [a.2] }

/-! ### Frame check (R99 to R101, R127) -/

/-- The head of slice k's intake leaves it. -/
def State.popFc (s : State) (k : Nat) : State := s.setSlice k { s.slice k with fc := (s.slice k).fc.drop 1 }

/-- FS_AT_FRAME_CHECK. -/
def State.fsCheck (s : State) (k : Nat) : State :=
  match (s.slice k).fc with
  | .fs c id m :: _ =>
    let t := s.popFc k
    if !t.portEnabled c || t.portFenced c then t.slag c m.bodyLen else t.openAtFs c id m
  | .fe _ _ :: _ => s | .line _ _ _ _ :: _ => s | .drop _ _ :: _ => s | .abandon _ _ :: _ => s | [] => s

/-- A report of a frame, injected or real (R109). -/
def Frame.report (fr : Frame) (bad clean : Bool) : Frame :=
  if bad then { fr with reported := true, allTagged := fr.allTagged && !clean } else fr

/-- LINE_COUNT of an FE against the packets received, and its FRAME_CRC against the payloads (R98, R100). -/
def Marker.countCheck (m : Marker) : Check := ⟨m.lineCount != m.valid, m.lineCount != m.cleanValid⟩
def Marker.crcCheck (m : Marker) : Check :=
  ⟨m.fcrcPresent && m.crc != m.frameCrc, m.fcrcPresent && m.cleanCrc != m.frameCrc⟩

/-- The checks of an FE against its frame (R98, R100, R101); its STATUS is kept (R83). -/
def Frame.feChecks (fr : Frame) (m : Marker) : Frame :=
  if !m.hdrOk then { fr.report true (!m.tagged) with fstat := setBitN fr.fstat 13 }
  else
    let count := m.countCheck
    let crc := m.crcCheck
    let bits := (if count.bad then [9] else []) ++ (if m.status != 0 then [12] else []) ++
      (if crc.bad then [7] else []) ++ (if m.fcrcPresent && m.crc == m.frameCrc && fr.payFailed then [8] else [])
    let fr := ((fr.report count.bad count.clean).report crc.bad crc.clean).report (m.status != 0) true
    { fr with fstat := bits.foldl setBitN fr.fstat, camStatus := m.status }

/-- REAL_SEEN by the reports that an FE makes of its frame: real ones to which tagged alterations also contribute (R109). -/
def State.noteFe (s : State) (c : Nat) (m : Marker) : State :=
  if !m.hdrOk then s
  else (s.noteReal (c / 2) (m.valid != m.cleanValid) [m.countCheck]).noteReal (c / 2) (m.crc != m.cleanCrc) [m.crcCheck]

/-- The open frame of port c closes by FE: with fewer than H lines, its missing lines become due as pad lines first. A
frame that intake has left for the next one has all its lines (R100, R127). -/
def State.closeByFe (s : State) (c : Nat) (fr : Frame) : State :=
  let l := s.link c
  let mine := l.frameNo == fr.id
  let s := s.setCam c { s.cam c with camStatus := fr.camStatus }
  if mine && l.e < s.portH c then
    let gap := l.gapTagged (s.portH c)
    let fr := { fr.report true (!gap.1) with fstat := setBitN fr.fstat 3, ended := true }
    let t := ((s.noteGapReal c gap).putFrame fr).setLink c { l with pads := s.portH c - l.e, closing := true }
    t.inc (CAM.FC_SHORT_FRAME c)
  else
    let t := (s.putFrame { fr with ended := true }).closeFrame c [] false
    if mine then t.intakeClosed c else t

/-- FE_AT_FRAME_CHECK. -/
def State.feCheck (s : State) (k : Nat) : State :=
  match (s.slice k).fc with
  | .fe c m :: _ =>
    let t := s.popFc k
    match t.openFrame c, m with
    | none, some x =>
      (((t.setLink c { t.link c with closing := false }).slag c x.bodyLen).inc (CAM.FC_ORPHAN c)).raise (gatePage (c / 2)) 10
    | none, none => t.setLink c { t.link c with closing := false }
    | some fr, some x => (t.noteFe c x).closeByFe c (fr.feChecks x)
    | some fr, none => (t.inc (CAM.FC_NO_FE c)).closeByFe c { fr.report true true with fstat := setBitN fr.fstat 5 }
  | .fs _ _ _ :: _ => s | .line _ _ _ _ :: _ => s | .drop _ _ :: _ => s | .abandon _ _ :: _ => s | [] => s

/-- A line enters its frame (R96, R101, R102). -/
def State.enterLine (s : State) (c : Nat) (fr : Frame) (x : Landed) (cnt : Nat) : State :=
  let prev := match fr.entered.getLast? with | some l => l.pix | none => s.padPixels c
  let pix := if x.replace then prev else x.pixels
  let bits := (if bitOf x.flags 0 then [0] else []) ++ (if bitOf x.flags 2 then [1] else []) ++
    (if bitOf x.flags 1 then [2] else []) ++ (if bitOf x.flags 4 then [15] else [])
  let fr := { fr with
    entered := fr.entered ++ [{ pix := pix, flags := x.flags, cnt := cnt }], fstat := bits.foldl setBitN fr.fstat,
    xstat := if bitOf x.flags 6 then setBitN fr.xstat 1 else fr.xstat, payFailed := fr.payFailed || x.payFail,
    reported := fr.reported || x.reported, allTagged := fr.allTagged && (!x.reported || x.allTagged) }
  let t := s.putFrame fr
  if fr.ended && fr.h ≤ fr.entered.length then t.closeFrame c [] false else t

/-- LINE_AT_FRAME_CHECK: a line, a discarded line, or the line that abandons its frame. -/
def State.lineCheck (s : State) (k : Nat) : State :=
  match (s.slice k).fc with
  | .line c _ x cnt :: _ =>
    let t := s.popFc k
    (match t.openFrame c with
     | some fr => t.enterLine c fr x cnt
     | none => if x.blocks = 0 then t else ((t.slag c x.bodyLen).inc (CAM.FC_ORPHAN c)).raise (gatePage (c / 2)) 10)
  | .drop c why :: _ =>
    let t := s.popFc k
    (match t.openFrame c with
     | some fr => (match why with
       | .silent => t
       | .long => t.putFrame { fr.report true true with fstat := setBitN fr.fstat 4 }
       | .order tagged => t.putFrame (fr.report true (!tagged)))
     | none => t)
  | .abandon c tagged :: _ =>
    let t := s.popFc k
    (match t.openFrame c with
     | some fr => (t.putFrame (fr.report true (!tagged))).closeFrame c [6] true
     | none => t)
  | .fs _ _ _ :: _ => s | .fe _ _ :: _ => s | [] => s

/-! ### The commands -/

/-- INTAKE_ITEM. -/
def execIntakeItem (k : Fin 33) (s : State) : Host.Outcome State Fault Refusal :=
  .next (s.when (s.sliceServes k) (·.intake k))
/-- FS_AT_FRAME_CHECK. -/
def execFsAtFrameCheck (k : Fin 33) (s : State) : Host.Outcome State Fault Refusal :=
  .next (s.when (s.sliceServes k) (·.fsCheck k))
/-- FE_AT_FRAME_CHECK. -/
def execFeAtFrameCheck (k : Fin 33) (s : State) : Host.Outcome State Fault Refusal :=
  .next (s.when (s.sliceServes k) (·.feCheck k))
/-- LINE_AT_FRAME_CHECK. -/
def execLineAtFrameCheck (k : Fin 33) (s : State) : Host.Outcome State Fault Refusal :=
  .next (s.when (s.sliceServes k) (·.lineCheck k))

end Sys2Proof.Machine
end

