-- ==== Sys2Proof/Machine/Nr.lean ====
section
/-!
DEFINITION. Noise reduction on lines: displacement, holds that time out, the lines it emits, and its reference in HBM
(R144 to R166).
-/

namespace Sys2Proof.Machine

/-! ### Displacement (R151, R158) -/

/-- The oldest frame of a port whose displacement is not yet computed. -/
def State.frameAtDisp (s : State) (c : Nat) : Option Frame := (s.cam c).frames.find? (fun f => !f.dispDone)

/-- NR_REF_POS, where it is valid. -/
def State.refPos (s : State) (c : Nat) : Option Nat :=
  if s.on (CAM.NR_REF_POS_HI_POS_VALID c) then
    some (s.get (CAM.NR_REF_POS_LO c) + 2 ^ 32 * s.get (CAM.NR_REF_POS_HI_POS_HI c)) else none

/-- DISPLACEMENT_COMPUTE. -/
def State.displaceFrame (s : State) (c : Nat) : State :=
  match s.frameAtDisp c with
  | none => s
  | some fr =>
    let r : Int × Nat :=
      if !fr.on (CAM.NR_CTRL_REG_EN c) then (0, 0)
      else match fr.pos, s.refPos c with
        | some p, some q =>
          match displacement (sext 32 (fr.get (CAM.NR_REG_SCALE c))) (fr.get (CAM.NR_REG_MAX c)) p q with
          | some (d, true) => (d, 0)
          | some (d, false) => (d, 4)
          | none => (0, 4)
        | _, _ => (0, 5)
    let t := s.put (CAM.NR_LAST_D c) (toBits 32 r.1)
    let fr := { fr with dispDone := true, d16 := r.1 }
    let u := if 2 ≤ fr.get (CAM.NR_CTRL_MODE c) && fr.cause == 0 && r.2 != 0 then t.noRef fr r.2 else (t, fr)
    (u.1.putFrame u.2).holdCheck c

/-- HOLD_TIMEOUT (R161). -/
def State.holdTimeout (s : State) (c : Nat) : State :=
  if s.get (CAM.NR_HOLD c) = 0 || !s.on (CAM.NR_STATUS_HOLDING c) then s else s.holdEnds c

/-! ### The lines it emits (R147 to R152, R156, R159) -/

/-- The frame of a port that is in noise reduction: the oldest with lines still to emit (R157). -/
def State.frameInNr (s : State) (c : Nat) : Option Frame := (s.cam c).frames.find? (fun f => !f.nrDone)

/-- A line is flagged PADDED or REPLACED. -/
def SLine.filler (l : SLine) : Bool := bitOf l.flags 2 || bitOf l.flags 1

/-- The lines from y - 2 to y + 2 as the spatial filter may use them (R148); the centre line is usable. -/
def Frame.lines5 (fr : Frame) (y : Nat) : Lines5 :=
  (List.range 5).map (fun i =>
    if y + i < 2 then none
    else match fr.entered[y + i - 2]? with
      | some l => if l.filler && i != 2 then none else some l.pix
      | none => none)

/-- The reference lines that line y needs, inside the frame and below the count of the line (R152, R160). -/
def Frame.neededRefs (fr : Frame) (y cnt : Nat) : List Nat :=
  (refLines fr.bayer fr.across fr.d16 y).filterMap (fun u =>
    if decide (0 ≤ u) && decide (u.toNat < fr.h) && decide (u.toNat < cnt) then some u.toNat else none)

/-- The reference lines that line y needs are read (R163). -/
def Frame.refsReady (fr : Frame) (y cnt : Nat) : Bool :=
  !fr.useRef || (fr.neededRefs y cnt).all (fun u => fr.refs.any (fun p => p.1 == u))

/-- A needed reference line failed (R163). -/
def Frame.refFailed (fr : Frame) (y cnt : Nat) : Bool :=
  fr.useRef && (fr.neededRefs y cnt).any (fun u => fr.refs.any (fun p => p.1 == u && p.2.isNone))

/-- A usable reference line. -/
def Frame.refLine (fr : Frame) (cnt u : Nat) : Option (List Nat) :=
  if u < cnt then (fr.refs.find? (fun p => p.1 == u)).bind Prod.snd else none

/-- The reference value of pixel (x, y), scaled where the slot scale applies; none where it is uncovered (R152, R159). -/
def Frame.refValue (fr : Frame) (cnt x y : Nat) : Option Nat :=
  if !fr.useRef then none
  else
    let r := refPixel fr.bayer fr.across fr.d16 fr.w fr.h x y (fr.refLine cnt)
    match fr.scale with
    | none => r
    | some g => r.map (scaleRef fr.bits g (fr.get (CAM.NR_PEDESTAL fr.c)))

/-- Line y as the stage emits it and as it writes it to the reference (R144, R147, R150, R156). -/
def Frame.filterLine (fr : Frame) (y : Nat) (l : SLine) : List Nat × List Nat :=
  let c := fr.c
  let ws := [fr.get (CAM.NR_SP_WEIGHTS_W1 c), fr.get (CAM.NR_SP_WEIGHTS_W2 c), fr.get (CAM.NR_SP_WEIGHTS_W3 c),
    fr.get (CAM.NR_SP_WEIGHTS_W4 c), fr.get (CAM.NR_SP_WEIGHTS_W5 c)]
  let noise := fr.noise
  let five := fr.lines5 y
  let cur (x : Nat) : Nat :=
    if fr.spatial && !l.filler then
      spatialPixel fr.bayer fr.bits noise ws (fr.get (CAM.NR_SP_CFG_SHIFT c)) (fr.get (CAM.NR_SP_CFG_TMUL c)) five x
    else l.pix.getD x 0
  let tp : Temporal := { b := fr.bits, noise := noise, k := fr.get (CAM.NR_TEMPORAL_K c), mgLo := fr.get (CAM.NR_TEMPORAL_MG_LO c),
                         mgHi := fr.get (CAM.NR_TEMPORAL_MG_HI c), dither := fr.on (CAM.NR_CTRL_DITHER c) }
  let xs := List.range l.pix.length
  if l.filler then (l.pix, xs.map (fun x => (fr.refValue l.cnt x y).getD (l.pix.getD x 0)))
  else
    let out := xs.map (fun x => if fr.temporal then temporalPixel tp x y (cur x) (fr.refValue l.cnt x y) else cur x)
    (out, out)

/-- The 16-byte header and the coded line of a reference slot (R153). -/
def Frame.refBytes (fr : Frame) (l : List Nat) : List Byte :=
  let code := codeLine fr.bits (cellStep fr.fmt) none l
  leBytes 16 code.length ++ code

/-- The issue of a frame's first line write (R155). -/
def State.firstWrite (s : State) (fr : Frame) : State :=
  let c := fr.c
  let b := fr.writeBuf
  let t := (s.put (CAM.NR_STATUS_READ_BUF c) b).put (refValid c b) 0
  let t := t.setRefBuf c b { acked := [], busy := [], sealed := false, writer := some fr.id }
  let t := (t.put (CAM.NR_REF_SHOT c) fr.shot).put (CAM.NR_REF_VER c) fr.version
  let p := fr.pos.getD 0
  ((t.put (CAM.NR_REF_POS_LO c) p).put (CAM.NR_REF_POS_HI_POS_HI c) (p / 2 ^ 32)).putB (CAM.NR_REF_POS_HI_POS_VALID c) fr.pos.isSome

/-- The write of line y to the buffer that the frame writes goes out (R155, R156). -/
def State.writeRef (s : State) (fr : Frame) (y : Nat) (l : List Nat) : State :=
  let t := if fr.wrote then s else s.firstWrite fr
  let b := fr.writeBuf
  let r := t.refBuf fr.c b
  (t.setRefBuf fr.c b { r with busy := r.busy ++ [y] }).hbmWrite (refAddr fr.c b fr.w fr.bits y) (fr.refBytes l)

/-- NR_LINE_EMIT. -/
def State.nrEmit (s : State) (c : Nat) : State :=
  match s.frameInNr c with
  | none => s
  | some fr =>
    let y := fr.nr.length
    match fr.entered[y]? with
    | none => s
    | some l =>
      if !(fr.closed || decide (y + 3 ≤ fr.entered.length)) || !(fr.dispDone || fr.get (CAM.NR_CTRL_MODE c) < 2) ||
          !fr.refsReady y l.cnt then s
      else
        let px := fr.filterLine y l
        let bad := fr.refFailed y l.cnt
        let t := if fr.temporal then s.writeRef fr y px.2 else s
        let t := t.putFrame { fr with
          nr := fr.nr ++ [{ l with pix := px.1, flags := if bad then setBitN l.flags 7 else l.flags }],
          xstat := if bad then setBitN fr.xstat 2 else fr.xstat, wrote := fr.wrote || fr.temporal }
        (t.sealBoth c).holdCheck c

/-! ### Reference reads and writes (R155, R157, R163) -/

/-- The bytes of a slot from an address reach a fenced pseudo-channel (R359). -/
def State.spanFails (s : State) (a n : Nat) : Bool :=
  s.anyChannelFenced && (List.range n).any (fun i => s.hbmFails (a + i))

/-- The width and pixel bits that a buffer's lines have: those of the port, which is RWL while it writes them. -/
def State.refSlotOf (s : State) (c : Nat) : Nat := refSlot (s.portW c) (s.portBits c)

/-- The HBM address of line y of a port's buffer. -/
def State.refLineAddr (s : State) (c b y : Nat) : Nat := refAddr c b (s.portW c) (s.portBits c) y

/-- The write of line y has ended: acknowledged, or failed (R155, R163). -/
def State.refWriteEnd (s : State) (c b y : Nat) (ok : Bool) : State :=
  let r := s.refBuf c b
  if !r.busy.contains y then s
  else
    let acked := if ok && !s.spanFails (s.refLineAddr c b y) (s.refSlotOf c) then y :: r.acked else r.acked
    let t := s.setRefBuf c b { r with busy := r.busy.erase y, acked := acked }
    let t := t.put (refValid c b) (gapFree acked acked.length 0)
    (t.sealCheck c b).holdCheck c

/-- The reference line that a slot holds: none when its coded length exceeds the slot or it does not decode (R163). -/
def State.readRef (s : State) (fr : Frame) (a : Nat) : Option (List Nat) :=
  let len := leNat (s.hbmRead a 4)
  if refSlot fr.w fr.bits < 16 + len then none
  else decodeLine fr.bits (cellStep fr.fmt) fr.w none (s.hbmRead (a + 16) len)

/-- REF_READ_DONE: line y of the buffer that the frame in noise reduction reads. A line that cannot be used raises REF_ERR
(R163). -/
def State.refRead (s : State) (c y : Nat) (ecc : Ecc) : State :=
  match s.frameInNr c with
  | none => s
  | some fr =>
    if !fr.useRef || fr.refs.any (fun p => p.1 == y) || s.get (refValid c fr.readBuf) ≤ y || fr.h ≤ y then s
    else
      let a := refAddr c fr.readBuf fr.w fr.bits y
      let fails := s.spanFails a (refSlot fr.w fr.bits)
      let v := if fails then none else match ecc with | .ue => none | .ce => s.readRef fr a | .good => s.readRef fr a
      let t := (s.touch a (refSlot fr.w fr.bits)).putFrame { fr with refs := fr.refs ++ [(y, v)] }
      let t := if v.isNone then t.raise (camPage c) 2 else t
      if fails then t else match ecc with | .ue => t.hbmUe a | .ce => t.hbmCe a | .good => t

/-! ### The commands -/

/-- The slice that serves port c works. -/
def State.stageRuns (s : State) (c : Nat) : Bool := s.sliceServes (s.serving c)

/-- DISPLACEMENT_COMPUTE. -/
def execDisplacementCompute (c : Fin 256) (s : State) : Host.Outcome State Fault Refusal :=
  .next (s.when (s.stageRuns c) (·.displaceFrame c))
/-- HOLD_TIMEOUT. -/
def execHoldTimeout (c : Fin 256) (s : State) : Host.Outcome State Fault Refusal :=
  .next (s.when (s.stageRuns c) (·.holdTimeout c))
/-- NR_LINE_EMIT. -/
def execNrLineEmit (c : Fin 256) (s : State) : Host.Outcome State Fault Refusal :=
  .next (s.when (s.stageRuns c) (·.nrEmit c))
/-- REF_WRITE_ACK: counts and seals are in the CAM page, and a slice may rest with writes outstanding (R155). -/
def execRefWriteAck (c : Fin 256) (buf : Fin 2) (y : Nat) (s : State) : Host.Outcome State Fault Refusal :=
  .next (s.when s.running (·.refWriteEnd c buf y true))
/-- REF_WRITE_FAIL. -/
def execRefWriteFail (c : Fin 256) (buf : Fin 2) (y : Nat) (s : State) : Host.Outcome State Fault Refusal :=
  .next (s.when s.running (·.refWriteEnd c buf y false))
/-- REF_READ_DONE. -/
def execRefReadDone (c : Fin 256) (y : Nat) (ecc : Ecc) (s : State) : Host.Outcome State Fault Refusal :=
  .next (s.when (s.stageRuns c) (·.refRead c y ecc))
/-- REF_RESET. -/
def execRefReset (c : Fin 256) (s : State) : Host.Outcome State Fault Refusal :=
  .next (s.when s.hostOn (fun t => t.setCam c { t.cam c with resetDue := true }))

end Sys2Proof.Machine
end

