-- ==== Sys2Proof/Machine/Windows.lean ====
section
/-!
DEFINITION. Calibration tables, the correction stages, the window engine and the statistics banks (R169 to R193, R247 to
R250).
-/

namespace Sys2Proof.Machine

/-! ### Table banks (R169 to R173) -/

/-- HBM byte address of the table region of port c (R169). -/
def tableBase (c : Nat) : Nat := 0xD00000000 + c * 0x400000

/-- Offset in the region of a bank: SEL 0 defect list, 1 grid, 2 column table (R169). -/
def bankOffset (sel bank : Nat) : Nat :=
  if sel = 0 then bank * 0x80000 else if sel = 1 then 0x100000 + bank * 0x40000 else 0x180000 + bank * 0x10000

/-- The VALID bit of a bank is set (R170). -/
def State.bankValid (s : State) (c sel bank : Nat) : Bool := s.bitAt (CAM.TBL_STATUS_VALID c) (2 * sel + bank)

/-- The field that selects a bank of a table (R173). -/
def selField (c sel : Nat) : Fld :=
  if sel = 0 then CAM.FT_CTRL_LIST_BANK c else if sel = 1 then CAM.FF_CTRL_GRID_BANK c else CAM.FF_CTRL_COL_BANK c

/-- A bank is in use: its table's selection names it, or the port's open frame latched it (R171). -/
def State.bankInUse (s : State) (c sel bank : Nat) : Bool :=
  s.get (selField c sel) == bank ||
  (match s.openFrame c with
   | some fr => (if sel = 2 then fr.colBank else fr.get (selField c sel)) == bank
   | none => false)

/-- Geometry of grid bank n from a register word (R185). -/
def gridOf (w : Word) : GridGeom := ⟨getBits w 7 0, getBits w 23 16, getBits w 11 8, getBits w 27 24⟩

/-- The geometry is in range (R185). -/
def GridGeom.inRange (g : GridGeom) : Bool :=
  decide (2 ≤ g.gx) && decide (g.gx ≤ 129) && decide (2 ≤ g.gy) && decide (g.gy ≤ 129) &&
  decide (1 ≤ g.sx) && decide (g.sx ≤ 12) && decide (1 ≤ g.sy) && decide (g.sy ≤ 12)

/-- TBL_LEN is valid for a table (R171). -/
def State.tblLenOk (s : State) (c sel bank : Nat) : Bool :=
  let n := s.get (CAM.TBL_LEN c)
  if sel = 0 then n != 0 && n % 8 == 0 && decide (n ≤ 524288)
  else if sel = 1 then
    n == (gridOf (s.word (CAM.FF_GRID c bank).addr)).bytes (isBayer (s.get (CAM.FMT_CFG_PIXEL_FORMAT c)))
  else n != 0 && n % 4 == 0 && decide (n ≤ 65536)

/-- Why a load is refused (R171). -/
def State.loadRefusal (s : State) (c sel bank : Nat) : Option Nat :=
  if s.on (CAM.TBL_STATUS_BUSY c) then some 0x56
  else if sel = 3 || s.get (CAM.TBL_HOST_LO c) % 64 != 0 || !s.tblLenOk c sel bank then some 0x55
  else if s.bankInUse c sel bank then some 0x53
  else none

/-- TBL_LOAD (R170, R171). -/
def State.tblLoad (s : State) (c sel bank : Nat) : State :=
  match s.loadRefusal c sel bank with
  | some code => s.refuse (camPage c) code
  | none =>
    let t := (s.put (CAM.TBL_STATUS_BUSY c) 1).putBit (CAM.TBL_STATUS_VALID c) (2 * sel + bank) false
    { t with loads := t.loads ++
        [{ port := c, sel := sel, bank := bank, addr := s.get64 (CAM.TBL_HOST_LO c) (CAM.TBL_HOST_HI c),
           len := s.get (CAM.TBL_LEN c) }] }

/-- The RESULT of a load that ends, and the state with its bytes written (R170, R172). -/
def State.loadResult (s : State) (x : TableLoad) (r : LoadEnd) : State × Nat :=
  match r with
  | .hostErr => (s, 1)
  | .hbmErr => (s, 3)
  | .data bytes =>
    let a := tableBase x.port + bankOffset x.sel x.bank
    let t := s.hbmWrite a bytes
    (t, if s.spanFails a x.len then 3 else if x.sel = 0 && !defectsOk bytes then 2 else 0)

/-- TBL_LOAD_DONE (R170, R172): the first four loads proceed, and later ones wait (R300). -/
def State.tblLoadDone (s : State) (c : Nat) (r : LoadEnd) : State :=
  match (s.loads.take 4).find? (fun x => x.port == c) with
  | none => s
  | some x =>
    match r with
    | .data bytes => if bytes.length = x.len then fin x else s
    | .hostErr => fin x
    | .hbmErr => fin x
where
  /-- The load of x ends. -/
  fin (x : TableLoad) : State :=
    let k := s.loadResult x r
    let t := { k.1 with loads := k.1.loads.filter (fun y => y.port != c) }
    let t := (t.put (CAM.TBL_STATUS_BUSY c) 0).put (CAM.TBL_STATUS_RESULT c) k.2
    let t := if k.2 = 0 then
        (t.putBit (CAM.TBL_STATUS_VALID c) (2 * x.sel + x.bank) true).put (CAM.TBL_LEN_USED c (2 * x.sel + x.bank)) x.len
      else t
    let t := t.raise (camPage c) 3
    if k.2 = 0 then t else t.raise (camPage c) 4

/-! ### Selections (R173, R182, R185) -/

/-- FT_CTRL written (R173). -/
def State.writeFtCtrl (s : State) (c : Nat) (w : Word) : State :=
  if getBits w 0 0 = 1 && !s.bankValid c 0 (getBits w 2 2) then s.refuse (camPage c) 0x54
  else s.put (CAM.FT_CTRL c) w.toNat

/-- FF_CTRL written: a write of COL_BANK starts the copy of the bank it names (R173, R182). -/
def State.writeFfCtrl (s : State) (c : Nat) (w : Word) : State :=
  let mode := getBits w 1 0
  let grid := getBits w 4 4
  let col := getBits w 5 5
  if mode = 3 then s.refuse (camPage c) 0x58
  else if (mode = 1 && !s.bankValid c 1 grid) || (mode = 2 && !s.bankValid c 2 col) then s.refuse (camPage c) 0x54
  else
    let t := s.put (CAM.FF_CTRL c) w.toNat
    ((t.put (CAM.FF_STATUS_COL_LOADING c) 1).setCam c { t.cam c with copying := some col }).sliceWake (t.serving c)

/-- COL_COPY_DONE (R182, R186). -/
def State.colCopyDone (s : State) (c : Nat) (ecc : Ecc) : State :=
  match (s.cam c).copying with
  | none => s
  | some b =>
    let a := tableBase c + bankOffset 2 b
    let n := s.get (CAM.TBL_LEN_USED c (4 + b))
    let t := ((s.touch a n).put (CAM.FF_STATUS_COL_LOADING c) 0).setCam c { s.cam c with copying := none }
    let fails := s.spanFails a n
    let done := t.setCam c { t.cam c with cols := tput (t.cam c).cols b (s.hbmRead a n) [], copied := some b }
    if fails then t.raise (camPage c) 6
    else match ecc with
      | .ue => (t.raise (camPage c) 6).hbmUe a
      | .ce => done.hbmCe a
      | .good => done

/-- The column tables of a port are loaded again from HBM into its new or powered-up slice: one that cannot be read
reports CAL_ERR (R143, R186, R368, R401). -/
def State.reloadColumns (s : State) (c : Nat) : State :=
  s.each (s.cam c).cols (fun (t : State) (p : Nat × List Byte) =>
    let a := tableBase c + bankOffset 2 p.1
    let n := t.get (CAM.TBL_LEN_USED c (4 + p.1))
    if t.spanFails a n then (t.setCam c { t.cam c with cols := tdel (t.cam c).cols p.1 }).raise (camPage c) 6
    else (t.touch a n).setCam c { t.cam c with cols := tput (t.cam c).cols p.1 (t.hbmRead a n) [] })

/-- FF_GRID0 or FF_GRID1 written: the state of the bank is tested before the value (R185, R423). -/
def State.writeGrid (s : State) (c n : Nat) (w : Word) : State :=
  if s.bankInUse c 1 n then s.refuse (camPage c) 0x53
  else if !(gridOf w).inRange then s.refuse (camPage c) 0x57
  else (s.put (CAM.FF_GRID c n) w.toNat).putBit (CAM.TBL_STATUS_VALID c) (2 + n) false

/-! ### The correction stages (R175 to R186) -/

/-- The oldest frame of a port with lines still to leave the correction stages. -/
def State.frameInCorr (s : State) (c : Nat) : Option Frame := (s.cam c).frames.find? (fun f => !f.corrDone)

/-- Bytes off .. off + n - 1 of a port's table region cannot be read: the read was uncorrectable, or a pseudo-channel is
fenced (R186, R359). -/
def State.tblFails (s : State) (c : Nat) (bad : List Nat) (off n : Nat) : Bool :=
  (List.range n).any (fun i => bad.contains (off + i) || s.hbmFails (tableBase c + off + i))

/-- The entries of the defect list a frame latched, each with whether its read fails (R173, R174). -/
def State.defectList (s : State) (fr : Frame) (bad : List Nat) : List (Defect × Bool) :=
  if !fr.on (CAM.FT_CTRL_EN fr.c) then []
  else
    let off := bankOffset 0 (fr.get (CAM.FT_CTRL_LIST_BANK fr.c))
    let n := fr.get (CAM.TBL_LEN_USED fr.c (fr.get (CAM.FT_CTRL_LIST_BANK fr.c))) / 8
    (List.range n).filterMap (fun i =>
      (parseDefect (s.hbmRead (tableBase fr.c + off + 8 * i) 8)).map (fun d => (d, s.tblFails fr.c bad (off + 8 * i) 8)))

/-- What fettle works on at line y of a frame: the lines up to y + 2 have entered it (R176, R177, R180, R181). -/
def Frame.fettleIn (fr : Frame) (ds : List Defect) (y : Nat) : FettleIn :=
  { bayer := fr.bayer, w := fr.w, rows := fun u => if y + 2 < u then none else (fr.nr[u]?).map (fun l => l.pix),
    padded := fun y => match fr.nr[y]? with | some l => bitOf l.flags 2 | none => false,
    defects := ds, dynEn := fr.on (CAM.FT_CTRL_DYN_EN fr.c), hot := fr.get (CAM.FT_DYN_TH_HOT_TH fr.c),
    cold := fr.get (CAM.FT_DYN_TH_COLD_TH fr.c) }

/-- Knot (i, j) of a plane of the grid bank a frame latched (R184); none where it cannot be read. -/
def State.knot (s : State) (fr : Frame) (bad : List Nat) (g : GridGeom) (plane i j : Nat) : Option Nat :=
  let off := bankOffset 1 (fr.get (CAM.FF_CTRL_GRID_BANK fr.c)) + 2 * (plane * g.gx * g.gy + j * g.gx + i)
  if s.tblFails fr.c bad off 2 then none else some (leNat (s.hbmRead (tableBase fr.c + off) 2))

/-- The four knots of a pixel can be read. -/
def knotsOk (g : GridGeom) (knot : Nat → Nat → Option Nat) (xp yp : Nat) : Bool :=
  let i := min (min xp ((g.gx - 1) * 2 ^ g.sx) / 2 ^ g.sx) (g.gx - 2)
  let j := min (min yp ((g.gy - 1) * 2 ^ g.sy) / 2 ^ g.sy) (g.gy - 2)
  (knot i j).isSome && (knot (i + 1) j).isSome && (knot i (j + 1)).isSome && (knot (i + 1) (j + 1)).isSome

/-- Gain and offset of a column (R182, R183): beyond the loaded length, gain 0x1000 and offset 0. -/
def columnEntry (l : List Byte) (x : Nat) : Nat × Int :=
  if l.length < 4 * x + 4 then (0x1000, 0)
  else
    let lo := leAt l (4 * x) 2
    let hi := leAt l (4 * x + 2) 2
    if Config.columnGainLow then (lo, sext 16 hi) else (hi, sext 16 lo)

/-- Black level of a phase (R183). -/
def Frame.black (fr : Frame) (phase : Nat) : Int :=
  if phase = 0 then fr.get (CAM.FF_BLACK01_BL0 fr.c) else if phase = 1 then fr.get (CAM.FF_BLACK01_BL1 fr.c)
  else if phase = 2 then fr.get (CAM.FF_BLACK23_BL2 fr.c) else fr.get (CAM.FF_BLACK23_BL3 fr.c)

/-- Flat-field and black level on pixel (x, y) of value p (R183), and whether it needed a knot that cannot be read. -/
def State.flatField (s : State) (fr : Frame) (bad : List Nat) (x y p : Nat) : Nat × Bool :=
  let mode := fr.get (CAM.FF_CTRL_MODE fr.c)
  let phase := phaseOf fr.bayer x y
  let off := sext 16 (fr.get (CAM.FF_OFFSET fr.c))
  if mode = 1 then
    let g := gridOf (tget fr.latch (CAM.FF_GRID fr.c (fr.get (CAM.FF_CTRL_GRID_BANK fr.c))).addr
      (resetWord (CAM.FF_GRID fr.c (fr.get (CAM.FF_CTRL_GRID_BANK fr.c))).addr))
    let k := s.knot fr bad g phase
    let xp := if fr.bayer then x / 2 else x
    let yp := if fr.bayer then y / 2 else y
    (flatPixel fr.bits (gridGain g k xp yp) off (fr.black phase) p, !knotsOk g k xp yp)
  else if mode = 2 then
    let e := columnEntry (tget (s.cam fr.c).cols fr.colBank []) x
    (flatPixel fr.bits e.1 (off + e.2) (fr.black phase) p, false)
  else (flatPixel fr.bits 0x1000 off (fr.black phase) p, false)

/-- Line y may leave the correction stages: line y + 2 has entered, or the frame has closed (R181). -/
def Frame.corrReady (fr : Frame) (y : Nat) : Bool :=
  decide (y < fr.nr.length) && (fr.nrDone || decide (y + 3 ≤ fr.nr.length))

/-- Line y of a frame in the correction stages: its pixels, the counts of R178 and R180, and whether a table read failed. -/
def State.correctLine (s : State) (fr : Frame) (bad : List Nat) (y : Nat) (l : SLine) :
    List Nat × (Nat × Nat × Nat) × Bool :=
  let all := s.defectList fr bad
  let f := fr.fettleIn ((all.filter (fun d => !d.2)).map Prod.fst) y
  let dm := fr.get (CAM.FT_CTRL_DYN_METHOD fr.c)
  let px := (List.range l.pix.length).map (fun x =>
    let r := f.fix dm x y
    (s.flatField fr bad x y r.1, r.2))
  let lost := all.any (fun d => d.2 && (d.1.kind == .column || d.1.y == y))
  (px.map (fun r => r.1.1),
   ((px.map (fun r => r.2.1)).sum, (px.map (fun r => r.2.2.1)).sum, (px.map (fun r => r.2.2.2)).sum),
   lost || px.any (fun r => r.1.2))

/-- The spans of a port's table region, offset and length, that line y of a frame reads: the defect list, and the rows of knots
on both sides of the line in the planes of its phases (R173, R174, R184). -/
def Frame.tableSpans (fr : Frame) (y : Nat) : List (Nat × Nat) :=
  let bank := fr.get (CAM.FT_CTRL_LIST_BANK fr.c)
  let list := if fr.on (CAM.FT_CTRL_EN fr.c) then [(bankOffset 0 bank, fr.get (CAM.TBL_LEN_USED fr.c bank))] else []
  let gb := fr.get (CAM.FF_CTRL_GRID_BANK fr.c)
  let g := gridOf (tget fr.latch (CAM.FF_GRID fr.c gb).addr (resetWord (CAM.FF_GRID fr.c gb).addr))
  let j := min (min (if fr.bayer then y / 2 else y) ((g.gy - 1) * 2 ^ g.sy) / 2 ^ g.sy) (g.gy - 2)
  let planes := if fr.bayer then [y % 2 * 2, y % 2 * 2 + 1] else [0]
  let grid := if fr.get (CAM.FF_CTRL_MODE fr.c) = 1 then
      planes.map (fun p => (bankOffset 1 gb + 2 * (p * g.gx * g.gy + j * g.gx), 4 * g.gx)) else []
  list ++ grid

/-- Line y of a frame reads its tables: the pseudo-channels are woken, and uncorrectable reads are reported by the HBM page, once
for each word (R186, R405). -/
def State.readTables (s : State) (fr : Frame) (bad : List Nat) (y : Nat) : State :=
  let spans := fr.tableSpans y
  let t := s.each spans (fun t p => t.touch (tableBase fr.c + p.1) p.2)
  let read := bad.filter (fun o => spans.any (fun p => decide (p.1 ≤ o) && decide (o < p.1 + p.2)))
  t.each (read.map (fun o => hbmWord (tableBase fr.c + o))).dedup State.hbmUe

/-- FETTLE_LINE_EMIT. -/
def State.fettleEmit (s : State) (c : Nat) (bad : List Nat) : State :=
  match s.frameInCorr c with
  | none => s
  | some fr =>
    let y := fr.corr.length
    match fr.nr[y]? with
    | none => s
    | some l =>
      if !fr.corrReady y then s
      else if bitOf l.flags 2 then (s.putFrame { fr with corr := fr.corr ++ [l] }).retireFrames c
      else
        let r := s.correctLine fr bad y l
        let t := ((s.add (CAM.FT_FIXED c) r.2.1.1).add (CAM.FT_DYN c) r.2.1.2.1).add (CAM.FT_UNFIXED c) r.2.1.2.2
        let t := (if r.2.2 then t.raise (camPage c) 6 else t).readTables fr bad y
        let t := t.putFrame { fr with
          corr := fr.corr ++ [{ l with pix := r.1, flags := if r.2.2 then setBitN l.flags 8 else l.flags }],
          xstat := if r.2.2 then setBitN fr.xstat 3 else fr.xstat }
        t.retireFrames c

/-! ### The window engine (R188 to R194) -/

/-- The oldest frame of a port whose windows have lines to emit; the frames behind one whose statistics packet is still to come
wait for it (R250). -/
def State.frameInWin (s : State) (c : Nat) : Option Frame :=
  ((s.cam c).frames.find? (fun f => f.nextOut.isSome || !f.statDone)).filter (fun f => f.nextOut.isSome)

/-- The output samples of line r of a window of a frame (R188, R189). -/
def Frame.outLine (fr : Frame) (v : Win) (r : Nat) : List Nat :=
  let ins := (v.inputLines fr.fmt r).map (fun y => match fr.corr[y]? with | some l => l.pix | none => [])
  (v.samples fr.fmt ins).map (v.outSample fr.fmt)

/-- The packet of output line r of a window (R190, R194, R261). -/
def Frame.winPacket (fr : Frame) (v : Win) (r : Nat) : Packet :=
  let u := cellStep fr.fmt
  let chained := v.code == 2 && decide (u ≤ r)
  let flags := (v.inputLines fr.fmt r).foldl (fun acc y =>
    match fr.corr[y]? with | some l => Nat.lor acc l.flags | none => acc) 0
  { queue := v.queue, prio := v.prio,
    payload := v.payload fr.fmt (if chained then some (fr.outLine v (r - u)) else none) (fr.outLine v r),
    frame := some fr.id,
    hdr := { kind := 1,
             hflags := b2n (r == 0) + 2 * b2n (r + 1 == v.ho fr.fmt) + 4 * b2n (v.code != 0) + 8 * b2n chained + 16 * v.prio,
             srcUnit := fr.c, srcSub := v.j, sample := v.sampleField fr.fmt, pixfmt := fr.fmt, shot := fr.shot,
             version := fr.version, line := r, samples := v.wo fr.fmt, lflags := flags, tTrig := fr.tTrig,
             nrCause := fr.cause } }

/-- WINDOW_LINE_EMIT. -/
def State.windowEmit (s : State) (c : Nat) : State :=
  match s.frameInWin c with
  | none => s
  | some fr =>
    match fr.nextOut with
    | none => s
    | some (v, r) =>
      let t := s.pushPacket (s.serving c) (fr.winPacket v r)
      t.putFrame { fr with winNext := tput fr.winNext v.j (r + 1) 0 }

/-! ### Statistics (R248 to R250) -/

/-- The region of interest of a frame, clipped to it (R248). -/
def Frame.roi (fr : Frame) : Roi :=
  let x0 := fr.get (CAM.STAT_ROI_X_X0 fr.c)
  let y0 := fr.get (CAM.STAT_ROI_Y0 fr.c)
  ⟨x0, y0, min (fr.get (CAM.STAT_ROI_X_WIDTH fr.c)) (fr.w - x0), min (fr.get (CAM.STAT_ROI_H fr.c)) (fr.h - y0)⟩

/-- The statistics packet of a frame that took bank b (R250). -/
def State.statPacket (s : State) (fr : Frame) (b : Nat) : Packet :=
  let prio := fr.get (CAM.STAT_QUEUE_PRIO fr.c)
  let lines := (List.range fr.corr.length).filterMap (fun y => (fr.corr[y]?).map (fun l => (y, bitOf l.flags 2, l.pix)))
  { queue := fr.get (CAM.STAT_QUEUE_QUEUE fr.c), prio := prio,
    payload := s.statRecord fr ++ statPayload fr.bayer fr.bits fr.cut fr.roi lines,
    frame := some fr.id, statBank := some b,
    hdr := { kind := 2, hflags := 16 * prio, srcUnit := fr.c, pixfmt := fr.fmt, shot := fr.shot, version := fr.version,
             xstat := fr.xstat, tTrig := fr.tTrig, nrCause := fr.cause } }

/-- STAT_BANK_CLOSE: the last line of the oldest frame with a bank leaves statistics; its packet goes behind the last window
packet of the frame (R250). -/
def State.statClose (s : State) (c : Nat) : State :=
  match (s.cam c).frames.find? (fun f => !f.statDone) with
  | none => s
  | some fr =>
    match fr.statBank with
    | none => s
    | some b =>
      if !fr.winDone then s
      else
        let t := s.pushPacket (s.serving c) (s.statPacket fr b)
        t.putFrame { fr with statDone := true }

/-! ### The commands -/

/-- FETTLE_LINE_EMIT. -/
def execFettleLineEmit (c : Fin 256) (bad : List Nat) (s : State) : Host.Outcome State Fault Refusal :=
  .next (s.when (s.stageRuns c) (·.fettleEmit c bad))
/-- WINDOW_LINE_EMIT. -/
def execWindowLineEmit (c : Fin 256) (s : State) : Host.Outcome State Fault Refusal :=
  .next (s.when (s.stageRuns c) (·.windowEmit c))
/-- STAT_BANK_CLOSE. -/
def execStatBankClose (c : Fin 256) (s : State) : Host.Outcome State Fault Refusal :=
  .next (s.when (s.stageRuns c) (·.statClose c))
/-- TBL_LOAD. -/
def execTblLoad (c : Fin 256) (sel : Fin 4) (bank : Fin 2) (s : State) : Host.Outcome State Fault Refusal :=
  .next (s.when s.hostOn (·.tblLoad c sel bank))
/-- TBL_LOAD_DONE. -/
def execTblLoadDone (c : Fin 256) (r : LoadEnd) (s : State) : Host.Outcome State Fault Refusal :=
  .next (s.when s.running (·.tblLoadDone c r))
/-- COL_BANK_WRITE. -/
def execColBankWrite (c : Fin 256) (bank : Fin 2) (s : State) : Host.Outcome State Fault Refusal :=
  .next (s.when s.hostOn (fun t => t.writeFfCtrl c (setBits (t.word (CAM.FF_CTRL c).addr) 5 5 bank)))
/-- COL_COPY_DONE. -/
def execColCopyDone (c : Fin 256) (ecc : Ecc) (s : State) : Host.Outcome State Fault Refusal :=
  .next (s.when (s.stageRuns c) (·.colCopyDone c ecc))
/-- FF_GRID_WRITE. -/
def execFfGridWrite (c : Fin 256) (n : Fin 2) (v : Word) (s : State) : Host.Outcome State Fault Refusal :=
  .next (s.when s.hostOn (·.writeGrid c n v))

end Sys2Proof.Machine
end

