-- ==== Sys2Proof/Machine/Admission.lean ====
section
/-!
DEFINITION. Gate modes, enables and admission: demand of ports, slices, seams and moulds, the tests of R130 to R137, and
window commits (R114 to R117, R128 to R142, R154, R187, R192).
-/

namespace Sys2Proof.Machine

/-! ### Exact fractions -/

/-- A non-negative fraction: numerator and denominator. -/
abbrev Frac := Nat × Nat

/-- The sum of two fractions. -/
def Frac.plus (a b : Frac) : Frac := (a.1 * b.2 + b.1 * a.2, a.2 * b.2)

/-- The sum of a list of fractions. -/
def fracSum (l : List Frac) : Frac := l.foldl Frac.plus (0, 1)

/-! ### Demand (R129 to R135) -/

/-- The demand that is tested: which ports count as enabled, and the window set of each. -/
structure Demand where
  on : Nat → Bool
  wins : Nat → List Win

/-- The demand admitted now: pending window sets count from their acceptance (R192). -/
def State.demand (s : State) : Demand :=
  { on := s.portEnabled, wins := fun c => (s.cam c).pendWins.getD (s.cam c).wins }

/-- The demand with port c as given. -/
def Demand.withPort (d : Demand) (c : Nat) (on : Bool) (wins : List Win) : Demand :=
  { on := fun n => if n = c then on else d.on n, wins := fun n => if n = c then wins else d.wins n }

/-- V_c (R129). -/
def State.camVec (s : State) (c : Nat) : Nat := ceilDiv (s.portW c) 16 * s.get (CAM.LINE_RATE c)

/-- R_j of a window (R129). -/
def State.winRate (s : State) (c : Nat) (v : Win) : Frac :=
  (s.get (CAM.LINE_RATE c) * v.ho (s.get (CAM.FMT_CFG_PIXEL_FORMAT c)), s.portH c)

/-- The HBM charges of a port in whole MB/s (R133). -/
def State.portHbm (s : State) (c : Nat) (wins : List Win) : Nat :=
  let fmt := s.get (CAM.FMT_CFG_PIXEL_FORMAT c)
  let nr : Frac := if 2 ≤ s.get (CAM.NR_CTRL_MODE c) then (s.camVec c * s.portBits c * 4635, 1000) else (0, 1)
  let out := wins.map (fun v => ((512 * ceilDiv (64 + v.lineBytes fmt) 256 * (s.winRate c v).1, (s.winRate c v).2) : Frac))
  let f := nr.plus (fracSum out)
  ceilDiv f.1 (f.2 * 1000000)

/-- Σ V_c of the enabled ports of slice k (R131). -/
def State.sliceVec (s : State) (d : Demand) (k : Nat) : Nat :=
  sumTo 8 (fun i => if d.on (8 * k + i) then s.camVec (8 * k + i) else 0)

/-- The window output of slice k in vectors per second, exact (R132). -/
def State.sliceWin (s : State) (d : Demand) (k : Nat) : Frac :=
  fracSum ((List.range 8).map (fun i =>
    let c := 8 * k + i
    if d.on c then
      fracSum ((d.wins c).map (fun v =>
        ((ceilDiv (v.wo (s.get (CAM.FMT_CFG_PIXEL_FORMAT c))) 16 * (s.winRate c v).1, (s.winRate c v).2) : Frac)))
    else (0, 1)))

/-- The ports of the members of seam u. -/
def State.memberPorts (s : State) (u : Nat) : List Nat :=
  (List.range (s.seamMembers u)).map (fun i => s.get (SEAM.MEM_PORT u i))

/-- The LINE_RATE of a seam: that of its enabled members, else of member 0 (R137). -/
def State.seamRate (s : State) (d : Demand) (u : Nat) : Nat :=
  match (s.memberPorts u).find? d.on with
  | some c => s.get (CAM.LINE_RATE c)
  | none => if s.seamMembers u = 0 then 0 else s.get (CAM.LINE_RATE (s.get (SEAM.MEM_PORT u 0)))

/-- Σ V_c over the enabled members of seam u (R134, R137). -/
def State.seamVec (s : State) (d : Demand) (u : Nat) : Nat := (((s.memberPorts u).filter d.on).map s.camVec).sum

/-- The cells of one strip line (R209). -/
def State.stripCells (s : State) (u : Nat) : Nat :=
  ((chunks 32768 (List.range (s.get (SEAM.SEAM_WIDTH u)))).map (fun l => ceilDiv (64 + l.length * s.seamSample u) 256)).sum

/-- The HBM charges of seam u in whole MB/s (R133). -/
def State.seamHbm (s : State) (d : Demand) (u : Nat) : Nat :=
  ceilDiv (64 * s.seamVec d u + 512 * s.stripCells u * s.seamRate d u) 1000000

/-- The HBM charge of mould m in whole MB/s (R133). -/
def State.mouldHbm (s : State) (m : Nat) : Nat :=
  let w := s.get (MOULD.MOULD_SIZE_WIDTH m)
  let h := s.get (MOULD.MOULD_SIZE_HEIGHT m)
  let f := s.get (MOULD.MOULD_RATE m)
  ceilDiv (2 * w * h * f * s.mouldBytes m + 512 * ceilDiv (64 + w * s.mouldBytes m) 256 * h * f) 1000000

/-- The pixel rate of the source of a tile (R135, R211). -/
def State.tileRate (s : State) (d : Demand) (m t : Nat) : Frac :=
  let c := s.get (MOULD.TILE_SRC_CAM m t)
  if !s.tileOn m t then (0, 1)
  else if s.get (MOULD.TILE_SRC_KIND m t) = 0 then
    match if d.on c then (d.wins c).find? (fun v => v.j == s.get (MOULD.TILE_SRC_WIN m t)) else none with
    | some v => (v.wo (s.get (CAM.FMT_CFG_PIXEL_FORMAT c)) * (s.winRate c v).1, (s.winRate c v).2)
    | none => (0, 1)
  else if s.get (MOULD.TILE_SRC_KIND m t) = 1 then (s.get (SEAM.SEAM_WIDTH (c % 4)) * s.seamRate d (c % 4), 1)
  else (0, 1)

/-- The summed source rate of mould m exceeds its limit (R135). -/
def State.mouldOver (s : State) (d : Demand) (m : Nat) : Bool :=
  let f := fracSum ((List.range 64).map (s.tileRate d m))
  decide (64000000000 * f.2 < f.1)

/-! ### Tests (R130 to R137) -/

/-- Seam units, enabled, that have port c as a member. -/
def State.seamsOf (s : State) (c : Nat) : List Nat :=
  (List.range 4).filter (fun u => s.on (HDR.CTRL_ENABLE (seamPage u)) && (s.memberPorts u).contains c)

/-- Mould units, enabled, that have a tile on a window of port c. -/
def State.mouldsOf (s : State) (c : Nat) : List Nat :=
  (List.range 8).filter (fun m => s.on (HDR.CTRL_ENABLE (mouldPage m)) && (List.range 64).any (fun t =>
    s.tileOn m t && s.get (MOULD.TILE_SRC_KIND m t) == 0 && s.get (MOULD.TILE_SRC_CAM m t) == c))

/-- Symbol period of a rate code in ps (R34). -/
def symbolPs (rate : Nat) : Nat := ([8000, 4000, 2000, 1600, 1250, 1000, 800] : List Nat).getD rate 8000

/-- The format test fails (R130, 0x4B). -/
def State.formatBad (s : State) (c : Nat) : Bool :=
  (fmtBits (s.get (CAM.FMT_CFG_PIXEL_FORMAT c))).isNone || s.portW c == 0 || decide (16384 < s.portW c) ||
  s.portH c == 0 || s.get (CAM.LINE_RATE c) == 0 || decide (49152 < s.portE c)

/-- The riser test fails (R130, 0x4A). -/
def State.riserBad (s : State) (c : Nat) : Bool := decide (s.riserPart c < ceilDiv (s.portE c) 256)

/-- The link test fails (R130, 0x4C): the symbols of LINE_RATE lines take more than 1 s. -/
def State.linkBad (s : State) (c : Nat) : Bool :=
  let n := (dataLanes (s.gateMode (c / 2)) (c % 2)).length
  decide (1000000000000 < s.get (CAM.LINE_RATE c) * (ceilDiv (s.portE c + 13) n + 3) * symbolPs (s.get (LNK.RATE c)))

/-- The window test fails for slice k (R132, 0x41). -/
def State.windowsBad (s : State) (d : Demand) (k : Nat) : Bool :=
  let f := s.sliceWin d k
  decide (2 * s.sliceVec d k * f.2 < f.1)

/-- The enabled members of seam u do not all have one LINE_RATE (R134, 0x46). -/
def State.syncBad (s : State) (d : Demand) (u : Nat) : Bool :=
  ((s.memberPorts u).filter d.on).any (fun c => s.get (CAM.LINE_RATE c) != s.seamRate d u)

/-- The seam rate is beyond its limit (R134, 0x43). -/
def State.seamOver (s : State) (d : Demand) (u : Nat) : Bool := decide (4000000000 < s.seamVec d u)

/-- DEV.ADM_HBM_TOTAL with port c's demand as in d: its own charges and those of the seams it belongs to (R137). -/
def State.totalWith (s : State) (d : Demand) (c : Nat) : Nat :=
  let seams := s.seamsOf c
  let old := s.get (CAM.ADM_HBM c) + (seams.map (fun u => s.get (SEAM.ADM_HBM u))).sum
  let new := (if d.on c then s.portHbm c (d.wins c) else 0) + (seams.map (s.seamHbm d)).sum
  s.get DEV.ADM_HBM_TOTAL + new - old

/-- The demand of port c is booked: its registers, its slice's, its seams' and the total (R129, R137, R141, R142). -/
def State.book (s : State) (d : Demand) (c : Nat) : State :=
  let k := c / 8
  let t := s.put DEV.ADM_HBM_TOTAL (s.totalWith d c)
  let t := (t.put (CAM.ADM_VEC c) (if d.on c then s.camVec c else 0)).put (CAM.ADM_HBM c)
    (if d.on c then s.portHbm c (d.wins c) else 0)
  let f := s.sliceWin d k
  let t := (t.put (SLICE.ADM_LOAD k) (s.sliceVec d k)).put (SLICE.ADM_WIN k) (ceilDiv f.1 f.2)
  t.each (s.seamsOf c) (fun t u => (t.put (SEAM.ADM_VEC u) (s.seamVec d u)).put (SEAM.ADM_HBM u) (s.seamHbm d u))

/-- The admission tests of a command on port c that bear on its windows, from 0x41 on (R136). -/
def State.outputRefusal (s : State) (d : Demand) (c : Nat) (seams : Bool) : Option Nat :=
  let fails (u : Nat) : Option Nat := if s.syncBad d u then some 0x46 else if s.seamOver d u then some 0x43 else none
  if s.windowsBad d (c / 8) then some 0x41
  else if seams && (s.seamsOf c).any (fun u => (fails u).isSome) then (s.seamsOf c).findSome? fails
  else if (s.mouldsOf c).any (fun m => s.mouldOver d m) then some 0x49
  else if s.get DEV.ADM_HBM_LIMIT < s.totalWith d c then some 0x42
  else none

/-! ### Camera ports (R116, R117, R129, R136, R154, R233) -/

/-- The demand with port c enabled with its active window set. -/
def State.candidate (s : State) (c : Nat) : Demand := s.demand.withPort c true (s.cam c).wins

/-- Why the enable of port c is refused (R136). -/
def State.camRefusal (s : State) (c : Nat) : Option Nat :=
  if !s.portPresent c then some 0x21
  else if !s.gateEnabled (c / 2) then some 0x4E
  else if s.formatBad c then some 0x4B
  else if s.riserBad c then some 0x4A
  else if s.linkBad c then some 0x4C
  else if 1000000000 < s.sliceVec (s.candidate c) (c / 8) then some 0x40
  else s.outputRefusal (s.candidate c) c true

/-- The reference of the port exceeds its buffer (R154). -/
def State.refTooLarge (s : State) (c : Nat) : Bool :=
  decide (2 ≤ s.get (CAM.NR_CTRL_MODE c)) && decide (0x6000000 < s.portH c * refSlot (s.portW c) (s.portBits c))

/-- CAM_ENABLE: a write of 1 to CTRL.ENABLE of a port. -/
def State.camEnable (s : State) (c : Nat) : State :=
  if s.portEnabled c then s
  else match s.camRefusal c with
    | some code => s.refuse (camPage c) code
    | none =>
      let t := (s.book (s.candidate c) c).put (HDR.CTRL_ENABLE (camPage c)) 1
      let t := (t.putB (CAM.NR_STATUS_SUPPRESSED c) (s.refTooLarge c)).emptyRiser c
      t.setCam c { t.cam c with first := true, resetDue := false, holdOver := false }

/-- CAM_DISABLE: a write of 0 to CTRL.ENABLE of a port (R129, R192, R233). -/
def State.camDisable (s : State) (c : Nat) : State :=
  if !s.portEnabled c then s
  else
    let t := ((s.cutFrame c).dropRiser c).emptyRiser c
    let t := (t.applyWindows c).schedClear c
    let t := t.book (t.demand.withPort c false []) c
    t.put (HDR.CTRL_ENABLE (camPage c)) 0

/-! ### Window commit (R187, R192) -/

/-- Window j of the staging set (R200). -/
def State.stagedWin (s : State) (c j : Nat) : Win :=
  { j := j, x0 := s.get (CAM.WIN_X_X0 c j), width := s.get (CAM.WIN_X_WIDTH c j), y0 := s.get (CAM.WIN_Y0 c j),
    height := s.get (CAM.WIN_H c j), code := s.get (CAM.WIN_SHAPE_CODE c j), outFmt := s.get (CAM.WIN_SHAPE_OUT_FMT c j),
    decY := s.get (CAM.WIN_SHAPE_DEC_Y c j), decX := s.get (CAM.WIN_SHAPE_DEC_X c j),
    mean := s.on (CAM.WIN_SHAPE_BIN_MODE c j), binY := s.get (CAM.WIN_SHAPE_BIN_Y c j),
    binX := s.get (CAM.WIN_SHAPE_BIN_X c j), prio := s.get (CAM.WIN_QUEUE_PRIO c j),
    queue := s.get (CAM.WIN_QUEUE_QUEUE c j) }

/-- The enabled windows of the staging set. -/
def State.staged (s : State) (c : Nat) : List Win :=
  ((List.range 64).filter (fun j => s.on (CAM.WIN_SHAPE_EN c j))).map (s.stagedWin c)

/-- Why a commit is refused (R136, R192). -/
def State.commitRefusal (s : State) (c : Nat) : Option Nat :=
  if s.on (CAM.WIN_STATUS_PENDING c) then some 0x51
  else if !(s.staged c).all (fun v => v.valid (s.portW c) (s.portH c) (s.get (CAM.FMT_CFG_PIXEL_FORMAT c))) then some 0x52
  else if s.portEnabled c then s.outputRefusal (s.demand.withPort c true (s.staged c)) c false
  else none

/-- WIN_COMMIT. -/
def State.winCommit (s : State) (c : Nat) : State :=
  match s.commitRefusal c with
  | some code => s.refuse (camPage c) code
  | none =>
    let l := s.staged c
    if s.portEnabled c then
      let t := s.book (s.demand.withPort c true l) c
      (t.setCam c { t.cam c with pendWins := some l }).put (CAM.WIN_STATUS_PENDING c) 1
    else (s.setCam c { s.cam c with wins := l }).put (CAM.WIN_STATUS_ACTIVE_COUNT c) l.length

/-! ### Gates (R114 to R116, R395) -/

/-- GATE_CFG_WRITE (R115, R139, R420). -/
def State.writeGateCfg (s : State) (g mode split : Nat) : State :=
  let was := s.gateMode g
  if s.gateEnabled g && (mode != was || split != s.get (GATE.GATE_CFG_RISER_SPLIT_A g)) then s.refuse (gatePage g) 0x02
  else if mode = 3 then s.refuse (gatePage g) 0x2B
  else if split = 0 then s.refuse (gatePage g) 0x4D
  else
    let t := (s.put (GATE.GATE_CFG_GATE_MODE g) mode).put (GATE.GATE_CFG_RISER_SPLIT_A g) split
    if mode = was then t
    else
      let t := ((t.toDown (2 * g)).toDown (2 * g + 1)).assignLanes g
      let t := (t.emptyRiser (2 * g)).emptyRiser (2 * g + 1)
      (t.downCheck (2 * g)).downCheck (2 * g + 1)

/-- GATE_ENABLE. -/
def State.gateEnable (s : State) (g : Nat) : State :=
  if s.gateEnabled g then s
  else if !(s.domainReady g && s.domainReady (128 + g)) then s.refuse (gatePage g) 0xB3
  else
    let t := s.put (HDR.CTRL_ENABLE (gatePage g)) 1
    t.each [2 * g, 2 * g + 1] (fun t c => (t.setLink c { t.link c with discovered := false }).leaveDown c)

/-- GATE_DISABLE: both ports are held in DOWN (R115, R116, R320). -/
def State.gateDisable (s : State) (g : Nat) : State :=
  if !s.gateEnabled g then s
  else if s.portEnabled (2 * g) || s.portEnabled (2 * g + 1) then s.refuse (gatePage g) 0x4F
  else
    let t := s.put (HDR.CTRL_ENABLE (gatePage g)) 0
    let t := t.each [2 * g, 2 * g + 1] (fun t c =>
      (((t.endTest c).toDown c).emptyRiser c).downCheck c)
    t.setGate g { t.gate g with held := none }

/-- ADM_HBM_LIMIT_WRITE (R136). -/
def State.writeHbmLimit (s : State) (v : Nat) : State :=
  if 3200000 < v then s.refuse devPage 0x4D
  else if v < s.get DEV.ADM_HBM_TOTAL then s.refuse devPage 0x42
  else s.put DEV.ADM_HBM_LIMIT v

/-! ### Seam and mould units (R134 to R136, R210, R217) -/

/-- Why the enable of seam u is refused (R136, R395). -/
def State.seamRefusal (s : State) (u : Nat) : Option Nat :=
  let d := s.demand
  if !s.domainReady (313 + u) then some 0xB3
  else if decide (32 < s.seamMembers u) || !(s.memberPorts u).all d.on then some 0x44
  else if s.syncBad d u then some 0x46
  else if 262144 < s.get (SEAM.SEAM_WIDTH u) then some 0x45
  else if s.seamOver d u then some 0x43
  else if s.get DEV.ADM_HBM_LIMIT < s.get DEV.ADM_HBM_TOTAL + s.seamHbm d u then some 0x42
  else none

/-- SEAM_ENABLE. -/
def State.seamEnable (s : State) (u : Nat) : State :=
  if s.on (HDR.CTRL_ENABLE (seamPage u)) then s
  else match s.seamRefusal u with
    | some code => s.refuse (seamPage u) code
    | none =>
      let d := s.demand
      let t := (s.put (SEAM.ADM_VEC u) (s.seamVec d u)).put (SEAM.ADM_HBM u) (s.seamHbm d u)
      let t := t.put DEV.ADM_HBM_TOTAL (s.get DEV.ADM_HBM_TOTAL + s.seamHbm d u)
      (t.put (HDR.CTRL_ENABLE (seamPage u)) 1).seamStart u

/-- SEAM_DISABLE (R129, R210). -/
def State.seamDisable (s : State) (u : Nat) : State :=
  if !s.on (HDR.CTRL_ENABLE (seamPage u)) then s
  else
    let t := s.seamStop u
    let t := t.put DEV.ADM_HBM_TOTAL (t.get DEV.ADM_HBM_TOTAL - t.get (SEAM.ADM_HBM u))
    ((t.put (SEAM.ADM_VEC u) 0).put (SEAM.ADM_HBM u) 0).put (HDR.CTRL_ENABLE (seamPage u)) 0

/-- Why the enable of mould m is refused (R136, R395). -/
def State.mouldRefusal (s : State) (m : Nat) : Option Nat :=
  let w := s.get (MOULD.MOULD_SIZE_WIDTH m)
  let h := s.get (MOULD.MOULD_SIZE_HEIGHT m)
  if !s.domainReady (317 + m) then some 0xB3
  else if 64 < s.get (MOULD.MOULD_CFG_TILES m) then some 0x48
  else if decide (7680 < w) || decide (4320 < h) || decide (1990656000 < w * h * s.get (MOULD.MOULD_RATE m)) then some 0x47
  else if s.mouldOver s.demand m then some 0x49
  else if s.get DEV.ADM_HBM_LIMIT < s.get DEV.ADM_HBM_TOTAL + s.mouldHbm m then some 0x42
  else none

/-- MOULD_ENABLE. -/
def State.mouldEnable (s : State) (m : Nat) : State :=
  if s.on (HDR.CTRL_ENABLE (mouldPage m)) then s
  else match s.mouldRefusal m with
    | some code => s.refuse (mouldPage m) code
    | none =>
      let t := (s.put (MOULD.ADM_HBM m) (s.mouldHbm m)).put DEV.ADM_HBM_TOTAL (s.get DEV.ADM_HBM_TOTAL + s.mouldHbm m)
      (t.put (HDR.CTRL_ENABLE (mouldPage m)) 1).mouldStart m

/-- MOULD_DISABLE (R129, R217). -/
def State.mouldDisable (s : State) (m : Nat) : State :=
  if !s.on (HDR.CTRL_ENABLE (mouldPage m)) then s
  else
    let t := s.mouldStop m
    let t := t.put DEV.ADM_HBM_TOTAL (t.get DEV.ADM_HBM_TOTAL - t.get (MOULD.ADM_HBM m))
    (t.put (MOULD.ADM_HBM m) 0).put (HDR.CTRL_ENABLE (mouldPage m)) 0

/-! ### The commands -/

/-- GATE_CFG_WRITE. -/
def execGateCfgWrite (g : Fin 128) (mode : Fin 4) (split : Fin 256) (s : State) : Host.Outcome State Fault Refusal :=
  .next (s.when s.hostOn (·.writeGateCfg g mode split))
/-- GATE_ENABLE. -/
def execGateEnable (g : Fin 128) (s : State) : Host.Outcome State Fault Refusal := .next (s.when s.hostOn (·.gateEnable g))
/-- GATE_DISABLE. -/
def execGateDisable (g : Fin 128) (s : State) : Host.Outcome State Fault Refusal := .next (s.when s.hostOn (·.gateDisable g))
/-- CAM_ENABLE. -/
def execCamEnable (c : Fin 256) (s : State) : Host.Outcome State Fault Refusal := .next (s.when s.hostOn (·.camEnable c))
/-- CAM_DISABLE. -/
def execCamDisable (c : Fin 256) (s : State) : Host.Outcome State Fault Refusal := .next (s.when s.hostOn (·.camDisable c))
/-- ADM_HBM_LIMIT_WRITE. -/
def execAdmHbmLimitWrite (v : Word) (s : State) : Host.Outcome State Fault Refusal :=
  .next (s.when s.hostOn (·.writeHbmLimit v.toNat))
/-- WIN_COMMIT. -/
def execWinCommit (c : Fin 256) (s : State) : Host.Outcome State Fault Refusal := .next (s.when s.hostOn (·.winCommit c))
/-- SEAM_ENABLE. -/
def execSeamEnable (u : Fin 4) (s : State) : Host.Outcome State Fault Refusal := .next (s.when s.hostOn (·.seamEnable u))
/-- SEAM_DISABLE. -/
def execSeamDisable (u : Fin 4) (s : State) : Host.Outcome State Fault Refusal := .next (s.when s.hostOn (·.seamDisable u))
/-- MOULD_ENABLE. -/
def execMouldEnable (m : Fin 8) (s : State) : Host.Outcome State Fault Refusal := .next (s.when s.hostOn (·.mouldEnable m))
/-- MOULD_DISABLE. -/
def execMouldDisable (m : Fin 8) (s : State) : Host.Outcome State Fault Refusal := .next (s.when s.hostOn (·.mouldDisable m))

end Sys2Proof.Machine
end

