-- ==== Sys2Proof/Machine/Bridge.lean ====
section
/-!
DEFINITION. The commands of the camera register bridge and of the control lane (R86 to R94, R319 to R350).
-/

namespace Sys2Proof.Machine

/-! ### Runs and pieces (R322, R323) -/

/-- Bytes from camera address a to the next page boundary of port c. -/
def State.toPageEnd (s : State) (c a : Nat) : Nat :=
  let page := 64 * 2 ^ s.get (BRG.PORT_CFG_PAGE (c / 2) (c % 2))
  page - a % page

/-- Pieces of bytes at ascending camera addresses: each is a first address and its bytes (R322, R323). `cur` is the piece
being filled, last byte first. -/
def State.cutPieces {α : Type} (s : State) (c : Nat) (cur : Option (Nat × List α)) : List (Nat × α) → List (Nat × List α)
  | [] => match cur with | none => [] | some p => [(p.1, p.2.reverse)]
  | x :: t =>
    match cur with
    | none => s.cutPieces c (some (x.1, [x.2])) t
    | some p =>
      if x.1 = p.1 + p.2.length && decide (p.2.length < min 256 (s.toPageEnd c p.1)) then
        s.cutPieces c (some (p.1, x.2 :: p.2)) t
      else (p.1, p.2.reverse) :: s.cutPieces c (some (x.1, [x.2])) t

/-- A byte in its place by camera address. -/
def insertByte {α : Type} (x : Nat × α) : List (Nat × α) → List (Nat × α)
  | [] => [x]
  | y :: t => if x.1 < y.1 then x :: y :: t else y :: insertByte x t

/-- Bytes in ascending order of camera address (R322). -/
def sortBytes {α : Type} (l : List (Nat × α)) : List (Nat × α) := l.foldr insertByte []

/-! ### Host writes (R320, R336) -/

/-- Free entries of the PW buffer of port c (R331, R336). -/
def State.pwFree (s : State) (c : Nat) : Nat :=
  16 - ((s.engine (c / 2)).reqs.filter (fun r => r.port == c && r.cls == 0)).length

/-- The pieces of a host write: its enabled bytes at their camera addresses, in ascending order (R321 to R323). -/
def State.hostPieces (s : State) (c off : Nat) (data : List (Option Byte)) : List (Nat × List Byte) :=
  s.cutPieces c none (sortBytes ((List.range data.length).filterMap (fun i =>
    (data.getD i none).map (fun b => (s.cameraAddr c (off + i), b)))))

/-- BAR2_WRITE. -/
def State.bar2Write (s : State) (c off : Nat) (data : List (Option Byte)) : State :=
  let pieces := s.hostPieces c off data
  if s.pwFree c < pieces.length && !s.portDown c then
    s.each pieces (fun t p =>
      let u := t.enqueue c 1 0 p.1 p.2 0 0 .hostWrite
      match (u.engine (c / 2)).reqs.getLast? with
      | some r => u.failReq r 7 0
      | none => u)
  else (s.each pieces (fun t p => t.enqueue c 1 0 p.1 p.2 0 0 .hostWrite)).downCheck c

/-! ### Host reads (R338, R340 to R342) -/

/-- BAR2 reads in flight: they hold at most 24 of the inbound non-posted slots (R290). -/
def State.readsHeld (s : State) : Nat := (s.engines.map (fun p => p.2.reads.length)).sum

/-- The tags of the writes of port c that have neither completed nor failed (R338). -/
def State.openWrites (s : State) (c : Nat) : List Nat :=
  ((s.engine (c / 2)).reqs.filter (fun r => r.port == c && r.op == 1)).map (fun r => r.tag)

/-- The slot of port c holds SE bytes: no read of the port is extended (R342). -/
def State.holdsSe (s : State) (c : Nat) : Bool := match s.slotOf c with | some k => k.se | none => false

/-- Bytes asked for by a read piece of n bytes at a, which is extended or not (R341). -/
def State.readLen (s : State) (c a n : Nat) (extend : Bool) : Nat :=
  if s.on (BRG.PORT_CFG_PREFETCH (c / 2) (c % 2)) && extend then min (n + 63 - (a + n - 1) % 64) 256 else n

/-- A host read of port c joins its engine, with a number of its own (R340). -/
def State.addRead (s : State) (c : Nat) (r : HostRead) : State :=
  let g := c / 2
  let e := s.engine g
  let t := s.setEngine g { e with reads := e.reads ++ [{ r with key := e.nextKey }], nextKey := e.nextKey + 1 }
  (t.admitReads c).settleReads g

/-- A host read whose bytes `want` come from the camera; its pieces are extended or not (R341, R342). -/
def State.freshRead (s : State) (c : Nat) (r : HostRead) (want : List Nat) (extend : Bool) : State :=
  let pieces := s.cutPieces c none (sortBytes (want.map (fun a => (a, ()))))
  let r := { r with pieces := pieces.length, admitted := pieces.isEmpty }
  (s.addRead c { r with parts := pieces.map (fun p => (p.1, p.2.length, s.readLen c p.1 p.2.length extend)) }).downCheck c

/-- A host read while the slot of its port holds SE bytes (R342). -/
def State.heldRead (s : State) (c : Nat) (k : Slot) (r : HostRead) (want : List Nat) : State :=
  let hit := k.bytes.filter (fun p => want.contains p.1)
  let t := s.setSlot c (some { k with bytes := k.bytes.filter (fun p => !want.contains p.1) })
  t.freshRead c { r with got := hit } (want.filter (fun a => !hit.any (fun p => p.1 == a))) false

/-- BAR2_READ. -/
def State.bar2Read (s : State) (c off : Nat) (enables : List Bool) (id : Nat) : State :=
  let g := c / 2
  let addrs : List (Option Nat) := (List.range enables.length).map (fun i =>
    if enables.getD i false then some (s.cameraAddr c (off + i)) else none)
  let want := addrs.filterMap (fun a => a)
  let first := want.headD (s.cameraAddr c off)
  let r : HostRead := { id := id, port := c, addrs := addrs }
  if s.quenched then s.emit (.completion id false (want.map (fun _ => 0xFF)))
  else if s.portDown c && want.isEmpty then (s.failWhole c first 8).emit (s.failedCompletion g r)
  else
    let r := { r with waits := s.openWrites c }
    if s.portDown c then s.freshRead c r want false
    else if 256 < want.length then (s.failWhole c first 10).addRead c { r with bad := true }
    else match s.slotOf c with
      | some k =>
        if k.se then s.heldRead c k r want
        else if !want.isEmpty && want.all (fun a => k.bytes.any (fun p => p.1 == a)) then s.addRead c { r with got := k.bytes }
        else s.freshRead c r want true
      | none => s.freshRead c r want true

/-- READ_LIMIT: a BAR2 read has been outstanding READ_LIMIT µs (R340). -/
def State.readLimit (s : State) (c id : Nat) : State :=
  let g := c / 2
  match (s.engine g).reads.find? (fun r => r.id == id && r.port == c) with
  | none => s
  | some r =>
    let t := if r.bad then s else match (s.engine g).reqs.find? (fun q => q.purpose == .hostRead r.key) with
      | some q => (s.logEntry c q.addr [] q.tag 9 1 0 q.len).raise (brgPage g) 1
      | none => s.failWhole c r.first 9
    t.failRead g r.key

/-! ### Sending (R87, R327, R331 to R333, R343) -/

/-- The bytes of a request packet (R87, R327). -/
def Req.packet (r : Req) : List Byte :=
  let data := if r.op = 2 then leBytes 4 r.len else r.data
  let head := leBytes 1 r.op ++ leBytes 1 (r.cls + 8 * (r.port % 2)) ++ leBytes 2 r.tag ++ leBytes 4 r.addr ++
    leBytes 2 data.length ++ [0, 0]
  head ++ leBytes 2 (crc16 head) ++ (if data.isEmpty then [] else data ++ leBytes 4 (crc32 data))

/-- The request is a write that the device generates (R332), other than a lane-mask write. -/
def Purpose.waitsForLock : Purpose → Bool
  | .settings _ => true | .shotCtrl => true | .linkRate _ => true | .trainOn => true | .trainOff => true | .loopBuf => true
  | .farLoop => true | .prbsSel => true | .testOff => true
  | .hostWrite => false | .hostRead _ => false | .pcWrite => false | .laneMask => false | .poll => false | .lock => false
  | .unlock => false | .discMagic => false | .discCaps => false | .discIdent => false

/-- A lock lets the request be sent: PC_WRITE and lane-mask writes of either port, and the other requests of the locking port
but for polls and for the writes that the device generates (R343; log entry 36). -/
def State.lockAllows (s : State) (r : Req) : Bool :=
  match (s.engine (r.port / 2)).lockPort with
  | none => true
  | some p =>
    r.purpose == .pcWrite || r.purpose == .laneMask || (r.port == p && r.cls != 4 && !r.purpose.waitsForLock)

/-- Requests of a class that a port may have outstanding (R331). -/
def classLimit (cls : Nat) : Nat := if cls = 0 then 8 else if cls = 1 then 4 else if cls = 2 then 16 else 1

/-- The port is within the outstanding limit of the class (R331). -/
def State.classRoom (s : State) (c cls : Nat) : Bool :=
  decide (((s.engine (c / 2)).reqs.filter (fun r => r.port == c && r.cls == cls && r.state != .queued)).length < classLimit cls)

/-- No write of the request's port with an earlier tag is still open (R333). -/
def State.readMayGo (s : State) (r : Req) : Bool :=
  !(((s.engine (r.port / 2)).reqs.takeWhile (fun q => !(q.port == r.port && q.tag == r.tag))).any
    (fun q => q.port == r.port && q.op == 1))

/-- The first request of a class, of one port or of either, that can be sent. -/
def State.firstOf (s : State) (g cls : Nat) (port : Option Nat) : Option Req :=
  (s.engine g).reqs.find? (fun r =>
    r.cls == cls && r.state == .queued && (match port with | some c => r.port == c | none => true) &&
    s.lockAllows r && s.classRoom r.port cls && (cls != 1 || s.readMayGo r))

/-- Place k of the round robin: port A RR, port A PW, port B RR, port B PW (R332). -/
def State.robinOf (s : State) (g k : Nat) : Option Req := s.firstOf g ((k + 1) % 2) (some (2 * g + k / 2 % 2))

/-- The first eligible request of the engine (R332), and the place of the round robin it takes, if it takes one. -/
def State.eligible (s : State) (g : Nat) : Option (Req × Option Nat) :=
  match s.firstOf g 2 none with
  | some r => some (r, none)
  | none =>
    match s.firstOf g 4 none with
    | some r => some (r, none)
    | none =>
      let k := (s.engine g).turn
      ((List.range 4).findSome? (fun i => (s.robinOf g ((k + i) % 4)).map (fun r => (r, (k + i) % 4)))).map
        (fun p => (p.1, some p.2))

/-- Change a request of an engine. -/
def State.onReq (s : State) (r : Req) (f : Req → Req) : State :=
  let e := s.engine (r.port / 2)
  s.setEngine (r.port / 2) { e with reqs := e.reqs.map (fun q => if q.port = r.port && q.tag = r.tag then f q else q) }

/-- The lock of a port ends (R344). -/
def State.endLock (s : State) (c : Nat) : State :=
  let g := c / 2
  if (s.engine g).lockPort = some c then
    (s.put (BRG.PORT_STATUS_LOCKED g (c % 2)) 0).setEngine g { s.engine g with lockPort := none }
  else s

/-- A request leaves on the control lane. A read is not extended while the slot holds SE bytes (R342). -/
def State.sendReq (s : State) (r : Req) : State :=
  let r := if s.holdsSe r.port then { r with len := r.want } else r
  let t := (s.onReq r (fun q => { q with state := .outstanding, len := r.len })).emit (.lanePacket (r.port / 2) r.packet)
  if r.purpose = .unlock then t.endLock r.port else t

/-- The pending trigger pair of gate g that is earliest. -/
def State.nextPair (s : State) (g : Nat) : Option TrigPair :=
  (s.engine g).pairs.foldl (fun (b : Option TrigPair) p =>
    match b with
    | some q => if p.t < q.t then some p else some q
    | none => some p) none

/-- The next trigger pair is placed in its slot, or in the first free one after it (R90, R91, R93). -/
def State.sendPair (s : State) (g : Nat) : State :=
  match s.nextPair g with
  | none => s
  | some p =>
    let e := s.engine g
    let slot := p.t - p.t % 8 + 8
    let used := max slot e.nextSlot
    let t := (s.setEngine g { e with pairs := e.pairs.erase p, nextSlot := used + 16 }).reach used
    let t := t.emit (.trigPair g (p.t % 8 * 32 + p.port * 16 + p.action) used)
    if used = slot then t
    else (t.inc (GATE.TRIG_LATE g)).onRecord (2 * g + p.port) p.shot (fun r =>
      { r with late := max r.late (min 255 ((used - slot) / 8)), flags := setBitN r.flags 9 })

/-- The first eligible request is sent (R332). -/
def State.sendNext (s : State) (g : Nat) : State :=
  match s.eligible g with
  | none => s
  | some (r, turn) =>
    let t := s.sendReq r
    match turn with
    | some k => t.setEngine g { t.engine g with turn := (k + 1) % 4 }
    | none => t

/-- PACKET_BOUNDARY_SEND (R332): a pending trigger pair, then the first eligible request. -/
def State.boundary (s : State) (g : Nat) : State :=
  if (s.engine g).grant.isSome then s
  else match s.nextPair g with
    | some p => if p.t ≤ s.now then s.sendPair g else s.sendNext g
    | none => s.sendNext g

/-! ### Grants (R88, R89, R334) -/

/-- Requests of gate g that await a response. -/
def State.awaited (s : State) (g : Nat) : List Req := (s.engine g).reqs.filter (fun r => r.state == .outstanding)

/-- The duration symbol of a grant (R334). -/
def State.grantCode (s : State) (g : Nat) : Nat :=
  let sum := 8 + ((s.awaited g).map (fun r => (if r.op = 2 then r.len + 20 else 16) + 4)).sum
  min (s.get (BRG.BRG_CFG_GRANT_MAX g)) (ceilDiv sum 16 - 1)

/-- GRANT_ISSUE. -/
def State.issueGrant (s : State) (g : Nat) (laneTime : Bool) : State :=
  if (s.engine g).grant.isSome || (s.awaited g).isEmpty || s.engineFenced g || ((s.eligible g).isSome && !laneTime) then s
  else (s.setEngine g { s.engine g with grant := some (s.grantCode g) }).emit (.laneGrant g (s.grantCode g))

/-- The camera holds a grant of the lane of gate g. -/
def State.granted (s : State) (g : Nat) : Bool := (s.engine g).grant.isSome

/-- The grant ends. -/
def State.endGrant (s : State) (g : Nat) : State := s.setEngine g { s.engine g with grant := none }

/-- GRANT_OVERRUN (R89). -/
def State.grantOverrun (s : State) (g : Nat) : State :=
  ((s.endGrant g).inc (GATE.CTL_ERR_GRANT_OVERRUN g)).raise (gatePage g) 12

/-! ### Responses (R330, R340 to R342, R345, R326) -/

/-- A response whose CRC fails: the request keeps waiting (R330, R112). -/
def State.badResponse (s : State) (g : Nat) : State := (s.inc (GATE.CTL_ERR_CRC g)).raise (gatePage g) 12

/-- A response that matches no outstanding request of its port, or does not fit it (R330). -/
def State.unexpected (s : State) (g : Nat) : State := s.inc (BRG.UNEXPECTED g)

/-- The first 12 bytes of the header of a response of class `cls` (R87). -/
def rspHead (op c se tag addr len status cls : Nat) : List Byte :=
  leBytes 1 op ++ leBytes 1 (cls + 8 * (c % 2) + 16 * se) ++ leBytes 2 tag ++ leBytes 4 addr ++ leBytes 2 len ++
  leBytes 1 status ++ [0]

/-- The CRCs of a response agree with those computed afresh over what it carries (R87, R430). It carries class RSP, or POLL
where it answers a poll (R327): WRITE_DONE only RSP, READ_DATA and NAK either. -/
def rspOk (classes : List Nat) (head : Nat → List Byte) (hdrCrc : Nat) (data : List Byte) (dataCrc : Nat) : Bool :=
  classes.any (fun k => crc16 (head k) == hdrCrc) && (data.isEmpty || crc32 data == dataCrc)

/-- WRITE_DONE_RSP. -/
def State.writeDone (s : State) (g c tag : Nat) (crcOk : Bool) : State :=
  if !crcOk then s.badResponse g
  else match s.outstanding c tag with
    | some r => if r.op = 2 then s.unexpected g else s.completeWrite r
    | none => s.unexpected g

/-- SE bytes are lost: logged and raised (R340, R342). -/
def State.logSeLost (s : State) (c addr tag len : Nat) (data : List Byte) : State :=
  (s.logEntry c addr data tag 11 1 0 len).raise (brgPage (c / 2)) 2

/-- A read answers a host read that still waits: bytes asked for are gathered, bytes beyond go to the slot (R341, R342). -/
def State.gather (s : State) (r : Req) (key : Nat) (se : Bool) (data : List Byte) : State :=
  let c := r.port
  let g := c / 2
  let cells : List (Nat × Byte) := (List.range data.length).map (fun i => (r.addr + i, data.getD i 0))
  let t := s.onRead g key (fun x => { x with got := x.got ++ cells.take r.want, pieces := x.pieces - 1 })
  let extra := cells.drop r.want
  let t :=
    if extra.isEmpty then (if se then t.inc (BRG.SE_SEEN g) else t)
    else match t.slotOf c with
      | some k =>
        if k.se then (if se then t.setSlot c (some { k with bytes := k.bytes ++ extra }) else t)
        else t.setSlot c (some ⟨se, r.tag, extra⟩)
      | none => t.setSlot c (some ⟨se, r.tag, extra⟩)
  t.settleReads g

/-- A poll completes (R345). -/
def State.polled (s : State) (c : Nat) (data : List Byte) : State :=
  let g := c / 2
  let p := c % 2
  let v := s.diValue c data
  let e := s.engine g
  let later := if p = 0 then e.polledA else e.polledB
  let mask := if p = 0 then e.maskA else e.maskB
  let changed := Nat.land (xorN 32 v (s.get (BRG.POLL_LAST g p))) mask != 0
  let t := (s.put (BRG.POLL_LAST g p) v).setEngine g
    (if p = 0 then { e with polledA := true } else { e with polledB := true })
  if later && changed then t.raise (brgPage g) (4 + p) else t

/-- A discovery read completes (R326). -/
def State.discovered (s : State) (c : Nat) (step : Purpose) (data : List Byte) : State :=
  let g := c / 2
  let p := c % 2
  if step = .discMagic then
    let go (be : Bool) : State := (s.putB (BRG.PORT_CFG_BE g p) be).discoveryRead c .discCaps 8
    if data = [0x01, 0x00, 0x4C, 0x41] then go false
    else if data = [0x41, 0x4C, 0x00, 0x01] then go true
    else (s.put (BRG.PORT_STATUS_DISC g p) 2).put (BRG.CAM_CAPS g p) 0
  else if step = .discCaps then (s.put (BRG.CAM_CAPS g p) (s.diValue c data)).discoveryRead c .discIdent 4
  else ((s.put (BRG.CAM_IDENT g p) (s.diValue c data)).put (BRG.PORT_STATUS_DISC g p) 1).raise (brgPage g) 9

/-- A host read that no longer waits for its piece. -/
def State.abandonedPiece (s : State) (r : Req) : Bool :=
  match r.purpose with
  | .hostRead key => !(s.engine (r.port / 2)).reads.any (fun x => x.key == key)
  | _ => false

/-- READ_DATA answers the request with the bytes asked for. -/
def State.readDone (s : State) (r : Req) (se : Bool) (data : List Byte) : State :=
  let c := r.port
  let g := c / 2
  let t := s.dropReq r
  match r.purpose with
  | .hostRead key => t.gather r key se data
  | .poll => (if se then t.inc (BRG.SE_SEEN g) else t).polled c data
  | .discMagic => (if se then t.inc (BRG.SE_SEEN g) else t).discovered c .discMagic data
  | .discCaps => (if se then t.inc (BRG.SE_SEEN g) else t).discovered c .discCaps data
  | .discIdent => (if se then t.inc (BRG.SE_SEEN g) else t).discovered c .discIdent data
  | .hostWrite => t | .pcWrite => t | .settings _ => t | .laneMask => t | .shotCtrl => t | .linkRate _ => t
  | .trainOn => t | .trainOff => t | .loopBuf => t | .farLoop => t | .prbsSel => t | .testOff => t
  | .lock => t | .unlock => t

/-- READ_DATA_RSP. -/
def State.readData (s : State) (g c tag : Nat) (se : Bool) (data : List Byte) (crcOk : Bool) : State :=
  if !crcOk then s.badResponse g
  else match s.outstanding c tag with
    | none => s.unexpected g
    | some r =>
      if r.op ≠ 2 then s.unexpected g
      else if s.abandonedPiece r then (if se then (s.dropReq r).logSeLost c r.addr r.tag r.len [] else s.dropReq r)
      else if data.length = r.len then s.readDone r se data
      else s.failReq r 6 0

/-- NAK_RSP. -/
def State.nak (s : State) (g c tag status : Nat) (crcOk : Bool) : State :=
  if !crcOk then s.badResponse g
  else match s.outstanding c tag with
    | none => s.unexpected g
    | some r =>
      let t := s.inc (BRG.NAK_COUNT g (c % 2))
      if t.abandonedPiece r then t.dropReq r
      else if status = 4 then
        if r.crcTries < 3 then t.onReq r (fun q => { q with state := .queued, crcTries := q.crcTries + 1 })
        else t.failReq r 4 status
      else if status = 3 then
        if r.busyTries < t.get (BRG.BRG_CFG_RETRY_MAX g) then
          t.onReq r (fun q => { q with state := .busyWait, busyTries := q.busyTries + 1 })
        else t.failReq r 3 status
      else t.failReq r status status

/-- BUSY_RETRY: 10 µs after the NAK the request is to be sent again (R330). -/
def State.busyRetry (s : State) (c tag : Nat) : State :=
  match (s.engine (c / 2)).reqs.find? (fun r => r.port == c && r.tag == tag && r.state == .busyWait) with
  | some r => s.onReq r (fun q => { q with state := .queued })
  | none => s

/-- RESPONSE_TIMEOUT. -/
def State.responseTimeout (s : State) (c tag : Nat) : State :=
  match s.outstanding c tag with
  | some r => s.failReq r 5 0
  | none => s

/-- PREFETCH_EXPIRY. -/
def State.prefetchExpiry (s : State) (c : Nat) : State :=
  match s.slotOf c with
  | some k => if k.se then s else s.setSlot c none
  | none => s

/-- SE_LOST: SE bytes held 100 µs are logged once, with the tag of the READ that fetched them, and the slot is freed (R342,
R348). -/
def State.seExpiry (s : State) (c : Nat) : State :=
  match s.slotOf c with
  | some k =>
    if k.se then
      let sorted := sortBytes k.bytes
      (s.logSeLost c ((sorted.map (fun p => p.1)).headD 0) k.tag k.bytes.length (sorted.map (fun p => p.2))).setSlot c none
    else s
  | none => s

/-! ### Commands of BRG[g].CMD (R343, R344, R347) -/

/-- The common refusals of DISCOVER, LOCK and PC_WRITE: port absent, gate disabled. -/
def State.brgCommand (s : State) (g p : Nat) (f : State → State) : State :=
  if !s.portPresent (2 * g + p) then s.refuse (brgPage g) 0x21
  else if !s.gateEnabled g then s.refuse (brgPage g) 0x4E
  else f s

/-- DISCOVER. -/
def State.cmdDiscover (s : State) (g p : Nat) : State :=
  s.brgCommand g p (fun t => (t.accept (brgPage g) 1).startDiscovery (2 * g + p))

/-- LOCK or UNLOCK joins the queue in class PC; the specification gives its ADDR no value (log entry 4). -/
def State.lockRequest (s : State) (c op : Nat) (p : Purpose) : State :=
  let a := s.draw
  (a.2.enqueue c op 2 a.1 [] 0 0 p).downCheck c

/-- LOCK. -/
def State.cmdLock (s : State) (g p : Nat) : State :=
  s.brgCommand g p (fun t =>
    if (t.engine g).lockPort.isSome then t.refuse (brgPage g) 0x91
    else
      let u := (t.accept (brgPage g) 2).put (BRG.PORT_STATUS_LOCK_PENDING g p) 1
      (u.setEngine g { u.engine g with lockPort := some (2 * g + p) }).lockRequest (2 * g + p) 6 .lock)

/-- UNLOCK. -/
def State.cmdUnlock (s : State) (g p : Nat) : State :=
  if !s.on (BRG.PORT_STATUS_LOCKED g p) then s.refuse (brgPage g) 0x92
  else (s.accept (brgPage g) 3).lockRequest (2 * g + p) 7 .unlock

/-- PC_WRITE. -/
def State.cmdPcWrite (s : State) (g p : Nat) : State :=
  s.brgCommand g p (fun t =>
    if t.on (BRG.PORT_STATUS_PCW_BUSY g p) then t.refuse (brgPage g) 0x93
    else if t.get (BRG.PCW_ADDR g p) % 4 ≠ 0 then t.refuse (brgPage g) 0x90
    else
      ((t.accept (brgPage g) 4).put (BRG.PORT_STATUS_PCW_BUSY g p) 1).deviceWord (2 * g + p) .pcWrite
        (t.get (BRG.PCW_ADDR g p)) (t.get (BRG.PCW_DATA g p)))

/-- CLEAR_FAIL. -/
def State.cmdClearFail (s : State) (g p : Nat) : State :=
  ((s.accept (brgPage g) 5).put (BRG.FENCE_FAIL g p) 0).put (BRG.FAIL_TAG g p) 0

/-- LOCK_EXPIRED: the engine sends UNLOCK itself (R344). TAG of the entry is that of the UNLOCK; its ADDR, and its LEN
of 1 to 256, are open (log entry 4). -/
def State.lockExpired (s : State) (g p : Nat) : State :=
  let c := 2 * g + p
  if !s.on (BRG.PORT_STATUS_LOCKED g p) then s
  else
    let tag := s.nextTag c
    let a := s.draw
    let b := a.2.draw
    let t := (b.2.logEntry c a.1 [] tag 12 8 0 (1 + b.1 % 256)).raise (brgPage g) 3
    t.lockRequest c 7 .unlock

/-- POLL_TICK (R345). -/
def State.pollTick (s : State) (g p : Nat) : State :=
  let c := 2 * g + p
  let e := s.engine g
  if !s.on (BRG.POLL_CFG_EN g p) || e.lockPort.isSome then s
  else if e.reqs.any (fun r => r.port == c && r.purpose == .poll) then s.inc (BRG.POLL_SKIP g p)
  else
    let m := s.get (BRG.POLL_MASK g p)
    ((s.setEngine g (if p = 0 then { e with maskA := m } else { e with maskB := m })).enqueue c 2 4
      (s.get (BRG.POLL_ADDR g p)) [] 4 4 .poll).downCheck c

/-- POLL_CFG written: polling starts afresh when EN becomes 1 (R345). -/
def State.writePollCfg (s : State) (g p : Nat) (w : Word) : State :=
  let en := getBits w 31 31
  let n := getBits w 19 0
  if n = 0 || 1000000 < n then s.refuse (brgPage g) 0x90
  else
    let e := s.engine g
    let t := if en = 1 && !s.on (BRG.POLL_CFG_EN g p) then
        s.setEngine g (if p = 0 then { e with polledA := false } else { e with polledB := false })
      else s
    (t.put (BRG.POLL_CFG_EN g p) en).put (BRG.POLL_CFG_INTERVAL g p) n

/-! ### The commands -/

/-- TRIGGER_SYMBOL_SEND. -/
def execTriggerSymbolSend (g : Fin 128) (s : State) : Host.Outcome State Fault Refusal :=
  .next (s.when s.running (·.sendPair g))
/-- BAR2_WRITE: a host access does not cross 4 KiB. -/
def execBar2Write (c : Fin 256) (off : Fin 1048576) (data : List (Option Byte)) (s : State) :
    Host.Outcome State Fault Refusal :=
  .next (s.when (s.hostOn && decide (off.val % 4096 + data.length ≤ 4096)) (·.bar2Write c off data))
/-- BAR2_READ: in quench it completes at once (R373). -/
def execBar2Read (c : Fin 256) (off : Fin 1048576) (enables : List Bool) (tag : Nat) (s : State) :
    Host.Outcome State Fault Refusal :=
  .next (s.when ((s.hostOn || (s.awake && s.quenched && !s.supply.perstLow)) && decide (s.readsHeld < 24) &&
    decide (off.val % 4096 + enables.length ≤ 4096)) (·.bar2Read c off enables tag))
/-- READ_LIMIT. -/
def execReadLimit (c : Fin 256) (tag : Nat) (s : State) : Host.Outcome State Fault Refusal :=
  .next (s.when s.running (·.readLimit c tag))
/-- PACKET_BOUNDARY_SEND. -/
def execPacketBoundarySend (g : Fin 128) (s : State) : Host.Outcome State Fault Refusal :=
  .next (s.when s.running (·.boundary g))
/-- GRANT_ISSUE. -/
def execGrantIssue (g : Fin 128) (laneTime : Bool) (s : State) : Host.Outcome State Fault Refusal :=
  .next (s.when s.running (·.issueGrant g laneTime))
/-- TURNAROUND_RETURN. -/
def execTurnaroundReturn (g : Fin 128) (s : State) : Host.Outcome State Fault Refusal :=
  .next (s.when (s.running && s.granted g) (·.endGrant g))
/-- GRANT_OVERRUN. -/
def execGrantOverrun (g : Fin 128) (s : State) : Host.Outcome State Fault Refusal :=
  .next (s.when (s.running && s.granted g) (·.grantOverrun g))
/-- WRITE_DONE_RSP. -/
def execWriteDoneRsp (g : Fin 128) (p : Fin 2) (tag : Fin 65536) (addr : Word) (s : State) (hdrCrc : BitVec 16 := 0) :
    Host.Outcome State Fault Refusal :=
  .next (s.when (s.running && s.granted g) (·.writeDone g (2 * g + p) tag
    (rspOk [3] (rspHead 4 p 0 tag addr.toNat 0 0) hdrCrc.toNat [] 0)))
/-- READ_DATA_RSP. -/
def execReadDataRsp (g : Fin 128) (p : Fin 2) (tag : Fin 65536) (se : Bool) (addr : Word) (data : List Byte)
    (s : State) (hdrCrc : BitVec 16 := 0) (dataCrc : BitVec 32 := 0) : Host.Outcome State Fault Refusal :=
  .next (s.when (s.running && s.granted g) (·.readData g (2 * g + p) tag se data
    (rspOk [3, 4] (rspHead 3 p (b2n se) tag addr.toNat data.length 0) hdrCrc.toNat data dataCrc.toNat)))
/-- NAK_RSP. -/
def execNakRsp (g : Fin 128) (p : Fin 2) (tag : Fin 65536) (status : Fin 5) (addr : Word) (s : State) (hdrCrc : BitVec 16 := 0) :
    Host.Outcome State Fault Refusal :=
  .next (s.when (s.running && s.granted g && status.val != 0) (·.nak g (2 * g + p) tag status
    (rspOk [3, 4] (rspHead 5 p 0 tag addr.toNat 0 status) hdrCrc.toNat [] 0)))
/-- BUSY_RETRY. -/
def execBusyRetry (g : Fin 128) (p : Fin 2) (tag : Fin 65536) (s : State) : Host.Outcome State Fault Refusal :=
  .next (s.when s.running (·.busyRetry (2 * g + p) tag))
/-- RESPONSE_TIMEOUT. -/
def execResponseTimeout (g : Fin 128) (p : Fin 2) (tag : Fin 65536) (s : State) : Host.Outcome State Fault Refusal :=
  .next (s.when s.running (·.responseTimeout (2 * g + p) tag))
/-- PREFETCH_EXPIRY. -/
def execPrefetchExpiry (c : Fin 256) (s : State) : Host.Outcome State Fault Refusal :=
  .next (s.when s.running (·.prefetchExpiry c))
/-- SE_LOST. -/
def execSeLost (c : Fin 256) (s : State) : Host.Outcome State Fault Refusal := .next (s.when s.running (·.seExpiry c))
/-- DISCOVER. -/
def execDiscover (g : Fin 128) (p : Fin 2) (s : State) : Host.Outcome State Fault Refusal :=
  .next (s.when s.hostOn (·.cmdDiscover g p))
/-- LOCK. -/
def execLock (g : Fin 128) (p : Fin 2) (s : State) : Host.Outcome State Fault Refusal :=
  .next (s.when s.hostOn (·.cmdLock g p))
/-- UNLOCK. -/
def execUnlock (g : Fin 128) (p : Fin 2) (s : State) : Host.Outcome State Fault Refusal :=
  .next (s.when s.hostOn (·.cmdUnlock g p))
/-- PC_WRITE. -/
def execPcWrite (g : Fin 128) (p : Fin 2) (s : State) : Host.Outcome State Fault Refusal :=
  .next (s.when s.hostOn (·.cmdPcWrite g p))
/-- CLEAR_FAIL. -/
def execClearFail (g : Fin 128) (p : Fin 2) (s : State) : Host.Outcome State Fault Refusal :=
  .next (s.when s.hostOn (·.cmdClearFail g p))
/-- LOCK_EXPIRED. -/
def execLockExpired (g : Fin 128) (p : Fin 2) (s : State) : Host.Outcome State Fault Refusal :=
  .next (s.when s.running (·.lockExpired g p))
/-- POLL_TICK. -/
def execPollTick (g : Fin 128) (p : Fin 2) (s : State) : Host.Outcome State Fault Refusal :=
  .next (s.when s.running (·.pollTick g p))

end Sys2Proof.Machine
end

