-- ==== Sys2Proof/Machine/LadleCmd.lean ====
section
/-!
DEFINITION. The commands of the ladle: reservation, taking cells, commit, pop, return, flush, queue settings, scrub and
sweep (R257 to R283).
-/

namespace Sys2Proof.Machine

/-! ### Producers (R263) -/

/-- Producer p can begin a packet: its slice serves, or its unit works. -/
def State.producerOn (s : State) (p : Nat) : Bool :=
  if p < 33 then s.sliceServes p else if p < 37 then s.seamRuns (p - 33) else s.mouldRuns (p - 37)

/-- The frame of a packet. -/
def State.packetFrame (s : State) (k : Packet) : Option Frame :=
  match k.frame with
  | some id => s.frameOf k.hdr.srcUnit id
  | none => none

/-- The settings flags that XSTAT copies from the record of the packet's shot (R245, R262). -/
def State.settingsFlags (s : State) (c shot : Nat) : Nat :=
  if s.holdsShot c shot then
    let f := (s.record c shot).flags
    64 * b2n (bitOf f 4) + 128 * b2n (bitOf f 5) + 256 * b2n (bitOf f 6)
  else 0

/-- The header of a packet as its commit fixes it (R260 to R262). -/
def State.finalHeader (s : State) (k : Packet) : PktHdr :=
  let ovr := 512 * b2n (s.queue k.queue).overrunBefore
  let h := { k.hdr with tCommit := s.now }
  match s.packetFrame k with
  | some fr =>
    { h with fstat := fr.fstat, nrCause := fr.cause,
             xstat := fr.xstat % 64 + (if bitOf fr.xstat 4 then 0 else s.settingsFlags fr.c fr.shot) + ovr }
  | none =>
    if k.hdr.kind = 3 then { h with xstat := s.settingsFlags k.hdr.srcUnit k.hdr.shot + ovr } else { h with xstat := ovr }

/-- A statistics packet has ended: its bank is free again, and the shot's record says whether it reached its queue
(R245, R249). -/
def State.endStats (s : State) (k : Packet) (done : Bool) : State :=
  match k.statBank with
  | none => s
  | some b =>
    let c := k.hdr.srcUnit
    let t := s.freeBank c b
    if bitOf k.hdr.xstat 4 then t else t.flagRecord c k.hdr.shot (if done then 7 else 8)

/-- What the end of a packet of a frame leaves to forget. -/
def State.endPacket (s : State) (k : Packet) (done : Bool) : State :=
  let t := s.endStats k done
  match k.frame with
  | some _ => t.retireFrames k.hdr.srcUnit
  | none => t

/-! ### Reservation, taking cells and commit -/

/-- Producer p reserves for the packet it forms next (R264 to R266). -/
def State.reserveNext (s : State) (p : Nat) : State :=
  match (s.prod p).cur, (s.prod p).todo with
  | none, k :: rest =>
    let r := (s.setProd p { s.prod p with todo := rest }).reserve p k
    if r.2 then r.1 else r.1.endPacket k false
  | _, _ => s

/-- Producer p takes one reserved cell from the free-cell stack (R264), which is empty only before a debt is settled
(R277). -/
def State.takeReserved (s : State) (p : Nat) (k : Packet) : State :=
  match s.takeCell (homeBank k.queue) with
  | none => (s.abandonOpen p).endPacket k false
  | some (n, t) =>
    (t.linkWritten k.queue k.cells.getLast?).setProd p { t.prod p with cur := some { k with cells := k.cells ++ [n] } }

/-- CELL_TAKE: an uncorrectable stack entry loses its cell first (R277). -/
def State.cellTake (s : State) (p : Nat) (stack : Ecc) : State :=
  match (s.prod p).cur with
  | none => s
  | some k =>
    if k.need ≤ k.cells.length then s
    else
      let b := homeBank k.queue
      let t := if s.stackEcc b (s.bankFree b - 1) stack = .ue then s.freeUe b (s.bankFree b - 1) else s
      match (t.prod p).cur with
      | none => t
      | some k => t.takeReserved p k

/-- COMMIT (R267): the packet whose cells are all written is linked at the tail, and its header takes its values. -/
def State.commit (s : State) (p : Nat) : State :=
  match (s.prod p).cur with
  | none => s
  | some k =>
    if k.cells.length < k.need then s
    else
      let sub := (s.queue k.queue).committed.filter (fun x => !s.queueOrdered k.queue || x.prio == k.prio)
      let t := s.linkWritten k.queue (match sub.getLast? with | some x => x.cells.getLast? | none => none)
      ((t.commitOpen p (s.finalHeader k)).endPacket k (!k.marked)).flushCheck k.queue

/-! ### Pop and return -/

/-- POP of queue q by the consumer that its settings name (R269, R270, R274). -/
def State.popQueue (s : State) (q : Nat) (copiesDiffer : Bool) : State :=
  if !s.canPop q then s
  else
    let c := s.get (QD.Q_CFG_CONSUMER q)
    let u := s.get (QD.Q_CFG_UNIT q)
    let wants :=
      if c = 1 then s.mayClaim q
      else if c = 2 then s.seamRuns u && (List.range 32).any (fun i => s.seamBinds u i && s.get (SEAM.MEM_QUEUE u i) == q)
      else if c = 3 then s.mouldRuns u && (List.range 64).any (fun i => s.mouldBinds u i && s.get (MOULD.TILE_SRC_QUEUE u i) == q)
      else false
    if !wants then s
    else if copiesDiffer then s.dupMismatch q
    else if c = 1 then s.pourStart q
    else s.claim q

/-- A walk of queue q returns cell n and follows its link entry; `left` are the cells it has yet to reach, which an
uncorrectable entry leaves to a sweep (R273, R275). -/
def State.walkCell (s : State) (q n : Nat) (left : List Nat) (link : Ecc) : State :=
  let t := s.returnCell n
  if left.isEmpty then t
  else
    let t := t.touch (linkAddr n) 4
    match s.linkEcc n link with
    | .good => t
    | .ce => t.linkCe q n
    | .ue =>
      let u := t.queue q
      ((t.setQueue q { u with walk := u.walk.filter (fun x => !left.contains x),
                              markedCells := u.markedCells.filter (fun x => !left.contains x) }).strayCells (homeBank q)
        left).linkUe q n

/-- The next marked cell of queue q returns (R273). -/
def State.returnMarked (s : State) (q : Nat) (link : Ecc) : State :=
  match (s.queue q).markedCells with
  | [] => s.flushCheck q
  | n :: rest => ((s.setQueue q { s.queue q with markedCells := rest }).walkCell q n rest link).flushCheck q

/-- CELL_RETURN: a cell read to its end, or else the next cell of a packet that its consumer gave up, or else the next marked
cell, returns (R270, R273, R275). -/
def State.cellReturn (s : State) (q : Nat) (link : Ecc) : State :=
  let u := s.queue q
  match u.returning, u.walk with
  | n :: rest, _ => (s.setQueue q { u with returning := rest }).returnCell n
  | [], n :: rest => ((s.setQueue q { u with walk := rest }).touch (n * 256) 256).walkCell q n rest link
  | [], [] => s.returnMarked q link

/-! ### Queue commands -/

/-- FLUSH (R273). -/
def State.flushCmd (s : State) (q : Nat) : State :=
  if !s.queueExists q then s
  else if (s.queue q).flushing then s.refuse (ladlePage (homeBank q)) 0x74
  else (s.flushQueue q).flushCheck q

/-- Up to n marked cells of queue q return, each by its link entry. -/
def State.flushWalk (s : State) (q : Nat) (links : List Ecc) (n : Nat) : State :=
  match n with
  | 0 => s
  | m + 1 => (s.returnMarked q (links.headD .good)).flushWalk q links.tail m

/-- FLUSH_DONE: the marked cells return to the last, and no marked packet is open (R273). -/
def State.flushEnd (s : State) (q : Nat) (links : List Ecc) : State :=
  if (s.queue q).flushing && (s.openOn q).all (fun p => !p.2.marked || p.2.outOfOcc) then
    (s.flushWalk q links (s.queue q).markedCells.length).flushCheck q
  else s

/-- RELEASE of a fenced queue leaves it empty and enabled (R276): the fence emptied it. -/
def State.releaseQueue (s : State) (q : Nat) : State :=
  if !s.queueExists q then s
  else if s.on (QD.Q_STATUS_FENCED q) then (s.put (QD.Q_STATUS_FENCED q) 0).put (QD.Q_CFG_EN q) 1
  else s.refuse (ladlePage (homeBank q)) 0x75

/-- CLR_OVR (R280). -/
def State.clrOvr (s : State) (q : Nat) : State :=
  if s.queueExists q then (s.put (QD.Q_STATUS_OVERRUN q) 0).put (QD.Q_HWM q) 0 else s

/-- The queue holds packets, reservations, open or claimed packets (R280). -/
def State.queueBusy (s : State) (q : Nat) : Bool :=
  !(s.queue q).committed.isEmpty || s.get (QD.Q_OCC q) != 0 || !(s.openOn q).isEmpty || (s.queue q).claimed.isSome

/-- A write of Q_CFG (R280): EN, ORDERED, CONSUMER and UNIT. -/
def State.writeQCfg (s : State) (q : Nat) (en ordered : Bool) (consumer unit : Nat) : State :=
  let b := homeBank q
  let was := s.on (QD.Q_CFG_EN q)
  let moved := ordered != s.on (QD.Q_CFG_ORDERED q) || consumer != s.get (QD.Q_CFG_CONSUMER q) ||
    unit != s.get (QD.Q_CFG_UNIT q)
  if !s.queueExists q then s
  else if was && moved then s.refuse (ladlePage b) 0x70
  else if was && !en && s.queueBusy q then s.refuse (ladlePage b) 0x71
  else if !was && en && !s.domainReady (297 + b) then s.refuse (ladlePage b) 0xB3
  else if ordered && !s.on LADLE.LADLE_CFG then s.refuse (ladlePage b) 0x72
  else if consumer = 2 && decide (3 < unit) then s.refuse (ladlePage b) 0x77
  else
    let t := ((s.putB (QD.Q_CFG_EN q) en).putB (QD.Q_CFG_ORDERED q) ordered).put (QD.Q_CFG_CONSUMER q) consumer
    let t := t.put (QD.Q_CFG_UNIT q) unit
    if !was && en then t.put (QD.Q_SEQ q) 0 else t

/-- A write of Q_LIMIT (R280). -/
def State.writeQLimit (s : State) (q v : Nat) : State :=
  if !s.queueExists q then s
  else if 1048576 < v then s.refuse (ladlePage (homeBank q)) 0x73
  else s.put (QD.Q_LIMIT q) v

/-- Some queue has EN = 1. -/
def State.anyQueueOn (s : State) : Bool := (List.range 16384).any (fun q => s.on (QD.Q_CFG_EN q))

/-- A write of ORDER_EN (R271). -/
def State.writeOrderEn (s : State) (v : Bool) : State :=
  if s.anyQueueOn then s.refuse (ladlePage 0) 0x70
  else s.putB LADLE.LADLE_CFG v

/-! ### Scrub and sweep -/

/-- The queue whose packet holds a cell; the bank's lowest queue where none does. -/
def State.cellQueue (s : State) (n : Nat) : Nat :=
  match s.queues.find? (fun p => p.2.committed.any (fun k => k.cells.contains n)) with
  | some p => p.1
  | none => n / 1048576

/-- SCRUB_CHECK (R259, R274, R275, R277, R425). -/
def State.scrub (s : State) (f : ScrubFinding) : State :=
  match f with
  | .dupMismatch q => s.dupMismatch q
  | .linkCe n =>
    let b := n.val / 1048576
    (s.inc (LADLE.LINK_CE b)).occurAuto .ladle b 0 (s.cellQueue n.val) (some n.val)
  | .linkUe n =>
    let b := n.val / 1048576
    let t := { s with badLinks := if s.badLinks.contains n.val then s.badLinks else n.val :: s.badLinks }
    ((t.inc (LADLE.LINK_UE b)).put (LADLE.LINK_UE_CELL b) n.val).recordAuto .ladle b 1 (s.cellQueue n.val) (some n.val)
  | .freeUe b i => s.when (decide (i.val < s.bankFree b.val)) (·.freeUe b.val i.val)
  | .hbmCe h i => (s.inc (HBM.ECC_CE_COUNT h.val)).occurWord .hbm h.val 0 i.val
  | .hbmUe h i a =>
    ((s.inc (HBM.ECC_UE_COUNT h.val)).put64 (HBM.LAST_UE_ADDR_LO h.val) (HBM.LAST_UE_ADDR_HI h.val) a.val).occurAuto .hbm
      h.val 1 i.val (some (hbmWord a.val))
  | .pass h =>
    (s.each (List.range 32) (fun t i => t.wakeChannel (32 * h.val + i))).inc (HBM.SCRUB_PASSES h.val)

/-- SWEEP (R278). -/
def State.sweepCmd (s : State) (b : Nat) : State :=
  if s.bankFenced b then s.refuse (ladlePage b) 0x78
  else if s.on (LADLE.SWEEP_STATUS_BUSY b) then s.refuse (ladlePage b) 0x76
  else (s.startSweep b).accept (ladlePage b) 1

/-- SWEEP_DONE (R278, R279). -/
def State.sweepDone (s : State) (b : Nat) : State :=
  if !s.on (LADLE.SWEEP_STATUS_BUSY b) then s
  else
    let r := s.endSweep b
    let t := if r.2 then r.1.occur .ladle b 4 0 true
      else if r.1.armedAt (ladlePage b) 4 0 then ((r.1.disarm (ladlePage b)).inc (LADLE.ACCT_ERR b)).occur .ladle b 4 0 false
      else r.1
    if (t.bank b).sweepDue then t.wantSweep b else t

/-! ### The commands -/

/-- RESERVATION. -/
def execReservation (p : Fin 45) (s : State) : Host.Outcome State Fault Refusal :=
  .next (s.when (s.running && s.producerOn p) (·.reserveNext p))
/-- CELL_TAKE. -/
def execCellTake (p : Fin 45) (stack : Ecc) (s : State) : Host.Outcome State Fault Refusal :=
  .next (s.when s.running (·.cellTake p stack))
/-- COMMIT. -/
def execCommit (p : Fin 45) (s : State) : Host.Outcome State Fault Refusal := .next (s.when s.running (·.commit p))
/-- POP. -/
def execPop (q : Fin 16384) (copiesDiffer : Bool) (s : State) : Host.Outcome State Fault Refusal :=
  .next (s.when s.running (·.popQueue q copiesDiffer))
/-- CELL_RETURN. -/
def execCellReturn (q : Fin 16384) (link : Ecc) (s : State) : Host.Outcome State Fault Refusal :=
  .next (s.when s.running (·.cellReturn q link))
/-- FLUSH. -/
def execFlush (q : Fin 16384) (s : State) : Host.Outcome State Fault Refusal := .next (s.when s.hostOn (·.flushCmd q))
/-- FLUSH_DONE. -/
def execFlushDone (q : Fin 16384) (s : State) (links : List Ecc := []) : Host.Outcome State Fault Refusal :=
  .next (s.when s.running (·.flushEnd q links))
/-- QUEUE_RELEASE. -/
def execQueueRelease (q : Fin 16384) (s : State) : Host.Outcome State Fault Refusal :=
  .next (s.when s.hostOn (·.releaseQueue q))
/-- CLR_OVR. -/
def execClrOvr (q : Fin 16384) (s : State) : Host.Outcome State Fault Refusal := .next (s.when s.hostOn (·.clrOvr q))
/-- QUEUE_ENABLE. -/
def execQueueEnable (q : Fin 16384) (ordered : Bool) (consumer : Fin 4) (unit : Fin 8) (s : State) :
    Host.Outcome State Fault Refusal :=
  .next (s.when s.hostOn (·.writeQCfg q true ordered consumer unit))
/-- QUEUE_DISABLE. -/
def execQueueDisable (q : Fin 16384) (s : State) : Host.Outcome State Fault Refusal :=
  .next (s.when s.hostOn (fun t => t.writeQCfg q false (t.on (QD.Q_CFG_ORDERED q)) (t.get (QD.Q_CFG_CONSUMER q))
    (t.get (QD.Q_CFG_UNIT q))))
/-- ORDER_EN_WRITE. -/
def execOrderEnWrite (v : Bool) (s : State) : Host.Outcome State Fault Refusal :=
  .next (s.when s.hostOn (·.writeOrderEn v))
/-- SCRUB_CHECK. -/
def execScrubCheck (f : ScrubFinding) (s : State) : Host.Outcome State Fault Refusal := .next (s.when s.running (·.scrub f))
/-- SWEEP. -/
def execSweep (b : Fin 16) (s : State) : Host.Outcome State Fault Refusal := .next (s.when s.hostOn (·.sweepCmd b))
/-- SWEEP_DONE. -/
def execSweepDone (b : Fin 16) (s : State) : Host.Outcome State Fault Refusal := .next (s.when s.running (·.sweepDone b))

end Sys2Proof.Machine
end

