-- ==== Sys2Proof/Machine/Compose.lean ====
section
/-!
DEFINITION. The commands of seam and mould units at work: packets they take, lines they form and read out, and stale tiles
(R204 to R209, R211 to R218).
-/

namespace Sys2Proof.Machine

/-! ### Taking packets (R203, R211, R269, R270) -/

/-- Queue q with its head packet claimed for the unit that is its consumer, where it holds none yet. -/
def State.claimFor (s : State) (q : Nat) : State := if s.canPop q then s.claim q else s

/-- The state of link i of a packet's chain, from cell i to cell i + 1, as a read of the packet finds it. -/
def State.chainLink (s : State) (p : Packet) (links : List Ecc) (i : Nat) : Ecc :=
  s.linkEcc (p.cells.getD i 0) (links.getD i .good)

/-- The cells of a packet that lie in a fenced pseudo-channel, by their place in the chain (R277). -/
def State.deadCells (s : State) (p : Packet) : List Nat :=
  (List.range p.cells.length).filter (fun i => s.cellFails (p.cells.getD i 0))

/-- What a reader finds of a packet some of whose cells cannot be read: the bytes of those are open values, the header's too
where it is the first (R277; log entry 4). -/
def State.readCells (s : State) (p : Packet) (dead : List Nat) : Packet × State :=
  if dead.isEmpty then (p, s)
  else
    let f := s.drawBytes (64 + p.payload.length)
    let byte (i : Nat) (v : Byte) : Byte := if dead.contains ((64 + i) / 256) then f.1.getD (64 + i) 0 else v
    let k := { p with payload := (List.range p.payload.length).map (fun i => byte i (p.payload.getD i 0)) }
    if dead.contains 0 then
      let at_ (o n : Nat) : Nat := leNat ((f.1.drop o).take n)
      ({ k with hdr := { k.hdr with hflags := at_ 1 1, srcSub := at_ 13 1, shot := at_ 16 4, version := at_ 20 4,
                                    line := at_ 24 4, lflags := at_ 32 2, tTrig := at_ 48 8, aux := at_ 56 4 } }, f.2)
    else (k, f.2)

/-- The unit that has claimed a packet of queue q reads it whole, and answers what it read: nothing where it meets an
uncorrectable link entry, at which the packet is slag and the queue is reset (R275). The HBM pages report cells in fenced
pseudo-channels (R277). -/
def State.readOut (s : State) (q : Nat) (links : List Ecc) : Option Packet × State :=
  match (s.queue q).claimed with
  | none => (none, s)
  | some p =>
    let steps := List.range (p.cells.length - 1)
    match steps.find? (fun i => s.chainLink p links i == .ue) with
    | some i => (none, (s.readUpTo q (256 * (i + 1))).linkUe q (p.cells.getD i 0))
    | none =>
      let t := s.each (steps.filter (fun i => s.chainLink p links i == .ce)) (fun t i => t.linkCe q (p.cells.getD i 0))
      match (t.queue q).claimed with
      | none => (none, t)
      | some p =>
        let dead := t.deadCells p
        let r := (t.endClaim q).readCells p dead
        (some r.1, r.2.each dead (fun t i => t.hbmUe (p.cells.getD i 0 * 256)))

/-! ### Strip lines (R204 to R207) -/

/-- The HBM addresses of the uncorrectable reads of the current strip line, which the HBM pages report (R210). -/
def State.readFaults (s : State) (u : Nat) (bad : List (Nat × Nat)) : List Nat := (s.badReads u bad).map (storeAddr u)

/-- Strip line L is forced, and its uncorrectable reads are reported (R206, R210). -/
def State.forceLine (s : State) (u : Nat) (bad : List (Nat × Nat)) : State :=
  (s.forceStrip u bad).each (s.readFaults u bad) State.hbmUe

/-- Store overflow (R206): lines are forced until index k of member i fits; the fuel is how far it is ahead. -/
def State.forceUntil (s : State) (u i k : Nat) (bad : List (Nat × Nat)) : Nat → State
  | 0 => s
  | n + 1 =>
    if 1024 ≤ serialDiff k (s.needIndex u i) && !serialLt k (s.needIndex u i) then
      (s.forceLine u bad).forceUntil u i k bad n
    else s

/-- Seam u takes a packet of member i (R204, R206, R207). -/
def State.takeMember (s : State) (u i : Nat) (p : Packet) (bad : List (Nat × Nat)) : State :=
  if p.payload.length ≠ s.get (SEAM.MEM_WIDTH u i) * s.seamSample u || bitOf p.hdr.hflags 2 then s.badMember u i p
  else
    let k := s.memberIndex u i p.hdr.shot p.hdr.line
    if serialLt k (s.needIndex u i) || (s.stored u i k).isSome then
      (s.inc (SEAM.SEAM_LATE u)).raise (seamPage u) 2
    else (s.forceUntil u i k bad (serialDiff k (s.needIndex u i))).storeMember u i k p

/-- SEAM_PACKET. -/
def State.seamPacket (s : State) (u i : Nat) (links : List Ecc) (bad : List (Nat × Nat)) : State :=
  if !s.seamBinds u i then s
  else
    let q := s.get (SEAM.MEM_QUEUE u i)
    match (s.claimFor q).readOut q links with
    | (none, t) => t
    | (some p, t) => t.takeMember u i p bad

/-- MOULD_PACKET. -/
def State.mouldPacket (s : State) (m n : Nat) (links : List Ecc) : State :=
  if !s.mouldBinds m n then s
  else
    let q := s.get (MOULD.TILE_SRC_QUEUE m n)
    match (s.claimFor q).readOut q links with
    | (none, t) => t
    | (some p, t) => t.takeTile m n p

/-- SEAM_LINE_FORM: every member of the current strip line is stored or missing; the HBM pages report bad slot reads (R210). -/
def State.seamForm (s : State) (u : Nat) (bad : List (Nat × Nat)) : State :=
  if !s.lineReady u then s
  else ((s.emitStrip u bad).nextStrip u).each (s.readFaults u bad) State.hbmUe

/-- SEAM_TIMEOUT: with a member line stored and others not, the line is forced (R206). -/
def State.seamTimeout (s : State) (u : Nat) (bad : List (Nat × Nat)) : State :=
  if s.get (SEAM.SEAM_TIMEOUT u) = 0 || !s.lineStarted u then s
  else if s.lineReady u then s.seamForm u bad
  else s.forceLine u bad

/-! ### Output frames (R216, R217) -/

/-- Every tile starts a new output frame period; `latch`: it latches its latest slot or its newest row. -/
def State.tilePeriods (s : State) (m : Nat) (latch : Bool) : State :=
  s.each (List.range 64) (fun t n =>
    if !t.tileOn m n then t
    else
      let x := t.tile m n
      let v := if t.on (MOULD.TILE_CTRL_MODE m n) then some x.rows else x.latest
      t.setTile m n { x with inPeriod := 0, latched := if latch then v else x.latched })

/-- MOULD_FRAME_START: frame n comes due at T0 + floor(n · 10^9 / F). -/
def State.mouldFrame (s : State) (m : Nat) : State :=
  let k := s.mould m
  let t := s.reach (k.t0 + k.n * 1000000000 / s.get (MOULD.MOULD_RATE m))
  match k.reading with
  | some _ =>
    let t := (t.tilePeriods m false).setMould m { (t.tilePeriods m false).mould m with n := k.n + 1 }
    (t.inc (MOULD.FRAME_SKIP m)).raise (mouldPage m) 0
  | none =>
    let t := t.tilePeriods m true
    let t := t.setMould m { t.mould m with
      n := k.n + 1, reading := some (k.n, 0),
      alarm := t.get64 (MOULD.ALARM_LO m) (MOULD.ALARM_HI m), stale := t.get64 (MOULD.STALE_LO m) (MOULD.STALE_HI m),
      bg := t.get (MOULD.BG_COLOUR m), border := t.get (MOULD.BORDER_COLOUR m),
      alarmColour := t.get (MOULD.ALARM_COLOUR m), staleColour := t.get (MOULD.STALE_COLOUR m) }
    t.inc (MOULD.FRAME_COUNT m)

/-- HBM address that panel pixel (x, y) reads, where a tile with a slot covers it. -/
def State.panelAddr (s : State) (m x y : Nat) : Option Nat :=
  match s.coverTile m x y with
  | none => none
  | some t =>
    let r := y - s.get (MOULD.TILE_POS_DY m t)
    let th := s.get (MOULD.TILE_SIZE_TH m t)
    match (s.tile m t).base, s.shownRow m t r with
    | some base, some q =>
      some (base + q / th * s.slotBytes m t +
        (q % th * s.get (MOULD.TILE_SIZE_TW m t) + (x - s.get (MOULD.TILE_POS_DX m t))) * s.mouldBytes m)
    | _, _ => none

/-- The slot reads of output line y, of the pseudo-channels that hold them (R405). -/
def State.readPanel (s : State) (m y : Nat) : State :=
  if s.hbmRests then
    s.each ((List.range (s.get (MOULD.MOULD_SIZE_WIDTH m))).filterMap (fun x => s.panelAddr m x y)) (fun t a =>
      t.touch a (s.mouldBytes m))
  else s

/-- MOULD_LINE_READOUT: the next line of the output frame; the HBM pages report every bad slot read (R218). -/
def State.mouldLine (s : State) (m : Nat) (bad : List Nat) : State :=
  match (s.mould m).reading with
  | none => s
  | some (n, y) =>
    let t := (s.readPanel m y).pushPacket (37 + m) (s.panelPacket m n y bad)
    let last := decide (s.get (MOULD.MOULD_SIZE_HEIGHT m) ≤ y + 1)
    let t := t.setMould m { t.mould m with reading := if last then none else some (n, y + 1) }
    t.each ((bad.filter (fun x => decide (x < s.get (MOULD.MOULD_SIZE_WIDTH m)))).filterMap (fun x => s.panelAddr m x y)) State.hbmUe

/-- TILE_STALE. -/
def State.tileStale (s : State) (m n : Nat) : State :=
  if s.get (MOULD.STALE_MS m) = 0 || !s.tileOn m n || s.isStale m n then s
  else (s.setStale m n true).raise (mouldPage m) 1

/-! ### The commands -/

/-- SEAM_PACKET. -/
def execSeamPacket (u : Fin 4) (i : Fin 32) (s : State) (links : List Ecc := []) (bad : List (Nat × Nat) := []) :
    Host.Outcome State Fault Refusal :=
  .next (s.when (s.seamRuns u) (·.seamPacket u i links bad))
/-- SEAM_LINE_FORM. -/
def execSeamLineForm (u : Fin 4) (bad : List (Nat × Nat)) (s : State) : Host.Outcome State Fault Refusal :=
  .next (s.when (s.seamRuns u) (·.seamForm u bad))
/-- SEAM_TIMEOUT. -/
def execSeamTimeout (u : Fin 4) (bad : List (Nat × Nat)) (s : State) : Host.Outcome State Fault Refusal :=
  .next (s.when (s.seamRuns u) (·.seamTimeout u bad))
/-- MOULD_PACKET. -/
def execMouldPacket (m : Fin 8) (t : Fin 64) (s : State) (links : List Ecc := []) : Host.Outcome State Fault Refusal :=
  .next (s.when (s.mouldRuns m) (·.mouldPacket m t links))
/-- MOULD_FRAME_START. -/
def execMouldFrameStart (m : Fin 8) (s : State) : Host.Outcome State Fault Refusal :=
  .next (s.when (s.mouldRuns m) (·.mouldFrame m))
/-- MOULD_LINE_READOUT. -/
def execMouldLineReadout (m : Fin 8) (bad : List Nat) (s : State) : Host.Outcome State Fault Refusal :=
  .next (s.when (s.mouldRuns m) (·.mouldLine m bad))
/-- TILE_STALE. -/
def execTileStale (m : Fin 8) (t : Fin 64) (s : State) : Host.Outcome State Fault Refusal :=
  .next (s.when (s.mouldRuns m) (·.tileStale m t))

end Sys2Proof.Machine
end

