-- ==== Sys2Proof/Machine/FaultCmd.lean ====
section
/-!
DEFINITION. The commands of the fault logic: occurrences, condition sites, escalation, fences, releases, remaps and
injections (R352 to R377, R471).
-/

namespace Sys2Proof.Machine

/-- DETAIL names a sub-unit of the site (R365, R366). -/
def State.detailOk (s : State) (p : Page) (n bit detail : Nat) : Bool :=
  match siteAt p n bit with
  | none => false
  | some x =>
    decide (detail < x.details) &&
    (match p with
     | .gate => decide (4 < bit) || detail == bit
     | .ladle => decide (2 < bit) || (detail % 16 == n && s.queueExists detail)
     | _ => true)

/-! ### Occurrences (R353, R365) -/

/-- The condition of a clock site can arise: the PLL was locked, REFCLK good (R365, R406). -/
def State.clockWasGood (s : State) (bit : Nat) : Bool :=
  if bit = 0 then s.on CLK.CLK_STATUS_CRUCIBLE_LOCK
  else if bit = 1 then s.on CLK.CLK_STATUS_REFCLK_OK
  else s.on CLK.CLK_STATUS_PEX_PLL_LOCK

/-- The line at the head of a port's riser is delivered as a pad line: its words cannot be read (R365, RISER_UE). -/
def State.padHead (s : State) (c : Nat) : State :=
  let l := s.link c
  match l.riser with
  | .line x :: t =>
    s.setLink c { l with riser := .line { x with pixels := s.padPixels c, flags := setBitN (x.flags % 64 / 32 * 32) 2, replace := false } :: t }
  | .marker _ :: _ => s
  | [] => s

/-- What an occurrence does beside the fault registers: its counts, where it was found, and the containment of its row (R258, R274,
R275, R277, R279, R365). -/
def State.countSite (s : State) (p : Page) (n bit detail loc : Nat) : State :=
  match p with
  | .ladle =>
    if bit = 0 then s.inc (LADLE.LINK_CE n)
    else if bit = 1 then (s.inc (LADLE.LINK_UE n)).put (LADLE.LINK_UE_CELL n) (loc % 16777216)
    else if bit = 2 then s.inc (LADLE.DUP_MISMATCH n)
    else if bit = 3 then s.loseFree n loc
    else if bit = 4 then s.inc (LADLE.ACCT_ERR n)
    else s
  | .hbm =>
    if bit = 0 then s.inc (HBM.ECC_CE_COUNT n)
    else if bit = 1 then (s.inc (HBM.ECC_UE_COUNT n)).put64 (HBM.LAST_UE_ADDR_LO n) (HBM.LAST_UE_ADDR_HI n) loc
    else s
  | .gate => if bit = 10 then s.padHead (2 * n + detail) else s
  | _ => s

/-- The status register of a PLL or of REFCLK follows its condition (R406). -/
def State.clockStatus (s : State) (p : Page) (bit : Nat) (good : Bool) : State :=
  if p = .clk then
    s.putB (if bit = 0 then CLK.CLK_STATUS_CRUCIBLE_LOCK else if bit = 1 then CLK.CLK_STATUS_REFCLK_OK
      else CLK.CLK_STATUS_PEX_PLL_LOCK) good
  else s

/-- Words of the site stand in structures that the state addresses: HBM words, link entries and free-stack entries. -/
def addressed (p : Page) (bit : Nat) : Bool :=
  match p with
  | .hbm => decide (bit < 2)
  | .ladle => decide (bit < 2) || bit == 3
  | .dev => false | .clk => false | .pwr => false | .time => false | .chk => false | .trg => false | .shot => false
  | .gate => false | .brg => false | .slice => false | .qd => false | .pour => false | .ring => false | .pex => false
  | .seam => false | .mould => false | .cam => false | .msix => false | .pba => false

/-- The injection that an injected occurrence comes from: armed at its site and sub-unit, and, where the site addresses its
words, with one altered (R375). -/
def State.injectionDue (s : State) (p : Page) (n bit detail : Nat) : Option Armed :=
  match s.armedOf (pageAddr p n) with
  | some x => if x.bit == bit && x.detail == detail && (!addressed p bit || x.word.isSome) then some x else none
  | none => none

/-- `loc` names a fault register of a page, of which a shadow copy is held: page × 32 + register (R17, R356). -/
def shadowed (loc : Nat) : Bool :=
  decide (12 ≤ loc % 32) && decide (loc % 32 ≤ 23) && decide (loc / 32 < 4096) &&
  (match hdrPage (loc / 32 * 0x1000) with
   | some (p, n) => !(sites p n).isEmpty
   | none => false)

/-- The site can occur as the device stands: the monitor's condition is one of a clock that was good (R406), a port in READY and
its lane (R103, R104), an enabled encoder (R455), an entry on the free-cell stack (R277), or a shadow copy (R17). -/
def State.canOccur (s : State) (p : Page) (n bit detail loc : Nat) : Bool :=
  match p with
  | .clk => s.clockWasGood bit
  | .dev => bit != 2 || shadowed loc
  | .gate =>
    if bit = 5 || bit = 6 then s.linkState (2 * n + bit - 5) == linkReady
    else if bit = 7 || bit = 8 then
      s.linkState (2 * n + bit - 7) == linkReady && (s.lanesOf (2 * n + bit - 7)).contains detail
    else true
  | .trg => n != 1 || bit != 0 || s.on (TRG.ENC_CFG_EN detail)
  | .ladle => bit != 3 || decide (loc < s.bankFree n)
  | _ => true

/-- The occurrence's pulse crosses to the fault registers on ACLK; in quench the units' clocks have stopped (R372, R390, R392). -/
def State.occurPulse (s : State) (p : Page) (n bit : Nat) (acked : Bool) : State :=
  if s.quenched || s.alreadyLive p n bit then s else s.pulse (pageAddr p n) true acked

/-- The shadow copies of a fault register differ (R17, R371): the quench record names its page and register. -/
def State.shadowMismatch (s : State) (loc : Nat) (real : Bool) : State :=
  ((s.noteEvent devPage 2 0).occurRecord devPage 2 0 real).quench 3 (loc / 32 * 4096) (loc % 32) 0 (!real)

/-- FAULT_OCCURRENCE at a site of a page: an injected one needs its injection armed (R375, R377). A real one ends an injection
only where it is found in the word that the injection altered. -/
def State.siteOccurs (s : State) (p : Page) (n bit detail : Nat) (real acked : Bool) (loc : Nat) : State :=
  let page := pageAddr p n
  let due := s.injectionDue p n bit detail
  let word := due.bind (fun x => x.word)
  let loc := if real then loc else if p = .dev then 13 else word.getD loc
  let mine := !real || (addressed p bit && word == some (if p = .hbm then hbmWord loc else loc))
  if !s.detailOk p n bit detail || (!real && due.isNone) || s.isLive page bit detail || !s.canOccur p n bit detail loc then s
  else
    let t := (if mine then s.disarm page else s).occurPulse p n bit acked
    if p = .dev && bit = 2 then t.shadowMismatch loc real
    else if s.quenched then t.occur p n bit detail real
    else if real && p = .gate && (bit = 5 || bit = 6) then t.clockLoss (2 * n + bit - 5)
    else if real && p = .gate && (bit = 7 || bit = 8) then t.alignLoss (2 * n + bit - 7) detail
    else
      let t := t.countSite p n bit detail loc
      let t := if real then t.clockStatus p bit false else t
      let t := t.occur p n bit detail real
      if p = .ladle && (bit = 1 || bit = 2) then t.containQueue detail else t

/-- The monitored condition of a site returns to 0 (R353): the fence and the timer it caused stay (R354). -/
def State.siteClears (s : State) (p : Page) (n bit detail : Nat) : State :=
  let page := pageAddr p n
  if !s.isLive page bit detail then s
  else
    let t := (s.setLive page bit detail false).clockStatus p bit true
    if p = .pwr then
      { t with supply := if bit = 0 then { t.supply with railsOut := [] } else { t.supply with hot := false } }
    else t

/-! ### FAULT_STICKY and escalation (R353, R354, R362, R363) -/

/-- FAULT_STICKY written (R353, R354, R377). -/
def State.clearSticky (s : State) (page bits : Nat) : State :=
  let old := s.get (HDR.FAULT_STICKY page)
  let keep : Nat := (List.range 32).foldl (fun v n =>
    if bitOf old n && (!bitOf bits n || bitOf (s.liveConds page) n) then setBitN v n else v) 0
  let t := (s.put (HDR.FAULT_STICKY page) keep).put (HDR.FAULT_INJ_TAGGED page)
    (Nat.land (s.get (HDR.FAULT_INJ_TAGGED page)) keep)
  if keep = 0 then t.put (HDR.FAULT_FIRST_VALID page) 0 else t

/-- The escalation timer of a page reaches 0 (R363). -/
def State.escExpiry (s : State) (page : Nat) : State :=
  if !s.on (HDR.ESC_STATUS_RUNNING page) then s
  else
    let e := s.escOf page
    (s.reach (e.start + 1000 * e.us)).expire page e.occs

/-- ESC_STATUS.ACK written (R362): too late at the expiry or after it, which then comes first (R363). -/
def State.ackEsc (s : State) (page : Nat) : State :=
  let e := s.escOf page
  let t := if !s.on (HDR.ESC_STATUS_RUNNING page) then s
    else if s.now < e.start + 1000 * e.us then s.stopEsc page
    else s.expire page e.occs
  if t.quenched then t else t.put (HDR.ESC_STATUS_EXPIRED page) 0

/-! ### FAULT_RELEASE and FAULT_FENCE (R364, R471) -/

/-- The unit that SCOPE, INDEX and the port bit select in a page; none: refused with 0xA6 (R364, R471). -/
def scopeUnit (p : Page) (n scope index port : Nat) : Option FUnit :=
  if scope = 0 then
    match p with
    | .chk => some (.chk n)
    | .trg => if n = 0 then some .fabric else none
    | .shot => some (.group n)
    | .gate => some (.gate n)
    | .brg => some (.engine n)
    | .slice => some (.slice n)
    | .ladle => some (.bank n)
    | .pour => if n = 0 then some .pour else none
    | .seam => some (.seam n)
    | .mould => some (.mould n)
    | .cam => some (.port n)
    | .dev => none | .clk => none | .pwr => none | .time => none | .hbm => none | .pex => none | .qd => none
    | .ring => none | .msix => none | .pba => none
  else if scope = 1 then (if p = .gate then some (.port (2 * n + port)) else none)
  else if scope = 3 then (if p = .hbm then some (.channel n index) else none)
  else if scope = 4 then (if p = .trg && n = 1 && decide (index < 8) then some (.enc index) else none)
  else none

/-- A condition site that names the unit is live (R364). -/
def State.unitLive (s : State) (u : FUnit) : Bool :=
  s.faults.live.any (fun l =>
    match hdrPage (l.page) with
    | some (p, n) => (siteUnits p n l.bit l.detail).contains u
    | none => false)

/-- FAULT_RELEASE (R364). -/
def State.cmdRelease (s : State) (p : Page) (n scope index port : Nat) : State :=
  let page := pageAddr p n
  if (sites p n).isEmpty then s.refuse page 0x01
  else match scopeUnit p n scope index port with
  | none => s.refuse page 0xA6
  | some u =>
    let busy := match u with | .slice _ => s.on SLICE.SPARE_STATUS_BUSY | _ => false
    let orphan := match u with | .port c => s.sliceFenced (s.serving c) | _ => false
    if !s.unitFenced u then s.refuse page 0xA5
    else if s.unitLive u then s.refuse page 0xA1
    else if busy then s.refuse page 0xA7
    else if orphan then s.refuse page 0xA8
    else (s.accept page 0xF0).releaseUnit u

/-- FAULT_FENCE (R364, R363). -/
def State.cmdFence (s : State) (p : Page) (n scope index port : Nat) : State :=
  let page := pageAddr p n
  if (sites p n).isEmpty then s.refuse page 0x01
  else match scopeUnit p n scope index port with
  | none => s.refuse page 0xA6
  | some u => ((s.accept page 0xF1).unpend u).fenceUnit u

/-! ### Injection (R375, R376) -/

/-- FAULT_INJ written with GO = 1. -/
def State.armFault (s : State) (p : Page) (n bit detail : Nat) : State :=
  let page := pageAddr p n
  if !s.detailOk p n bit detail then s.refuse page 0xA2
  else if s.on (HDR.FAULT_INJ_ARMED page) then s.refuse page 0xA3
  else if (s.siteClass page bit == 2 || (p == .pwr && bit == 2 && detail == 325)) && !s.on DEV.QUENCH_CFG then
    s.refuse page 0xA4
  else
    let t := ((s.put (HDR.FAULT_INJ_BIT page) bit).put (HDR.FAULT_INJ_DETAIL page) detail).put (HDR.FAULT_INJ_ARMED page) 1
    { t with faults := { t.faults with armed := (page, { bit := bit, detail := detail }) :: t.faults.armed } }

/-! ### The remap (R368, R370) -/

/-- REMAP_DONE: the intake of the ports switches to their new slice, and its arbiter restarts. -/
def State.remapDone (s : State) (ns : Nat) : State :=
  match s.faults.remap with
  | none => s
  | some r =>
    let target := if r.back then r.k else 32
    if !s.sliceOn target || s.sliceFenced target then s
    else
      let t := { s with faults := { s.faults with remap := none } }
      let t := (t.put SLICE.SPARE_STATUS_BUSY 0).put SLICE.LAST_INTERRUPT ns
      let t := if r.back then (t.put SLICE.SPARE_STATUS_IN_USE 0).put SLICE.SPARE_STATUS_FOR 0
        else ((t.put SLICE.SPARE_STATUS_IN_USE 1).put SLICE.SPARE_STATUS_FOR r.k).inc SLICE.REMAP_COUNT
      let t := t.setSlice target { t.slice target with last := 7 }
      t.each ((t.servedPorts target).filter t.portEnabled) (fun t c => t.reloadColumns c)

/-! ### The commands -/

/-- Apply an operation to the page with a common header at BAR0 offset page × 0x1000; elsewhere nothing (R412). -/
def State.onPage (s : State) (page : Nat) (f : State → Page → Nat → State) : State :=
  match hdrPage (page * 0x1000) with
  | some (p, n) => f s p n
  | none => s

/-- REFCLK is lost or returns, seen at CLK site 1, also while PORESET_N is low (R365, R461). -/
def State.refclkSeen (s : State) (page bit : Nat) (present : Bool) : State :=
  if s.supply.aon && page * 0x1000 == clkPage && bit == 1 then { s with supply := { s.supply with refclk := present } } else s

/-- FAULT_OCCURRENCE. -/
def execFaultOccurrence (page : Fin 4096) (bit : Fin 32) (detail : Fin 65536) (real acked : Bool) (s : State) (loc : Nat := 0) :
    Host.Outcome State Fault Refusal :=
  let t := if real then s.refclkSeen page bit false else s
  .next (t.when s.awake (fun t => t.onPage page (fun t p n => t.siteOccurs p n bit detail real acked loc)))
/-- CONDITION_SITE_CLEARS. -/
def execConditionSiteClears (page : Fin 4096) (bit : Fin 32) (detail : Fin 65536) (s : State) :
    Host.Outcome State Fault Refusal :=
  .next ((s.refclkSeen page bit true).when s.awake (fun t => t.onPage page (fun t p n => t.siteClears p n bit detail)))
/-- REMAP_DONE. -/
def execRemapDone (ns : Word) (s : State) : Host.Outcome State Fault Refusal :=
  .next (s.when s.running (·.remapDone ns.toNat))
/-- ESCALATION_EXPIRY. -/
def execEscalationExpiry (page : Fin 4096) (s : State) : Host.Outcome State Fault Refusal :=
  .next (s.when s.running (fun t => t.onPage page (fun t p n => t.escExpiry (pageAddr p n))))
/-- ESC_ACK. -/
def execEscAck (page : Fin 4096) (s : State) : Host.Outcome State Fault Refusal :=
  .next (s.when s.hostOn (fun t => t.onPage page (fun t p n => t.ackEsc (pageAddr p n))))
/-- FAULT_STICKY_CLEAR. -/
def execFaultStickyClear (page : Fin 4096) (bits : Word) (s : State) : Host.Outcome State Fault Refusal :=
  .next (s.when s.hostOn (fun t => t.onPage page (fun t p n => t.clearSticky (pageAddr p n) bits.toNat)))
/-- FAULT_RELEASE. -/
def execFaultRelease (page : Fin 4096) (scope : Fin 16) (index : Fin 32) (port : Fin 2) (s : State) :
    Host.Outcome State Fault Refusal :=
  .next (s.when s.hostOn (fun t => t.onPage page (fun t p n => t.cmdRelease p n scope index port)))
/-- FAULT_FENCE. -/
def execFaultFence (page : Fin 4096) (scope : Fin 16) (index : Fin 32) (port : Fin 2) (s : State) :
    Host.Outcome State Fault Refusal :=
  .next (s.when s.hostOn (fun t => t.onPage page (fun t p n => t.cmdFence p n scope index port)))
/-- FAULT_INJECT. -/
def execFaultInject (page : Fin 4096) (bit : Fin 32) (detail : Fin 65536) (s : State) : Host.Outcome State Fault Refusal :=
  .next (s.when s.hostOn (fun t => t.onPage page (fun t p n => t.armFault p n bit detail)))

end Sys2Proof.Machine
end

