-- ==== Sys2Proof/Machine/PourCmd.lean ====
section
/-!
DEFINITION. The commands of the pour engine, the host link, interrupts, table-load requests and device time
(R284 to R318).
-/

namespace Sys2Proof.Machine

/-! ### Ring settings and doorbells (R295, R297, R313) -/

/-- A ring register other than RING_CFG written: refused where it would change while EN is 1 (R313). -/
def State.writeRingReg (s : State) (q : Nat) (f : Fld) (v : Nat) : State :=
  if s.on (RING.RING_CFG_EN q) && s.get f != v % 2 ^ (f.hi + 1 - f.lo) then s.refuse (pourPage 0) 0x80 else s.put f v

/-- The writable fields of a RING_CFG word other than EN (R313). -/
def ringSettings (w : Word) : Nat := getBits w 30 27 * 32 + getBits w 4 0

/-- RING_CFG written (R295, R313). -/
def State.writeRingCfg (s : State) (q : Nat) (w : Word) : State :=
  let page := pourPage 0
  let was := s.on (RING.RING_CFG_EN q)
  let en := getBits w 31 31 == 1
  let size := getBits w 4 0
  if was && ringSettings w != ringSettings (s.word (ringConf q + 0x10)) then s.refuse page 0x80
  else if size < 4 || 16 < size then s.refuse page 0x81
  else if en && (s.get (RING.DESC_BASE_LO q) % 64 != 0 || s.get (RING.CPL_BASE_LO q) % 64 != 0) then s.refuse page 0x81
  else if en && (s.get (QD.Q_CFG_CONSUMER q) != 1 || !s.queueExists q) then s.refuse page 0x82
  else
    let t := ((s.put (RING.RING_CFG_URGENT q) (getBits w 30 30)).put (RING.RING_CFG_NOSNOOP q) (getBits w 29 29)).put
      (RING.RING_CFG_INT_EN q) (getBits w 28 28)
    let t := ((t.put (RING.RING_CFG_AUTO_ARM q) (getBits w 27 27)).put (RING.RING_CFG_SIZE q) size).putB (RING.RING_CFG_EN q) en
    if en && !was then
      if s.on (RING.RING_CFG_BUSY q) then t.setRing q { t.ring q with enablePending := true } else t.ringStart q
    else if was && !en then (t.setRing q { t.ring q with enablePending := false }).settleDelivery q
    else t

/-- Doorbell writes of ring q take effect (R295, R298). -/
def State.doorbellOn (s : State) (q : Nat) : Bool :=
  s.queueExists q && s.on (RING.RING_CFG_EN q) && !(s.ring q).enablePending

/-- A BAR4 access that is not an aligned 32-bit or 64-bit one is ignored and counted (R288, R317). -/
def State.badAccess (s : State) : State := (s.inc PEX.BAD_ACCESS).raise pexPage 1

/-- A BAR4 access of an aligned 32-bit word, with its byte enables: a malformed one is counted, and a read of it returns 0; in
quench a write is discarded and a read returns 0 (R288, R297, R373). -/
def State.doorbell (s : State) (q : Nat) (enables : Nat) (read : Bool) (value : Nat) (write : State → State) : State :=
  if s.hostOn then
    if enables ≠ 15 then (if read then s.badAccess.emit (.doorbell q 0) else s.badAccess)
    else if read then s.emit (.doorbell q value) else write s
  else if s.quenched && s.readable && read then s.emit (.doorbell q 0)
  else s

/-- Doorbell word DESC_TAIL (R297, R298): a descriptor that is no longer posted is no longer held. -/
def State.descTail (s : State) (q v : Nat) : State :=
  if !s.doorbellOn q then s
  else
    let t := s.setRing q { s.ring q with descTail := v % 65536 }
    let used := match (s.ring q).delivery with | some d => d.used | none => 0
    t.setRing q { t.ring q with fetched := (t.ring q).fetched.take (t.posted q - used) }

/-- Doorbell word CPL_HEAD (R297, R298). -/
def State.cplHead (s : State) (q v : Nat) : State :=
  if s.doorbellOn q then s.setRing q { s.ring q with cplHead := v % 65536 } else s

/-- Doorbell word IRQ_ARM (R297, R305). -/
def State.irqArm (s : State) (q v : Nat) : State :=
  if s.doorbellOn q && bitOf v 0 then (s.put (RING.RING_CFG_ARMED q) 1).ringCheck q else s

/-! ### Delivery (R291, R294 to R296, R302) -/

/-- A descriptor of 32 bytes (R291). -/
def parseDesc (l : List Byte) : Desc :=
  let len := leAt l 8 2
  if leAt l 0 1 % 64 ≠ 0 || (1 ≤ len && len ≤ 63) || leAt l 10 6 ≠ 0 || leAt l 24 8 ≠ 0 then .bad
  else .buffer (leAt l 0 8) (if len = 0 then 65536 else len) (leAt l 16 8)

/-- Descriptors of a ring read or used and not yet consumed. -/
def State.descTaken (s : State) (q : Nat) : Nat :=
  (s.ring q).fetched.length + (match (s.ring q).delivery with | some d => d.used | none => 0)

/-- DESC_READ_DONE: one read request of up to 8 posted descriptors, which stand together in the ring (R298). -/
def State.descRead (s : State) (q : Nat) (data : List Byte) (ok : Bool) : State :=
  let n := if ok then data.length / 32 else 1
  let at_ := (s.get (RING.RING_IDX_DESC_HEAD q) + s.descTaken q) % s.ringEntries q
  if n = 0 || 8 < n || s.posted q < s.descTaken q + n || s.ringEntries q < at_ + n || s.on (RING.RING_CFG_HALTED q) then s
  else
    let addr := s.get64 (RING.DESC_BASE_LO q) (RING.DESC_BASE_HI q) + 32 * at_
    let got := if ok then (chunks 32 (data.take (32 * n))).map parseDesc else [.readErr]
    let t := s.emit (.dmaRead addr (32 * n))
    (t.setRing q { t.ring q with fetched := (t.ring q).fetched ++ got }).settleDelivery q

/-- The delivery of a ring opens its next buffer where it has none (R294). -/
def State.openBuffer (s : State) (q : Nat) : State :=
  let r := s.ring q
  match r.delivery with
  | none => s
  | some d =>
    if d.ended.isSome || d.buf.isSome then s
    else match r.fetched with
      | .buffer addr len cookie :: rest =>
        let ck := if d.used = 0 then cookie else d.cookie
        s.setRing q { r with fetched := rest,
                             delivery := some { d with used := d.used + 1, buf := some (addr, len), cookie := ck } }
      | _ => s

/-- The cells that bytes a .. b - 1 of a packet enter by a link: those whose first byte is among them. -/
def entered (a b : Nat) : List Nat := (List.range 258).filter (fun i => i != 0 && decide (a ≤ 256 * i) && decide (256 * i < b))

/-- The attributes of a data write of ring q (R301). -/
def State.dataAttr (s : State) (q : Nat) : Attr :=
  { ro := s.cfg.relaxedOrdering, ns := s.cfg.noSnoop && s.on (RING.RING_CFG_NOSNOOP q) }

/-- Write m bytes of a packet in delivery to its buffer (R293, R294, R301, R302). -/
def State.pourBytes (s : State) (q m : Nat) (d : Delivery) (k : Packet) (addr left : Nat) (bad : Bool) : State :=
  if m = 0 then s
  else
    let bytes := (k.bytes.drop d.written).take m
    let t := s.emit (.dmaWrite addr bytes (bad && s.on POUR.POUR_CFG) (s.dataAttr q))
    let t := t.put64 POUR.POUR_BYTES_LO POUR.POUR_BYTES_HI (t.get64 POUR.POUR_BYTES_LO POUR.POUR_BYTES_HI + m)
    let t := (t.spendTokens q m).readUpTo q (d.written + m)
    let done := decide (d.total ≤ d.written + m)
    let err := d.dataErr || bad
    t.setDelivery q (some { d with written := d.written + m, dataErr := err, tDone := some t.now,
                                   buf := if left = m then none else some (addr + m, left - m),
                                   ended := if done then some (if err then 1 else 0) else none })

/-- One data write of the delivery d of packet k on ring q, of n bytes into the open buffer: it ends at an uncorrectable
link entry, and where that leaves no byte to write the buffer is not opened (`shut` is the state before). Data that cannot be
read, or lies in a fenced pseudo-channel, is reported by the HBM page (R275, R277, R292, R293, R295). -/
def State.pourWrite (s shut : State) (q n : Nat) (d : Delivery) (k : Packet) (addr left : Nat) (link data : Ecc) : State :=
  let cells := entered d.written (d.written + n)
  let prev (i : Nat) : Nat := k.cells.getD (i - 1) 0
  let ecc (i : Nat) : Ecc := s.linkEcc (prev i) (if some i == cells.head? then link else .good)
  let stop := cells.find? (fun i => ecc i == .ue)
  let m := match stop with | some i => 256 * i - d.written | none => n
  let fails := ((List.range 258).filter (fun i => decide (d.written < 256 * (i + 1)) && decide (256 * i < d.written + m))).filter
    (fun i => s.cellFails (k.cells.getD i 0))
  let bad := m != 0 && (data == .ue || !fails.isEmpty)
  let a := k.cells.getD (d.written / 256) 0 * 256 + d.written % 256
  let t := if m = 0 then shut else s.pourBytes q m d k addr left bad
  let t := if m != 0 && data == .ue then t.hbmUe a
    else if m != 0 && data == .ce then t.hbmCe a
    else t
  let t := if m = 0 then t else t.each fails (fun t i => t.hbmUe (k.cells.getD i 0 * 256))
  let t := t.each (cells.filter (fun i => ecc i == .ce && decide (256 * i ≤ d.written + m))) (fun t i => t.linkCe q (prev i))
  match stop with
  | some i => (t.chainErr q).linkUe q (prev i)
  | none => t.settleDelivery q

/-- POUR_DATA_WRITE. -/
def State.pourData (s : State) (q : Nat) (link data : Ecc) : State :=
  let shut := s.settleDelivery q
  let t := shut.openBuffer q
  match (t.ring q).delivery, (t.queue q).claimed with
  | some d, some k =>
    match d.ended, d.buf with
    | none, some (addr, left) =>
      t.pourWrite shut q (min t.cfg.mps (min left (d.total - d.written))) d k addr left link data
    | _, _ => t
  | _, _ => t

/-- COMPLETION_WRITE. -/
def State.completion (s : State) (q : Nat) : State :=
  match (s.ring q).delivery with
  | some d => match d.ended with
    | some code => s.complete q d code
    | none => s
  | none => s

/-- The engine may queue writes of a ring: Bus Master Enable is 1 and it is not stopped (R295). -/
def State.pourOn (s : State) : Bool := s.hostOn && s.cfg.busMaster

/-! ### The order at the link (R299, R300) -/

/-- Ring q has a write to queue: the next data write of its packet, or its completion entry. -/
def State.ringDue (s : State) (q : Nat) : Bool :=
  match (s.ring q).delivery with
  | none => false
  | some d =>
    d.ended.isSome || (decide (d.written < d.total) && s.hasTokens q &&
      (d.buf.isSome || (match (s.ring q).fetched with | .buffer _ _ _ :: _ => true | _ => false)))

/-- How far ring q stands behind the one that had the last turn among its like. -/
def State.ringDistance (s : State) (q : Nat) : Nat :=
  let last := if s.on (RING.RING_CFG_URGENT q) then s.cfg.lastUrgent else s.cfg.lastOther
  (q + 32767 - last % 16384) % 16384

/-- The message of a vector can leave: it is pending and not masked (R284, R306). -/
def State.vectorReady (s : State) (v : Nat) : Bool :=
  s.on (PBA.PENDING v) && !s.on (MSIX.MASK v) && s.cfg.msixEnable && !s.cfg.functionMask

/-- Some page's message waits for the link (R299, R306). -/
def State.pageMessageDue (s : State) : Bool :=
  s.regs.any (fun p => p.1 % 0x1000 == 0x20 && (hdrPage (p.1 - 0x20)).isSome &&
    Nat.land p.2.toNat (s.get (HDR.IRQ_EN (p.1 - 0x20))) != 0 && s.vectorReady (s.get (HDR.IRQ_VEC (p.1 - 0x20))))

/-- Non-posted requests that the tags of Device Control allow (R284). -/
def State.tagLimit (s : State) : Nat := if s.cfg.extendedTag || s.cfg.tag10 then 256 else 32

/-- Requests of the table loads that proceed, four at most, have left and not been answered as far as the state shows; another
finds a tag (R284, R300). -/
def State.tagFree (s : State) : Bool :=
  decide (((s.loads.take 4).map (fun x => ceilDiv x.asked (max 1 s.cfg.mrrs))).sum < s.tagLimit)

/-- A read request of a table load waits for the link, which takes it in D0 from an engine that is not fenced. -/
def State.tableReadDue (s : State) : Bool :=
  (s.loads.take 4).any (fun x => decide (x.asked < x.len)) && s.tagFree && !s.cfg.d3hot && !s.pourFenced

/-- It is ring q's turn: nothing of a higher order waits, no ring with URGENT = 1 where it has 0, and no ring of its like
before it in the round robin (R299). -/
def State.ringTurn (s : State) (q : Nat) : Bool :=
  s.ringDue q && !s.pageMessageDue && !s.tableReadDue &&
  s.rings.all (fun p =>
    let same := s.on (RING.RING_CFG_URGENT p.1) == s.on (RING.RING_CFG_URGENT q)
    !s.ringDue p.1 || (if same then decide (s.ringDistance q ≤ s.ringDistance p.1) else s.on (RING.RING_CFG_URGENT q)))

/-- Ring q has had its turn. -/
def State.endTurn (s : State) (q : Nat) : State :=
  { s with cfg := if s.on (RING.RING_CFG_URGENT q) then { s.cfg with lastUrgent := q } else { s.cfg with lastOther := q } }

/-- HOLDOFF_EXPIRY (R305). -/
def State.holdoffExpiry (s : State) (q : Nat) : State :=
  if s.on (RING.RING_CFG_INT_EN q) && s.on (RING.RING_CFG_ARMED q) && decide (1 ≤ (s.ring q).unsignalled) then s.ringRequest q
  else s

/-- TABLE_READ_REQUEST: the next host read of a table load, of the four that proceed (R299, R300). -/
def State.tableRead (s : State) (c : Nat) : State :=
  match (s.loads.take 4).find? (fun x => x.port == c) with
  | none => s
  | some x =>
    if x.len ≤ x.asked || !s.tagFree || s.pageMessageDue then s
    else
      let n := min s.cfg.mrrs (x.len - x.asked)
      ({ s with loads := s.loads.map (fun (y : TableLoad) => if y.port = c then { y with asked := y.asked + n } else y) }).emit
        (.dmaRead (x.addr + x.asked) n)

/-! ### Interrupt messages (R306) -/

/-- The engine queues the message of a pending vector that is not masked; messages carry no attributes (R301, R306). -/
def State.sendVector (s : State) (v : Nat) : State :=
  if s.vectorReady v then
    (s.emit (.msix v (s.get64 (MSIX.ADDR_LO v) (MSIX.ADDR_HI v)) (s.get (MSIX.DATA v)) {})).put (PBA.PENDING v) 0
  else s

/-! ### The link and the function (R284, R285, R311) -/

/-- What R284 and R287 fix in configuration space. Capabilities that R284 does not name are absent. -/
structure PciIdent where
  vendorId : Nat := 0x1F3B
  deviceId : Nat := 0x5120
  revisionId : Nat := 0xA2
  subsystemVendorId : Nat := 0x1F3B
  subsystemId : Nat := 0x5120
  classCode : Nat := 0x120000
  /-- Maximum Link Speed as a code (6: 64.0 GT/s), the codes supported, Maximum Link Width. -/
  maxSpeed : Nat := 6
  speeds : List Nat := [1, 2, 3, 4, 5, 6]
  maxWidth : Nat := 16
  maxPayload : Nat := 512
  maxReadRequest : Nat := 4096
  extendedTagSupported : Bool := true
  tag10Requester : Bool := true
  tag10Completer : Bool := true
  noSoftReset : Bool := true
  pmeSupported : Bool := false
  flrCapable : Bool := false
  interruptPin : Nat := 0
  msixVectors : Nat := 2048
  /-- MSI-X table and PBA: offsets in BAR0. -/
  msixTable : Nat := 0xFF0000
  msixPba : Nat := 0xFF8000
  ptmRequester : Bool := true
  ptmResponder : Bool := false
  ptmGranularity : Nat := 1
  /-- Lane Margining at the Receiver from this speed code on (16.0 GT/s). -/
  marginingFrom : Nat := 4
  /-- Sizes of BAR0, BAR2 and BAR4, each 64-bit and not prefetchable. -/
  barSizes : List Nat := [0x1000000, 0x10000000, 0x100000]
  serial : BitVec 64 := Config.serial
deriving DecidableEq, Repr

def pciIdent : PciIdent := {}

/-- The base addresses are aligned to the sizes of their BARs (R287). -/
def CfgSpace.barsAligned (c : CfgSpace) : Bool :=
  c.bar0 % 0x1000000 == 0 && c.bar2 % 0x10000000 == 0 && c.bar4 % 0x100000 == 0

/-- The device forms a link of this speed code and width (R284, R285). -/
def linkForms (speed width : Nat) : Bool :=
  (width == 4 || width == 8 || width == 16) && decide (1 ≤ speed) && decide (speed ≤ 6)

/-- LINK_CHANGE: where no link of ×4 or wider can be formed, the LTSSM returns to Detect and DL_UP is 0 (R285). -/
def State.linkChange (s : State) (up : Bool) (speed width : Nat) (flit : Bool) : State :=
  let up := up && linkForms speed width
  let was := s.on PEX.LINK_STATUS_DL_UP
  let sp := if up then speed else 0
  let wd := if up then width else 0
  let moved := was != up || s.get PEX.LINK_STATUS_SPEED != sp || s.get PEX.LINK_STATUS_WIDTH != wd
  let t := (s.putB PEX.LINK_STATUS_DL_UP up).putB PEX.LINK_STATUS_FLIT (up && (flit || speed == 6))
  let t := (t.put PEX.LINK_STATUS_SPEED sp).put PEX.LINK_STATUS_WIDTH wd
  let t := if was && !up then t.inc PEX.LINK_DOWN else t
  if moved then t.raise pexPage 0 else t

/-- D3HOT_ENTRY (R311). -/
def State.d3hotEntry (s : State) : State :=
  let t := { s with cfg := { s.cfg with d3hot := true } }
  t.each t.rings (fun (t : State) (p : Nat × RingSt) => t.settleDelivery p.1)

/-! ### Device time (R307 to R310) -/

/-- A signed number modulo 2^64 as s64. -/
def s64 (x : Int) : Int := sext 64 (toBits 64 x)

/-- The rate caps gain by time that passes, not by a step: each ring's count of it moves with the step (R302). -/
def State.shiftTokens (s : State) (by_ : Int) : State :=
  let moved := s.rings.map (fun (p : Nat × RingSt) => (p.1, { p.2 with tokensAt := p.2.tokensAt + by_ }))
  { s with rings := moved.filter (fun p => p.2 != ({} : RingSt)) }

/-- Device time is stepped to ns (R310). -/
def State.stepTime (s : State) (ns : Nat) : State :=
  let t := s.shiftTokens (((ns % 2 ^ 64 : Nat) : Int) - s.now)
  ({ t with time := { t.time with ns := ns % 2 ^ 64 } }).realignTimers.raise timePage 0

/-- Offset of a dialogue with local times t1, t4 and master times t2, t3 (R308). -/
def ptmOffset (t1 t4 t2 t3 : Nat) : Int :=
  let pd := s64 (s64 (s64 t4 - s64 t1) - s64 (s64 t3 - s64 t2)) |>.tdiv 2
  s64 (s64 t3 + pd - s64 t4)

/-- The rate adjustment after a dialogue: f and adj (R309). -/
def ptmAdjust (f offset per slew : Int) : Int × Int :=
  let lim := 1000 * slew
  let g := clampI (f + (offset * 125).tdiv per) (-lim) lim
  (g, clampI (g + (offset * 1000).tdiv per) (-lim) lim)

/-- PTM_DIALOGUE_DONE (R308 to R310). -/
def State.ptmDone (s : State) (t1 t4 t2 t3 : Nat) : State :=
  let off := ptmOffset t1 t4 t2 t3
  let t := (s.put TIME.PTM_OFFSET (toBits 32 (clampI off (-(2 ^ 31)) (2 ^ 31 - 1)))).inc TIME.PTM_STATUS_COUNT
  let t := t.put TIME.PTM_STATUS_VALID 1
  let first := s.time.first
  let t := { t with time := { t.time with first := false } }
  if first && !s.anySched then t.stepTime (toBits 64 ((t.now : Int) + off))
  else
    let r := ptmAdjust t.time.f off (s.get TIME.PTM_PERIOD) (s.get TIME.PTM_SLEW)
    ({ t with time := { t.time with f := r.1 } }).put TIME.PTM_ADJ (toBits 32 r.2)

/-- PTM dialogues run (R308). -/
def State.ptmOn (s : State) : Bool := s.hostOn && s.on TIME.TIME_CTRL && s.cfg.ptmEnable

/-- TIME_CTRL.PTM_EN written (R309, R310). -/
def State.writePtmEn (s : State) (v : Bool) : State :=
  let t := s.putB TIME.TIME_CTRL v
  if v && !s.on TIME.TIME_CTRL then { t with time := { t.time with f := 0, first := true } } else t

/-- TIME_CMD.SET (R310). -/
def State.timeSet (s : State) : State :=
  if s.anySched then s.refuse timePage 0x84 else s.stepTime (s.get64 TIME.TIME_SET_LO TIME.TIME_SET_HI)

/-- The rate adjustment of one PCLK cycle, adj parts per billion of a ns, in parts of 2^32 of a ns, rounded down (R307, R309;
log entry 23). -/
def adjStep (adj : Int) : Int := adj * 2 ^ 32 / 1000000000

/-- One PCLK cycle: device time advances by 1 ns and the rate adjustment, accumulated with a 32-bit fraction (R307). -/
def State.pclk (s : State) : State :=
  let fr := (s.time.frac : Int) + adjStep (sext 32 (s.get TIME.PTM_ADJ))
  let ns := ((s.now : Int) + 1 + fr / 2 ^ 32).toNat
  { s with time := { s.time with ns := ns % 2 ^ 64, frac := (fr % 2 ^ 32).toNat } }

/-- What passes while no command waits: a PCLK cycle, where PCLK runs (R307, R373, R384; log entry 10). -/
def State.idle (s : State) : State :=
  s.when (s.awake && s.on CLK.CLK_STATUS_CRUCIBLE_LOCK) State.pclk

/-! ### The commands -/

/-- LINK_CHANGE. -/
def execLinkChange (up : Bool) (speed : Fin 16) (width : Fin 64) (flit : Bool) (s : State) :
    Host.Outcome State Fault Refusal :=
  .next (s.when (s.awake && (!up || (!s.supply.perstLow && s.on CLK.CLK_STATUS_CRUCIBLE_LOCK))) (·.linkChange up speed width flit))
/-- D3HOT_ENTRY. -/
def execD3hotEntry (s : State) : Host.Outcome State Fault Refusal := .next (s.when s.hostOn (·.d3hotEntry))
/-- D0_RETURN. -/
def execD0Return (s : State) : Host.Outcome State Fault Refusal :=
  .next (s.when s.hostOn (fun t => { t with cfg := { t.cfg with d3hot := false } }))
/-- BUS_MASTER_ENABLE_CHANGE. -/
def execBusMasterEnableChange (v : Bool) (s : State) : Host.Outcome State Fault Refusal :=
  .next (s.when s.hostOn (fun t => { t with cfg := { t.cfg with busMaster := v } }))
/-- DESC_TAIL. -/
def execDescTail (q : Fin 16384) (v : Word) (enables : Fin 16) (s : State) (read : Bool := false) :
    Host.Outcome State Fault Refusal :=
  .next (s.doorbell q enables read (s.ring q).descTail (fun t => t.descTail q v.toNat))
/-- CPL_HEAD. -/
def execCplHead (q : Fin 16384) (v : Word) (enables : Fin 16) (s : State) (read : Bool := false) :
    Host.Outcome State Fault Refusal :=
  .next (s.doorbell q enables read (s.ring q).cplHead (fun t => t.cplHead q v.toNat))
/-- IRQ_ARM. -/
def execIrqArm (q : Fin 16384) (v : Word) (enables : Fin 16) (s : State) (read : Bool := false) :
    Host.Outcome State Fault Refusal :=
  .next (s.doorbell q enables read 0 (fun t => t.irqArm q v.toNat))
/-- RING_ENABLE. -/
def execRingEnable (q : Fin 16384) (s : State) : Host.Outcome State Fault Refusal :=
  .next (s.when s.hostOn (fun t => t.writeRingCfg q (setBits (t.word (ringConf q + 0x10)) 31 31 1)))
/-- RING_DISABLE. -/
def execRingDisable (q : Fin 16384) (s : State) : Host.Outcome State Fault Refusal :=
  .next (s.when s.hostOn (fun t => t.writeRingCfg q (setBits (t.word (ringConf q + 0x10)) 31 31 0)))
/-- POUR_CLAIM. -/
def execPourClaim (q : Fin 16384) (copiesDiffer : Bool) (s : State) : Host.Outcome State Fault Refusal :=
  .next (s.when (s.mayClaim q) (fun t => if copiesDiffer then t.dupMismatch q else t.pourStart q))
/-- DESC_READ_DONE: with Bus Master Enable 0 delivery pauses (R295). -/
def execDescReadDone (q : Fin 16384) (data : List Byte) (ok : Bool) (s : State) : Host.Outcome State Fault Refusal :=
  .next (s.when (s.pourOn && !s.pourFenced) (·.descRead q data ok))
/-- POUR_DATA_WRITE. -/
def execPourDataWrite (q : Fin 16384) (link data : Ecc) (s : State) : Host.Outcome State Fault Refusal :=
  .next (s.when (s.pourOn && s.ringTurn q && s.hasTokens q) (fun t => (t.pourData q link data).endTurn q))
/-- COMPLETION_WRITE. -/
def execCompletionWrite (q : Fin 16384) (s : State) : Host.Outcome State Fault Refusal :=
  .next (s.when (s.pourOn && s.ringTurn q) (fun t => (t.completion q).endTurn q))
/-- HOLDOFF_EXPIRY. -/
def execHoldoffExpiry (q : Fin 16384) (s : State) : Host.Outcome State Fault Refusal :=
  .next (s.when s.hostOn (·.holdoffExpiry q))
/-- TABLE_READ_REQUEST. -/
def execTableReadRequest (c : Fin 256) (s : State) : Host.Outcome State Fault Refusal :=
  .next (s.when (s.pourOn && !s.pourFenced && !s.cfg.d3hot) (·.tableRead c))
/-- PTM_DIALOGUE_START. -/
def execPtmDialogueStart (s : State) : Host.Outcome State Fault Refusal := .next (s.when s.ptmOn (·.emit .ptmRequest))
/-- PTM_DIALOGUE_DONE. -/
def execPtmDialogueDone (t1 t4 t2 t3 : BitVec 64) (s : State) : Host.Outcome State Fault Refusal :=
  .next (s.when s.ptmOn (·.ptmDone t1.toNat t4.toNat t2.toNat t3.toNat))
/-- PTM_LOST. -/
def execPtmLost (s : State) : Host.Outcome State Fault Refusal :=
  .next (s.when s.ptmOn (fun t => (t.put TIME.PTM_STATUS_VALID 0).raise timePage 1))
/-- PTM_ENABLE. -/
def execPtmEnable (s : State) : Host.Outcome State Fault Refusal := .next (s.when s.hostOn (·.writePtmEn true))
/-- TIME_SET. -/
def execTimeSet (s : State) : Host.Outcome State Fault Refusal := .next (s.when s.hostOn (·.timeSet))
/-- MSIX_MESSAGE. -/
def execMsixMessage (v : Fin 2048) (s : State) : Host.Outcome State Fault Refusal := .next (s.when s.hostOn (·.sendVector v))
/-- MSIX_UNMASK. -/
def execMsixUnmask (v : Fin 2048) (s : State) : Host.Outcome State Fault Refusal :=
  .next (s.when s.hostOn (fun t => (t.put (MSIX.MASK v) 0).sendVector v))

end Sys2Proof.Machine
end

