-- ==== Sys2Proof/Machine/Power.lean ====
section
/-!
DEFINITION. Power: block resets, power domains, the power states of gates and slices, HBM at rest, temperatures and rails
(R55 to R59, R388, R393 to R405, R444 to R450, R459).
-/

namespace Sys2Proof.Machine

/-! ### Block reset (R388) -/

/-- A gate's receive logic returns to its reset state: riser and marker queues empty, aligners hunt, tests and injections
end, ports stay DOWN. -/
def State.resetGate (s : State) (g : Nat) : State :=
  let t := s.each [2 * g, 2 * g + 1] (fun t c => ((t.endTest c).toDown c).emptyRiser c)
  let t := t.each (List.range 5) (fun t n => t.put (GATE.LANE_STATUS_ALIGN_STATE g n) 0)
  let k := t.gate g
  (t.setGate g { k with lanes := ({} : GateSt).lanes, inj := .idle, held := none }).put (GATE.INJ_STATUS_ARMED g) 0

/-- A register returns to its Reset value. -/
def State.resetReg (s : State) (f : Fld) : State := s.setWord f.addr (resetWord f.addr)

/-- A seam unit's internal state returns to its reset state: the delay store empties, and what the RO registers show of it
with it; settings, counters and fault registers stay (R388, R396). -/
def State.seamAfresh (s : State) (u : Nat) : State :=
  (s.each [SEAM.SEAM_LINE u, SEAM.SEAM_MISS_MASK u] State.resetReg).setSeam u {}

/-- A mould unit's internal state returns to its reset state, likewise (R388, R396). -/
def State.mouldAfresh (s : State) (m : Nat) : State :=
  (s.each [MOULD.STALE_LO m, MOULD.STALE_HI m, MOULD.NOFIT_LO m, MOULD.NOFIT_HI m] State.resetReg).setMould m {}

/-- SOFT_RST written 1 with ENABLE as it stands (R388, R393). -/
def State.softReset (s : State) (p : Page) (n : Nat) : State :=
  let page := pageAddr p n
  let act (t : State) : State :=
    match p with
    | .gate => (t.resetGate n).peerReset [page]
    | .seam => (t.seamAfresh n).peerReset [page]
    | .mould => (t.mouldAfresh n).peerReset [page]
    | _ => t
  if p = .gate || p = .seam || p = .mould then
    if s.on (HDR.CTRL_ENABLE page) then s.refuse page 0xB0 else act s
  else s

/-! ### Power domains (R394 to R397) -/

/-- DOMAIN_OFF switches domain d (R394). -/
def switchable (d : Nat) : Bool := decide (d < 256) || (decide (297 ≤ d) && decide (d < 325))

/-- Domain d is in use (R395). -/
def State.domainInUse (s : State) (d : Nat) : Bool :=
  if d < 256 then s.gateEnabled (d % 128)
  else if d < 313 then (List.range 1024).any (fun i => s.queueEn (16 * i + (d - 297)))
  else if d < 317 then s.on (HDR.CTRL_ENABLE (seamPage (d - 313)))
  else s.on (HDR.CTRL_ENABLE (mouldPage (d - 317)))

/-- DOMAIN_OFF_WRITE. -/
def State.writeDomainOff (s : State) (i : Nat) (w : Word) : State :=
  let old := s.get (PWR.DOMAIN_OFF i)
  let bits := (List.range 32).filter (fun n => switchable (32 * i + n))
  let v := bits.foldl (fun acc n => if bitOf w.toNat n then setBitN acc n else acc) 0
  if bits.any (fun n => bitOf v n && s.domainInUse (32 * i + n)) then s.refuse pwrPage 0xB2
  else
    let t := s.put (PWR.DOMAIN_OFF i) v
    t.each (bits.filter (fun n => bitOf v n != bitOf old n)) (fun t n =>
      let d := 32 * i + n
      { t with supply := { t.supply with
          switching := t.supply.switching.filter (fun p => p.1 != d) ++ [(d, !bitOf v n)] } })

/-- Both domains of gate g are on again: its lanes take the roles and the full sets of the gate mode, and a fenced port reads
FENCED (R69, R111, R115, R359, R396). -/
def State.gateRestarts (s : State) (g : Nat) : State :=
  if !s.gatePowered g then s
  else
    (s.assignLanes g).each [2 * g, 2 * g + 1] (fun t c => if t.portFenced c then t.put (LNK.STATE c) linkFenced else t)

/-- The pages whose units power domain d supplies (R366). -/
def domainPages (d : Nat) : List Nat :=
  if d < 128 then [gatePage d]
  else if d < 256 then [gatePage (d - 128), brgPage (d - 128)]
  else if d < 289 then [slicePage (d - 256)]
  else if d < 297 then [hbmPage ((d - 289) / 2)]
  else if d < 313 then [ladlePage (d - 297)]
  else if d < 317 then [seamPage (d - 313)]
  else if d < 325 then [mouldPage (d - 317)]
  else [pourPage 0, pexPage]

/-- The switch of domain d has opened: its unit is reset, and the status fields of its page read their Reset values; the
fence of a port stays recorded, and its LINK_STATE reads FENCED again once the gate is on (R359, R396). -/
def State.domainOpened (s : State) (d : Nat) : State :=
  if d < 256 then
    let g := d % 128
    let t := s.resetGate g
    let regs := [GATE.PWR_STATE g, GATE.LINK_STATUS_A g, GATE.LINK_STATUS_B g, GATE.TEST_STATUS g, GATE.INJ_STATUS g,
      GATE.LANE_MASK g] ++
      (List.range 5).map (GATE.LANE_STATUS g) ++ (List.range 5).map (GATE.LANE_ADAPT g)
    let k := t.gate g
    let t := (t.each regs State.resetReg).setGate g { k with stepping := false, wake := false }
    if d < 128 then t
    else
      (t.setEngine g {}).each [0, 1] (fun t p =>
        ((((t.put (BRG.PORT_STATUS_DISC g p) 0).put (BRG.CAM_CAPS g p) 0).put (BRG.CAM_IDENT g p) 0).put (BRG.POLL_LAST g p) 0))
  else if 297 ≤ d && d < 313 then
    let b := d - 297
    (s.each [LADLE.BANK_AVAIL b, LADLE.BANK_FREE b, LADLE.BANK_LOST b, LADLE.BANK_RETIRED b, LADLE.SWEEP_STATUS b]
      State.resetReg).setBank b {}
  else if 313 ≤ d && d < 317 then
    s.seamAfresh (d - 313)
  else if 317 ≤ d && d < 325 then
    s.mouldAfresh (d - 317)
  else s

/-- DOMAIN_SWITCH_DONE (R396, R409). -/
def State.switchDone (s : State) (d : Nat) : State :=
  match s.supply.switching.find? (fun p => p.1 == d) with
  | none => s
  | some (_, on) =>
    let t := { s with supply := { s.supply with switching := s.supply.switching.filter (fun p => p.1 != d) } }
    let t := t.putBit (PWR.DOMAIN_STATE (d / 32)) (d % 32) on
    let t := if on then (if d < 256 then t.gateRestarts (d % 128) else t) else (t.domainOpened d).peerReset (domainPages d)
    t.raise pwrPage 0

/-- Start-up is still under way (R397). -/
def State.starting (s : State) : Bool := s.on CLK.CLK_STATUS_CRUCIBLE_LOCK && decide (s.supply.trained.length < 4)

/-- SWITCH_TIMEOUT: a switch in progress misses its bound (R365, R366, R396). -/
def State.switchTimeout (s : State) (d : Nat) : State :=
  let slicing := decide (256 ≤ d) && decide (d < 289) && s.on (SLICE.PWR_STATE_IN_TRANSITION (d - 256))
  if s.supply.switching.any (fun p => p.1 == d) || slicing || s.starting then s.occur .pwr 0 2 d true else s

/-! ### Wake budgets (R398, R401, R404) -/

/-- The deepest state that gate g is in or enters. -/
def State.gateDepth (s : State) (g : Nat) : Nat :=
  if (s.gate g).stepping then s.get (GATE.PWR_STATE_TARGET g) else s.get (GATE.PWR_STATE_STATE g)

/-- The deepest state that slice k is in or enters. -/
def State.sliceDepth (s : State) (k : Nat) : Nat :=
  if (s.slice k).stepping then s.get (SLICE.PWR_STATE_TARGET k) else s.get (SLICE.PWR_STATE_STATE k)

/-- The budget of slice k forbids its state. -/
def State.budgetWake (s : State) (k : Nat) : State :=
  if sliceBudget (s.sliceBudgetUs k) < s.sliceDepth k then s.sliceWake k else s

/-- PWR_BUDGET_WRITE. -/
def State.writeBudget (s : State) (p : Page) (n us : Nat) : State :=
  match p with
  | .gate =>
    if 1000000 < us then s.refuse (gatePage n) 0xB1
    else
      let t := s.put (GATE.PWR_BUDGET n) us
      if gateBudget us < t.gateDepth n then t.gateWake n else t
  | .slice =>
    if 1000000 < us then s.refuse (slicePage n) 0xB1
    else ((s.put (SLICE.PWR_BUDGET n) us).budgetWake n).budgetWake 32
  | _ => s

/-! ### Entry to and exit from gate states (R57 to R59, R399, R402) -/

/-- The earliest pending instant among ports, in ns (R402). -/
def State.nextInstant (s : State) (ports : List Nat) : Option Nat :=
  (ports.filterMap (fun c => (s.sched c).pend.head?)).foldl (fun (b : Option Nat) p =>
    match b with
    | some v => some (min v (p.t8 / 8))
    | none => some (p.t8 / 8)) none

/-- The time left to the earliest pending instant allows a state of this exit latency (R402). -/
def State.timeFor (s : State) (ports : List Nat) (latency : Nat) : Bool :=
  match s.nextInstant ports with
  | some t => decide (s.now + latency ≤ t)
  | none => true

/-- A port lets its gate or slice rest: every schedule enabled, no shot outstanding, no frame open or waiting (R399, R400). -/
def State.portIdle (s : State) (c : Nat) : Bool :=
  (!s.portEnabled c || (s.schedOn c && (s.sched c).outst.isEmpty)) && !(s.link c).frameLanding && !(s.link c).open_ &&
  (s.openFrame c).isNone && (s.link c).riser.isEmpty

/-- No command of the gate runs on port c, and its link is READY, DOWN or FENCED (R52, R57, R399). -/
def State.linkIdle (s : State) (c : Nat) : Bool :=
  (s.linkState c == linkReady || s.linkState c == linkDown || s.linkState c == linkFenced) &&
  (s.link c).newRates.isEmpty && decide ((s.link c).mask = .none) && (s.link c).test.isNone

/-- Gate g may leave ACTIVE (R57, R399, R402). -/
def State.gateMayRest (s : State) (g : Nat) : Bool :=
  let b := gateBudget (s.get (GATE.PWR_BUDGET g))
  let ports := [2 * g, 2 * g + 1].filter s.portPresent
  s.gateActive g && b != 0 && ports.all (fun c => s.linkIdle c && s.portIdle c) && s.timeFor ports (gateLatency b)

/-- GATE_HYST_EXPIRY. -/
def State.gateEnter (s : State) (g : Nat) : State :=
  if s.gateMayRest g then
    let t := (s.put (GATE.PWR_STATE_TARGET g) (gateBudget (s.get (GATE.PWR_BUDGET g)))).put (GATE.PWR_STATE_IN_TRANSITION g) 1
    t.setGate g { t.gate g with stepping := true, wake := false }
  else s

/-- GATE_ENTRY_STEP_DONE: the next state down; the entry goes on, ends, or gives way to an exit (R57, R59). -/
def State.gateStep (s : State) (g : Nat) : State :=
  let k := s.gate g
  if !k.stepping then s
  else
    let st := s.get (GATE.PWR_STATE_STATE g) + 1
    let t := s.put (GATE.PWR_STATE_STATE g) st
    let t := if st = 3 then (t.put (GATE.LINK_STATUS_A_DLL_LOCK g) 0).put (GATE.LINK_STATUS_B_DLL_LOCK g) 0 else t
    if k.wake then (t.setGate g { k with stepping := false }).put (GATE.PWR_STATE_TARGET g) st
    else if st = s.get (GATE.PWR_STATE_TARGET g) then (t.setGate g { k with stepping := false }).put (GATE.PWR_STATE_IN_TRANSITION g) 0
    else t

/-- A lane whose realignment at the stored offset fails is treated as lost by alignment in READY (R58). -/
def State.confirmLanes (s : State) (c : Nat) (offsets : List (Option (Fin 40))) : State :=
  if s.linkState c ≠ linkReady then s
  else
    s.each (s.lanesOf c) (fun t n =>
      if (offsets.getD n none).map Fin.val = some (t.get (GATE.LANE_STATUS_BIT_OFFSET (c / 2) n)) then t
      else if t.linkState c = linkReady then t.alignLoss c n else t)

/-- GATE_EXIT_DONE (R58, R403). PWR_STATE.STATE holds the state left until the whole exit is done, and passes through no
shallower state (log entry 56). -/
def State.gateExit (s : State) (g : Nat) (offsets : List (Option (Fin 40))) : State :=
  let k := s.gate g
  if !k.wake || k.stepping then s
  else
    let from_ := s.get (GATE.PWR_STATE_STATE g)
    let t := ((s.put (GATE.PWR_STATE_STATE g) 0).put (GATE.PWR_STATE_TARGET g) 0).put (GATE.PWR_STATE_IN_TRANSITION g) 0
    let t := (t.setGate g { k with wake := false }).inc (GATE.PWR_EXITS g)
    let ports := [2 * g, 2 * g + 1].filter s.portPresent
    let t := if from_ = 3 then
        t.each ports (fun t c => if t.pastLock c then t.put (LNK.DLL_LOCK c) 1 else t)
      else t
    if 2 ≤ from_ then t.each ports (fun t c => t.confirmLanes c offsets) else t

/-- WARM_DATA_SYMBOL on a lane that receives: a word with a symbol other than K28.5 and K23.7 wakes the gate; data outside
packets is slag, not PROTO_ERR (R403). -/
def State.warmSymbol (s : State) (g lane : Nat) (w next : BitVec 40) : State :=
  if s.get (GATE.PWR_STATE_STATE g) ≠ 1 then s
  else match s.portOfLane g lane with
    | none => s
    | some c =>
      let r := s.lookAt g lane w next false
      if s.receiving c && r.other then (s.slag c r.data).gateWake g else s

/-! ### Entry to and exit from slice states (R400 to R402) -/

/-- Slice k may leave ON (R400, R402). -/
def State.sliceMayRest (s : State) (k : Nat) : Bool :=
  let b := sliceBudget (s.sliceBudgetUs k)
  let ports := s.servedPorts k
  s.sliceOn k && !s.sliceFenced k && b != 0 &&
  ports.all (fun c => s.portIdle c && (s.cam c).frames.isEmpty && (s.cam c).copying.isNone) &&
  (s.slice k).fc.isEmpty && (s.prod k).todo.isEmpty && (s.prod k).cur.isNone &&
  (match s.faults.remap with | some r => r.k != k && k != 32 | none => true) && s.timeFor ports (sliceLatency b)

/-- SLICE_HYST_EXPIRY. -/
def State.sliceEnter (s : State) (k : Nat) : State :=
  if s.sliceMayRest k then
    let t := (s.put (SLICE.PWR_STATE_TARGET k) (sliceBudget (s.sliceBudgetUs k))).put (SLICE.PWR_STATE_IN_TRANSITION k) 1
    t.setSlice k { t.slice k with stepping := true, wake := false }
  else s

/-- The switch of slice k, as DOMAIN_STATE shows it (R394, R398). -/
def State.sliceSwitch (s : State) (k : Nat) (on : Bool) : State :=
  s.putBit (PWR.DOMAIN_STATE ((256 + k) / 32)) ((256 + k) % 32) on

/-- SLICE_ENTRY_STEP_DONE. -/
def State.sliceStep (s : State) (k : Nat) : State :=
  let x := s.slice k
  if !x.stepping then s
  else
    let st := s.get (SLICE.PWR_STATE_STATE k) + 1
    let t := s.put (SLICE.PWR_STATE_STATE k) st
    let t := if st = 2 then (t.sliceSwitch k false).peerReset (slicePage k :: (s.servedPorts k).map camPage) else t
    if x.wake then (t.setSlice k { x with stepping := false }).put (SLICE.PWR_STATE_TARGET k) st
    else if st = s.get (SLICE.PWR_STATE_TARGET k) then
      (t.setSlice k { x with stepping := false }).put (SLICE.PWR_STATE_IN_TRANSITION k) 0
    else t

/-- SLICE_EXIT_DONE: from OFF the working copies of every enabled port are loaded first (R401, R403). -/
def State.sliceExit (s : State) (k : Nat) : State :=
  let x := s.slice k
  if !x.wake || x.stepping || s.sliceFenced k then s
  else
    let off := s.get (SLICE.PWR_STATE_STATE k) = 2
    let t := ((s.put (SLICE.PWR_STATE_STATE k) 0).put (SLICE.PWR_STATE_TARGET k) 0).put (SLICE.PWR_STATE_IN_TRANSITION k) 0
    let t := (t.setSlice k { x with wake := false }).inc (SLICE.PWR_EXITS k)
    if off then
      (t.sliceSwitch k true).each ((t.servedPorts k).filter t.portEnabled) (fun t c => t.reloadColumns c)
    else t

/-! ### Wake-ahead (R402) -/

/-- WAKE_AHEAD_EXIT: device time has reached t - X. -/
def State.wakeAhead (s : State) (slice : Bool) (n : Nat) : State :=
  let ports := if slice then s.servedPorts n else [2 * n, 2 * n + 1].filter s.portPresent
  let latency := if slice then sliceLatency (s.sliceDepth n) else gateLatency (s.gateDepth n)
  match s.nextInstant ports with
  | none => s
  | some t =>
    if latency = 0 then s
    else if slice then (s.reach (t - latency)).sliceWake n
    else (s.reach (t - latency)).gateWake n

/-! ### HBM at rest (R405) -/

/-- HBM_POWER_DOWN. -/
def State.hbmPowerDown (s : State) (h i : Nat) : State :=
  let c := 32 * h + i
  if !s.on (HBM.HBM_PWR_CFG_PD_EN h) || s.supply.powerDown.contains c || s.bitAt (HBM.HBM_PWR_STATUS h) i then s
  else { s with supply := { s.supply with powerDown := c :: s.supply.powerDown } }

/-- HBM_SELF_REFRESH. -/
def State.hbmSelfRefresh (s : State) (h i : Nat) : State :=
  if !s.on (HBM.HBM_PWR_CFG_SR_EN h) then s
  else
    let t := s.putBit (HBM.HBM_PWR_STATUS h) i true
    { t with supply := { t.supply with powerDown := t.supply.powerDown.filter (fun x => x != 32 * h + i) } }

/-! ### Temperatures and rails (R444 to R450, R459 to R463) -/

/-- TEMP_CONVERSION: the eight readings, the peak, the alert conditions and THERMAL_TRIP. -/
def State.convert (s : State) (l : List Int) : State :=
  if l.length ≠ 8 then s
  else
    let before := s.alertLive
    let top := l.foldl max (l.headD 0)
    let hot := decide (920 ≤ top)
    let peak := match s.smb.peak with | some v => max v top | none => top
    let t := { s with smb := { s.smb with temps := some l, peak := some peak, tripped := s.smb.tripped || hot },
                      supply := { s.supply with hot := hot } }
    let t := t.latchAlerts before
    if !t.awake then t
    else if hot then t.occur .pwr 0 1 0 true
    else t.setLive pwrPage 1 0 false

/-- RAIL_READING_UPDATE: the monitor's readings; a rail back in its range ends its excursion. -/
def State.readRails (s : State) (l : List Nat) : State :=
  if l.length ≠ 10 then s
  else
    let before := s.alertLive
    let t := ({ s with smb := { s.smb with rails := l } }).latchAlerts before
    let out := t.supply.railsOut.filter (fun r =>
      let v := l.getD r 0
      let k := railRange.getD r (0, 0)
      decide (v < k.1) || decide (k.2 < v))
    let t := { t with supply := { t.supply with railsOut := out } }
    if out.isEmpty then t.setLive pwrPage 0 0 false else t

/-- RAIL_FAULT: a rail has stayed outside its operating range for 2 µs (R444, R450). -/
def State.railOut (s : State) (rail mv : Nat) : State :=
  let k := railRange.getD rail (0, 0)
  if k.1 ≤ mv && mv ≤ k.2 then s
  else
    let before := s.alertLive
    let t := ({ s with smb := { s.smb with rails := setAt s.smb.rails rail mv } }).latchAlerts before
    let t := { t with supply := { t.supply with
      railsOut := if t.supply.railsOut.contains rail then t.supply.railsOut else rail :: t.supply.railsOut } }
    if t.awake then t.occur .pwr 0 0 0 true else t

/-! ### The commands -/

/-- SOFT_RST. -/
def execSoftRst (page : Fin 4096) (s : State) : Host.Outcome State Fault Refusal :=
  .next (s.when s.hostOn (fun t => t.onPage page (fun t p n => t.softReset p n)))
/-- DOMAIN_OFF_WRITE. -/
def execDomainOffWrite (i : Fin 11) (v : Word) (s : State) : Host.Outcome State Fault Refusal :=
  .next (s.when s.hostOn (·.writeDomainOff i v))
/-- DOMAIN_SWITCH_DONE. -/
def execDomainSwitchDone (d : Fin 326) (s : State) : Host.Outcome State Fault Refusal :=
  .next (s.when s.running (·.switchDone d))
/-- SWITCH_TIMEOUT. -/
def execSwitchTimeout (d : Fin 326) (s : State) : Host.Outcome State Fault Refusal :=
  .next (s.when s.running (·.switchTimeout d))
/-- PWR_BUDGET_WRITE. -/
def execPwrBudgetWrite (page : Fin 4096) (v : Word) (s : State) : Host.Outcome State Fault Refusal :=
  .next (s.when s.hostOn (fun t => t.onPage page (fun t p n => t.writeBudget p n (getBits v 19 0))))
/-- GATE_HYST_EXPIRY. -/
def execGateHystExpiry (g : Fin 128) (s : State) : Host.Outcome State Fault Refusal :=
  .next (s.when (s.running && s.gatePowered g) (·.gateEnter g))
/-- GATE_ENTRY_STEP_DONE. -/
def execGateEntryStepDone (g : Fin 128) (s : State) : Host.Outcome State Fault Refusal :=
  .next (s.when (s.running && s.gatePowered g) (·.gateStep g))
/-- GATE_EXIT_DONE. -/
def execGateExitDone (g : Fin 128) (offsets : List (Option (Fin 40))) (s : State) : Host.Outcome State Fault Refusal :=
  .next (s.when (s.running && s.gatePowered g) (·.gateExit g offsets))
/-- SLICE_HYST_EXPIRY. -/
def execSliceHystExpiry (sl : Fin 33) (s : State) : Host.Outcome State Fault Refusal :=
  .next (s.when s.running (·.sliceEnter sl))
/-- SLICE_ENTRY_STEP_DONE. -/
def execSliceEntryStepDone (sl : Fin 33) (s : State) : Host.Outcome State Fault Refusal :=
  .next (s.when s.running (·.sliceStep sl))
/-- SLICE_EXIT_DONE. -/
def execSliceExitDone (sl : Fin 33) (s : State) : Host.Outcome State Fault Refusal :=
  .next (s.when s.running (·.sliceExit sl))
/-- WAKE_AHEAD_EXIT. -/
def execWakeAheadExit (slice : Bool) (n : Fin 128) (s : State) : Host.Outcome State Fault Refusal :=
  .next (s.when (s.running && (!slice || decide (n.val < 33))) (·.wakeAhead slice n))
/-- WARM_DATA_SYMBOL. -/
def execWarmDataSymbol (g : Fin 128) (lane : Fin 5) (w : BitVec 40) (s : State) (next : BitVec 40 := 0) :
    Host.Outcome State Fault Refusal :=
  .next (s.when (s.running && s.gatePowered g) (·.warmSymbol g lane w next))
/-- HBM_POWER_DOWN. -/
def execHbmPowerDown (h : Fin 4) (i : Fin 32) (s : State) : Host.Outcome State Fault Refusal :=
  .next (s.when s.running (·.hbmPowerDown h i))
/-- HBM_SELF_REFRESH. -/
def execHbmSelfRefresh (h : Fin 4) (i : Fin 32) (s : State) : Host.Outcome State Fault Refusal :=
  .next (s.when s.running (·.hbmSelfRefresh h i))
/-- TEMP_CONVERSION: the sensors convert whenever ACLK runs (R459). -/
def execTempConversion (t : List (BitVec 16)) (s : State) : Host.Outcome State Fault Refusal :=
  .next (s.when (s.supply.aon && s.supply.refclk) (·.convert (t.map BitVec.toInt)))
/-- RAIL_FAULT: beyond the absolute maximum no operation is implied (R445). -/
def execRailFault (rail : Fin 10) (mv : Nat) (s : State) : Host.Outcome State Fault Refusal :=
  if railMax.getD rail 0 < mv then .fault (.beyondAbsoluteMaximum rail)
  else .next (s.when s.supply.aon (·.railOut rail mv))
/-- RAIL_READING_UPDATE. -/
def execRailReadingUpdate (mv : List (BitVec 16)) (s : State) : Host.Outcome State Fault Refusal :=
  .next (s.when s.supply.aon (·.readRails (mv.map BitVec.toNat)))

end Sys2Proof.Machine
end

