-- ==== Sys2Proof/Machine/Shots.lean ====
section
/-!
DEFINITION. The commands of the trigger fabric, schedules, settings commits and ledger (R225 to R246).
-/

namespace Sys2Proof.Machine

/-! ### Source events (R225 to R228) -/

/-- PIN_EDGE: an input pin's level changes; the edge selected is a source event (R225, R234). -/
def State.pinEdge (s : State) (n : Nat) (rising : Bool) (t8 : Nat) : State :=
  if s.on (TRG.PIN_CFG_DIR n) then s
  else
    let t := (s.reach (t8 / 8)).putPin n rising
    let edge := s.get (TRG.PIN_CFG_EDGE n)
    if edge = 2 || edge = (if rising then 0 else 1) then t.sourceEvent 0 n t8 else t

/-- The direction of a step of X4 (R226): 00, 10, 11, 01 in order is up. -/
def stepUp (a b a' b' : Bool) : Bool :=
  match a, b, a', b' with
  | false, false, true, false => true
  | true, false, true, true => true
  | true, true, false, true => true
  | false, true, false, false => true
  | _, _, _, _ => false

/-- The count that a change of one of A and B makes: none, or its direction before INVERT (R226). -/
def countOf (mode : Nat) (a b a' b' : Bool) : Option Bool :=
  if mode = 0 then some (stepUp a b a' b')
  else if a == a' then none
  else if mode = 1 then some (a' != b)
  else if a' then some (!b) else none

/-- The position of encoder e holds: the encoder is fenced, or an input of it is open or shorted (R360, R455). -/
def State.encHolds (s : State) (e : Nat) : Bool := s.encFenced e || s.isLive (trgPage 1) 0 e

/-- ENCODER_EDGE (R226, R227): levels of A and B at a sample. While an input is open or shorted no edge counts (R455). -/
def State.encoderEdge (s : State) (e : Nat) (a b : Bool) (at_ : Nat) : State :=
  let o := s.enc e
  let t := (s.reach at_).setEnc e ⟨a, b⟩
  if !s.on (TRG.ENC_CFG_EN e) || s.isLive (trgPage 1) 0 e then t
  else if o.a != a && o.b != b then (t.inc (TRG.ENC_ERR e)).raise (trgPage 1) e
  else if (o.a == a && o.b == b) || s.encFenced e then t
  else match countOf (s.get (TRG.ENC_CFG_MODE e)) o.a o.b a b with
    | some up => t.encCount e (xor up (s.on (TRG.ENC_CFG_INVERT e))) at_
    | none => t

/-- ENCODER_INDEX (R226, R360). -/
def State.encoderIndex (s : State) (e : Nat) : State :=
  let z := s.get (TRG.ENC_CFG_Z_MODE e)
  if !s.on (TRG.ENC_CFG_EN e) || z = 0 then s
  else
    let t := if z = 1 then s.put64 (TRG.ENC_ZLATCH_LO e) (TRG.ENC_ZLATCH_HI e) (s.encPos e)
      else if s.encHolds e then s else s.putPos e 0
    t.raise (trgPage 1) (8 + e)

/-- ENC_CMD.LOAD (R226, R360). -/
def State.encLoad (s : State) (e : Nat) : State :=
  if s.encFenced e then s else s.putPos e (s.get64 (TRG.ENC_SET_LO e) (TRG.ENC_SET_HI e))

/-- TMR_CFG.EN written (R228): the first firing is not earlier than the enable plus 1 µs. -/
def State.writeTmr (s : State) (k : Nat) (en : Bool) : State :=
  let t := s.putB (TRG.TMR_CFG k) en
  if en && !s.on (TRG.TMR_CFG k) then t.setTimer k ⟨s.timerFirst k (s.now + 1000)⟩ else t

/-- TIMER_FIRE (R225, R228). -/
def State.timerFire (s : State) (k : Nat) : State :=
  if !s.on (TRG.TMR_CFG k) then s
  else
    let v := (s.timer k).next
    let t := ((s.reach v).inc (TRG.TMR_COUNT k)).setTimer k ⟨v + s.get (TRG.TMR_PERIOD k)⟩
    t.sourceEvent 2 k (8 * v)

/-- SW_TRIG written (R225): the event time is the write's completion, rounded up to a whole ns. -/
def State.swTrig (s : State) (groups : Nat) : State :=
  s.each ((List.range 8).filter (bitOf groups)) (fun t g => t.sourceEvent 3 g (8 * (s.now + b2n (s.time.frac != 0))))

/-! ### Schedules (R233 to R236) -/

/-- The registers of a schedule let it be enabled with the fields of SCHED_CFG given (R233). -/
def State.schedValid (s : State) (c : Nat) (w : Word) : Bool :=
  let kind := getBits w 26 24
  let index := getBits w 21 16
  let top := if kind = 0 then 64 else if kind = 1 then 32 else if kind = 2 then 16 else 8
  let ns : Nat := 1000000000
  decide (kind ≤ 3) && decide (index < top) && decide (s.get (CAM.SCHED_DIV_PHASE c) ≤ s.get (CAM.SCHED_DIV_DIV c)) &&
  decide (s.get (CAM.SCHED_DELAY c) ≤ ns) && decide (8 ≤ s.get (CAM.SCHED_WIDTH c)) &&
  decide (s.get (CAM.SCHED_WIDTH c) ≤ ns) && decide (s.get (CAM.SCHED_HOLDOFF c) ≤ ns) &&
  (getBits w 10 10 == 0 || s.on (TRG.PIN_CFG_DIR (getBits w 5 0)))

/-- SCHED_CFG of port c written with the fields of w (R233, R236). -/
def State.writeSched (s : State) (c : Nat) (w : Word) : State :=
  let old := s.word (camPage c + 0x800)
  let en := getBits w 31 31 == 1
  if s.schedOn c then
    if setBits w 31 31 0 ≠ setBits old 31 31 0 then s.refuse (camPage c) 0x60
    else if en then s else s.schedClear c
  else if !en then s.setWord (camPage c + 0x800) w
  else if !s.portEnabled c then s.refuse (camPage c) 0x67
  else if !s.schedValid c w then s.refuse (camPage c) 0x61
  else
    let t := s.setWord (camPage c + 0x800) w
    let t := t.setSched c { t.sched c with j := 0, pend := [] }
    if getBits w 9 9 = 1 then t.writeEcho c else t.schedSync c

/-- SHOT_SET written (R233, R235). -/
def State.shotSet (s : State) (c : Nat) (v : Word) : State :=
  if s.schedOn c then s.refuse (camPage c) 0x60 else s.put (CAM.SHOT_NEXT c) v.toNat

/-! ### Issue of a shot (R230, R231, R242, R244) -/

/-- The settings commits that come into force at a shot of number n and instant t8, and the record's flags LATE and
PARTIAL (R242). -/
def State.applySettings (s : State) (c n t8 : Nat) : State × Nat :=
  let d := s.sched c
  let r := applyCommits (8000 * s.get (CAM.SETTLE_LEAD c)) n t8 d.commits
  let gone := d.commits.filter (fun x => !r.1.any (fun y => y.slot == x.slot))
  let t := s.setSched c { d with commits := r.1 }
  let t := t.each gone (fun (t : State) (x : Commit) => t.putSlotState c x.slot 0)
  let t := match r.2.1 with
    | some (ver, slot) =>
      let t := ((t.put (CAM.VER_APPLIED c) ver).put (CAM.SET_STATUS c) 0).raise (camPage c) 7
      t.setSched c { t.sched c with verSlot := if ver = 0 then 0x80 + slot else slot }
    | none => t
  (if bitOf r.2.2 4 then t.raise (camPage c) 8 else t, r.2.2)

/-- The ledger record that shot n overwrites is still needed (R237, R244). -/
def State.overwrite (s : State) (c n : Nat) : State :=
  let r := s.record c n
  if !r.held then s
  else
    let t := if r.frameOpen then s.inc (CAM.LEDGER_LOST c) else s
    if (s.sched c).outst.any (fun p => p.1 == r.shot) then t.markMissing c r.shot else t

/-- The trigger symbols and the strobe of an issued shot (R231): t8 is its instant in eighths of a ns. -/
def State.driveShot (s : State) (c n t8 : Nat) : State :=
  let g := c / 2
  let width := s.get (CAM.SCHED_WIDTH c)
  let action := s.get (CAM.SCHED_CFG_END_ACTION c)
  let pairs : List TrigPair := ⟨c % 2, 0, t8 / 8, n⟩ :: (if action = 0 then [] else [⟨c % 2, action, t8 / 8 + width, n⟩])
  let t := if s.on (CAM.SCHED_CFG_OUT_SYMBOL c) then
      s.setEngine g { s.engine g with pairs := (s.engine g).pairs ++ pairs } else s
  if s.on (CAM.SCHED_CFG_OUT_STROBE c) then
    let pin := s.get (CAM.SCHED_CFG_STROBE_PIN c)
    ({ t with strobes := t.strobes ++ [({ port := c, pin := pin, on8 := t8 + 40, t8 := t8 + 40 + 8 * width } : Strobe)] }).drivePin pin (t8 + 40)
  else t

/-- The record of a shot at its issue (R244, R245). -/
def State.newRecord (s : State) (c n t8 : Nat) (soft : Bool) (flags : Nat) : Rec :=
  let e := s.get (CAM.SCHED_POS_ENC c)
  let valid := s.on (CAM.SCHED_POS_EN c) && !s.encFenced e
  { held := true, shot := n, version := s.get (CAM.VER_APPLIED c), tTrig := t8 / 8,
    pos := if valid then s.encPos e else 0, slot := (s.sched c).verSlot,
    flags := flags + 64 * b2n (s.on (CAM.SET_STATUS c)) + 1024 * b2n valid + 2048 * b2n soft,
    windowEnd := t8 / 8 + s.get (CAM.SCHED_WIDTH c) }

/-- The runs of issued shot numbers after the issue of n. -/
def addRun (n : Nat) : List (Nat × Nat) → List (Nat × Nat)
  | [] => [(n, 1)]
  | (a, k) :: t => if (a + k) % 2 ^ 32 = n then (a, min (k + 1) (2 ^ 32)) :: t else (n, 1) :: (a, k) :: t

/-- The windows and numbers of issued shots after the issue of shot n with the window's end (R241). -/
def State.noteShot (s : State) (c n windowEnd : Nat) : State :=
  let d := s.sched c
  s.setSched c { d with lastWindow := some (n, windowEnd), runs := addRun n d.runs,
                        windows := (n, windowEnd) :: d.windows.filter (fun x => x.1 != n && decide (s.now < x.2)) }

/-- SHOT_ISSUE: device time reaches the earliest pending instant of port c (R230). -/
def State.shotIssue (s : State) (c : Nat) : State :=
  let d := s.sched c
  match d.pend with
  | [] => s
  | p :: rest =>
    let n := s.get (CAM.SHOT_NEXT c)
    let t := (s.reach (p.t8 / 8)).setSched c { d with pend := rest, last8 := some p.t8 }
    let t := (t.inc (CAM.SHOT_NEXT c)).overwrite c n
    let r := t.applySettings c n p.t8
    let rec_ := r.1.newRecord c n p.t8 p.soft r.2
    let t := if s.groupFenced c then r.1
      else
        let t := r.1.setRecord c n rec_
        t.setSched c { t.sched c with outst := (t.sched c).outst ++ [(n, s.on (CAM.SCHED_CFG_OUT_SYMBOL c))] }
    let t := t.noteShot c n rec_.windowEnd
    let t := t.setLink c { t.link c with fsSince := false }
    ((t.driveShot c n p.t8).gateWake (c / 2)).sliceWake (t.serving c)

/-- The strobe of port c that ends first. -/
def State.firstStrobe (s : State) (c : Nat) : Option Strobe :=
  (s.strobes.filter (fun x => x.port == c)).foldl (fun (acc : Option Strobe) x =>
    match acc with
    | none => some x
    | some y => if x.t8 < y.t8 then some x else some y) none

/-- STROBE_END: the strobe of port c that ends first ends (R231). -/
def State.strobeEnd (s : State) (c : Nat) : State :=
  match s.firstStrobe c with
  | none => s
  | some x => ({ s.reach (x.t8 / 8) with strobes := s.strobes.erase x }).drivePin x.pin x.t8

/-! ### Settings commits (R239 to R241) -/

/-- The writes of slot k of port c. -/
def State.slotWrites (s : State) (c k : Nat) : List (Nat × Nat) :=
  (List.range (min 16 (s.get (CAM.SLOT_COUNT c k)))).map (fun i =>
    (s.get (CAM.SLOT_ADDR c (16 * k + i)), s.get (CAM.SLOT_DATA c (16 * k + i))))

/-- SET_CMD written with GO = 1 (R240). -/
def State.commitSlot (s : State) (c k : Nat) (next : Bool) : State :=
  let d := s.sched c
  let writes := s.slotWrites c k
  let target := s.get (CAM.SET_TARGET c)
  let page := camPage c
  if s.slotState c k ≠ 0 then s.refuse page 0x64
  else if writes.any (fun w => w.1 % 4 != 0) then s.refuse page 0x63
  else if !next && serialLt target (s.get (CAM.SHOT_NEXT c)) then s.refuse page 0x65
  else if !next && d.commits.any (fun x => match x.target with | some v => serialLt target v | none => false) then
    s.refuse page 0x66
  else
    let t := s.inc (CAM.VER_LAST c)
    (t.setSched c { d with commits := d.commits ++
      [{ slot := k, version := t.get (CAM.VER_LAST c), target := if next then none else some target,
         writes := writes }] }).putSlotState c k 1

/-- Shot p was issued since a reset, at any time (R241). -/
def SchedSt.issued (d : SchedSt) (p : Nat) : Bool := d.runs.any (fun r => decide (serialDiff p r.1 < r.2))

/-- The end of the window that the delivery of a commit waits for (R241); none: it waits for an issue, some 0: nothing to
wait for. -/
def State.deliveryWait (s : State) (c : Nat) (x : Commit) : Option Nat :=
  let latest := match (s.sched c).lastWindow with | some (_, w) => w | none => 0
  match x.target with
  | none => some latest
  | some v =>
    let p := (v + 2 ^ 32 - 1) % 2 ^ 32
    if !serialLt p (s.get (CAM.SHOT_NEXT c)) then none
    else if (s.sched c).issued p then some (((s.sched c).windows.find? (fun x => x.1 == p)).elim 0 Prod.snd)
    else some latest

/-- SETTINGS_DELIVERY_START: delivery of the next commit of port c begins (R241). -/
def State.startDelivery (s : State) (c : Nat) : State :=
  match (s.sched c).commits.find? (fun x => !x.delivered) with
  | none => s
  | some x =>
    if x.delivering then s
    else match s.deliveryWait c x with
      | none => s
      | some w =>
        let t := s.reach w
        if x.writes.isEmpty then
          (t.onCommit c x.slot (fun y => { y with delivering := true, delivered := true, tAck := t.now })).putSlotState c
            x.slot 3
        else
          let n := x.writes.length
          let t := t.onCommit c x.slot (fun y => { y with delivering := true, sent := n, open_ := n })
          let t := t.putSlotState c x.slot 2
          (t.each x.writes (fun t w => t.enqueue c 1 2 w.1 (t.diWord c w.2) 0 0 (.settings x.slot))).downCheck c

/-! ### Ledger look-up (R246) -/

/-- LEDGER_SHOT of SHOT[k] written. -/
def State.ledgerLookup (s : State) (k n : Nat) : State :=
  let c := 16 * k + s.get (SHOT.LEDGER_PORT k)
  let found := s.holdsShot c n && !s.groupFenced c
  let future := !found && !s.groupFenced c && !serialLt n (s.get (CAM.SHOT_NEXT c))
  let t := (s.put (SHOT.LEDGER_SHOT k) n).put (SHOT.LEDGER_STATUS k)
    (b2n found + 2 * b2n (!found && !future) + 4 * b2n future)
  let bytes := if found then (s.record c n).bytes else []
  t.each (List.range 8) (fun t i => t.put (SHOT.LEDGER_REC k i) (leAt bytes (4 * i) 4))

/-! ### The commands -/

/-- PIN_EDGE. -/
def execPinEdge (n : Fin 64) (rising : Bool) (t8 : Nat) (s : State) : Host.Outcome State Fault Refusal :=
  .next (s.when s.running (·.pinEdge n rising t8))
/-- ENCODER_EDGE. -/
def execEncoderEdge (e : Fin 8) (a b : Bool) (t : Nat) (s : State) : Host.Outcome State Fault Refusal :=
  .next (s.when s.running (·.encoderEdge e a b t))
/-- ENCODER_INDEX. -/
def execEncoderIndex (e : Fin 8) (s : State) : Host.Outcome State Fault Refusal :=
  .next (s.when s.running (·.encoderIndex e))
/-- ENC_LOAD. -/
def execEncLoad (e : Fin 8) (s : State) : Host.Outcome State Fault Refusal := .next (s.when s.hostOn (·.encLoad e))
/-- TIMER_ENABLE. -/
def execTimerEnable (t : Fin 16) (s : State) : Host.Outcome State Fault Refusal :=
  .next (s.when s.hostOn (·.writeTmr t true))
/-- TIMER_FIRE. -/
def execTimerFire (t : Fin 16) (s : State) : Host.Outcome State Fault Refusal := .next (s.when s.running (·.timerFire t))
/-- SW_TRIG. -/
def execSwTrig (groups : Fin 256) (s : State) : Host.Outcome State Fault Refusal :=
  .next (s.when s.hostOn (·.swTrig groups))
/-- SHOT_ISSUE. -/
def execShotIssue (c : Fin 256) (s : State) : Host.Outcome State Fault Refusal :=
  .next (s.when (s.running && !s.fabricFenced) (·.shotIssue c))
/-- STROBE_END. -/
def execStrobeEnd (c : Fin 256) (s : State) : Host.Outcome State Fault Refusal := .next (s.when s.running (·.strobeEnd c))
/-- SCHED_ENABLE. -/
def execSchedEnable (c : Fin 256) (s : State) : Host.Outcome State Fault Refusal :=
  .next (s.when s.hostOn (fun t => t.writeSched c (setBits (t.word (camPage c + 0x800)) 31 31 1)))
/-- SCHED_DISABLE. -/
def execSchedDisable (c : Fin 256) (s : State) : Host.Outcome State Fault Refusal :=
  .next (s.when s.hostOn (fun t => t.writeSched c (setBits (t.word (camPage c + 0x800)) 31 31 0)))
/-- SHOT_SET. -/
def execShotSet (c : Fin 256) (v : Word) (s : State) : Host.Outcome State Fault Refusal :=
  .next (s.when s.hostOn (·.shotSet c v))
/-- SETTINGS_COMMIT. -/
def execSettingsCommit (c : Fin 256) (slot : Fin 8) (s : State) : Host.Outcome State Fault Refusal :=
  .next (s.when s.hostOn (·.commitSlot c slot false))
/-- SETTINGS_COMMIT_NEXT. -/
def execSettingsCommitNext (c : Fin 256) (slot : Fin 8) (s : State) : Host.Outcome State Fault Refusal :=
  .next (s.when s.hostOn (·.commitSlot c slot true))
/-- SETTINGS_DELIVERY_START. -/
def execSettingsDeliveryStart (c : Fin 256) (s : State) : Host.Outcome State Fault Refusal :=
  .next (s.when s.running (·.startDelivery c))
/-- LEDGER_LOOKUP. -/
def execLedgerLookup (k : Fin 16) (shot : Word) (s : State) : Host.Outcome State Fault Refusal :=
  .next (s.when s.hostOn (·.ledgerLookup k shot.toNat))

end Sys2Proof.Machine
end

