-- ==== Sys2Proof/Machine/RegWrite.lean ====
section
/-!
DEFINITION. Host writes of BAR0 words: access codes, refusals, and the operation that each register's write starts
(R10 to R12, R288, R411 to R426, and the register tables of every chapter).
-/

namespace Sys2Proof.Machine

/-! ### Access codes (R10, R12, R420) -/

/-- The word a write leaves where nothing refuses it: RW and RWL fields take the values written, the others stay. -/
def mergeFields (fs : List FieldDef) (old w : Word) : Word :=
  fs.foldl (fun (v : Word) f =>
    match f.acc with
    | .rw => setBits v f.hi f.lo (getBits w f.hi f.lo)
    | .rwl => setBits v f.hi f.lo (getBits w f.hi f.lo)
    | .ro => v | .w1c => v | .wo => v) old

/-- The word at an address after a write of w by its access codes alone. -/
def State.merged (s : State) (a : Nat) (w : Word) : Word := mergeFields (fieldsAt a) (s.word a) w

/-- A write that only sets fields. -/
def State.writeFields (s : State) (a : Nat) (w : Word) : State := s.setWord a (s.merged a w)

/-- The write would change an RWL field (R420). -/
def State.changesRwl (s : State) (a : Nat) (w : Word) : Bool :=
  (fieldsAt a).any (fun f => f.acc == .rwl && getBits w f.hi f.lo != getBits (s.word a) f.hi f.lo)

/-- A write refused with a code where the condition holds, else the fields are set. -/
def State.writeUnless (s : State) (a : Nat) (w : Word) (page : Nat) (bad : Bool) (code : Nat) : State :=
  if bad then s.refuse page code else s.writeFields a w

/-- Offset o is one of n registers, `stride` apart, from `base` on. -/
def inArray (o base stride n : Nat) : Bool :=
  decide (base ≤ o) && (o - base) % stride == 0 && decide ((o - base) / stride < n)

/-! ### The common header (R352 to R356, R414 to R419) -/

/-- The event bits of a page (R419, R427): a list of bit numbers, FAULT and FENCED among them in a page with fault sites. -/
def eventBits (p : Page) (n : Nat) : List Nat :=
  let own : List Nat := match p with
    | .clk => [0] | .pwr => [0] | .time => List.range 2 | .chk => [0]
    | .trg => if n = 1 then List.range 16 else []
    | .gate => List.range 17 | .brg => List.range 10 | .ladle => List.range 5
    | .pour => if n = 0 then List.range 2 else []
    | .seam => List.range 3 | .mould => List.range 4 | .pex => List.range 2 | .cam => List.range 13
    | .dev => [] | .shot => [] | .slice => [] | .hbm => [] | .qd => [] | .ring => [] | .msix => [] | .pba => []
  if (sites p n).isEmpty then own else own ++ [30, 31]

/-- A bit of IRQ_STAT AND IRQ_EN of a page may have changed from 0 to 1: the vector is requested (R306). -/
def State.requestIf (s : State) (page before : Nat) : State :=
  let now := Nat.land (s.get (HDR.IRQ_STAT page)) (s.get (HDR.IRQ_EN page))
  if (List.range 32).any (fun n => bitOf now n && !bitOf before n) then s.requestVector (s.get (HDR.IRQ_VEC page)) else s

/-- STATE.REFUSED written 1 (R417). -/
def State.clearRefused (s : State) (page : Nat) : State :=
  ((s.put (HDR.STATE_REFUSED page) 0).put (HDR.STATE_REFUSE_CODE page) 0).put (HDR.STATE_REFUSE_COUNT page) 0

/-- IRQ_STAT written (R419): the bits written 1 clear. -/
def State.clearIrq (s : State) (page bits : Nat) : State :=
  s.put (HDR.IRQ_STAT page) (Nat.land (s.get (HDR.IRQ_STAT page)) (2 ^ 32 - 1 - bits % 2 ^ 32))

/-- IRQ_EN written (R306). -/
def State.writeIrqEn (s : State) (page : Nat) (w : Word) : State :=
  let before := Nat.land (s.get (HDR.IRQ_STAT page)) (s.get (HDR.IRQ_EN page))
  (s.put (HDR.IRQ_EN page) w.toNat).requestIf page before

/-- IRQ_SET written (R419): the event bits written 1 are set, and the vector is requested whatever was written. -/
def State.setIrq (s : State) (p : Page) (n bits : Nat) : State :=
  let page := pageAddr p n
  let st := (eventBits p n).foldl (fun v b => if bitOf bits b then setBitN v b else v) (s.get (HDR.IRQ_STAT page))
  (s.put (HDR.IRQ_STAT page) st).requestVector (s.get (HDR.IRQ_VEC page))

/-- CTRL.ENABLE of a page written 1 while it is 0. -/
def State.enablePage (s : State) (p : Page) (n : Nat) : State :=
  match p with
  | .gate => s.gateEnable n
  | .cam => s.camEnable n
  | .seam => s.seamEnable n
  | .mould => s.mouldEnable n
  | _ => s

/-- CTRL.ENABLE of a page written 0 while it is 1. -/
def State.disablePage (s : State) (p : Page) (n : Nat) : State :=
  match p with
  | .gate => s.gateDisable n
  | .cam => s.camDisable n
  | .seam => s.seamDisable n
  | .mould => s.mouldDisable n
  | _ => s

/-- CTRL written (R388, R415). A write with SOFT_RST is refused whole while ENABLE is 1; where ENABLE is 0, a soft reset comes
before an enable in the same write, and a refused enable refuses both (R6, R31). -/
def State.writeCtrl (s : State) (p : Page) (n : Nat) (w : Word) : State :=
  let page := pageAddr p n
  let rst := getBits w 1 1 == 1
  let en := getBits w 0 0 == 1
  if !hasEnable p then s
  else if s.on (HDR.CTRL_ENABLE page) then
    if rst && p != .cam then s.softReset p n else if en then s else s.disablePage p n
  else if !en then s.when rst (·.softReset p n)
  else if (s.enablePage p n).on (HDR.CTRL_ENABLE page) then (s.when rst (·.softReset p n)).enablePage p n
  else s.enablePage p n

/-- CMD written (R52, R107, R278, R347, R364, R418, R433). -/
def State.writeCmd (s : State) (p : Page) (n : Nat) (w : Word) : State :=
  let op := getBits w 7 0
  let port := getBits w 8 8
  let arg := getBits w 19 16
  if op = 0 then s
  else if op = 0xF0 then s.cmdRelease p n (getBits w 15 12) (getBits w 20 16) port
  else if op = 0xF1 then s.cmdFence p n (getBits w 15 12) (getBits w 20 16) port
  else match p, op with
    | .gate, 0x01 => s.linkTrainCmd (2 * n + port)
    | .gate, 0x02 => s.setRateCmd (2 * n + port) arg
    | .gate, 0x03 => s.linkDownCmd (2 * n + port)
    | .gate, 0x04 => s.linkUpCmd (2 * n + port)
    | .gate, 0x05 => s.clearCountersCmd n
    | .gate, 0x06 => s.loopNearCmd (2 * n + port) 1 arg
    | .gate, 0x07 => s.loopNearCmd (2 * n + port) 2 arg
    | .gate, 0x08 => s.loopFarCmd (2 * n + port)
    | .gate, 0x09 => s.camPrbsCmd (2 * n + port) arg
    | .gate, 0x0A => s.testStopCmd (2 * n + port)
    | .gate, 0x10 => s.injectCmd n
    | .gate, 0x11 => s.injCancelCmd n
    | .brg, 0x01 => s.cmdDiscover n port
    | .brg, 0x02 => s.cmdLock n port
    | .brg, 0x03 => s.cmdUnlock n port
    | .brg, 0x04 => s.cmdPcWrite n port
    | .brg, 0x05 => s.cmdClearFail n port
    | .ladle, 0x01 => s.sweepCmd n
    | .chk, 0x01 => s.chkStart n
    | .chk, 0x02 => s.chkPreset n (getBits w 18 16)
    | _, _ => s.refuse (pageAddr p n) 0x01

/-- FAULT_CLASS_LO (`half` 0) or FAULT_CLASS_HI (`half` 1) written (R352, R355). -/
def State.writeClass (s : State) (p : Page) (n half : Nat) (w : Word) : State :=
  let page := pageAddr p n
  let l := (sites p n).filter (fun x => x.bit / 16 == half)
  let field (x : Site) : Nat := getBits w (2 * (x.bit % 16) + 1) (2 * (x.bit % 16))
  if l.any (fun x => field x == 3 || decide (field x < x.cls.code)) then s.refuse page 0xA0
  else s.setWord (page + 0x38 + 4 * half)
    (BitVec.ofNat 32 (l.foldl (fun acc x => acc + field x * 4 ^ (x.bit % 16)) 0))

/-- A fault register written in a page that has fault sites (R352, R354 to R356, R362, R375). -/
def State.writeFaultReg (s : State) (p : Page) (n o : Nat) (w : Word) : State :=
  let page := pageAddr p n
  if o = 0x34 then s.clearSticky page w.toNat
  else if o = 0x38 then s.writeClass p n 0 w
  else if o = 0x3C then s.writeClass p n 1 w
  else if o = 0x50 then
    if getBits w 31 31 = 1 then s.armFault p n (getBits w 20 16) (getBits w 15 0) else s.writeFields (page + o) w
  else if o = 0x5C then (if getBits w 16 16 = 1 then s.ackEsc page else s)
  else s.writeFields (page + o) w

/-- A word of the common header written, offsets 0x000 to 0x05C. In a page without fault sites the fault registers ignore
writes, but an injection is refused (R352, R376). -/
def State.writeHeader (s : State) (p : Page) (n o : Nat) (w : Word) : State :=
  let page := pageAddr p n
  if o = 0x08 then s.writeCtrl p n w
  else if o = 0x0C then (if getBits w 31 31 = 1 then s.clearRefused page else s)
  else if o = 0x10 then s.writeCmd p n w
  else if o = 0x20 then s.clearIrq page w.toNat
  else if o = 0x24 then s.writeIrqEn page w
  else if o = 0x28 then s.setIrq p n w.toNat
  else if o < 0x30 then s.writeFields (page + o) w
  else if !(sites p n).isEmpty then s.writeFaultReg p n o w
  else if o = 0x50 && getBits w 31 31 == 1 then s.armFault p n (getBits w 20 16) (getBits w 15 0)
  else s

/-! ### The pages of the control core -/

/-- A DEV register written (R142, R380, R424). -/
def State.writeDev (s : State) (o : Nat) (w : Word) : State :=
  if o = 0x180 then s.writeHbmLimit w.toNat else s.writeFields (devPage + o) w

/-- A PWR register written (R395, R407). -/
def State.writePwr (s : State) (o : Nat) (w : Word) : State :=
  if inArray o 0x100 4 11 then s.writeDomainOff ((o - 0x100) / 4) w
  else if o = 0x180 || o = 0x184 then s.writeUnless (pwrPage + o) w pwrPage (getBits w 15 0 == 0) 0xB1
  else s.writeFields (pwrPage + o) w

/-- A TIME register written (R308 to R310, R315). -/
def State.writeTime (s : State) (o : Nat) (w : Word) : State :=
  let a := timePage + o
  if o = 0x108 then s.writePtmEn (getBits w 0 0 == 1)
  else if o = 0x10C then s.writeUnless a w timePage (decide (getBits w 19 0 < 100) || decide (1000000 < getBits w 19 0)) 0x83
  else if o = 0x110 then s.writeUnless a w timePage (decide (getBits w 9 0 < 1) || decide (500 < getBits w 9 0)) 0x83
  else if o = 0x120 then (if getBits w 0 0 = 1 then s.timeSet else s)
  else s.writeFields a w

/-- Which of CHK_INIT, CHK_XOR and CHK_EXPECT would have a bit set at or above bit w of an algorithm (R438). -/
def State.chkWide (s : State) (n alg : Nat) : Option Nat :=
  let top := 2 ^ (crcAlg alg).w
  if top ≤ s.get (CHK.CHK_INIT n) then some 0xC5
  else if top ≤ s.get (CHK.CHK_XOR n) then some 0xC6
  else if top ≤ s.get (CHK.CHK_EXPECT n) then some 0xC7
  else none

/-- A CHKn register written (R433 to R438). -/
def State.writeChk (s : State) (n o : Nat) (w : Word) : State :=
  let page := chkPage n
  let a := page + o
  let wide := decide (2 ^ s.chkWidth n ≤ w.toNat)
  if o = 0x100 then
    if s.chkBusy n then s.refuse page 0xC1
    else if 3 < getBits w 2 0 then s.refuse page 0xC0
    else match s.chkWide n (getBits w 2 0) with
      | some code => s.refuse page code
      | none => s.writeFields a w
  else if o = 0x104 then
    if s.chkBusy n then s.refuse page 0xC1 else s.writeUnless a w page wide 0xC5
  else if o = 0x108 then
    if s.chkBusy n then s.refuse page 0xC1 else s.writeUnless a w page wide 0xC6
  else if o = 0x10C then s.writeUnless a w page wide 0xC7
  else if o = 0x110 then s.chkFeed n (dataBytes 1 w)
  else if o = 0x114 then s.chkFeed n (dataBytes 2 w)
  else if o = 0x118 then s.chkFeed n (dataBytes 4 w)
  else if o = 0x11C then (if getBits w 0 0 = 1 then s.chkFinal n else s)
  else s.writeFields a w

/-! ### Triggers and shots (R225 to R228, R234, R246, R252) -/

/-- An enabled schedule drives its strobe on pin k (R234). -/
def State.strobePin (s : State) (k : Nat) : Bool :=
  (List.range 256).any (fun c => s.schedOn c && s.on (CAM.SCHED_CFG_OUT_STROBE c) && s.get (CAM.SCHED_CFG_STROBE_PIN c) == k)

/-- PIN_CFG[k] written (R234, R252): an output takes its level at once, and a pin that becomes an
input is released (R457). -/
def State.writePin (s : State) (k : Nat) (w : Word) : State :=
  if getBits w 0 0 = 0 && s.strobePin k then s.refuse (trgPage 0) 0x60
  else if getBits w 5 4 = 3 then s.refuse (trgPage 0) 0x68
  else
    let t := s.writeFields (trgPage 0 + 0x100 + 4 * k) w
    if t.get (TRG.PIN_CFG_ACTIVE_LOW k) = s.get (TRG.PIN_CFG_ACTIVE_LOW k) &&
        t.get (TRG.PIN_CFG_DIR k) = s.get (TRG.PIN_CFG_DIR k) then t
    else if getBits w 0 0 = 0 && s.on (TRG.PIN_CFG_DIR k) then (t.putPin k (s.pinLevel k (8 * s.now))).emit (.pinOff k)
    else t.drivePin k (8 * t.now)

/-- A register of encoder e written (R226, R252): ENC_OPEN is a condition of an enabled encoder (R455). -/
def State.writeEnc (s : State) (e o : Nat) (w : Word) : State :=
  let a := trgPage 1 + 0x100 + 0x40 * e + o
  if o = 0 then
    let t := s.writeUnless a w (trgPage 1) (getBits w 5 4 == 3 || getBits w 1 0 == 3) 0x68
    if t.on (TRG.ENC_CFG_EN e) then t else t.setLive (trgPage 1) 0 e false
  else if o = 0x20 then (if getBits w 0 0 = 1 then s.encLoad e else s)
  else s.writeFields a w

/-- A register of compare unit k written (R227, R252). -/
def State.writeCmp (s : State) (k o : Nat) (w : Word) : State :=
  let a := trgPage 2 + 0x100 + 0x20 * k + o
  if s.on (TRG.CMP_CFG_EN k) && (o != 0 || getBits w 2 0 != s.get (TRG.CMP_CFG_ENC k)) then s.refuse (trgPage 2) 0x60
  else s.writeUnless a w (trgPage 2) (o == 0x0C && w == 0) 0x68

/-- A register of timer k written (R228, R252). -/
def State.writeTimer (s : State) (k o : Nat) (w : Word) : State :=
  let a := trgPage 3 + 0x100 + 0x20 * k + o
  if o = 0 then s.writeTmr k (getBits w 31 31 == 1)
  else if s.on (TRG.TMR_CFG k) then s.refuse (trgPage 3) 0x60
  else s.writeUnless a w (trgPage 3) (o == 0x04 && decide (w.toNat < 100)) 0x68

/-- A TRG[n] register written. -/
def State.writeTrg (s : State) (n o : Nat) (w : Word) : State :=
  if n = 0 then
    if inArray o 0x100 4 64 then s.writePin ((o - 0x100) / 4) w
    else if o = 0x208 then s.swTrig (getBits w 7 0)
    else s.writeFields (trgPage 0 + o) w
  else if n = 1 then
    if o < 0x300 then s.writeEnc ((o - 0x100) / 0x40) ((o - 0x100) % 0x40) w else s
  else if n = 2 then
    if (o - 0x100) % 0x20 = 0x10 then s else s.writeCmp ((o - 0x100) / 0x20) ((o - 0x100) % 0x20) w
  else if n = 3 then
    if (o - 0x100) % 0x20 = 0x10 then s else s.writeTimer ((o - 0x100) / 0x20) ((o - 0x100) % 0x20) w
  else s

/-- A SHOT[n] register written (R246). -/
def State.writeShot (s : State) (n o : Nat) (w : Word) : State :=
  if o = 0x104 then s.ledgerLookup n w.toNat else s.writeFields (shotPage n + o) w

/-! ### Gates and bridges -/

/-- A GATE[g] register written (R111, R115, R398). -/
def State.writeGate (s : State) (g o : Nat) (w : Word) : State :=
  let a := gatePage g + o
  if o = 0x60 then s.writeBudget .gate g (getBits w 19 0)
  else if o = 0x120 then s.writeUnless a w (gatePage g) (getBits w 1 0 == 3) 0x2C
  else if o = 0x160 then s.writeGateCfg g (getBits w 1 0) (getBits w 15 8)
  else s.writeFields a w

/-- Port p of a section engine has host requests queued or outstanding (R346). -/
def State.hostBusy (s : State) (g p : Nat) : Bool :=
  let c := 2 * g + p
  (s.engine g).reads.any (fun r => r.port == c) ||
  (s.engine g).reqs.any (fun r => r.port == c && (match r.purpose with
    | .hostWrite => true | .hostRead _ => true | .pcWrite => false | .settings _ => false | .laneMask => false
    | .shotCtrl => false | .linkRate _ => false | .trainOn => false | .trainOff => false | .loopBuf => false
    | .farLoop => false | .prbsSel => false | .testOff => false | .poll => false | .lock => false | .unlock => false
    | .discMagic => false | .discCaps => false | .discIdent => false))

/-- A register of port block p of BRG[g] written (R346). -/
def State.writeBrgPort (s : State) (g p o : Nat) (w : Word) : State :=
  let page := brgPage g
  let a := page + 0x140 + 0x40 * p + o
  if o = 0x00 then s.writeUnless a w page (s.hostBusy g p) 0x94
  else if o = 0x04 then
    if s.hostBusy g p then s.refuse page 0x94 else s.writeUnless a w page (getBits w 6 4 == 7) 0x90
  else if o = 0x24 then s.writePollCfg g p w
  else if o = 0x28 then s.writeUnless a w page (getBits w 1 0 != 0) 0x90
  else s.writeFields a w

/-- A BRG[g] register written (R334, R340, R344, R346). -/
def State.writeBrg (s : State) (g o : Nat) (w : Word) : State :=
  let page := brgPage g
  let a := page + o
  if o = 0x100 then s.writeUnless a w page (decide (getBits w 23 16 < 17)) 0x90
  else if o = 0x104 then s.writeUnless a w page (getBits w 15 0 == 0) 0x90
  else if o = 0x108 then s.writeUnless a w page (decide (getBits w 19 0 < 100)) 0x90
  else if o = 0x10C then s.writeUnless a w page (getBits w 19 0 == 0) 0x90
  else if 0x140 ≤ o && o < 0x1C0 then s.writeBrgPort g ((o - 0x140) / 0x40) ((o - 0x140) % 0x40) w
  else s

/-! ### Ladle, pour engine and MSI-X -/

/-- Q_CMD written (R273, R276, R280): a write that any of its bits refuses has no effect. -/
def State.writeQCmd (s : State) (q : Nat) (w : Word) : State :=
  let page := ladlePage (homeBank q)
  let flush := getBits w 0 0 == 1
  let release := getBits w 2 2 == 1
  if !s.queueExists q then s
  else if flush && (s.queue q).flushing then s.refuse page 0x74
  else if release && !s.on (QD.Q_STATUS_FENCED q) then s.refuse page 0x75
  else
    let t := if getBits w 3 3 = 1 then s.clrOvr q else s
    let t := if release then t.releaseQueue q else t
    if flush then t.flushCmd q else t

/-- A word of queue descriptor q written (R280). -/
def State.writeQueue (s : State) (q o : Nat) (w : Word) : State :=
  if o = 0 then s.writeQCfg q (getBits w 31 31 == 1) (getBits w 30 30 == 1) (getBits w 27 26) (getBits w 18 16)
  else if o = 0x04 then s.writeQLimit q (getBits w 20 0)
  else if o = 0x08 then s.writeQCmd q w
  else s

/-- A word of ring configuration q written (R313). -/
def State.writeRing (s : State) (q o : Nat) (w : Word) : State :=
  let a := ringConf q + o
  if o = 0x10 then s.writeRingCfg q w
  else if o < 0x1C then s.writeRingReg q ⟨a, 31, 0⟩ (s.merged a w).toNat
  else s

/-- A LADLE[b] register written (R271, R281). -/
def State.writeLadle (s : State) (b o : Nat) (w : Word) : State :=
  if b = 0 && o = 0x100 then s.writeOrderEn (getBits w 0 0 == 1) else s.writeFields (ladlePage b + o) w

/-- A word of MSI-X entry v written (R306, R426): clearing the mask lets a pending message go. -/
def State.writeMsix (s : State) (v o : Nat) (w : Word) : State :=
  let t := s.writeFields (msixEntry v + o) w
  if o = 0x0C && getBits w 0 0 == 0 then t.sendVector v else t

/-! ### Seams, moulds and HBM -/

/-- A SEAM[u] register written (R219, R220). -/
def State.writeSeam (s : State) (u o : Nat) (w : Word) : State :=
  let mem := decide (0x1000 ≤ o)
  let bad := (o == 0x108 && getBits w 23 0 == 0) ||
    (mem && o % 0x20 == 0x08 && (getBits w 14 0 == 0 || decide (16384 < getBits w 14 0))) ||
    (mem && o % 0x20 == 0x14 && decide (256 < getBits w 24 16))
  s.writeUnless (seamPage u + o) w (seamPage u) bad 0x59

/-- STALE_STATUS of every tile clears where STALE_MS is written 0 (R216). -/
def State.clearStale (s : State) (m : Nat) : State :=
  if s.get (MOULD.STALE_MS m) = 0 then (s.put (MOULD.STALE_LO m) 0).put (MOULD.STALE_HI m) 0 else s

/-- A MOULD[m] register written (R216, R221, R222). -/
def State.writeMould (s : State) (m o : Nat) (w : Word) : State :=
  let bad := (o == 0x104 && (getBits w 28 16 == 0 || getBits w 12 0 == 0)) || (o == 0x108 && getBits w 6 0 == 0)
  let t := s.writeUnless (mouldPage m + o) w (mouldPage m) bad 0x5A
  if o = 0x120 then t.clearStale m else t

/-- An HBM[h] register written (R408). -/
def State.writeHbmReg (s : State) (h o : Nat) (w : Word) : State :=
  s.writeUnless (hbmPage h + o) w (hbmPage h) (o == 0x104 && getBits w 31 16 == 0) 0xB1

/-! ### Camera ports -/

/-- The slot of port c that offset o of its page belongs to (R239, R253). -/
def slotOfOffset (o : Nat) : Option Nat :=
  if inArray o 0x860 4 8 then some ((o - 0x860) / 4)
  else if 0x1800 ≤ o && o < 0x1C00 then some ((o - 0x1800) / 0x80) else none

/-- A register of the shot schedule other than SCHED_CFG (R233): refused where it would change while EN is 1. -/
def State.writeSchedReg (s : State) (c o : Nat) (w : Word) : State :=
  let a := camPage c + o
  s.writeUnless a w (camPage c) (s.schedOn c && decide (s.merged a w ≠ s.word a)) 0x60

/-- A CAM[c] register written (R113, R141, R166, R167, R170 to R173, R182, R185, R192, R199, R200, R233 to R240, R253). -/
def State.writeCam (s : State) (c o : Nat) (w : Word) : State :=
  let page := camPage c
  let a := page + o
  if o = 0x20C then s.writeUnless a w page (getBits w 6 0 == 0 || decide (64 < getBits w 6 0)) 0x50
  else if inArray o 0x260 4 8 then s.writeUnless a w page (getBits w 17 16 == 3) 0x50
  else if o = 0x220 then (if getBits w 0 0 = 1 then s.setCam c { s.cam c with resetDue := true } else s)
  else if o = 0x400 then s.writeFtCtrl c (s.merged a w)
  else if o = 0x500 then s.writeFfCtrl c (s.merged a w)
  else if o = 0x504 || o = 0x508 then s.writeGrid c ((o - 0x504) / 4) (s.merged a w)
  else if o = 0x60C then (if getBits w 8 8 = 1 then s.tblLoad c (getBits w 1 0) (getBits w 4 4) else s)
  else if o = 0x700 then (if getBits w 0 0 = 1 then s.winCommit c else s)
  else if o = 0x800 then s.writeSched c (s.merged a w)
  else if 0x804 ≤ o && o ≤ 0x814 then s.writeSchedReg c o w
  else if o = 0x824 then s.shotSet c w
  else if o = 0x850 then (if getBits w 31 31 = 1 then s.commitSlot c (getBits w 2 0) (getBits w 8 8 == 1) else s)
  else match slotOfOffset o with
    | some k =>
      if s.slotState c k ≠ 0 then s.refuse page 0x64
      else s.writeUnless a w page (decide (o < 0x1000) && decide (16 < getBits w 4 0)) 0x62
    | none => s.writeFields a w

/-! ### A host write (R288, R411, R412, R420, R423) -/

/-- A register of a page beside its header written. -/
def State.writePage (s : State) (p : Page) (n o : Nat) (w : Word) : State :=
  match p with
  | .dev => s.writeDev o w
  | .clk => s
  | .pwr => s.writePwr o w
  | .time => s.writeTime o w
  | .chk => s.writeChk n o w
  | .trg => s.writeTrg n o w
  | .shot => s.writeShot n o w
  | .gate => s.writeGate n o w
  | .brg => s.writeBrg n o w
  | .slice => if o = 0x60 then s.writeBudget .slice n (getBits w 19 0) else s
  | .ladle => s.writeLadle n o w
  | .qd => s.writeQueue n o w
  | .pour => if n = 0 && o = 0x100 then s.writeFields (pourPage 0 + o) w else s
  | .ring => s.writeRing n o w
  | .seam => s.writeSeam n o w
  | .mould => s.writeMould n o w
  | .hbm => s.writeHbmReg n o w
  | .pex => s
  | .cam => s.writeCam n o w
  | .msix => s.writeMsix n o w
  | .pba => s

/-- A whole word written at an aligned BAR0 address: nothing where no register lies (R412); code 0x02 before every value
test (R420, R423). -/
def State.hostWrite (s : State) (a : Nat) (w : Word) : State :=
  match locate a with
  | none => s
  | some (p, n, o) =>
    match regAt p n o with
    | none => s
    | some _ =>
      if (blockType p).isSome && o < 0x60 then s.writeHeader p n o w
      else if hasEnable p && s.on (HDR.CTRL_ENABLE (pageAddr p n)) && s.changesRwl a w then s.refuse (pageAddr p n) 0x02
      else s.writePage p n o w

/-- The page whose STATE shows a refused write of a word of a page (R417, R280, R313). -/
def refusalPage (p : Page) (n : Nat) : Nat :=
  match p with
  | .qd => ladlePage (homeBank n)
  | .ring => pourPage 0
  | .dev => devPage | .clk => clkPage | .pwr => pwrPage | .time => timePage | .chk => chkPage n | .trg => trgPage n
  | .shot => shotPage n | .gate => gatePage n | .brg => brgPage n | .slice => slicePage n | .ladle => ladlePage n
  | .pour => pourPage n | .seam => seamPage n | .mould => mouldPage n | .hbm => hbmPage n | .pex => pexPage | .cam => camPage n
  | .msix => devPage | .pba => devPage

/-- An access to the word at a BAR0 address crosses to its block (R392): CTRL, CMD, and what stands behind the header, of a
page that is not the control core's own. The rest of a header is held in the control core (R396). -/
def crossing (a : Nat) : Bool :=
  match locate a with
  | none => false
  | some (p, _, o) =>
    !(p == .dev || p == .clk || p == .pwr || p == .msix || p == .pba) &&
    ((blockType p).isNone || o == 0x08 || o == 0x10 || decide (0x60 ≤ o))

/-- The write of a word is cancelled by a peer reset on its crossing (R393): it has no effect but REFUSED with code 0xB4, and
CANCELLED where it is a command that would be accepted (R414); one that is refused does not cross. -/
def State.cancelWrite (s : State) (a : Nat) (w : Word) : State :=
  match locate a with
  | none => s
  | some (p, n, o) =>
    let page := refusalPage p n
    if ((s.clearRefused page).hostWrite a w).on (HDR.STATE_REFUSED page) then s.hostWrite a w
    else
      let t := s.refuse page 0xB4
      if (blockType p).isSome && o = 0x10 && getBits w 7 0 != 0 then
        (t.accept page (getBits w 7 0)).put (HDR.CMD_STATUS_CANCELLED page) 1
      else t

/-- A BAR0 write with its byte enables: one that does not cover its word is ignored and counted (R288, R317). Of a whole word,
the end of its transfer decides (R365, R393). -/
def State.busWrite (s : State) (a : Nat) (w : Word) (enables : Nat) (ring : Transfer) : State :=
  if enables ≠ 15 then (s.inc PEX.BAD_ACCESS).raise pexPage 1
  else match ring with
    | .done => s.hostWrite (4 * (a / 4)) w
    | .cancelled => if crossing (4 * (a / 4)) then s.cancelWrite (4 * (a / 4)) w else s.hostWrite (4 * (a / 4)) w
    | .failed => s.occur .dev 0 1 0 true

/-! ### The commands -/

/-- REGISTER_WRITE. -/
def execRegisterWrite (addr : Fin 16777216) (data : Word) (enables : Fin 16) (s : State) (ring : Transfer := .done) :
    Host.Outcome State Fault Refusal :=
  .next (s.when s.hostOn (·.busWrite addr data enables ring))
/-- STATE_CLEAR. -/
def execStateClear (page : Fin 4096) (s : State) : Host.Outcome State Fault Refusal :=
  .next (s.when s.hostOn (fun t => t.onPage page (fun t p n => t.clearRefused (pageAddr p n))))
/-- IRQ_STAT_CLEAR. -/
def execIrqStatClear (page : Fin 4096) (bits : Word) (s : State) : Host.Outcome State Fault Refusal :=
  .next (s.when s.hostOn (fun t => t.onPage page (fun t p n => t.clearIrq (pageAddr p n) bits.toNat)))
/-- IRQ_SET. -/
def execIrqSet (page : Fin 4096) (bits : Word) (acked : Bool) (s : State) : Host.Outcome State Fault Refusal :=
  .next (s.when s.hostOn (fun t => t.onPage page (fun t p n => (t.pulse (pageAddr p n) false acked).setIrq p n bits.toNat)))

end Sys2Proof.Machine
end

