-- ==== Sys2Proof/Machine/RegRead.lean ====
section
/-!
DEFINITION. Host reads of BAR0 words: what a field reads as under its access code, the values computed from other state,
and the latches of RO pairs (R10, R12, R412, R416, R421).
-/

namespace Sys2Proof.Machine

/-! ### The state of a page's unit (R416) -/

/-- The power domains a page's unit sits in (R15, R366); none in the control core. -/
def pageDomains (p : Page) (n : Nat) : List Nat :=
  match p with
  | .gate => [n, 128 + n]
  | .brg => [128 + n]
  | .slice => [256 + n]
  | .hbm => [289 + 2 * n, 290 + 2 * n]
  | .ladle => [297 + n]
  | .seam => [313 + n]
  | .mould => [317 + n]
  | .pour => [325] | .pex => [325]
  | .dev => [] | .clk => [] | .pwr => [] | .time => [] | .chk => [] | .trg => [] | .shot => [] | .cam => [] | .qd => []
  | .ring => [] | .msix => [] | .pba => []

/-- The slice has been remapped: S32 serves its ports (R416). -/
def State.remapped (s : State) (k : Nat) : Bool := s.on SLICE.SPARE_STATUS_IN_USE && s.get SLICE.SPARE_STATUS_FOR == k

/-- STATE_CODE of a page (R416): a slice that has been remapped reads FENCED, though its fence takes it to OFF (R404), and SLICE[32]
reads RUNNING while it serves a slice. -/
def State.stateCode (s : State) (p : Page) (n : Nat) : Nat :=
  let page := pageAddr p n
  if s.quenched then 4
  else if p == .slice && n == 32 && s.on SLICE.SPARE_STATUS_IN_USE then 1
  else if p == .slice && n != 32 && s.remapped n then 2
  else if (pageDomains p n).any (fun d => !s.domainOn d) then 3
  else if s.on (HDR.FAULT_REACT_FENCED page) then 2
  else if !hasEnable p || s.on (HDR.CTRL_ENABLE page) then 1
  else 0

/-! ### Computed values -/

/-- µs left on the escalation timer of a page while it runs (R356, R361). -/
def State.escRemaining (s : State) (page : Nat) : Nat :=
  if s.on (HDR.ESC_STATUS_RUNNING page) then (s.escOf page).us - (s.now - (s.escOf page).start) / 1000 else 0

/-- A header word as read. -/
def State.readHeader (s : State) (p : Page) (n o : Nat) (w : Word) : Word :=
  let page := pageAddr p n
  if o = 0x0C then setBits w 2 0 (s.stateCode p n)
  else if o = 0x30 then BitVec.ofNat 32 (s.liveBits page)
  else if o = 0x5C then setBits w 15 0 (s.escRemaining page)
  else w

/-- Committed packets of queue q of priority k. -/
def State.subDepth (s : State) (q k : Nat) : Nat := ((s.queue q).committed.filter (fun x => x.prio == k)).length

/-- A queue descriptor word as read (R271, R280): a queue that does not exist reads 0. -/
def State.readQueue (s : State) (q o : Nat) (w : Word) : Word :=
  if !s.queueExists q then 0
  else if o = 0x0C then
    let u := s.queue q
    let w := setBits (setBits w 30 30 (b2n u.flushing)) 29 29 (b2n u.claimed.isSome)
    let subs := (List.range 8).foldl (fun v k => if s.subDepth q k = 0 then v else setBitN v k) 0
    setBits (setBits w 21 16 (s.openOn q).length) 7 0 (if s.queueOrdered q then subs else 0)
  else if o = 0x10 then BitVec.ofNat 32 (s.queue q).committed.length
  else if o < 0x60 then w
  else if s.queueOrdered q then BitVec.ofNat 32 (s.subDepth q ((o - 0x60) / 4)) else 0

/-- A gate word as read (R139). -/
def State.readGate (s : State) (g o : Nat) (w : Word) : Word :=
  if o = 0x164 then setBits (setBits w 24 16 (s.link (2 * g + 1)).used) 8 0 (s.link (2 * g)).used else w

/-- A word of port block p of BRG[g] as read (R336, R338, R342). -/
def State.readBrg (s : State) (g o : Nat) (w : Word) : Word :=
  let c := 2 * g + (o - 0x140) / 0x40
  if o < 0x140 || 0x1C0 ≤ o then w
  else if (o - 0x140) % 0x40 = 0x08 then
    setBits w 31 31 (b2n ((s.engine g).reqs.any (fun r => r.port == c && r.op == 1)))
  else if (o - 0x140) % 0x40 = 0x10 then
    setBits (setBits w 28 28 (b2n (match s.slotOf c with | some x => x.se | none => false))) 20 16 (s.pwFree c)
  else w

/-- A slice word as read (R142): SLICE[32] reads the totals of the slice it serves. -/
def State.readSlice (s : State) (k o : Nat) (w : Word) : Word :=
  if k = 32 && (o = 0x100 || o = 0x104) then
    (if s.on SLICE.SPARE_STATUS_IN_USE then s.word (slicePage (s.get SLICE.SPARE_STATUS_FOR) + o) else 0)
  else w

/-- A CAM word as read (R253). -/
def State.readCam (s : State) (c o : Nat) (w : Word) : Word :=
  if o = 0x828 then setBits (setBits w 20 16 (s.sched c).pend.length) 14 8 (s.sched c).outst.length else w

/-- The word at an address with the values that other state gives. -/
def State.rawWord (s : State) (p : Page) (n o a : Nat) : Word :=
  let w := s.word a
  if (blockType p).isSome && 0x30 ≤ o && o < 0x60 && (sites p n).isEmpty then 0
  else if (blockType p).isSome && o < 0x60 then s.readHeader p n o w
  else match p with
    | .time => if o = 0x100 then BitVec.ofNat 32 s.now else if o = 0x104 then BitVec.ofNat 32 (s.now / 2 ^ 32) else w
    | .chk => if o = 0x120 && !s.on (CHK.CHK_CFG_DONE n) then BitVec.ofNat 32 (s.chkValue n) else w
    | .gate => s.readGate n o w
    | .brg => s.readBrg n o w
    | .slice => s.readSlice n o w
    | .ladle => if o = 0x108 then BitVec.ofNat 32 (s.bankFree n) else w
    | .qd => s.readQueue n o w
    | .pour => if o = 0x104 then setBits w 6 0 s.delivering else w
    | .cam => s.readCam n o w
    | .ring => w
    | .hbm => if o = 0x10C then setBits w 30 30 (b2n (bitOf (s.liveConds (hbmPage n)) 2)) else w
    | .trg => if n = 0 && (o = 0x200 || o = 0x204) then s.pinIn (32 * ((o - 0x200) / 4)) w else w
    | .dev => w | .clk => w | .pwr => w | .shot => w | .seam => w | .mould => w | .pex => w
    | .msix => w | .pba => w

/-! ### Access codes and latches (R10, R396, R421) -/

/-- The low halves of the RO pairs of a page: 64-bit values whose fields are RO (R421). -/
def roPairLow (p : Page) (n o : Nat) : Bool :=
  ((blockType p).isSome && o == 0x48 && !(sites p n).isEmpty) ||
  (match p with
   | .dev => o == 0x100 || o == 0x1C4
   | .time => o == 0x100
   | .trg => n == 1 && (inArray o 0x108 0x40 8 || inArray o 0x110 0x40 8)
   | .brg => inArray o 0x800 0x20 64
   | .pour => n == 0 && o == 0x108
   | .hbm => o == 0x120
   | .cam => o == 0x238
   | .clk => false | .pwr => false | .chk => false | .shot => false | .gate => false | .slice => false | .ladle => false
   | .qd => false | .ring => false | .seam => false | .mould => false | .pex => false | .msix => false | .pba => false)

/-- The fields that a read returns: WO and reserved fields read 0; while the power domain of a bridge page is off, the status
fields behind its header read their Reset values; what the header shows is held in the control core and the always-on domain
(R10, R12, R16, R396). -/
def State.readFields (s : State) (p : Page) (n o : Nat) (fs : List FieldDef) (w : Word) : Word :=
  let off := p == .brg && decide (0x60 ≤ o) && (pageDomains p n).any (fun d => !s.domainOn d)
  fs.foldl (fun (v : Word) f =>
    if f.acc = .wo then v
    else if off && f.acc = .ro && !f.keep then setBits v f.hi f.lo f.reset
    else setBits v f.hi f.lo (getBits w f.hi f.lo)) 0

/-- The word at an aligned BAR0 address as it stands, latches apart (R412). -/
def State.readNow (s : State) (a : Nat) : Word :=
  match locate a with
  | none => 0
  | some (p, n, o) =>
    match regAt p n o with
    | none => 0
    | some r => s.readFields p n o r.fields (s.rawWord p n o a)

/-- The word is the low half of an RO pair. -/
def isRoLow (a : Nat) : Bool :=
  match locate a with
  | some (p, n, o) => roPairLow p n o
  | none => false

/-- What a BAR0 read of an aligned word returns: the high half of an RO pair reads its latch (R421). -/
def State.readReg (s : State) (a : Nat) : Word :=
  if 4 ≤ a && isRoLow (a - 4) then tget s.latches a 0 else s.readNow a

/-- A read of the low half of an RO pair loads the latch with the high half (R421). -/
def State.loadLatch (s : State) (a : Nat) : State :=
  if isRoLow a then { s with latches := tput s.latches (a + 4) (s.readNow (a + 4)) 0 } else s

/-- What a BAR0 read of a word returns by the end of its transfer: 0xFFFF_FFFF where it fails, the Reset values of its fields
where a peer reset cancels it (R365, R393). -/
def State.hostRead (s : State) (a : Nat) (ring : Transfer) : Word :=
  match ring with
  | .done => s.readReg a
  | .cancelled => if crossing a then resetWord a else s.readReg a
  | .failed => 0xFFFFFFFF

/-- A read of the low half of an RO pair, by the end of its transfer: a cancelled one finds the Reset value of the high half too, and
a failed one leaves the latch (R365, R393, R421). -/
def State.readLow (s : State) (a : Nat) (ring : Transfer) : State :=
  match ring with
  | .done => s.loadLatch a
  | .cancelled =>
    if crossing a && isRoLow a then { s with latches := tput s.latches (a + 4) (resetWord (a + 4)) 0 } else s.loadLatch a
  | .failed => s.occur .dev 0 1 0 true

/-- LOW_HALF_READ. -/
def execLowHalfRead (addr : Fin 16777216) (s : State) (ring : Transfer := .done) : Host.Outcome State Fault Refusal :=
  .next (s.when s.readable (·.readLow (4 * (addr.val / 4)) ring))

end Sys2Proof.Machine
end

