-- ==== Sys2Proof/Machine/Reset.lean ====
section
/-!
DEFINITION. Power-up, resets and start-up (R11, R357, R384 to R387, R397, R447 to R450).
-/

namespace Sys2Proof.Machine

/-! ### Power-up and PORESET_N (R386) -/

/-- The device at its Reset values; the commands that wait and the model's own records stay. -/
def State.afresh (s : State) (supply : SupplySt) (smb : SmbSt) (jtag : JtagSt) : State :=
  { State.reset with pending := s.pending, fresh := s.fresh, out := s.out, encs := s.encs, supply := supply, smb := smb, jtag := jtag }

/-- VDD_AON_POWER_UP: the address straps are sampled when VDD_AON becomes good (R456, R461). -/
def State.powerUp (s : State) (strap : Nat) : State := s.afresh {} { strap := strap } {}

/-- Every trigger output ceases to be driven (R457). -/
def State.releasePins (s : State) : State :=
  s.each ((List.range 64).filter (fun k => s.on (TRG.PIN_CFG_DIR k))) (fun t k => t.emit (.pinOff k))

/-- VDD_AON_REMOVAL: everything is lost, quench included, and every output takes its state without supply (R374, R386, R450,
R457). -/
def State.powerLoss (s : State) : State := s.releasePins.afresh { aon := false } {} {}

/-- The SMBus target after PORESET_N: its registers take their Reset values; the readings, and what is kept since VDD_AON became
good, stay (R386, R461; log entry 41). -/
def SmbSt.afterPoreset (k : SmbSt) : SmbSt := { k with warn := 800, alertStatus := 0, alertMask := 15 }

/-- PORESET_ASSERT outside quench (R386, R387): the test access port and the board's supplies are no part of it. -/
def State.poreset (s : State) : State :=
  let k := s.supply
  s.releasePins.afresh { aon := k.aon, poresetLow := true, perstLow := k.perstLow, refclk := k.refclk, railsOut := k.railsOut, hot := k.hot }
    s.smb.afterPoreset s.jtag

/-- PORESET_RELEASE: a rail out of its range, by the monitor or by its reading, quenches at once (R450). -/
def State.poresetRelease (s : State) : State :=
  let t := { s with supply := { s.supply with poresetLow := false } }
  if t.supply.railsOut.isEmpty && t.powerGood then t else t.occur .pwr 0 0 0 true

/-- PLL_LOCK: the divided clocks start together (R384). -/
def State.pllLock (s : State) (us : Nat) : State :=
  if s.on CLK.CLK_STATUS_CRUCIBLE_LOCK then s
  else
    (((s.put CLK.CLK_STATUS_CRUCIBLE_LOCK 1).put CLK.CLK_STATUS_PEX_PLL_LOCK 1).put CLK.CLK_STATUS_REFCLK_OK 1).put CLK.LOCK_TIME us

/-- HBM_TRAINING_DONE (R397, R450). -/
def State.trainingDone (s : State) (h us : Nat) (ok : Bool) : State :=
  if s.supply.trained.contains h then s
  else
    let t := { s with supply := { s.supply with trained := h :: s.supply.trained } }
    let t := (t.putB (HBM.HBM_STATUS_TRAINED h) ok).put (HBM.HBM_STATUS_TRAIN_US h) us
    if ok then t else t.occur .hbm h 2 0 true

/-! ### PERST_N (R357, R386, R387) -/

/-- R387 keeps every register of the page. -/
def pageKept (p : Page) : Bool :=
  match p with
  | .clk => true | .pwr => true | .ladle => true | .qd => true
  | .dev => false | .time => false | .chk => false | .trg => false | .shot => false | .gate => false | .brg => false
  | .slice => false | .pour => false | .ring => false | .seam => false | .mould => false | .hbm => false | .pex => false
  | .cam => false | .msix => false | .pba => false

/-- The word at an address after PERST_N: kept fields stay, the others take their Reset values. Of a page that R387 keeps whole the
fault registers still follow R357, which names those that stay; its STATE, REFUSE_COUNT included, stays with the page (log
entries 59 and 60). -/
def perstWord (a : Nat) (w : Word) : Word :=
  match locate a with
  | none => resetWord a
  | some (p, _, o) =>
    let fault := (blockType p).isSome && decide (0x30 ≤ o) && decide (o < 0x60)
    if pageKept p && !fault && !(p == .pwr && decide (0x100 ≤ o) && decide (o < 0x140)) then w
    else
      let v := (fieldsAt a).foldl (fun (v : Word) f => if f.keep then setBits v f.hi f.lo (getBits w f.hi f.lo) else v) (resetWord a)
      if (p == .slice || p == .hbm || p == .ladle) && o == 0x40 then setBits v 31 30 (getBits w 31 30) else v

/-- Registers after PERST_N. -/
def perstRegs (l : List (Nat × Word)) : List (Nat × Word) :=
  l.foldl (fun acc x => tput acc x.1 (perstWord x.1 x.2) (resetWord x.1)) []

/-- What stops at PERST_N before the registers change (R387, R312). -/
def State.perstStop (s : State) : State :=
  let t := s.each s.links (fun (t : State) (p : Nat × LinkSt) => t.dropRiser p.1)
  let t := t.endStrobes.releasePins
  let t := t.each ((List.range 4).filter (fun u => t.on (HDR.CTRL_ENABLE (seamPage u)))) State.seamStop
  let t := t.each ((List.range 8).filter (fun m => t.on (HDR.CTRL_ENABLE (mouldPage m)))) State.mouldStop
  let t := t.each (List.range 45) State.loseProducer
  t.abandonDeliveries

/-- A queue that is fenced at PERST_N is left empty and enabled (R387). -/
def State.unfenceQueues (s : State) : State :=
  s.each (s.regs.filter (fun p => match locate p.1 with | some (.qd, _, o) => o == 0xC | _ => false)) (fun t p =>
    match locate p.1 with
    | some (_, q, _) => if t.on (QD.Q_STATUS_FENCED q) then (t.put (QD.Q_STATUS_FENCED q) 0).put (QD.Q_CFG_EN q) 1 else t
    | none => t)

/-- Domains that DOMAIN_OFF no longer holds off switch on again (R397). -/
def State.domainsOn (s : State) : State :=
  let offs := (List.range 326).filter (fun d => switchable d && !s.domainReady d)
  { s with supply := { s.supply with switching := offs.map (fun d => (d, true)) } }

/-- Slices are ON again, but for those whose fence stays (R357, R404). -/
def State.slicesOn (s : State) : State :=
  s.each (List.range 33) (fun t k => if t.sliceFenced k then t.sliceOff k else t.sliceSwitch k true)

/-- PERST_ASSERT outside quench. -/
def State.perst (s : State) : State :=
  let t := s.perstStop
  let faults : FaultSt := { t.faults with esc := [], armed := [] }
  let t := { t with
    supply := { t.supply with perstLow := true }, regs := perstRegs t.regs, latches := [], cfg := {},
    time := { t.time with f := 0, first := true }, gates := [], links := [], engines := [], cams := [], slices := [],
    seams := [], moulds := [], timers := [], strobes := [], prods := [], rings := [], loads := [], chks := [], faults := faults,
    records := t.records.map (fun (p : Nat × Rec) => (p.1, { p.2 with frameOpen := false })) }
  let t := t.unfenceQueues.domainsOn.slicesOn
  t.peerReset (t.faults.xings.map (fun p => p.1 / 2 * 4096))

/-- PERST_N goes low: in quench it retrains the link and nothing else (R373). -/
def State.perstAssert (s : State) : State :=
  if s.running && !s.supply.perstLow then s.perst else { s with supply := { s.supply with perstLow := true } }

/-- PERST_N goes high: a unit whose condition site is still live is fenced again at once (R357). -/
def State.perstRelease (s : State) : State :=
  let t := { s with supply := { s.supply with perstLow := false } }
  if !s.running then t
  else
    t.each t.faults.live (fun t l =>
      match hdrPage l.page with
      | some (p, n) =>
        if t.siteClass l.page l.bit = 1 then t.each ((siteUnits p n l.bit l.detail).filter FUnit.fenceable) State.fenceUnit else t
      | none => t)

/-! ### The commands -/

/-- VDD_AON_POWER_UP. -/
def execVddAonPowerUp (strap : Fin 4) (s : State) : Host.Outcome State Fault Refusal :=
  .next (s.when (!s.supply.aon) (·.powerUp strap))
/-- VDD_AON_REMOVAL. -/
def execVddAonRemoval (s : State) : Host.Outcome State Fault Refusal := .next s.powerLoss
/-- PORESET_ASSERT: in quench it has no effect (R373). -/
def execPoresetAssert (s : State) : Host.Outcome State Fault Refusal :=
  .next (s.when (s.supply.aon && !s.quenched) (·.poreset))
/-- PORESET_RELEASE. -/
def execPoresetRelease (s : State) : Host.Outcome State Fault Refusal :=
  .next (s.when (s.supply.aon && s.supply.poresetLow) (·.poresetRelease))
/-- PLL_LOCK. -/
def execPllLock (us : Fin 65536) (s : State) : Host.Outcome State Fault Refusal :=
  .next (s.when (s.awake && !s.quenched && s.supply.refclk) (·.pllLock us))
/-- HBM_TRAINING_DONE. -/
def execHbmTrainingDone (h : Fin 4) (us : Fin 65536) (ok : Bool) (s : State) : Host.Outcome State Fault Refusal :=
  .next (s.when s.running (·.trainingDone h us ok))
/-- PERST. -/
def execPerst (s : State) : Host.Outcome State Fault Refusal := .next (s.when s.supply.aon (·.perstAssert))
/-- PERST_RELEASE. -/
def execPerstRelease (s : State) : Host.Outcome State Fault Refusal :=
  .next (s.when (s.supply.aon && s.supply.perstLow) (·.perstRelease))

end Sys2Proof.Machine
end

