-- ==== Sys2Proof/Machine/Dispatch.lean ====
section
/-!
DEFINITION. The meaning of each command: one direct call for each constructor.
-/

namespace Sys2Proof.Machine

/-- The effect of a command on everything but the queue of waiting commands. -/
def exec (i : Instr) (s : State) : Host.Outcome State Fault Refusal :=
  match i with
  | .vddAonPowerUp strap => Sys2Proof.Machine.execVddAonPowerUp strap s
  | .vddAonRemoval => Sys2Proof.Machine.execVddAonRemoval s
  | .poresetAssert => Sys2Proof.Machine.execPoresetAssert s
  | .poresetRelease => Sys2Proof.Machine.execPoresetRelease s
  | .pllLock us => Sys2Proof.Machine.execPllLock us s
  | .hbmTrainingDone h us ok => Sys2Proof.Machine.execHbmTrainingDone h us ok s
  | .perst => Sys2Proof.Machine.execPerst s
  | .linkChange up speed width flit => Sys2Proof.Machine.execLinkChange up speed width flit s
  | .d3hotEntry => Sys2Proof.Machine.execD3hotEntry s
  | .d0Return => Sys2Proof.Machine.execD0Return s
  | .busMasterEnableChange v => Sys2Proof.Machine.execBusMasterEnableChange v s
  | .registerWrite addr data enables ring => Sys2Proof.Machine.execRegisterWrite addr data enables s ring
  | .stateClear page => Sys2Proof.Machine.execStateClear page s
  | .irqStatClear page bits => Sys2Proof.Machine.execIrqStatClear page bits s
  | .irqSet page bits acked => Sys2Proof.Machine.execIrqSet page bits acked s
  | .msixMessage v => Sys2Proof.Machine.execMsixMessage v s
  | .msixUnmask v => Sys2Proof.Machine.execMsixUnmask v s
  | .clockWindowEnd g p count => Sys2Proof.Machine.execClockWindowEnd g p count s
  | .clockEdgeTimeout g p => Sys2Proof.Machine.execClockEdgeTimeout g p s
  | .dllLock g p => Sys2Proof.Machine.execDllLock g p s
  | .commaDetect g lane w next inside => Sys2Proof.Machine.execCommaDetect g lane w s next inside
  | .alignCheckTimeout g lane => Sys2Proof.Machine.execAlignCheckTimeout g lane s
  | .laneMaskAck g p => Sys2Proof.Machine.execLaneMaskAck g p s
  | .degradeTimeout g p => Sys2Proof.Machine.execDegradeTimeout g p s
  | .deskewMeasure g p arrivals => Sys2Proof.Machine.execDeskewMeasure g p arrivals s
  | .trainingBurst g lane bytes => Sys2Proof.Machine.execTrainingBurst g lane bytes s
  | .burstWarn g p => Sys2Proof.Machine.execBurstWarn g p s
  | .linkFail g p => Sys2Proof.Machine.execLinkFail g p s
  | .linkTrain g p => Sys2Proof.Machine.execLinkTrain g p s
  | .setRate g p code => Sys2Proof.Machine.execSetRate g p code s
  | .setRateAck g p => Sys2Proof.Machine.execSetRateAck g p s
  | .linkDown g p => Sys2Proof.Machine.execLinkDown g p s
  | .linkUp g p => Sys2Proof.Machine.execLinkUp g p s
  | .clearCounters g => Sys2Proof.Machine.execClearCounters g s
  | .loopNes g p pat => Sys2Proof.Machine.execLoopNes g p pat s
  | .loopNep g p pat => Sys2Proof.Machine.execLoopNep g p pat s
  | .loopFar g p => Sys2Proof.Machine.execLoopFar g p s
  | .camPrbs g p pat => Sys2Proof.Machine.execCamPrbs g p pat s
  | .testStop g p => Sys2Proof.Machine.execTestStop g p s
  | .prbsLock g lane bits => Sys2Proof.Machine.execPrbsLock g lane bits s
  | .farLock g lane block => Sys2Proof.Machine.execFarLock g lane block s
  | .fsPacket g p body => Sys2Proof.Machine.execFsPacket g p body s
  | .linePacket g p body => Sys2Proof.Machine.execLinePacket g p body s
  | .fePacket g p body => Sys2Proof.Machine.execFePacket g p body s
  | .unknownTypePacket g p body => Sys2Proof.Machine.execUnknownTypePacket g p body s
  | .abortSymbol g p body => Sys2Proof.Machine.execAbortSymbol g p body s
  | .frameTimeout c => Sys2Proof.Machine.execFrameTimeout c s
  | .missingFrameTimeout c shot => Sys2Proof.Machine.execMissingFrameTimeout c shot s
  | .dropSymbols g => Sys2Proof.Machine.execDropSymbols g s
  | .dropLine g => Sys2Proof.Machine.execDropLine g s
  | .corruptSymbol g => Sys2Proof.Machine.execCorruptSymbol g s
  | .corruptHdrCrc g => Sys2Proof.Machine.execCorruptHdrCrc g s
  | .corruptPayCrc g => Sys2Proof.Machine.execCorruptPayCrc g s
  | .reorder g => Sys2Proof.Machine.execReorder g s
  | .injCancel g => Sys2Proof.Machine.execInjCancel g s
  | .injectionActs g => Sys2Proof.Machine.execInjectionActs g s
  | .gateCfgWrite g mode split => Sys2Proof.Machine.execGateCfgWrite g mode split s
  | .gateEnable g => Sys2Proof.Machine.execGateEnable g s
  | .gateDisable g => Sys2Proof.Machine.execGateDisable g s
  | .camEnable c => Sys2Proof.Machine.execCamEnable c s
  | .camDisable c => Sys2Proof.Machine.execCamDisable c s
  | .admHbmLimitWrite v => Sys2Proof.Machine.execAdmHbmLimitWrite v s
  | .intakeItem sl => Sys2Proof.Machine.execIntakeItem sl s
  | .fsAtFrameCheck sl => Sys2Proof.Machine.execFsAtFrameCheck sl s
  | .feAtFrameCheck sl => Sys2Proof.Machine.execFeAtFrameCheck sl s
  | .lineAtFrameCheck sl => Sys2Proof.Machine.execLineAtFrameCheck sl s
  | .displacementCompute c => Sys2Proof.Machine.execDisplacementCompute c s
  | .holdTimeout c => Sys2Proof.Machine.execHoldTimeout c s
  | .nrLineEmit c => Sys2Proof.Machine.execNrLineEmit c s
  | .refWriteAck c buf y => Sys2Proof.Machine.execRefWriteAck c buf y s
  | .refWriteFail c buf y => Sys2Proof.Machine.execRefWriteFail c buf y s
  | .refReadDone c y ecc => Sys2Proof.Machine.execRefReadDone c y ecc s
  | .refReset c => Sys2Proof.Machine.execRefReset c s
  | .fettleLineEmit c bad => Sys2Proof.Machine.execFettleLineEmit c bad s
  | .windowLineEmit c => Sys2Proof.Machine.execWindowLineEmit c s
  | .statBankClose c => Sys2Proof.Machine.execStatBankClose c s
  | .tblLoad c sel bank => Sys2Proof.Machine.execTblLoad c sel bank s
  | .tblLoadDone c r => Sys2Proof.Machine.execTblLoadDone c r s
  | .colBankWrite c bank => Sys2Proof.Machine.execColBankWrite c bank s
  | .colCopyDone c ecc => Sys2Proof.Machine.execColCopyDone c ecc s
  | .ffGridWrite c n v => Sys2Proof.Machine.execFfGridWrite c n v s
  | .winCommit c => Sys2Proof.Machine.execWinCommit c s
  | .seamEnable u => Sys2Proof.Machine.execSeamEnable u s
  | .seamDisable u => Sys2Proof.Machine.execSeamDisable u s
  | .seamPacket u idx links bad => Sys2Proof.Machine.execSeamPacket u idx s links bad
  | .seamLineForm u bad => Sys2Proof.Machine.execSeamLineForm u bad s
  | .seamTimeout u bad => Sys2Proof.Machine.execSeamTimeout u bad s
  | .mouldEnable m => Sys2Proof.Machine.execMouldEnable m s
  | .mouldDisable m => Sys2Proof.Machine.execMouldDisable m s
  | .mouldPacket m t links => Sys2Proof.Machine.execMouldPacket m t s links
  | .mouldFrameStart m => Sys2Proof.Machine.execMouldFrameStart m s
  | .mouldLineReadout m bad => Sys2Proof.Machine.execMouldLineReadout m bad s
  | .tileStale m t => Sys2Proof.Machine.execTileStale m t s
  | .pinEdge n rising t8 => Sys2Proof.Machine.execPinEdge n rising t8 s
  | .encoderEdge e a b t => Sys2Proof.Machine.execEncoderEdge e a b t s
  | .encoderIndex e => Sys2Proof.Machine.execEncoderIndex e s
  | .encLoad e => Sys2Proof.Machine.execEncLoad e s
  | .timerEnable t => Sys2Proof.Machine.execTimerEnable t s
  | .timerFire t => Sys2Proof.Machine.execTimerFire t s
  | .swTrig groups => Sys2Proof.Machine.execSwTrig groups s
  | .shotIssue c => Sys2Proof.Machine.execShotIssue c s
  | .strobeEnd c => Sys2Proof.Machine.execStrobeEnd c s
  | .triggerSymbolSend g => Sys2Proof.Machine.execTriggerSymbolSend g s
  | .schedEnable c => Sys2Proof.Machine.execSchedEnable c s
  | .schedDisable c => Sys2Proof.Machine.execSchedDisable c s
  | .shotSet c v => Sys2Proof.Machine.execShotSet c v s
  | .settingsCommit c slot => Sys2Proof.Machine.execSettingsCommit c slot s
  | .settingsCommitNext c slot => Sys2Proof.Machine.execSettingsCommitNext c slot s
  | .settingsDeliveryStart c => Sys2Proof.Machine.execSettingsDeliveryStart c s
  | .ledgerLookup sl shot => Sys2Proof.Machine.execLedgerLookup sl shot s
  | .reservation p => Sys2Proof.Machine.execReservation p s
  | .cellTake p stack => Sys2Proof.Machine.execCellTake p stack s
  | .commit p => Sys2Proof.Machine.execCommit p s
  | .pop q copiesDiffer => Sys2Proof.Machine.execPop q copiesDiffer s
  | .cellReturn q link => Sys2Proof.Machine.execCellReturn q link s
  | .flush q => Sys2Proof.Machine.execFlush q s
  | .flushDone q links => Sys2Proof.Machine.execFlushDone q s links
  | .queueRelease q => Sys2Proof.Machine.execQueueRelease q s
  | .clrOvr q => Sys2Proof.Machine.execClrOvr q s
  | .queueEnable q ordered consumer unit => Sys2Proof.Machine.execQueueEnable q ordered consumer unit s
  | .queueDisable q => Sys2Proof.Machine.execQueueDisable q s
  | .orderEnWrite v => Sys2Proof.Machine.execOrderEnWrite v s
  | .scrubCheck f => Sys2Proof.Machine.execScrubCheck f s
  | .sweep b => Sys2Proof.Machine.execSweep b s
  | .sweepDone b => Sys2Proof.Machine.execSweepDone b s
  | .descTail q v e read => Sys2Proof.Machine.execDescTail q v e s read
  | .cplHead q v e read => Sys2Proof.Machine.execCplHead q v e s read
  | .irqArm q v e read => Sys2Proof.Machine.execIrqArm q v e s read
  | .ringEnable q => Sys2Proof.Machine.execRingEnable q s
  | .ringDisable q => Sys2Proof.Machine.execRingDisable q s
  | .pourClaim q copiesDiffer => Sys2Proof.Machine.execPourClaim q copiesDiffer s
  | .descReadDone q data ok => Sys2Proof.Machine.execDescReadDone q data ok s
  | .pourDataWrite q link data => Sys2Proof.Machine.execPourDataWrite q link data s
  | .completionWrite q => Sys2Proof.Machine.execCompletionWrite q s
  | .holdoffExpiry q => Sys2Proof.Machine.execHoldoffExpiry q s
  | .tableReadRequest c => Sys2Proof.Machine.execTableReadRequest c s
  | .bar2Write c off data => Sys2Proof.Machine.execBar2Write c off data s
  | .bar2Read c off enables tag => Sys2Proof.Machine.execBar2Read c off enables tag s
  | .readLimit c tag => Sys2Proof.Machine.execReadLimit c tag s
  | .packetBoundarySend g => Sys2Proof.Machine.execPacketBoundarySend g s
  | .grantIssue g laneTime => Sys2Proof.Machine.execGrantIssue g laneTime s
  | .turnaroundReturn g => Sys2Proof.Machine.execTurnaroundReturn g s
  | .grantOverrun g => Sys2Proof.Machine.execGrantOverrun g s
  | .writeDoneRsp g p tag addr hdrCrc => Sys2Proof.Machine.execWriteDoneRsp g p tag addr s hdrCrc
  | .readDataRsp g p tag se addr data hdrCrc dataCrc => Sys2Proof.Machine.execReadDataRsp g p tag se addr data s hdrCrc dataCrc
  | .nakRsp g p tag status addr hdrCrc => Sys2Proof.Machine.execNakRsp g p tag status addr s hdrCrc
  | .busyRetry g p tag => Sys2Proof.Machine.execBusyRetry g p tag s
  | .responseTimeout g p tag => Sys2Proof.Machine.execResponseTimeout g p tag s
  | .prefetchExpiry c => Sys2Proof.Machine.execPrefetchExpiry c s
  | .seLost c => Sys2Proof.Machine.execSeLost c s
  | .discover g p => Sys2Proof.Machine.execDiscover g p s
  | .lock g p => Sys2Proof.Machine.execLock g p s
  | .unlock g p => Sys2Proof.Machine.execUnlock g p s
  | .pcWrite g p => Sys2Proof.Machine.execPcWrite g p s
  | .clearFail g p => Sys2Proof.Machine.execClearFail g p s
  | .lockExpired g p => Sys2Proof.Machine.execLockExpired g p s
  | .pollTick g p => Sys2Proof.Machine.execPollTick g p s
  | .ptmDialogueStart => Sys2Proof.Machine.execPtmDialogueStart s
  | .ptmDialogueDone t1 t4 t2 t3 => Sys2Proof.Machine.execPtmDialogueDone t1 t4 t2 t3 s
  | .ptmLost => Sys2Proof.Machine.execPtmLost s
  | .ptmEnable => Sys2Proof.Machine.execPtmEnable s
  | .timeSet => Sys2Proof.Machine.execTimeSet s
  | .faultOccurrence page bit detail real acked loc => Sys2Proof.Machine.execFaultOccurrence page bit detail real acked s loc
  | .remapDone ns => Sys2Proof.Machine.execRemapDone ns s
  | .escalationExpiry page => Sys2Proof.Machine.execEscalationExpiry page s
  | .escAck page => Sys2Proof.Machine.execEscAck page s
  | .faultStickyClear page bits => Sys2Proof.Machine.execFaultStickyClear page bits s
  | .faultRelease page scope index port => Sys2Proof.Machine.execFaultRelease page scope index port s
  | .faultFence page scope index port => Sys2Proof.Machine.execFaultFence page scope index port s
  | .faultInject page bit detail => Sys2Proof.Machine.execFaultInject page bit detail s
  | .softRst page => Sys2Proof.Machine.execSoftRst page s
  | .domainOffWrite idx v => Sys2Proof.Machine.execDomainOffWrite idx v s
  | .domainSwitchDone d => Sys2Proof.Machine.execDomainSwitchDone d s
  | .switchTimeout d => Sys2Proof.Machine.execSwitchTimeout d s
  | .pwrBudgetWrite page v => Sys2Proof.Machine.execPwrBudgetWrite page v s
  | .gateHystExpiry g => Sys2Proof.Machine.execGateHystExpiry g s
  | .gateEntryStepDone g => Sys2Proof.Machine.execGateEntryStepDone g s
  | .gateExitDone g offsets => Sys2Proof.Machine.execGateExitDone g offsets s
  | .sliceHystExpiry sl => Sys2Proof.Machine.execSliceHystExpiry sl s
  | .sliceEntryStepDone sl => Sys2Proof.Machine.execSliceEntryStepDone sl s
  | .sliceExitDone sl => Sys2Proof.Machine.execSliceExitDone sl s
  | .wakeAheadExit slice n => Sys2Proof.Machine.execWakeAheadExit slice n s
  | .hbmPowerDown h idx => Sys2Proof.Machine.execHbmPowerDown h idx s
  | .hbmSelfRefresh h idx => Sys2Proof.Machine.execHbmSelfRefresh h idx s
  | .tempConversion t => Sys2Proof.Machine.execTempConversion t s
  | .railFault rail mv => Sys2Proof.Machine.execRailFault rail mv s
  | .chkStart n => Sys2Proof.Machine.execChkStart n s
  | .chkPreset n alg => Sys2Proof.Machine.execChkPreset n alg s
  | .chkData8 n v => Sys2Proof.Machine.execChkData8 n v s
  | .chkData16 n v => Sys2Proof.Machine.execChkData16 n v s
  | .chkData32 n v => Sys2Proof.Machine.execChkData32 n v s
  | .chkFinal n => Sys2Proof.Machine.execChkFinal n s
  | .smbDevId pec => Sys2Proof.Machine.execSmbDevId pec s
  | .smbRevision pec => Sys2Proof.Machine.execSmbRevision pec s
  | .smbStatus pec => Sys2Proof.Machine.execSmbStatus pec s
  | .smbTemp idx pec => Sys2Proof.Machine.execSmbTemp idx pec s
  | .smbTempMax pec => Sys2Proof.Machine.execSmbTempMax pec s
  | .smbTempPeakRead pec => Sys2Proof.Machine.execSmbTempPeakRead pec s
  | .smbTempPeakWrite v pec => Sys2Proof.Machine.execSmbTempPeakWrite v pec s
  | .smbTempWarnRead pec => Sys2Proof.Machine.execSmbTempWarnRead pec s
  | .smbTempWarnWrite v pec => Sys2Proof.Machine.execSmbTempWarnWrite v pec s
  | .smbRail idx pec => Sys2Proof.Machine.execSmbRail idx pec s
  | .smbQuench pec => Sys2Proof.Machine.execSmbQuench pec s
  | .smbSerial pec => Sys2Proof.Machine.execSmbSerial pec s
  | .smbAlertStatus pec => Sys2Proof.Machine.execSmbAlertStatus pec s
  | .smbAlertMaskRead pec => Sys2Proof.Machine.execSmbAlertMaskRead pec s
  | .smbAlertMaskWrite v pec => Sys2Proof.Machine.execSmbAlertMaskWrite v pec s
  | .alertResponseAddress => Sys2Proof.Machine.execAlertResponseAddress s
  | .extest balls shift => Sys2Proof.Machine.execExtest balls shift s
  | .idcode tdi => Sys2Proof.Machine.execIdcode s tdi
  | .samplePreload balls shift => Sys2Proof.Machine.execSamplePreload balls shift s
  | .extestPulse balls shift => Sys2Proof.Machine.execExtestPulse balls shift s
  | .extestTrain balls shift => Sys2Proof.Machine.execExtestTrain balls shift s
  | .highz balls shift => Sys2Proof.Machine.execHighz s balls shift
  | .clamp balls shift => Sys2Proof.Machine.execClamp s balls shift
  | .bypass code tdi => Sys2Proof.Machine.execBypass s code tdi
  | .testLogicReset => Sys2Proof.Machine.execTestLogicReset s
  | .perstRelease => Sys2Proof.Machine.execPerstRelease s
  | .conditionSiteClears page bit detail => Sys2Proof.Machine.execConditionSiteClears page bit detail s
  | .warmDataSymbol g lane w next => Sys2Proof.Machine.execWarmDataSymbol g lane w s next
  | .lowHalfRead addr ring => Sys2Proof.Machine.execLowHalfRead addr s ring
  | .railReadingUpdate mv => Sys2Proof.Machine.execRailReadingUpdate mv s

end Sys2Proof.Machine
end

