-- ==== Sys2Proof/Machine/Balls.lean ====
section
/-!
DEFINITION. What the balls of the package show of the device in each phase of operation, and under the test access port (R456,
R457, R466). All of it follows from the state; no command reads it.
-/

namespace Sys2Proof.Machine

/-- The phases of operation of R457. -/
inductive Phase | off | poreset | running | quench
deriving DecidableEq, Repr

/-- The signal groups of R457. -/
inductive BallGroup
  | trig (n : Nat) | cameraLane | controlLane | pexTransmitter | quenchN | clkreqN | smbus
deriving DecidableEq, Repr

/-- What a ball or pair of a group does. -/
inductive BallState
  /-- Not driven. -/
  | highZ
  /-- Driven low by an open drain. -/
  | low
  /-- Driven to a level. -/
  | driven (level : Bool)
  /-- An input; with the pull-down of R457 where `pull`. -/
  | input (pull : Bool)
  /-- The termination is not guaranteed. -/
  | terminationOpen
  /-- Terminated and not driven; what arrives is received, discarded or not received at all. -/
  | terminated (received : Bool)
  /-- A control lane as R86 drives it; in quench it carries K28.5 only. -/
  | lane (idleOnly : Bool)
  /-- A PCI Express transmitter: electrical idle, or the link. -/
  | electricalIdle | link
  /-- The SMBus target acknowledges its address, or not. -/
  | target (served : Bool)
  /-- Under the boundary register: the cells of the ball, whose places the BSDL file gives (R465), decide. -/
  | boundary
deriving DecidableEq, Repr

/-- The phase of operation (R457): PORESET_N has no effect in quench (R373). -/
def State.phase (s : State) : Phase :=
  if !s.supply.aon then .off else if s.quenched then .quench else if s.supply.poresetLow then .poreset else .running

/-- The table of R457. -/
def State.ballOfPhase (s : State) (b : BallGroup) : BallState :=
  match s.phase, b with
  | .off, .cameraLane => .terminationOpen
  | .off, _ => .highZ
  | .poreset, .trig _ => .input true
  | .poreset, .cameraLane => .terminated false
  | .poreset, .controlLane => .terminated false
  | .poreset, .pexTransmitter => .electricalIdle
  | .poreset, .quenchN => .highZ
  | .running, .trig n => if s.on (TRG.PIN_CFG_DIR n) then .driven (s.pinLevel n (8 * s.now)) else .input false
  | .running, .cameraLane => .terminated true
  | .running, .controlLane => .lane false
  | .running, .pexTransmitter => .link
  | .running, .quenchN => .highZ
  | .quench, .trig n => if s.on (TRG.PIN_CFG_DIR n) then .driven (s.on (TRG.PIN_CFG_ACTIVE_LOW n)) else .input false
  | .quench, .cameraLane => .terminated false
  | .quench, .controlLane => .lane true
  | .quench, .pexTransmitter => .link
  | .quench, .quenchN => .low
  | .poreset, .clkreqN => .low | .running, .clkreqN => .low | .quench, .clkreqN => .low
  | .poreset, .smbus => .target s.smbOn | .running, .smbus => .target s.smbOn | .quench, .smbus => .target s.smbOn

/-- What a group of balls does: that of the phase, unless an instruction of the test access port controls the balls (R466). -/
def State.ball (s : State) (b : BallGroup) : BallState :=
  match s.ballControl with
  | none => s.ballOfPhase b
  | some .highz => .highZ
  | some .extest => .boundary | some .extestPulse => .boundary | some .extestTrain => .boundary | some .clamp => .boundary
  | some .idcode => s.ballOfPhase b | some .samplePreload => s.ballOfPhase b | some .bypass => s.ballOfPhase b

end Sys2Proof.Machine
end

