-- ==== Sys2Proof/WellFormed.lean ====
section
/-!
DEFINITION. Which commands are well formed: bounds on lists and strings that the operand types do not carry.

A meaning is total and does not ask for these; a command that is not well formed stands for no event of the device.
-/

namespace Sys2Proof

/-- A received packet of a type: at least the type byte, and that byte as given (R78, R79, R82, R83). -/
def bodyOf (t : Nat) (body : List Byte) : Bool :=
  match body with
  | [] => false
  | b :: _ => b.toNat == t

/-- A received packet of a type that no rule defines (R78). -/
def bodyOther (body : List Byte) : Bool :=
  match body with
  | [] => false
  | b :: _ => b.toNat != 1 && b.toNat != 2 && b.toNat != 3

/-- n bytes from an offset stay in one aligned 4,096-byte block of a window, and there is one at least (R336, R340). -/
def oneBlock (off n : Nat) : Bool := n ≠ 0 && off / 4096 == (off + n - 1) / 4096

/-- Whole descriptors of 32 bytes, 1 to 8 of them (R298). -/
def wholeDescs (data : List Byte) : Bool := data.length % 32 == 0 && data.length ≠ 0 && data.length ≤ 256

/-- A boundary scan of 1,305 cells (R466). -/
def scanOk (l : List Bool) : Bool := l.length == 1305

/-- Uncorrectable slot reads: a member of a seam unit, and a byte of its delay store of 32 MiB (R205, R210). -/
def slotReadsOk (l : List (Nat × Nat)) : Bool := l.all (fun x => x.1 < 32 && x.2 < 0x2000000)

/-- A loaded instruction that is BYPASS: 0xFF, or an opcode the table does not define (R464). -/
def bypassCode (c : BitVec 8) : Bool := c == 3 || c == 4 || decide (8 < c.toNat)

/-- The check of one command. -/
def Instr.wf (i : Instr) : Bool :=
  match i with
  | .deskewMeasure _ _ arrivals => 1 ≤ arrivals.length && arrivals.length ≤ 4
  | .trainingBurst _ _ bytes => bytes.length ≤ 254
  | .farLock _ _ block => block.length == 256
  | .fsPacket _ _ body => bodyOf 1 body
  | .linePacket _ _ body => bodyOf 2 body
  | .fePacket _ _ body => bodyOf 3 body
  | .unknownTypePacket _ _ body => bodyOther body
  | .tblLoadDone _ (.data bytes) => bytes.length ≤ 524288
  | .seamLineForm _ bad => slotReadsOk bad
  | .seamTimeout _ bad => slotReadsOk bad
  | .mouldLineReadout _ bad => bad.all (fun x => x < 7680)
  | .descReadDone _ data ok => !ok || wholeDescs data
  | .bar2Write _ off data => oneBlock off.val data.length
  | .bar2Read _ off enables _ => oneBlock off.val enables.length
  | .readDataRsp _ _ _ _ _ data _ _ => data.length ≤ 256
  | .nakRsp _ _ _ status _ _ => status.val ≠ 0
  | .gateExitDone _ offsets => offsets.length == 5
  | .wakeAheadExit slice n => !slice || n.val < 33
  | .tempConversion t => t.length == 8
  | .railReadingUpdate mv => mv.length == 10
  | .extest balls shift => scanOk balls && scanOk shift
  | .samplePreload balls shift => scanOk balls && scanOk shift
  | .extestPulse balls shift => scanOk balls && scanOk shift
  | .extestTrain balls shift => scanOk balls && scanOk shift
  | .highz balls shift => scanOk balls && scanOk shift
  | .clamp balls shift => scanOk balls && scanOk shift
  | .bypass code _ => bypassCode code
  | .seamPacket _ _ _ bad => slotReadsOk bad
  | .vddAonPowerUp _ => true
  | .vddAonRemoval => true
  | .poresetAssert => true
  | .poresetRelease => true
  | .pllLock _ => true
  | .hbmTrainingDone _ _ _ => true
  | .perst => true
  | .linkChange _ _ _ _ => true
  | .d3hotEntry => true
  | .d0Return => true
  | .busMasterEnableChange _ => true
  | .registerWrite _ _ _ _ => true
  | .stateClear _ => true
  | .irqStatClear _ _ => true
  | .irqSet _ _ _ => true
  | .msixMessage _ => true
  | .msixUnmask _ => true
  | .clockWindowEnd _ _ _ => true
  | .clockEdgeTimeout _ _ => true
  | .dllLock _ _ => true
  | .commaDetect _ _ _ _ _ => true
  | .alignCheckTimeout _ _ => true
  | .laneMaskAck _ _ => true
  | .degradeTimeout _ _ => true
  | .burstWarn _ _ => true
  | .linkFail _ _ => true
  | .linkTrain _ _ => true
  | .setRate _ _ _ => true
  | .setRateAck _ _ => true
  | .linkDown _ _ => true
  | .linkUp _ _ => true
  | .clearCounters _ => true
  | .loopNes _ _ _ => true
  | .loopNep _ _ _ => true
  | .loopFar _ _ => true
  | .camPrbs _ _ _ => true
  | .testStop _ _ => true
  | .prbsLock _ _ _ => true
  | .abortSymbol _ _ _ => true
  | .frameTimeout _ => true
  | .missingFrameTimeout _ _ => true
  | .dropSymbols _ => true
  | .dropLine _ => true
  | .corruptSymbol _ => true
  | .corruptHdrCrc _ => true
  | .corruptPayCrc _ => true
  | .reorder _ => true
  | .injCancel _ => true
  | .injectionActs _ => true
  | .gateCfgWrite _ _ _ => true
  | .gateEnable _ => true
  | .gateDisable _ => true
  | .camEnable _ => true
  | .camDisable _ => true
  | .admHbmLimitWrite _ => true
  | .intakeItem _ => true
  | .fsAtFrameCheck _ => true
  | .feAtFrameCheck _ => true
  | .lineAtFrameCheck _ => true
  | .displacementCompute _ => true
  | .holdTimeout _ => true
  | .nrLineEmit _ => true
  | .refWriteAck _ _ _ => true
  | .refWriteFail _ _ _ => true
  | .refReadDone _ _ _ => true
  | .refReset _ => true
  | .fettleLineEmit _ _ => true
  | .windowLineEmit _ => true
  | .statBankClose _ => true
  | .tblLoad _ _ _ => true
  | .tblLoadDone _ .hostErr => true
  | .tblLoadDone _ .hbmErr => true
  | .colBankWrite _ _ => true
  | .colCopyDone _ _ => true
  | .ffGridWrite _ _ _ => true
  | .winCommit _ => true
  | .seamEnable _ => true
  | .seamDisable _ => true
  | .mouldEnable _ => true
  | .mouldDisable _ => true
  | .mouldPacket _ _ _ => true
  | .mouldFrameStart _ => true
  | .tileStale _ _ => true
  | .pinEdge _ _ _ => true
  | .encoderEdge _ _ _ _ => true
  | .encoderIndex _ => true
  | .encLoad _ => true
  | .timerEnable _ => true
  | .timerFire _ => true
  | .swTrig _ => true
  | .shotIssue _ => true
  | .strobeEnd _ => true
  | .triggerSymbolSend _ => true
  | .schedEnable _ => true
  | .schedDisable _ => true
  | .shotSet _ _ => true
  | .settingsCommit _ _ => true
  | .settingsCommitNext _ _ => true
  | .settingsDeliveryStart _ => true
  | .ledgerLookup _ _ => true
  | .reservation _ => true
  | .cellTake _ _ => true
  | .commit _ => true
  | .pop _ _ => true
  | .cellReturn _ _ => true
  | .flush _ => true
  | .flushDone _ _ => true
  | .queueRelease _ => true
  | .clrOvr _ => true
  | .queueEnable _ _ _ _ => true
  | .queueDisable _ => true
  | .orderEnWrite _ => true
  | .scrubCheck _ => true
  | .sweep _ => true
  | .sweepDone _ => true
  | .descTail _ _ _ _ => true
  | .cplHead _ _ _ _ => true
  | .irqArm _ _ _ _ => true
  | .ringEnable _ => true
  | .ringDisable _ => true
  | .pourClaim _ _ => true
  | .pourDataWrite _ _ _ => true
  | .completionWrite _ => true
  | .holdoffExpiry _ => true
  | .tableReadRequest _ => true
  | .readLimit _ _ => true
  | .packetBoundarySend _ => true
  | .grantIssue _ _ => true
  | .turnaroundReturn _ => true
  | .grantOverrun _ => true
  | .writeDoneRsp _ _ _ _ _ => true
  | .busyRetry _ _ _ => true
  | .responseTimeout _ _ _ => true
  | .prefetchExpiry _ => true
  | .seLost _ => true
  | .discover _ _ => true
  | .lock _ _ => true
  | .unlock _ _ => true
  | .pcWrite _ _ => true
  | .clearFail _ _ => true
  | .lockExpired _ _ => true
  | .pollTick _ _ => true
  | .ptmDialogueStart => true
  | .ptmDialogueDone _ _ _ _ => true
  | .ptmLost => true
  | .ptmEnable => true
  | .timeSet => true
  | .faultOccurrence _ _ _ _ _ _ => true
  | .remapDone _ => true
  | .escalationExpiry _ => true
  | .escAck _ => true
  | .faultStickyClear _ _ => true
  | .faultRelease _ _ _ _ => true
  | .faultFence _ _ _ _ => true
  | .faultInject _ _ _ => true
  | .softRst _ => true
  | .domainOffWrite _ _ => true
  | .domainSwitchDone _ => true
  | .switchTimeout _ => true
  | .pwrBudgetWrite _ _ => true
  | .gateHystExpiry _ => true
  | .gateEntryStepDone _ => true
  | .sliceHystExpiry _ => true
  | .sliceEntryStepDone _ => true
  | .sliceExitDone _ => true
  | .hbmPowerDown _ _ => true
  | .hbmSelfRefresh _ _ => true
  | .railFault _ _ => true
  | .chkStart _ => true
  | .chkPreset _ _ => true
  | .chkData8 _ _ => true
  | .chkData16 _ _ => true
  | .chkData32 _ _ => true
  | .chkFinal _ => true
  | .smbDevId _ => true
  | .smbRevision _ => true
  | .smbStatus _ => true
  | .smbTemp _ _ => true
  | .smbTempMax _ => true
  | .smbTempPeakRead _ => true
  | .smbTempPeakWrite _ _ => true
  | .smbTempWarnRead _ => true
  | .smbTempWarnWrite _ _ => true
  | .smbRail _ _ => true
  | .smbQuench _ => true
  | .smbSerial _ => true
  | .smbAlertStatus _ => true
  | .smbAlertMaskRead _ => true
  | .smbAlertMaskWrite _ _ => true
  | .alertResponseAddress => true
  | .idcode _ => true
  | .testLogicReset => true
  | .perstRelease => true
  | .conditionSiteClears _ _ _ => true
  | .warmDataSymbol _ _ _ _ => true
  | .lowHalfRead _ _ => true

end Sys2Proof
end

