-- ==== Sys2Proof/Safety.lean ====
section
/-!
DEFINITION. What the statements about runs rest on: states that a run can be in, and how two states of a step compare.
-/

namespace Sys2Proof.Machine

/-- The commands whose events the host makes in BAR0, BAR2 and BAR4: they reach the device only while it runs, out of quench,
with PERST_N high (R373, R386). -/
def hostCommand (c : Instr) : Bool :=
  match c with
  | .vddAonPowerUp _ => false
  | .vddAonRemoval => false
  | .poresetAssert => false
  | .poresetRelease => false
  | .pllLock _ => false
  | .hbmTrainingDone _ _ _ => false
  | .perst => false
  | .linkChange _ _ _ _ => false
  | .d3hotEntry => true
  | .d0Return => true
  | .busMasterEnableChange _ => true
  | .registerWrite _ _ _ _ => true
  | .stateClear _ => true
  | .irqStatClear _ _ => true
  | .irqSet _ _ _ => true
  | .msixMessage _ => false
  | .msixUnmask _ => true
  | .clockWindowEnd _ _ _ => false
  | .clockEdgeTimeout _ _ => false
  | .dllLock _ _ => false
  | .commaDetect _ _ _ _ _ => false
  | .alignCheckTimeout _ _ => false
  | .laneMaskAck _ _ => false
  | .degradeTimeout _ _ => false
  | .deskewMeasure _ _ _ => false
  | .trainingBurst _ _ _ => false
  | .burstWarn _ _ => false
  | .linkFail _ _ => false
  | .linkTrain _ _ => true
  | .setRate _ _ _ => true
  | .setRateAck _ _ => false
  | .linkDown _ _ => true
  | .linkUp _ _ => true
  | .clearCounters _ => true
  | .loopNes _ _ _ => true
  | .loopNep _ _ _ => true
  | .loopFar _ _ => true
  | .camPrbs _ _ _ => true
  | .testStop _ _ => true
  | .prbsLock _ _ _ => false
  | .farLock _ _ _ => false
  | .fsPacket _ _ _ => false
  | .linePacket _ _ _ => false
  | .fePacket _ _ _ => false
  | .unknownTypePacket _ _ _ => false
  | .abortSymbol _ _ _ => false
  | .frameTimeout _ => false
  | .missingFrameTimeout _ _ => false
  | .dropSymbols _ => true
  | .dropLine _ => true
  | .corruptSymbol _ => true
  | .corruptHdrCrc _ => true
  | .corruptPayCrc _ => true
  | .reorder _ => true
  | .injCancel _ => true
  | .injectionActs _ => false
  | .gateCfgWrite _ _ _ => true
  | .gateEnable _ => true
  | .gateDisable _ => true
  | .camEnable _ => true
  | .camDisable _ => true
  | .admHbmLimitWrite _ => true
  | .intakeItem _ => false
  | .fsAtFrameCheck _ => false
  | .feAtFrameCheck _ => false
  | .lineAtFrameCheck _ => false
  | .displacementCompute _ => false
  | .holdTimeout _ => false
  | .nrLineEmit _ => false
  | .refWriteAck _ _ _ => false
  | .refWriteFail _ _ _ => false
  | .refReadDone _ _ _ => false
  | .refReset _ => true
  | .fettleLineEmit _ _ => false
  | .windowLineEmit _ => false
  | .statBankClose _ => false
  | .tblLoad _ _ _ => true
  | .tblLoadDone _ _ => false
  | .colBankWrite _ _ => true
  | .colCopyDone _ _ => false
  | .ffGridWrite _ _ _ => true
  | .winCommit _ => true
  | .seamEnable _ => true
  | .seamDisable _ => true
  | .seamPacket _ _ _ _ => false
  | .seamLineForm _ _ => false
  | .seamTimeout _ _ => false
  | .mouldEnable _ => true
  | .mouldDisable _ => true
  | .mouldPacket _ _ _ => false
  | .mouldFrameStart _ => false
  | .mouldLineReadout _ _ => false
  | .tileStale _ _ => false
  | .pinEdge _ _ _ => false
  | .encoderEdge _ _ _ _ => false
  | .encoderIndex _ => false
  | .encLoad _ => true
  | .timerEnable _ => true
  | .timerFire _ => false
  | .swTrig _ => true
  | .shotIssue _ => false
  | .strobeEnd _ => false
  | .triggerSymbolSend _ => false
  | .schedEnable _ => true
  | .schedDisable _ => true
  | .shotSet _ _ => true
  | .settingsCommit _ _ => true
  | .settingsCommitNext _ _ => true
  | .settingsDeliveryStart _ => false
  | .ledgerLookup _ _ => true
  | .reservation _ => false
  | .cellTake _ _ => false
  | .commit _ => false
  | .pop _ _ => false
  | .cellReturn _ _ => false
  | .flush _ => true
  | .flushDone _ _ => false
  | .queueRelease _ => true
  | .clrOvr _ => true
  | .queueEnable _ _ _ _ => true
  | .queueDisable _ => true
  | .orderEnWrite _ => true
  | .scrubCheck _ => false
  | .sweep _ => true
  | .sweepDone _ => false
  | .descTail _ _ _ _ => true
  | .cplHead _ _ _ _ => true
  | .irqArm _ _ _ _ => true
  | .ringEnable _ => true
  | .ringDisable _ => true
  | .pourClaim _ _ => false
  | .descReadDone _ _ _ => false
  | .pourDataWrite _ _ _ => false
  | .completionWrite _ => false
  | .holdoffExpiry _ => false
  | .tableReadRequest _ => false
  | .bar2Write _ _ _ => true
  | .bar2Read _ _ _ _ => false
  | .readLimit _ _ => false
  | .packetBoundarySend _ => false
  | .grantIssue _ _ => false
  | .turnaroundReturn _ => false
  | .grantOverrun _ => false
  | .writeDoneRsp _ _ _ _ _ => false
  | .readDataRsp _ _ _ _ _ _ _ _ => false
  | .nakRsp _ _ _ _ _ _ => false
  | .busyRetry _ _ _ => false
  | .responseTimeout _ _ _ => false
  | .prefetchExpiry _ => false
  | .seLost _ => false
  | .discover _ _ => true
  | .lock _ _ => true
  | .unlock _ _ => true
  | .pcWrite _ _ => true
  | .clearFail _ _ => true
  | .lockExpired _ _ => false
  | .pollTick _ _ => false
  | .ptmDialogueStart => false
  | .ptmDialogueDone _ _ _ _ => false
  | .ptmLost => false
  | .ptmEnable => true
  | .timeSet => true
  | .faultOccurrence _ _ _ _ _ _ => false
  | .remapDone _ => false
  | .escalationExpiry _ => false
  | .escAck _ => true
  | .faultStickyClear _ _ => true
  | .faultRelease _ _ _ _ => true
  | .faultFence _ _ _ _ => true
  | .faultInject _ _ _ => true
  | .softRst _ => true
  | .domainOffWrite _ _ => true
  | .domainSwitchDone _ => false
  | .switchTimeout _ => false
  | .pwrBudgetWrite _ _ => true
  | .gateHystExpiry _ => false
  | .gateEntryStepDone _ => false
  | .gateExitDone _ _ => false
  | .sliceHystExpiry _ => false
  | .sliceEntryStepDone _ => false
  | .sliceExitDone _ => false
  | .wakeAheadExit _ _ => false
  | .hbmPowerDown _ _ => false
  | .hbmSelfRefresh _ _ => false
  | .tempConversion _ => false
  | .railFault _ _ => false
  | .chkStart _ => true
  | .chkPreset _ _ => true
  | .chkData8 _ _ => true
  | .chkData16 _ _ => true
  | .chkData32 _ _ => true
  | .chkFinal _ => true
  | .smbDevId _ => false
  | .smbRevision _ => false
  | .smbStatus _ => false
  | .smbTemp _ _ => false
  | .smbTempMax _ => false
  | .smbTempPeakRead _ => false
  | .smbTempPeakWrite _ _ => false
  | .smbTempWarnRead _ => false
  | .smbTempWarnWrite _ _ => false
  | .smbRail _ _ => false
  | .smbQuench _ => false
  | .smbSerial _ => false
  | .smbAlertStatus _ => false
  | .smbAlertMaskRead _ => false
  | .smbAlertMaskWrite _ _ => false
  | .alertResponseAddress => false
  | .extest _ _ => false
  | .idcode _ => false
  | .samplePreload _ _ => false
  | .extestPulse _ _ => false
  | .extestTrain _ _ => false
  | .highz _ _ => false
  | .clamp _ _ => false
  | .bypass _ _ => false
  | .testLogicReset => false
  | .perstRelease => false
  | .conditionSiteClears _ _ _ => false
  | .warmDataSymbol _ _ _ _ => false
  | .lowHalfRead _ _ => false
  | .railReadingUpdate _ => false

/-- The parts of the state: one for each field. -/
inductive Part
  | pending
  | supply
  | regs
  | latches
  | cfg
  | time
  | gates
  | links
  | engines
  | cams
  | slices
  | seams
  | moulds
  | encs
  | timers
  | strobes
  | records
  | queues
  | banks
  | prods
  | badLinks
  | rings
  | loads
  | chks
  | faults
  | smb
  | jtag
  | hbm
  | fresh
  | out
deriving DecidableEq, Repr

/-- A part of the state is the same in t as in s. -/
def samePart (q : Part) (s t : State) : Prop :=
  match q with
  | .pending => t.pending = s.pending
  | .supply => t.supply = s.supply
  | .regs => t.regs = s.regs
  | .latches => t.latches = s.latches
  | .cfg => t.cfg = s.cfg
  | .time => t.time = s.time
  | .gates => t.gates = s.gates
  | .links => t.links = s.links
  | .engines => t.engines = s.engines
  | .cams => t.cams = s.cams
  | .slices => t.slices = s.slices
  | .seams => t.seams = s.seams
  | .moulds => t.moulds = s.moulds
  | .encs => t.encs = s.encs
  | .timers => t.timers = s.timers
  | .strobes => t.strobes = s.strobes
  | .records => t.records = s.records
  | .queues => t.queues = s.queues
  | .banks => t.banks = s.banks
  | .prods => t.prods = s.prods
  | .badLinks => t.badLinks = s.badLinks
  | .rings => t.rings = s.rings
  | .loads => t.loads = s.loads
  | .chks => t.chks = s.chks
  | .faults => t.faults = s.faults
  | .smb => t.smb = s.smb
  | .jtag => t.jtag = s.jtag
  | .hbm => t.hbm = s.hbm
  | .fresh => t.fresh = s.fresh
  | .out => t.out = s.out

/-- The parts that a fault occurrence can reach: what it records, and the units that a fence, an escalation or a quench acts
on (R354, R357, R359, R361, R372). -/
def Part.ofFault : List Part :=
  [.supply, .regs, .cfg, .links, .engines, .cams, .slices, .seams, .moulds, .strobes, .records, .queues, .banks,
    .prods, .rings, .faults, .smb, .fresh, .out]

/-- Every part that a loss of supply or PORESET_N returns to its reset value (R386): not the queue of commands, the levels at
the encoder inputs and the model's own records (log entries 11 to 13). -/
def Part.all : List Part :=
  [.supply, .regs, .latches, .cfg, .time, .gates, .links, .engines, .cams, .slices, .seams, .moulds, .timers,
    .strobes, .records, .queues, .banks, .prods, .badLinks, .rings, .loads, .chks, .faults, .smb, .jtag, .hbm]

/-- The parts of the state that a command may change. -/
def writes (c : Instr) : List Part :=
  match c with
  | .vddAonPowerUp _ => Part.all
  | .vddAonRemoval => [.supply, .regs, .latches, .cfg, .time, .gates, .links, .engines, .cams, .slices, .seams,
    .moulds, .timers, .strobes, .records, .queues, .banks, .prods, .badLinks, .rings, .loads, .chks, .faults, .smb,
    .jtag, .hbm, .out]
  | .poresetAssert => [.supply, .regs, .latches, .cfg, .time, .gates, .links, .engines, .cams, .slices, .seams,
    .moulds, .timers, .strobes, .records, .queues, .banks, .prods, .badLinks, .rings, .loads, .chks, .faults, .smb,
    .jtag, .hbm, .out]
  | .poresetRelease => Part.ofFault
  | .pllLock _ => [.regs]
  | .hbmTrainingDone _ _ _ => Part.ofFault
  | .perst => [.supply, .regs, .latches, .cfg, .time, .gates, .links, .engines, .cams, .slices, .seams, .moulds,
    .timers, .strobes, .records, .queues, .banks, .prods, .rings, .loads, .chks, .faults, .out]
  | .linkChange _ _ _ _ => [.regs]
  | .d3hotEntry => [.regs, .cfg, .queues, .rings]
  | .d0Return => [.cfg]
  | .busMasterEnableChange _ => [.cfg]
  | .registerWrite _ _ _ _ => .time :: .gates :: .timers :: .loads :: .chks :: Part.ofFault
  | .stateClear _ => [.regs]
  | .irqStatClear _ _ => [.regs]
  | .irqSet _ _ _ => [.regs, .faults]
  | .msixMessage _ => [.regs, .out]
  | .msixUnmask _ => [.regs, .out]
  | .clockWindowEnd _ _ _ => .gates :: Part.ofFault
  | .clockEdgeTimeout _ _ => .gates :: Part.ofFault
  | .dllLock _ _ => [.regs, .gates]
  | .commaDetect _ _ _ _ _ => .gates :: Part.ofFault
  | .alignCheckTimeout _ _ => [.regs, .gates]
  | .laneMaskAck _ _ => [.regs, .gates, .links, .engines, .cams, .out]
  | .degradeTimeout _ _ => [.regs, .links, .cams, .records]
  | .deskewMeasure _ _ _ => [.regs, .gates, .links]
  | .trainingBurst _ _ _ => [.regs, .gates, .links, .engines, .cams, .records, .fresh, .out]
  | .burstWarn _ _ => [.regs]
  | .linkFail _ _ => [.regs]
  | .linkTrain _ _ => [.regs, .gates, .links, .engines, .cams, .records, .fresh, .out]
  | .setRate _ _ _ => [.regs, .gates, .links, .engines, .cams, .records, .fresh, .out]
  | .setRateAck _ _ => [.regs, .gates, .links, .engines, .cams, .out]
  | .linkDown _ _ => [.regs, .gates, .links]
  | .linkUp _ _ => [.regs, .gates, .links, .engines, .cams, .records, .fresh, .out]
  | .clearCounters _ => [.regs, .gates]
  | .loopNes _ _ _ => [.regs, .gates, .links, .fresh, .out]
  | .loopNep _ _ _ => [.regs, .gates, .links, .fresh, .out]
  | .loopFar _ _ => [.regs, .gates, .links, .engines, .cams, .records, .fresh, .out]
  | .camPrbs _ _ _ => [.regs, .gates, .links, .engines, .cams, .records, .fresh, .out]
  | .testStop _ _ => [.regs, .gates, .links, .engines, .cams, .records, .fresh, .out]
  | .prbsLock _ _ _ => [.regs, .gates, .links, .fresh]
  | .farLock _ _ _ => [.regs, .gates, .links, .fresh]
  | .fsPacket _ _ _ => [.regs, .gates, .links, .cams, .slices, .fresh]
  | .linePacket _ _ _ => [.regs, .gates, .links, .cams, .slices, .fresh]
  | .fePacket _ _ _ => [.regs, .gates, .links, .cams, .slices, .fresh]
  | .unknownTypePacket _ _ _ => [.regs, .gates, .links, .cams, .slices, .fresh]
  | .abortSymbol _ _ _ => [.regs, .gates, .links, .cams, .slices, .fresh]
  | .frameTimeout _ => [.links]
  | .missingFrameTimeout _ _ => [.regs, .cams, .records, .prods]
  | .dropSymbols _ => [.regs, .gates]
  | .dropLine _ => [.regs, .gates]
  | .corruptSymbol _ => [.regs, .gates]
  | .corruptHdrCrc _ => [.regs, .gates]
  | .corruptPayCrc _ => [.regs, .gates]
  | .reorder _ => [.regs, .gates]
  | .injCancel _ => [.regs, .gates]
  | .injectionActs _ => [.regs, .gates]
  | .gateCfgWrite _ _ _ => [.regs, .gates, .links, .engines, .cams, .records, .fresh, .out]
  | .gateEnable _ => [.regs, .links, .engines, .cams, .records, .fresh, .out]
  | .gateDisable _ => [.regs, .gates, .links, .engines, .cams, .records, .fresh, .out]
  | .camEnable _ => [.regs, .links, .cams]
  | .camDisable _ => [.regs, .links, .cams, .records]
  | .admHbmLimitWrite _ => [.regs]
  | .intakeItem _ => [.regs, .links, .cams, .slices]
  | .fsAtFrameCheck _ => [.regs, .cams, .slices, .records, .prods]
  | .feAtFrameCheck _ => [.regs, .links, .cams, .slices, .records]
  | .lineAtFrameCheck _ => [.regs, .cams, .slices, .records]
  | .displacementCompute _ => [.regs, .cams]
  | .holdTimeout _ => [.regs, .cams]
  | .nrLineEmit _ => [.supply, .regs, .cams, .faults, .hbm]
  | .refWriteAck _ _ _ => [.regs, .cams]
  | .refWriteFail _ _ _ => [.regs, .cams]
  | .refReadDone _ _ _ => Part.ofFault
  | .refReset _ => [.cams]
  | .fettleLineEmit _ _ => Part.ofFault
  | .windowLineEmit _ => [.cams, .prods]
  | .statBankClose _ => [.cams, .prods]
  | .tblLoad _ _ _ => [.regs, .loads]
  | .tblLoadDone _ _ => [.supply, .regs, .loads, .faults, .hbm]
  | .colBankWrite _ _ => [.regs, .cams, .slices]
  | .colCopyDone _ _ => Part.ofFault
  | .ffGridWrite _ _ _ => [.regs]
  | .winCommit _ => [.regs, .cams]
  | .seamEnable _ => [.regs, .seams]
  | .seamDisable _ => [.regs, .queues, .prods]
  | .seamPacket _ _ _ _ => .hbm :: Part.ofFault
  | .seamLineForm _ _ => Part.ofFault
  | .seamTimeout _ _ => Part.ofFault
  | .mouldEnable _ => [.regs, .moulds]
  | .mouldDisable _ => [.regs, .moulds, .queues, .prods]
  | .mouldPacket _ _ _ => .hbm :: Part.ofFault
  | .mouldFrameStart _ => [.regs, .time, .moulds]
  | .mouldLineReadout _ _ => Part.ofFault
  | .tileStale _ _ => [.regs]
  | .pinEdge _ _ _ => [.regs, .time, .cams]
  | .encoderEdge _ _ _ _ => [.regs, .time, .cams, .encs]
  | .encoderIndex _ => [.regs]
  | .encLoad _ => [.regs]
  | .timerEnable _ => [.regs, .timers]
  | .timerFire _ => [.regs, .time, .cams, .timers]
  | .swTrig _ => [.regs, .cams]
  | .shotIssue _ => [.regs, .time, .gates, .links, .engines, .cams, .slices, .strobes, .records, .prods, .out]
  | .strobeEnd _ => [.time, .strobes, .out]
  | .triggerSymbolSend _ => [.regs, .time, .engines, .records, .out]
  | .schedEnable _ => [.regs, .links, .engines, .cams, .records, .fresh, .out]
  | .schedDisable _ => [.regs, .links, .engines, .cams, .records, .fresh, .out]
  | .shotSet _ _ => [.regs]
  | .settingsCommit _ _ => [.regs, .cams]
  | .settingsCommitNext _ _ => [.regs, .cams]
  | .settingsDeliveryStart _ => [.regs, .time, .links, .engines, .cams, .records, .fresh, .out]
  | .ledgerLookup _ _ => [.regs]
  | .reservation _ => [.regs, .cams, .records, .queues, .prods]
  | .cellTake _ _ => .badLinks :: Part.ofFault
  | .commit _ => [.supply, .regs, .cams, .records, .queues, .banks, .prods, .badLinks, .faults, .fresh]
  | .pop _ _ => Part.ofFault
  | .cellReturn _ _ => Part.ofFault
  | .flush _ => [.regs, .queues, .prods, .fresh]
  | .flushDone _ _ => Part.ofFault
  | .queueRelease _ => [.regs]
  | .clrOvr _ => [.regs]
  | .queueEnable _ _ _ _ => [.regs]
  | .queueDisable _ => [.regs]
  | .orderEnWrite _ => [.regs]
  | .scrubCheck _ => .badLinks :: Part.ofFault
  | .sweep _ => [.regs, .banks]
  | .sweepDone _ => Part.ofFault
  | .descTail _ _ _ _ => [.regs, .rings, .out]
  | .cplHead _ _ _ _ => [.regs, .rings, .out]
  | .irqArm _ _ _ _ => [.regs, .rings, .out]
  | .ringEnable _ => [.regs, .queues, .rings]
  | .ringDisable _ => [.regs, .queues, .rings]
  | .pourClaim _ _ => Part.ofFault
  | .descReadDone _ _ _ => [.regs, .queues, .rings, .out]
  | .pourDataWrite _ _ _ => Part.ofFault
  | .completionWrite _ => [.supply, .regs, .cfg, .queues, .rings, .fresh, .out]
  | .holdoffExpiry _ => [.regs, .rings]
  | .tableReadRequest _ => [.loads, .out]
  | .bar2Write _ _ _ => [.regs, .links, .engines, .cams, .records, .fresh, .out]
  | .bar2Read _ _ _ _ => [.regs, .links, .engines, .cams, .records, .fresh, .out]
  | .readLimit _ _ => [.regs, .engines, .fresh, .out]
  | .packetBoundarySend _ => [.regs, .time, .engines, .records, .out]
  | .grantIssue _ _ => [.engines, .out]
  | .turnaroundReturn _ => [.engines]
  | .grantOverrun _ => [.regs, .engines]
  | .writeDoneRsp _ _ _ _ _ => [.regs, .gates, .links, .engines, .cams, .out]
  | .readDataRsp _ _ _ _ _ _ _ _ => [.regs, .links, .engines, .cams, .records, .fresh, .out]
  | .nakRsp _ _ _ _ _ _ => [.regs, .links, .engines, .cams, .records, .out]
  | .busyRetry _ _ _ => [.engines]
  | .responseTimeout _ _ _ => [.regs, .links, .engines, .cams, .records, .out]
  | .prefetchExpiry _ => [.engines]
  | .seLost _ => [.regs, .engines]
  | .discover _ _ => [.regs, .links, .engines, .cams, .records, .fresh, .out]
  | .lock _ _ => [.regs, .links, .engines, .cams, .records, .fresh, .out]
  | .unlock _ _ => [.regs, .links, .engines, .cams, .records, .fresh, .out]
  | .pcWrite _ _ => [.regs, .links, .engines, .cams, .records, .fresh, .out]
  | .clearFail _ _ => [.regs]
  | .lockExpired _ _ => [.regs, .links, .engines, .cams, .records, .fresh, .out]
  | .pollTick _ _ => [.regs, .links, .engines, .cams, .records, .fresh, .out]
  | .ptmDialogueStart => [.out]
  | .ptmDialogueDone _ _ _ _ => [.regs, .time, .timers, .rings]
  | .ptmLost => [.regs]
  | .ptmEnable => [.regs, .time]
  | .timeSet => [.regs, .time, .timers, .rings]
  | .faultOccurrence _ _ _ _ _ _ => .gates :: Part.ofFault
  | .remapDone _ => [.supply, .regs, .cams, .slices, .faults]
  | .escalationExpiry _ => .time :: Part.ofFault
  | .escAck _ => Part.ofFault
  | .faultStickyClear _ _ => [.regs]
  | .faultRelease _ _ _ _ => [.supply, .regs, .gates, .links, .engines, .cams, .slices, .seams, .moulds, .records,
    .queues, .banks, .prods, .chks, .faults, .fresh, .out]
  | .faultFence _ _ _ _ => [.supply, .regs, .links, .engines, .cams, .slices, .seams, .moulds, .strobes, .records,
    .queues, .banks, .prods, .rings, .faults, .fresh, .out]
  | .faultInject _ _ _ => [.regs, .faults]
  | .softRst _ => [.regs, .gates, .links, .seams, .moulds, .faults]
  | .domainOffWrite _ _ => [.supply, .regs]
  | .domainSwitchDone _ => [.supply, .regs, .gates, .links, .engines, .seams, .moulds, .banks, .faults]
  | .switchTimeout _ => Part.ofFault
  | .pwrBudgetWrite _ _ => [.regs, .gates, .slices]
  | .gateHystExpiry _ => [.regs, .gates]
  | .gateEntryStepDone _ => [.regs, .gates]
  | .gateExitDone _ _ => .gates :: Part.ofFault
  | .sliceHystExpiry _ => [.regs, .slices]
  | .sliceEntryStepDone _ => [.regs, .slices, .faults]
  | .sliceExitDone _ => [.supply, .regs, .cams, .slices]
  | .wakeAheadExit _ _ => [.regs, .time, .gates, .slices]
  | .hbmPowerDown _ _ => [.supply]
  | .hbmSelfRefresh _ _ => [.supply, .regs]
  | .tempConversion _ => Part.ofFault
  | .railFault _ _ => Part.ofFault
  | .chkStart _ => [.regs]
  | .chkPreset _ _ => [.regs]
  | .chkData8 _ _ => [.regs, .chks]
  | .chkData16 _ _ => [.regs, .chks]
  | .chkData32 _ _ => [.regs, .chks]
  | .chkFinal _ => [.regs]
  | .smbDevId _ => [.out]
  | .smbRevision _ => [.out]
  | .smbStatus _ => [.out]
  | .smbTemp _ _ => [.out]
  | .smbTempMax _ => [.out]
  | .smbTempPeakRead _ => [.out]
  | .smbTempPeakWrite _ _ => [.smb, .out]
  | .smbTempWarnRead _ => [.out]
  | .smbTempWarnWrite _ _ => [.smb, .out]
  | .smbRail _ _ => [.out]
  | .smbQuench _ => [.out]
  | .smbSerial _ => [.out]
  | .smbAlertStatus _ => [.smb, .out]
  | .smbAlertMaskRead _ => [.out]
  | .smbAlertMaskWrite _ _ => [.smb, .out]
  | .alertResponseAddress => [.out]
  | .extest _ _ => [.jtag, .out]
  | .idcode _ => [.jtag, .out]
  | .samplePreload _ _ => [.jtag, .out]
  | .extestPulse _ _ => [.jtag, .out]
  | .extestTrain _ _ => [.jtag, .out]
  | .highz _ _ => [.jtag, .out]
  | .clamp _ _ => [.jtag, .out]
  | .bypass _ _ => [.jtag, .out]
  | .testLogicReset => [.jtag]
  | .perstRelease => [.supply, .regs, .links, .engines, .cams, .slices, .seams, .moulds, .strobes, .records,
    .queues, .banks, .prods, .rings, .faults, .fresh, .out]
  | .conditionSiteClears _ _ _ => [.supply, .regs, .faults]
  | .warmDataSymbol _ _ _ _ => [.regs, .gates]
  | .lowHalfRead _ _ => .latches :: Part.ofFault
  | .railReadingUpdate _ => [.supply, .faults, .smb, .out]

/-- The memory of the state has its canonical form (R11, log entry 6). -/
def State.memoryOk (s : State) : Prop := Memory.wf s.hbm

/-- The supply is good and the device is in quench (R372, R374). -/
def State.safeOff (s : State) : Prop := s.supply.aon = true ∧ s.quenched = true

/-- Outside the registers at these addresses t is s: every other register holds its word, and so does every other part of
the state. -/
def sameBut (s t : State) (l : List Nat) : Prop := { t with regs := s.regs } = s ∧ ∀ a, a ∉ l → t.word a = s.word a

/-- Registers that only hold the fields written, where no test of the value and no enable of their own stands against it: of the
header IRQ_VEC and what R352 to R361 give no action; behind it every register with RW or RWL fields but those whose write a
rule gives an action of its own. -/
def plainReg (p : Page) (n o : Nat) : Bool :=
  if (blockType p).isSome && o < 0x60 then
    if o < 0x30 then o == 0x2C else !(sites p n).isEmpty && !([0x34, 0x38, 0x3C, 0x50, 0x5C].contains o)
  else match p with
    | .dev => o != 0x180
    | .pwr => !inArray o 0x100 4 11
    | .time => o != 0x108 && o != 0x120
    | .trg =>
      if n = 0 then !inArray o 0x100 4 64 && o != 0x208
      else if n = 1 then decide (o < 0x300) && (o - 0x100) % 0x40 != 0 && (o - 0x100) % 0x40 != 0x20
      else if n = 2 then (o - 0x100) % 0x20 != 0x10 && (o - 0x100) % 0x20 != 0
      else n == 3 && (o - 0x100) % 0x20 != 0x10 && (o - 0x100) % 0x20 != 0
    | .shot => o != 0x104
    | .gate => o != 0x60 && o != 0x160
    | .brg => [0x100, 0x104, 0x108, 0x10C].contains o ||
        (decide (0x140 ≤ o) && decide (o < 0x1C0) && !([0x00, 0x04, 0x24].contains ((o - 0x140) % 0x40)))
    | .ladle => n != 0 || o != 0x100
    | .pour => n == 0 && o == 0x100
    | .ring => o != 0x10 && decide (o < 0x1C)
    | .seam => true
    | .mould => o != 0x120
    | .hbm => true
    | .cam => !([0x220, 0x400, 0x500, 0x504, 0x508, 0x60C, 0x700, 0x800, 0x824, 0x850].contains o)
    | .msix => o != 0x0C
    | .clk => false | .chk => false | .slice => false | .qd => false | .pex => false | .pba => false

/-- The enable that holds a plain register, where it is on, and the code that refuses a change then: a schedule, a settings slot in
use, a compare unit, a timer, a ring (R227, R228, R233, R239, R252, R313). -/
def State.regLock (s : State) (p : Page) (n o : Nat) : Option Nat :=
  match p with
  | .cam =>
    if 0x804 ≤ o && o ≤ 0x814 then (if s.schedOn n then some 0x60 else none)
    else match slotOfOffset o with
      | some k => if s.slotState n k ≠ 0 then some 0x64 else none
      | none => none
  | .trg =>
    if o < 0x100 then none
    else if n = 2 then (if s.on (TRG.CMP_CFG_EN ((o - 0x100) / 0x20)) then some 0x60 else none)
    else if n = 3 then (if s.on (TRG.TMR_CFG ((o - 0x100) / 0x20)) then some 0x60 else none)
    else none
  | .ring => if s.on (RING.RING_CFG_EN n) then some 0x80 else none
  | _ => none

/-- The code that refuses a value for a plain register, by the tests of the registers' own rules. -/
def valueTest (p : Page) (n o : Nat) (w : Word) : Option Nat :=
  let test (bad : Bool) (code : Nat) : Option Nat := if bad then some code else none
  match p with
  | .pwr => test ((o == 0x180 || o == 0x184) && getBits w 15 0 == 0) 0xB1
  | .time => test ((o == 0x10C && (decide (getBits w 19 0 < 100) || decide (1000000 < getBits w 19 0))) ||
      (o == 0x110 && (decide (getBits w 9 0 < 1) || decide (500 < getBits w 9 0)))) 0x83
  | .trg => test ((n == 2 && (o - 0x100) % 0x20 == 0x0C && w == 0) ||
      (n == 3 && (o - 0x100) % 0x20 == 0x04 && decide (w.toNat < 100))) 0x68
  | .gate => test (o == 0x120 && getBits w 1 0 == 3) 0x2C
  | .brg => test ((o == 0x100 && decide (getBits w 23 16 < 17)) || (o == 0x104 && getBits w 15 0 == 0) ||
      (o == 0x108 && decide (getBits w 19 0 < 100)) || (o == 0x10C && getBits w 19 0 == 0) ||
      ((o == 0x168 || o == 0x1A8) && getBits w 1 0 != 0)) 0x90
  | .seam => test ((o == 0x108 && getBits w 23 0 == 0) ||
      (decide (0x1000 ≤ o) && o % 0x20 == 0x08 && (getBits w 14 0 == 0 || decide (16384 < getBits w 14 0))) ||
      (decide (0x1000 ≤ o) && o % 0x20 == 0x14 && decide (256 < getBits w 24 16))) 0x59
  | .mould => test ((o == 0x104 && (getBits w 28 16 == 0 || getBits w 12 0 == 0)) || (o == 0x108 && getBits w 6 0 == 0)) 0x5A
  | .hbm => test (o == 0x104 && getBits w 31 16 == 0) 0xB1
  | .cam =>
    if (slotOfOffset o).isSome then test (decide (o < 0x1000) && decide (16 < getBits w 4 0)) 0x62
    else test ((o == 0x20C && (getBits w 6 0 == 0 || decide (64 < getBits w 6 0))) ||
      (inArray o 0x260 4 8 && getBits w 17 16 == 3)) 0x50
  | _ => none

/-- The write w would change a field of the word at a that software can write. -/
def State.changes (s : State) (a : Nat) (w : Word) : Bool :=
  (fieldsAt a).any (fun f => (f.acc == .rw || f.acc == .rwl) && getBits w f.hi f.lo != getBits (s.word a) f.hi f.lo)

/-- t is s but for the word at a, whose RW and RWL fields hold those of w and whose other fields stand. -/
def fieldsWritten (s t : State) (a : Nat) (w : Word) : Prop :=
  sameBut s t [a] ∧ ∀ f ∈ fieldsAt a, getBits (t.word a) f.hi f.lo =
    (if f.acc = .rw ∨ f.acc = .rwl then getBits w f.hi f.lo else getBits (s.word a) f.hi f.lo)

/-- The addresses of a page of a unit: its first one and how many bytes the page has (R411). -/
def spanOf (p : Page) (n : Nat) : Nat × Nat :=
  (pageAddr p n, match p with
    | .cam => 0x4000 | .seam => 0x4000 | .mould => 0x4000 | .hbm => 0x4000 | .qd => 0x80 | .ring => 0x20 | .msix => 16
    | .pba => 4 | .dev => 0x1000 | .clk => 0x1000 | .pwr => 0x1000 | .time => 0x1000 | .chk => 0x1000 | .trg => 0x1000
    | .shot => 0x1000 | .gate => 0x1000 | .brg => 0x1000 | .slice => 0x1000 | .ladle => 0x1000 | .pour => 0x1000
    | .pex => 0x1000)

/-- The pending-bit array, where an event of any page shows that it requests its vector (R306). -/
def pbaSpan : Nat × Nat := (pbaWord 0, 0x100)

/-- Registers change only at the addresses of these spans. -/
def staysIn (s t : State) (l : List (Nat × Nat)) : Prop :=
  ∀ a, (∀ x ∈ l, a < x.1 ∨ x.1 + x.2 ≤ a) → t.word a = s.word a

/-- A packet of port c lands as it was sent: the port is enabled, receives in READY, and nothing voids, discards or alters
what comes (R44, R103, R105, R107, R116). -/
def State.plainPort (s : State) (c : Nat) : Bool :=
  s.receiving c && s.linkState c == linkReady && s.portEnabled c && !s.portFenced c && (s.link c).mask == .none &&
  !(s.link c).voidNext && (s.gate (c / 2)).inj == .idle && (s.gate (c / 2)).held == none &&
  (s.lanesOf c).all (fun n => (s.lane (c / 2) n).dropNow == 0)

/-- The schedule of port c takes the next event of source `kind`, `index` as a trigger instant: it is enabled and counts, its
divider passes the event, and nothing suppresses or overflows it (R229, R230). -/
def State.takes (s : State) (c kind index : Nat) : Prop :=
  s.schedOn c = true ∧ s.on (CAM.SHOT_STATUS_SYNC c) = true ∧ s.get (CAM.SCHED_CFG_KIND c) = kind ∧
  s.get (CAM.SCHED_CFG_INDEX c) = index ∧ (s.sched c).j % (s.get (CAM.SCHED_DIV_DIV c) + 1) = s.get (CAM.SCHED_DIV_PHASE c) ∧
  (s.sched c).last8 = none ∧ (s.sched c).pend.length < 16

/-- A run of steps from s ends in t. -/
inductive Reaches (s : State) : State → Prop
  /-- No step. -/
  | refl : Reaches s s
  /-- A run and one step more. -/
  | tail (t u : State) : Reaches s t → step t = .next u → Reaches s u

end Sys2Proof.Machine
end

