-- ==== Sys2Proof/Certificates/Slice0/Obligations.lean ====
section
/-!
DEFINITION. The statements for the provers: what each command of the block does when it completes, where it is turned away, what
it leaves unchanged, and the invariants that every step keeps.
-/

open Sys2Proof Sys2Proof.Machine

/-- Power-up, power loss, PORESET_N and the start of the clocks each leave the device as R386, R384 and R447 to R450 say: at
its Reset values, or out of reset, or with the PLLs locked. A loss of supply and
PORESET_N release every trigger output that is driven (R457), PORESET_N returns the registers of the SMBus target to their Reset
values, and a release with a rail out of its range counts as the loss of that rail (R450). (What waits in the queue, the model's
own records and the levels of the encoder inputs stay: log entries 12 and 13.) -/
def Obligations.SupplyCommandsComplete : Prop :=
  (∀ (s : State) (strap : Fin 4), s.supply.aon = false →
    exec (.vddAonPowerUp strap) s = .next { State.reset with
      pending := s.pending, fresh := s.fresh, out := s.out, encs := s.encs, smb := { strap := strap } }) ∧
  (∀ s : State, exec .vddAonRemoval s = .next { State.reset with
      pending := s.pending, fresh := s.fresh, encs := s.encs, supply := { aon := false },
      out := (((List.range 64).filter (fun k => s.on (TRG.PIN_CFG_DIR k))).map Emission.pinOff).reverse ++ s.out }) ∧
  (∀ s : State, s.supply.aon = true → s.quenched = false →
    exec .poresetAssert s = .next { State.reset with
      pending := s.pending, fresh := s.fresh, encs := s.encs, jtag := s.jtag,
      out := (((List.range 64).filter (fun k => s.on (TRG.PIN_CFG_DIR k))).map Emission.pinOff).reverse ++ s.out,
      smb := { s.smb with warn := 800, alertStatus := 0, alertMask := 15 },
      supply := { aon := true, poresetLow := true, perstLow := s.supply.perstLow, refclk := s.supply.refclk,
                  railsOut := s.supply.railsOut, hot := s.supply.hot } }) ∧
  (∀ s : State, s.supply.aon = true → s.supply.poresetLow = true → s.supply.railsOut = [] → s.powerGood = true →
    exec .poresetRelease s = .next { s with supply := { s.supply with poresetLow := false } }) ∧
  (∀ s : State, s.supply.aon = true → s.supply.poresetLow = true → (s.supply.railsOut ≠ [] ∨ s.powerGood = false) →
    exec .poresetRelease s = .next (({ s with supply := { s.supply with poresetLow := false } } : State).occur .pwr 0 0 0 true)) ∧
  (∀ (s : State) (us : Fin 65536), s.awake = true → s.quenched = false → s.supply.refclk = true →
    s.get CLK.CLK_STATUS_CRUCIBLE_LOCK = 0 →
    exec (.pllLock us) s = .next ((((s.put CLK.CLK_STATUS_CRUCIBLE_LOCK 1).put CLK.CLK_STATUS_PEX_PLL_LOCK 1).put
      CLK.CLK_STATUS_REFCLK_OK 1).put CLK.LOCK_TIME us)) ∧
  (∀ (s : State) (h : Fin 4) (us : Fin 65536), s.running = true → h.val ∉ s.supply.trained →
    exec (.hbmTrainingDone h us true) s = .next
      ((({ s with supply := { s.supply with trained := h.val :: s.supply.trained } } : State).put
        (HBM.HBM_STATUS_TRAINED h) 1).put (HBM.HBM_STATUS_TRAIN_US h) us) ∧
    exec (.hbmTrainingDone h us false) s = .next
      ((((({ s with supply := { s.supply with trained := h.val :: s.supply.trained } } : State).put
        (HBM.HBM_STATUS_TRAINED h) 0).put (HBM.HBM_STATUS_TRAIN_US h) us)).occur .hbm h 2 0 true))

/-- PERST_N outside quench returns every unit to its reset state and the configuration space to its Reset values, and in
quench does nothing but hold the link; its release ends it. (R386, R387, R373; the registers it keeps stand in
`Obligations.PerstRegisters`.) -/
def Obligations.PerstCommandsComplete : Prop :=
  (∀ s : State, s.running = true → s.supply.perstLow = false →
    ∃ t : State, exec .perst s = .next t ∧ t.supply.perstLow = true ∧ t.cfg = {} ∧ t.latches = [] ∧ t.gates = [] ∧ t.links = [] ∧
      t.engines = [] ∧ t.cams = [] ∧ t.seams = [] ∧ t.moulds = [] ∧ t.timers = [] ∧ t.strobes = [] ∧ t.prods = [] ∧
      t.rings = [] ∧ t.loads = [] ∧ t.chks = [] ∧ t.faults.esc = [] ∧ t.faults.armed = [] ∧ t.time.f = 0 ∧ t.time.first = true) ∧
  (∀ s : State, s.supply.aon = true → s.quenched = true →
    exec .perst s = .next { s with supply := { s.supply with perstLow := true } }) ∧
  (∀ s : State, s.supply.aon = true → s.supply.perstLow = true → s.faults.live = [] →
    exec .perstRelease s = .next { s with supply := { s.supply with perstLow := false } })

/-- Check units: START, PRESET, the three data registers and FINAL on a unit that is not fenced (R433 to R438). The bytes
of a data word are fed low byte first. -/
def Obligations.CheckUnitCommandsComplete : Prop :=
  (∀ (s : State) (n : Fin 4), s.hostOn = true → s.chkFenced n = false →
    exec (.chkStart n) s = .next (((((s.put (CHK.CHK_CFG_EMPTY n) 1).put (CHK.CHK_CFG_DONE n) 0).put
      (CHK.CHK_CFG_MISMATCH n) 0).put (HDR.CMD_STATUS_OPCODE (chkPage n)) 1).put (HDR.CMD_STATUS_CANCELLED (chkPage n)) 0)) ∧
  (∀ (s : State) (n : Fin 4) (alg : Fin 8), s.hostOn = true → s.chkFenced n = false → s.chkBusy n = false → alg.val ≤ 3 →
    exec (.chkPreset n alg) s = .next ((((((((s.put (CHK.CHK_CFG_ALG n) alg).putB (CHK.CHK_CFG_REFIN n)
      (crcAlg alg).refin).putB (CHK.CHK_CFG_REFOUT n) (crcAlg alg).refout).put (CHK.CHK_INIT n) (crcAlg alg).init).put
      (CHK.CHK_XOR n) (crcAlg alg).xor).put (CHK.CHK_EXPECT n) 0).put (HDR.CMD_STATUS_OPCODE (chkPage n)) 2).put
      (HDR.CMD_STATUS_CANCELLED (chkPage n)) 0)) ∧
  (∀ (s : State) (n : Fin 4) (v : Word), s.hostOn = true → s.chkFenced n = false → s.on (CHK.CHK_CFG_DONE n) = false →
    exec (.chkData8 n v) s = .next ((s.put (CHK.CHK_CFG_EMPTY n) 0).setChk n
      ⟨crcBytes (s.chkAlg n) (s.chkRunningReg n) (leBytes 1 v.toNat)⟩) ∧
    exec (.chkData16 n v) s = .next ((s.put (CHK.CHK_CFG_EMPTY n) 0).setChk n
      ⟨crcBytes (s.chkAlg n) (s.chkRunningReg n) (leBytes 2 v.toNat)⟩) ∧
    exec (.chkData32 n v) s = .next ((s.put (CHK.CHK_CFG_EMPTY n) 0).setChk n
      ⟨crcBytes (s.chkAlg n) (s.chkRunningReg n) (leBytes 4 v.toNat)⟩)) ∧
  (∀ (s : State) (n : Fin 4), s.hostOn = true → s.chkFenced n = false → s.on (CHK.CHK_CFG_DONE n) = false →
    let t := (s.put (CHK.CHK_RESULT n) (s.chkValue n)).put (CHK.CHK_CFG_DONE n) 1
    exec (.chkFinal n) s = .next
      (if s.chkValue n = s.get (CHK.CHK_EXPECT n) % 2 ^ s.chkWidth n then t
       else (t.put (CHK.CHK_CFG_MISMATCH n) 1).raise (chkPage n) 0))

/-- SMBus reads: while the target answers, each read sends the bytes of R461, with the PEC of R462 when the controller reads
one byte more; reading ALERT_STATUS also clears the bits whose condition is gone (R463). -/
def Obligations.SmbusReadsComplete : Prop :=
  ∀ (s : State) (pec : Bool), s.smbOn = true →
    exec (.smbDevId pec) s = .next (s.smbReply 0x00 [0x20, 0x51] pec) ∧
    exec (.smbRevision pec) s = .next (s.smbReply 0x01 [0xA2] pec) ∧
    exec (.smbStatus pec) s = .next (s.smbReply 0x02 [BitVec.ofNat 8 s.smbStatusByte] pec) ∧
    (∀ i : Fin 8, exec (.smbTemp i pec) s = .next (s.smbReply (0x10 + i)
      (match s.smb.temps with | some l => leBytes 2 (toBits 16 (l.getD i 0)) | none => [0x00, 0x80]) pec)) ∧
    exec (.smbTempMax pec) s = .next (s.smbReply 0x18
      (match s.tempMax with | some v => leBytes 2 (toBits 16 v) | none => [0x00, 0x80]) pec) ∧
    exec (.smbTempPeakRead pec) s = .next (s.smbReply 0x19
      (match s.smb.peak with | some v => leBytes 2 (toBits 16 v) | none => [0x00, 0x80]) pec) ∧
    exec (.smbTempWarnRead pec) s = .next (s.smbReply 0x1A (leBytes 2 s.smb.warn) pec) ∧
    (∀ i : Fin 10, exec (.smbRail i pec) s = .next (s.smbReply (0x20 + i) (leBytes 2 (s.smb.rails.getD i 0)) pec)) ∧
    exec (.smbQuench pec) s = .next (s.smbReply 0x30 (12 :: (leBytes 4 (s.get DEV.QUENCH_STATUS) ++
      leBytes 4 (s.get DEV.QUENCH_TIME_LO) ++ leBytes 4 (s.get DEV.QUENCH_TIME_HI))) pec) ∧
    exec (.smbSerial pec) s = .next (s.smbReply 0x31 (8 :: (leBytes 4 (s.get DEV.SERIAL_LO) ++
      leBytes 4 (s.get DEV.SERIAL_HI))) pec) ∧
    exec (.smbAlertMaskRead pec) s = .next (s.smbReply 0x39 [BitVec.ofNat 8 s.smb.alertMask] pec) ∧
    exec (.smbAlertStatus pec) s = .next
      { s.smbReply 0x38 [BitVec.ofNat 8 s.smb.alertStatus] pec with
        smb := { s.smb with alertStatus := Nat.land s.smb.alertStatus s.alertLive } }

/-- SMBus writes, PEC and the alert response. A write with a right PEC or none takes effect: TEMP_PEAK returns to the current maximum,
TEMP_WARN and ALERT_MASK take the value (R461). A value above 896 is not acknowledged at its last byte, nor a PEC that does not
match at its own, and nothing changes (the emission counts the bytes of the transfer, its address first); a write without PEC takes
effect; a read of any command supplies the CRC-8 of the address bytes, the command and the data when the controller reads one byte
more (R462). The target answers the alert response while
it alerts, and nothing answers while the target is without its supplies (R461, R463). -/
def Obligations.SmbusWritesComplete : Prop :=
  (∀ s : State, s.smbOn = true →
      (∀ (v : Byte) (pec : Option Byte), s.pecOk 0x19 [v] pec = true →
        exec (.smbTempPeakWrite v pec) s = .next { s with smb := { s.smb with peak := s.tempMax } }) ∧
      (∀ (v : BitVec 16) (pec : Option Byte), s.pecOk 0x1A (leBytes 2 v.toNat) pec = true → v.toNat ≤ 896 →
        ∃ t : State, exec (.smbTempWarnWrite v pec) s = .next t ∧ t.smb.warn = v.toNat ∧
          t.smb = { s.smb with warn := v.toNat, alertStatus := t.smb.alertStatus } ∧ { t with smb := s.smb } = s) ∧
      (∀ (v : Byte) (pec : Option Byte), s.pecOk 0x39 [v] pec = true →
        exec (.smbAlertMaskWrite v pec) s = .next { s with smb := { s.smb with alertMask := v.toNat % 16 } }) ∧
      (s.alerting = true → exec .alertResponseAddress s = .next (s.emit (.smb [BitVec.ofNat 8 (2 * s.smbAddr)])))) ∧
  (∀ (s : State) (code : Nat) (data : List Byte),
    s.smbReply code data false = s.emit (.smb data) ∧
    s.smbReply code data true = s.emit (.smb (data ++ [BitVec.ofNat 8 (crc8 ([BitVec.ofNat 8 (2 * s.smbAddr),
      BitVec.ofNat 8 code, BitVec.ofNat 8 (2 * s.smbAddr + 1)] ++ data))]))) ∧
  (∀ (s : State) (v p : Byte), s.smbOn = true →
    (p.toNat ≠ crc8 [BitVec.ofNat 8 (2 * s.smbAddr), 0x39, v] → exec (.smbAlertMaskWrite v (some p)) s = .next (s.emit (.smbNak 3))) ∧
    (p.toNat ≠ crc8 [BitVec.ofNat 8 (2 * s.smbAddr), 0x19, v] → exec (.smbTempPeakWrite v (some p)) s = .next (s.emit (.smbNak 3)))) ∧
  (∀ (s : State) (v : BitVec 16) (p : Byte), s.smbOn = true → v.toNat ≤ 896 →
    p.toNat ≠ crc8 ([BitVec.ofNat 8 (2 * s.smbAddr), 0x1A] ++ leBytes 2 v.toNat) →
    exec (.smbTempWarnWrite v (some p)) s = .next (s.emit (.smbNak 4))) ∧
  (∀ (s : State) (code : Nat) (data : List Byte), s.pecOk code data none = true) ∧
  (∀ s : State, s.smbOn = true → ∀ c ∈ [(Instr.smbDevId, 0x00), (Instr.smbRevision, 0x01), (Instr.smbStatus, 0x02),
      (Instr.smbTempMax, 0x18), (Instr.smbTempPeakRead, 0x19), (Instr.smbTempWarnRead, 0x1A), (Instr.smbQuench, 0x30),
      (Instr.smbSerial, 0x31), (Instr.smbAlertStatus, 0x38), (Instr.smbAlertMaskRead, 0x39)] ++
      (List.finRange 8).map (fun i => (Instr.smbTemp i, 0x10 + i.val)) ++
      (List.finRange 10).map (fun i => (Instr.smbRail i, 0x20 + i.val)),
    ∃ data : List Byte, ∀ pec : Bool, ∃ t : State, exec (c.1 pec) s = .next t ∧ t.out = (s.smbReply c.2 data pec).out) ∧
  (∀ (s : State) (v : BitVec 16) (pec : Option Byte), s.smbOn = true → 896 < v.toNat →
    exec (.smbTempWarnWrite v pec) s = .next (s.emit (.smbNak 3))) ∧
  (∀ s : State, s.alerting = false → exec .alertResponseAddress s = .next (s.emit (.smbNak 0))) ∧
  (∀ (s : State) (pec : Bool), s.smbOn = false → exec (.smbStatus pec) s = .next (s.emit (.smbNak 0)) ∧
    exec (.smbAlertStatus pec) s = .next (s.emit (.smbNak 0)) ∧
    ∀ (v : Byte) (p : Option Byte), exec (.smbAlertMaskWrite v p) s = .next (s.emit (.smbNak 0)) ∧
      exec (.smbTempPeakWrite v p) s = .next (s.emit (.smbNak 0))) ∧
  (∀ (s : State) (v : BitVec 16) (p : Option Byte), s.smbOn = false →
    exec (.smbTempWarnWrite v p) s = .next (s.emit (.smbNak 0)))

/-- The test access port (R464 to R466): an instruction is loaded, and one that scans the boundary register captures the
values of its 1,305 cells, shifts them out and takes in the cells shifted; IDCODE shifts out the identification register 0x2512059B from bit 0 on,
and BYPASS, like every opcode that the table does not give, one bit that was captured as 0. HIGHZ and CLAMP do so while
PORESET_N is low and act as SAMPLE/PRELOAD while it is high. TEST_LOGIC_RESET selects IDCODE. The frame is in the equations:
nothing else of the device changes. With no instruction in control the balls show what R457 gives for each phase, so that
QUENCH_N is low in quench alone and CLKREQ_N is low with VDD_AON (R456); an instruction controls them only while
PORESET_N is low. -/
def Obligations.TestPortComplete : Prop :=
  ∀ s : State, s.supply.aon = true →
    (∀ balls shift : List Bool, balls.length = 1305 → shift.length = 1305 →
      let scan (i : JtagInstr) : State := { s with jtag := { instr := i, sampled := balls, cells := shift }, out := .tdo balls :: s.out }
      exec (.extest balls shift) s = .next (scan .extest) ∧
      exec (.samplePreload balls shift) s = .next (scan .samplePreload) ∧
      exec (.extestPulse balls shift) s = .next (scan .extestPulse) ∧
      exec (.extestTrain balls shift) s = .next (scan .extestTrain) ∧
      (s.supply.poresetLow = false → exec (.highz balls shift) s = .next (scan .highz) ∧
        exec (.clamp balls shift) s = .next (scan .clamp))) ∧
    (∀ balls shift : List Bool, s.supply.poresetLow = true →
      exec (.highz balls shift) s = .next { s with
        jtag := { s.jtag with instr := .highz }, out := .tdo ((false :: shift).take shift.length) :: s.out } ∧
      exec (.clamp balls shift) s = .next { s with
        jtag := { s.jtag with instr := .clamp }, out := .tdo ((false :: shift).take shift.length) :: s.out }) ∧
    (∀ tdi : List Bool, exec (.idcode tdi) s = .next { s with
      jtag := { s.jtag with instr := .idcode },
      out := .tdo ((((List.range 32).map (bitOf 0x2512059B)) ++ tdi).take tdi.length) :: s.out }) ∧
    (∀ (code : BitVec 8) (tdi : List Bool), code.toNat ∉ [0x00, 0x01, 0x02, 0x05, 0x06, 0x07, 0x08] →
      exec (.bypass code tdi) s = .next { s with
        jtag := { s.jtag with instr := .bypass }, out := .tdo ((false :: tdi).take tdi.length) :: s.out }) ∧
    exec .testLogicReset s = .next { s with jtag := { s.jtag with instr := .idcode } } ∧
    (s.supply.poresetLow = false →
      s.ball .quenchN = (if s.quenched = true then .low else .highZ) ∧ s.ball .clkreqN = .low ∧
      ∀ k < 64, s.on (TRG.PIN_CFG_DIR k) = true → s.quenched = true →
        s.ball (.trig k) = .driven (s.on (TRG.PIN_CFG_ACTIVE_LOW k))) ∧
    (s.supply.poresetLow = true → s.jtag.instr = .highz → ∀ b : BallGroup, s.ball b = .highZ)

/-- PCI Express link changes, D3hot and Bus Master Enable (R284, R295, R311, R317): the link status, the two configuration
bits, and LINK_CHANGE raised where up, speed or width moved. No link narrower than ×4, of another width or of a speed code
outside 1 to 6 is formed: the status is then that of a link that is down (R285). -/
def Obligations.HostLinkCommandsComplete : Prop :=
  (∀ (s : State) (speed : Fin 16) (width : Fin 64) (flit : Bool), s.awake = true → s.supply.perstLow = false →
    s.on CLK.CLK_STATUS_CRUCIBLE_LOCK = true → (width.val = 4 ∨ width.val = 8 ∨ width.val = 16) → 1 ≤ speed.val → speed.val ≤ 6 →
    let t := (((s.put PEX.LINK_STATUS_DL_UP 1).putB PEX.LINK_STATUS_FLIT (flit || speed.val == 6)).put
      PEX.LINK_STATUS_SPEED speed).put PEX.LINK_STATUS_WIDTH width
    exec (.linkChange true speed width flit) s = .next
      (if s.on PEX.LINK_STATUS_DL_UP = true ∧ s.get PEX.LINK_STATUS_SPEED = speed.val ∧ s.get PEX.LINK_STATUS_WIDTH = width.val
       then t else t.raise pexPage 0)) ∧
  (∀ (s : State) (speed : Fin 16) (width : Fin 64) (flit : Bool), s.awake = true → s.on PEX.LINK_STATUS_DL_UP = true →
    exec (.linkChange false speed width flit) s = .next
      ((((((s.put PEX.LINK_STATUS_DL_UP 0).put PEX.LINK_STATUS_FLIT 0).put PEX.LINK_STATUS_SPEED 0).put
        PEX.LINK_STATUS_WIDTH 0).inc PEX.LINK_DOWN).raise pexPage 0)) ∧
  (∀ (s : State) (speed : Fin 16) (width : Fin 64) (flit : Bool), s.awake = true → s.supply.perstLow = false →
    s.on CLK.CLK_STATUS_CRUCIBLE_LOCK = true →
    (¬ (width.val = 4 ∨ width.val = 8 ∨ width.val = 16) ∨ speed.val = 0 ∨ 6 < speed.val) →
    exec (.linkChange true speed width flit) s = exec (.linkChange false speed width flit) s) ∧
  (∀ s : State, s.hostOn = true →
    exec .d3hotEntry s = .next (({ s with cfg := { s.cfg with d3hot := true } } : State).each s.rings
      (fun t p => t.settleDelivery p.1)) ∧
    exec .d0Return s = .next { s with cfg := { s.cfg with d3hot := false } } ∧
    ∀ v : Bool, exec (.busMasterEnableChange v) s = .next { s with cfg := { s.cfg with busMaster := v } })

/-- Device time: PTM dialogues, their loss, PTM_EN and TIME_SET (R308 to R310). A dialogue sets PTM_OFFSET, COUNT and VALID;
the first one with no schedule enabled steps device time by the offset, every other one adjusts the rate by the filter. -/
def Obligations.TimeCommandsComplete : Prop :=
  (∀ s : State, s.ptmOn = true → exec .ptmDialogueStart s = .next (s.emit .ptmRequest)) ∧
  (∀ (s : State) (t1 t4 t2 t3 : BitVec 64), s.ptmOn = true → (s.time.first = false ∨ s.anySched = true) →
    let off := ptmOffset t1.toNat t4.toNat t2.toNat t3.toNat
    let lim : Int := 1000 * (s.get TIME.PTM_SLEW : Int)
    let per : Int := s.get TIME.PTM_PERIOD
    let f := clampI (s.time.f + (off * 125).tdiv per) (-lim) lim
    let u := ((s.put TIME.PTM_OFFSET (toBits 32 (clampI off (-(2 ^ 31)) (2 ^ 31 - 1)))).inc TIME.PTM_STATUS_COUNT).put
      TIME.PTM_STATUS_VALID 1
    exec (.ptmDialogueDone t1 t4 t2 t3) s = .next
      (({ u with time := { s.time with first := false, f := f } } : State).put TIME.PTM_ADJ
        (toBits 32 (clampI (f + (off * 1000).tdiv per) (-lim) lim)))) ∧
  (∀ (s : State) (t1 t4 t2 t3 : BitVec 64), s.ptmOn = true → s.time.first = true → s.anySched = false →
    ∃ t : State, exec (.ptmDialogueDone t1 t4 t2 t3) s = .next t ∧
      t.time.ns = toBits 64 ((s.now : Int) + ptmOffset t1.toNat t4.toNat t2.toNat t3.toNat) ∧
      t.time.f = s.time.f ∧ t.time.frac = s.time.frac ∧ t.time.first = false ∧ t.on TIME.PTM_STATUS_VALID = true) ∧
  (∀ s : State, s.ptmOn = true → exec .ptmLost s = .next ((s.put TIME.PTM_STATUS_VALID 0).raise timePage 1)) ∧
  (∀ s : State, s.hostOn = true →
    exec .ptmEnable s = .next
      (if s.on TIME.TIME_CTRL = true then s.put TIME.TIME_CTRL 1
       else { s.put TIME.TIME_CTRL 1 with time := { s.time with f := 0, first := true } })) ∧
  (∀ s : State, s.hostOn = true → s.anySched = false →
    ∃ t : State, exec .timeSet s = .next t ∧ t.time = { s.time with ns := s.get64 TIME.TIME_SET_LO TIME.TIME_SET_HI % 2 ^ 64 }) ∧
  (∀ s : State, s.hostOn = true → s.anySched = true → exec .timeSet s = .next (s.refuse timePage 0x84))

/-- Interrupts (R306, R417, R419, R426): a pending vector that is not masked is sent and is no longer pending; clearing the
mask sends a pending one; IRQ_SET sets the event bits of the page written 1 and requests its vector; a write of IRQ_STAT
clears the bits written 1; STATE.REFUSED written 1 clears the refusal record. A request's pulse begins a transfer over the crossing of its page,
or is counted while one awaits its acknowledgement, up to 15; one more leaves what it leaves otherwise, sets the crossing's LOST flag,
is counted in CLK.XING_LOST with its page and raises the CLK event (R390). Messages carry no attribute (R301). -/
def Obligations.InterruptCommandsComplete : Prop :=
  (∀ (s : State) (v : Fin 2048), s.hostOn = true → s.on (PBA.PENDING v) = true → s.on (MSIX.MASK v) = false →
    s.cfg.msixEnable = true → s.cfg.functionMask = false →
    exec (.msixMessage v) s = .next ((s.emit (.msix v (s.get64 (MSIX.ADDR_LO v) (MSIX.ADDR_HI v)) (s.get (MSIX.DATA v))
      { ro := false, ns := false })).put (PBA.PENDING v) 0)) ∧
  (∀ (s : State) (v : Fin 2048), s.hostOn = true →
    (s.cfg.msixEnable = false ∨ s.cfg.functionMask = true) → exec (.msixMessage v) s = .next s) ∧
  (∀ (s : State) (v : Fin 2048), s.hostOn = true → s.cfg.msixEnable = true → s.cfg.functionMask = false →
    ∃ t : State, exec (.msixUnmask v) s = .next t ∧ t.on (MSIX.MASK v) = false ∧ t.on (PBA.PENDING v) = false ∧
      t.out = (if s.on (PBA.PENDING v) = true
        then .msix v (s.get64 (MSIX.ADDR_LO v) (MSIX.ADDR_HI v)) (s.get (MSIX.DATA v)) { ro := false, ns := false } :: s.out
        else s.out) ∧
      sameBut { s with out := t.out } t [(MSIX.MASK v).addr, (PBA.PENDING v).addr]) ∧
  (∀ (s : State) (page : Fin 4096) (bits : Word) (acked : Bool) (p : Page) (n : Nat), s.hostOn = true →
    hdrPage (page * 0x1000) = some (p, n) →
    let x := s.xing (2 * page)
    ∃ t : State, exec (.irqSet page bits acked) s = .next t ∧
      (∀ b < 32, t.bitAt (HDR.IRQ_STAT (page * 0x1000)) b =
        (s.bitAt (HDR.IRQ_STAT (page * 0x1000)) b || (decide (b ∈ eventBits p n) && bitOf bits.toNat b))) ∧
      t.on (PBA.PENDING (s.get (HDR.IRQ_VEC (page * 0x1000)))) = true ∧
      (p ≠ .clk → p ≠ .pwr → x.busy = false → acked = false → t.xing (2 * page) = { x with busy := true }) ∧
      (p ≠ .clk → p ≠ .pwr → acked = true → x.count = 0 → t.xing (2 * page) = { x with busy := true }) ∧
      (p ≠ .clk → p ≠ .pwr → acked = true → x.count ≠ 0 → t.xing (2 * page) = { x with busy := true, count := 1 }) ∧
      (p ≠ .clk → p ≠ .pwr → x.busy = true → acked = false → x.count < 15 →
        t.xing (2 * page) = { x with count := x.count + 1 } ∧ t.get CLK.XING_LOST = s.get CLK.XING_LOST) ∧
      (p ≠ .clk → p ≠ .pwr → x.busy = true → acked = false → 15 ≤ x.count →
        t.xing (2 * page) = { x with lost := true } ∧ t.get CLK.XING_LOST = (s.get CLK.XING_LOST + 1) % 2 ^ 32 ∧
        t.get CLK.XING_LOST_SRC = page ∧ t.bitAt (HDR.IRQ_STAT clkPage) 0 = true)) ∧
  (∀ (s : State) (page : Fin 4096) (bits : Word), s.hostOn = true → (hdrPage (page * 0x1000)).isSome = true →
    ∃ t : State, exec (.irqStatClear page bits) s = .next t ∧ sameBut s t [page * 0x1000 + 0x20] ∧
      ∀ b < 32, t.bitAt (HDR.IRQ_STAT (page * 0x1000)) b =
        (s.bitAt (HDR.IRQ_STAT (page * 0x1000)) b && !bitOf bits.toNat b)) ∧
  (∀ (s : State) (page : Fin 4096), s.hostOn = true → (hdrPage (page * 0x1000)).isSome = true →
    exec (.stateClear page) s = .next (((s.put (HDR.STATE_REFUSED (page * 0x1000)) 0).put
      (HDR.STATE_REFUSE_CODE (page * 0x1000)) 0).put (HDR.STATE_REFUSE_COUNT (page * 0x1000)) 0))

/-- Register writes and the read that latches (R10, R288, R365, R393, R412, R417, R420, R421, R424): every listed register whose
write has no action of its own (`plainReg`) takes the fields written, its RO fields standing, unless the value fails the register's
own test or an enable holds it, which refuse it by their codes; an RWL field takes a value only while its page's ENABLE is 0,
and a write that would change it while ENABLE is 1 is refused with 0x02; a write where no register lies is ignored; one that
does not enable all four bytes is ignored and counted; one that a peer reset cancels on its crossing is recorded with 0xB4, one
whose transfer fails is RING_FAIL; a read of the low half of an RO pair latches the high half, its Reset value where it is
cancelled, and changes nothing else. -/
def Obligations.RegisterAccessComplete : Prop :=
  (∀ (s : State) (a : Fin 16777216) (w : Word) (p : Page) (n o : Nat), s.hostOn = true → a.val % 4 = 0 →
    locate a = some (p, n, o) → (regAt p n o).isSome = true → plainReg p n o = true →
    (hasEnable p = true → 0x60 ≤ o → s.on (HDR.CTRL_ENABLE (pageAddr p n)) = true → s.changesRwl a w = false) →
    (s.regLock p n o = none → valueTest p n o w = none →
      ∃ t : State, exec (.registerWrite a w 15 .done) s = .next t ∧ fieldsWritten s t a w) ∧
    (∀ code, s.regLock p n o = none → valueTest p n o w = some code →
      exec (.registerWrite a w 15 .done) s = .next (s.refuse (refusalPage p n) code)) ∧
    (∀ code, s.regLock p n o = some code → s.changes a w = true →
      exec (.registerWrite a w 15 .done) s = .next (s.refuse (refusalPage p n) code)) ∧
    (s.regLock p n o = none → valueTest p n o w = none → crossing a = true →
      exec (.registerWrite a w 15 .cancelled) s = .next (s.refuse (refusalPage p n) 0xB4))) ∧
  (∀ (s : State) (a : Fin 16777216) (w : Word), s.hostOn = true → a.val = 0x108 →
    exec (.registerWrite a w 15 .done) s = .next (s.put DEV.SCRATCH w.toNat)) ∧
  (∀ (s : State) (a : Fin 16777216) (w : Word) (p : Page) (n o : Nat), s.hostOn = true → a.val % 4 = 0 →
    locate a = some (p, n, o) → hasEnable p = true → 0x60 ≤ o → s.on (HDR.CTRL_ENABLE (pageAddr p n)) = true →
    (∃ f ∈ fieldsAt a, f.acc = .rwl ∧ getBits w f.hi f.lo ≠ getBits (s.word a) f.hi f.lo) →
    exec (.registerWrite a w 15 .done) s = .next (s.refuse (pageAddr p n) 0x02)) ∧
  (∀ (s : State) (a : Fin 16777216) (w : Word), s.hostOn = true → locate (4 * (a / 4)) = none →
    exec (.registerWrite a w 15 .done) s = .next s) ∧
  (∀ (s : State) (a : Fin 16777216) (w : Word) (e : Fin 16) (r : Transfer), s.hostOn = true → e ≠ 15 →
    exec (.registerWrite a w e r) s = .next ((s.inc PEX.BAD_ACCESS).raise pexPage 1)) ∧
  (∀ (s : State) (a : Fin 16777216) (w : Word), s.hostOn = true →
    exec (.registerWrite a w 15 .failed) s = .next (s.occur .dev 0 1 0 true)) ∧
  (∀ (s : State) (a : Fin 16777216), s.readable = true → isRoLow (4 * (a / 4)) = true →
    (∃ t : State, exec (.lowHalfRead a .done) s = .next t ∧ { t with latches := s.latches } = s ∧
      t.readReg (4 * (a / 4) + 4) = s.readNow (4 * (a / 4) + 4)) ∧
    (crossing (4 * (a / 4)) = true → ∃ t : State, exec (.lowHalfRead a .cancelled) s = .next t ∧
      { t with latches := s.latches } = s ∧ t.readReg (4 * (a / 4) + 4) = resetWord (4 * (a / 4) + 4)) ∧
    exec (.lowHalfRead a .failed) s = .next (s.occur .dev 0 1 0 true))

/-- The doorbells and settings of a ring whose queue belongs to the pour engine (R288, R295, R297, R298, R305, R313). A doorbell write that does
not enable the four bytes of its word is ignored and counted, and a read so malformed is counted and returns 0; a read returns the
value last recorded, of IRQ_ARM 0. -/
def Obligations.RingCommandsComplete : Prop :=
  (∀ (s : State) (q : Fin 16384) (v : Word), s.hostOn = true → s.doorbellOn q = true →
    exec (.descTail q v 15 false) s = .next (s.setRing q { s.ring q with
      descTail := v.toNat % 65536
      fetched := (s.ring q).fetched.take
        ((v.toNat % 65536 + s.ringEntries q - s.get (RING.RING_IDX_DESC_HEAD q) % s.ringEntries q) % s.ringEntries q -
          (match (s.ring q).delivery with | some d => d.used | none => 0)) })) ∧
  (∀ (s : State) (q : Fin 16384) (v : Word), s.hostOn = true → s.doorbellOn q = true →
    exec (.cplHead q v 15 false) s = .next (s.setRing q { s.ring q with cplHead := v.toNat % 65536 })) ∧
  (∀ (s : State) (q : Fin 16384) (v : Word), s.hostOn = true → s.doorbellOn q = true → bitOf v.toNat 0 = true →
    exec (.irqArm q v 15 false) s = .next ((s.put (RING.RING_CFG_ARMED q) 1).ringCheck q)) ∧
  (∀ (s : State) (q : Fin 16384) (v : Word) (e : Fin 16), s.hostOn = true → e ≠ 15 →
    (let t := (s.inc PEX.BAD_ACCESS).raise pexPage 1
     exec (.descTail q v e false) s = .next t ∧ exec (.cplHead q v e false) s = .next t ∧ exec (.irqArm q v e false) s = .next t ∧
     exec (.descTail q v e true) s = .next (t.emit (.doorbell q 0)) ∧ exec (.cplHead q v e true) s = .next (t.emit (.doorbell q 0)) ∧
     exec (.irqArm q v e true) s = .next (t.emit (.doorbell q 0)))) ∧
  (∀ (s : State) (q : Fin 16384) (v : Word), s.hostOn = true →
    exec (.descTail q v 15 true) s = .next (s.emit (.doorbell q (s.ring q).descTail)) ∧
    exec (.cplHead q v 15 true) s = .next (s.emit (.doorbell q (s.ring q).cplHead)) ∧
    exec (.irqArm q v 15 true) s = .next (s.emit (.doorbell q 0))) ∧
  (∀ (s : State) (q : Fin 16384), s.hostOn = true → s.on (RING.RING_CFG_EN q) = false → s.on (RING.RING_CFG_BUSY q) = false →
    4 ≤ s.get (RING.RING_CFG_SIZE q) → s.get (RING.RING_CFG_SIZE q) ≤ 16 → s.get (RING.DESC_BASE_LO q) % 64 = 0 →
    s.get (RING.CPL_BASE_LO q) % 64 = 0 → s.get (QD.Q_CFG_CONSUMER q) = 1 → s.queueExists q = true →
    ∃ t : State, exec (.ringEnable q) s = .next t ∧ t.on (RING.RING_CFG_EN q) = true ∧ t.on (RING.RING_CFG_ARMED q) = true ∧
      t.on (RING.RING_CFG_HALTED q) = false ∧ t.get (RING.RING_CFG_HALT_CAUSE q) = 0 ∧
      t.get (RING.RING_CFG_SIZE q) = s.get (RING.RING_CFG_SIZE q) ∧ t.get (RING.RING_IDX_DESC_HEAD q) = 0 ∧
      t.get (RING.RING_IDX_CPL_TAIL q) = 0 ∧ (t.ring q).descTail = 0 ∧ (t.ring q).cplHead = 0 ∧ (t.ring q).phase = true ∧
      (t.ring q).fetched = [] ∧ (t.ring q).tokens = 131072 ∧
      sameBut { s with rings := t.rings } t [ringConf q + 0x10, ringConf q + 0x1C]) ∧
  (∀ (s : State) (q : Fin 16384), s.hostOn = true → s.on (RING.RING_CFG_EN q) = true → (s.ring q).delivery = none →
    4 ≤ s.get (RING.RING_CFG_SIZE q) → s.get (RING.RING_CFG_SIZE q) ≤ 16 →
    ∃ t : State, exec (.ringDisable q) s = .next t ∧ t.on (RING.RING_CFG_EN q) = false ∧
      t.get (RING.RING_CFG_SIZE q) = s.get (RING.RING_CFG_SIZE q) ∧ (t.ring q).enablePending = false ∧
      sameBut { s with rings := t.rings } t [ringConf q + 0x10])

/-- Delivery: claim, descriptor read, data write, completion entry, holdoff and the host reads of a table load (R292 to R301,
R305). A data write carries the next bytes of the packet to the open buffer, with the attributes that configuration space allows, No
Snoop as the ring has it; a completion entry goes to the ring at CPL_TAIL and moves both ring indices on. Writes take turns: a ring with
URGENT = 0 queues none while one with URGENT = 1 has one to queue, and no ring does while a page's message is due. -/
def Obligations.DeliveryCommandsComplete : Prop :=
  (∀ (s : State) (q : Fin 16384) (k : Packet) (rest : List Packet), s.mayClaim q = true →
    headOf (s.queueOrdered q) (s.queue q).committed = some (k, rest) →
    ∃ t : State, exec (.pourClaim q false) s = .next t ∧ (t.queue q).claimed = some k ∧ (t.queue q).committed = rest ∧
      t.on (RING.RING_CFG_BUSY q) = true ∧
      (t.ring q).delivery = some { seq := k.seq, kind := k.hdr.kind, hflags := k.hdr.hflags, total := 64 + k.payload.length, first := s.get (RING.RING_IDX_DESC_HEAD q) }) ∧
  (∀ (s : State) (q : Fin 16384) (data : List Byte), s.hostOn = true → s.cfg.busMaster = true →
    s.pourFenced = false → s.on (RING.RING_CFG_HALTED q) = false → data.length % 32 = 0 → 1 ≤ data.length / 32 → data.length / 32 ≤ 8 →
    s.descTaken q + data.length / 32 ≤ s.posted q →
    (s.get (RING.RING_IDX_DESC_HEAD q) + s.descTaken q) % s.ringEntries q + data.length / 32 ≤ s.ringEntries q →
    let at_ := (s.get (RING.RING_IDX_DESC_HEAD q) + s.descTaken q) % s.ringEntries q
    let base := s.get64 (RING.DESC_BASE_LO q) (RING.DESC_BASE_HI q)
    exec (.descReadDone q data true) s = .next
      (((s.emit (.dmaRead (base + 32 * at_) data.length)).setRing q { s.ring q with
        fetched := (s.ring q).fetched ++ (chunks 32 data).map parseDesc }).settleDelivery q)) ∧
  (∀ (s : State) (q : Fin 16384) (d : Delivery) (k : Packet) (addr left : Nat), s.pourOn = true → s.hasTokens q = true →
    s.ringTurn q = true → (s.ring q).delivery = some d → d.ended = none → d.buf = some (addr, left) → (s.queue q).claimed = some k →
    0 < min s.cfg.mps (min left (d.total - d.written)) → s.badLinks = [] → s.faults.armed = [] →
    s.anyChannelFenced = false →
    let n := min s.cfg.mps (min left (d.total - d.written))
    ∃ t : State, exec (.pourDataWrite q .good .good) s = .next t ∧
      t.out = .dmaWrite addr ((k.bytes.drop d.written).take n) false
        { ro := s.cfg.relaxedOrdering, ns := s.cfg.noSnoop && s.on (RING.RING_CFG_NOSNOOP q) } :: s.out ∧
      (if s.on (RING.RING_CFG_URGENT q) = true then t.cfg.lastUrgent else t.cfg.lastOther) = q ∧
      t.get64 POUR.POUR_BYTES_LO POUR.POUR_BYTES_HI = (s.get64 POUR.POUR_BYTES_LO POUR.POUR_BYTES_HI + n) % 2 ^ 64) ∧
  (∀ (s : State) (q : Fin 16384) (d : Delivery) (code v : Nat), s.pourOn = true → (s.ring q).delivery = some d →
    d.ended = some code → d.tDone = some v → (s.ring q).enablePending = false → s.ringTurn q = true →
    let n := s.ringEntries q
    let base := s.get64 (RING.CPL_BASE_LO q) (RING.CPL_BASE_HI q)
    let tail := s.get (RING.RING_IDX_CPL_TAIL q)
    ∃ t : State, exec (.completionWrite q) s = .next t ∧
      t.out = .dmaWrite (base + 32 * tail) (completionBytes d code (s.ring q).phase v) false
        { ro := false, ns := false } :: s.out ∧
      (t.ring q).delivery = none ∧ t.on (RING.RING_CFG_BUSY q) = false ∧
      t.get (RING.RING_IDX_CPL_TAIL q) = (tail + 1) % n % 65536 ∧
      t.get (RING.RING_IDX_DESC_HEAD q) = (s.get (RING.RING_IDX_DESC_HEAD q) + d.used) % n % 65536 ∧
      (t.ring q).phase = (if tail + 1 = n then !(s.ring q).phase else (s.ring q).phase)) ∧
  (∀ (s : State) (q : Fin 16384), s.hostOn = true → s.on (RING.RING_CFG_INT_EN q) = true →
    s.on (RING.RING_CFG_ARMED q) = true → 1 ≤ (s.ring q).unsignalled →
    exec (.holdoffExpiry q) s = .next (((s.requestVector (s.get (RING.RING_INT_VEC q))).setRing q
      { s.ring q with unsignalled := 0 }).put (RING.RING_CFG_ARMED q) (s.get (RING.RING_CFG_AUTO_ARM q)))) ∧
  (∀ (s : State) (c : Fin 256) (x : TableLoad), s.pourOn = true → s.pourFenced = false → s.cfg.d3hot = false →
    (s.loads.take 4).find? (fun y => y.port == c.val) = some x → x.asked < x.len → s.tagFree = true → s.pageMessageDue = false →
    exec (.tableReadRequest c) s = .next (({ s with loads := s.loads.map (fun y =>
      if y.port = c.val then { y with asked := y.asked + min s.cfg.mrrs (x.len - x.asked) } else y) } : State).emit
      (.dmaRead (x.addr + x.asked) (min s.cfg.mrrs (x.len - x.asked))))) ∧
  (∀ (s : State) (q : Fin 16384) (link data : Ecc), s.pageMessageDue = true ∨ s.tableReadDue = true ∨
      (s.on (RING.RING_CFG_URGENT q) = false ∧ ∃ r ∈ s.rings, s.ringDue r.1 = true ∧ s.on (RING.RING_CFG_URGENT r.1) = true) →
    exec (.pourDataWrite q link data) s = .next s ∧ exec (.completionWrite q) s = .next s)

/-- Producers of packets: reservation, cell, commit; and the consumer's pop and the return of a cell (R260 to R270). A
reservation takes the queue's next number and its cells from AVAIL; a commit puts the packet at the tail; a pop claims the
head packet. -/
def Obligations.LadlePacketCommandsComplete : Prop :=
  (∀ (s : State) (p : Fin 45) (k : Packet) (rest : List Packet), s.running = true → s.producerOn p = true →
    s.prod p = { todo := k :: rest, cur := none } → k.queue < 16384 → s.queueEn k.queue = true →
    s.queueFenced k.queue = false → s.hasRoom k.queue (cellsFor k.payload.length) = true →
    ∃ t : State, exec (.reservation p) s = .next t ∧
      t.prod p = { todo := rest, cur := some { k with seq := s.get (QD.Q_SEQ k.queue), need := cellsFor k.payload.length, cells := [] } } ∧
      t.get (QD.Q_SEQ k.queue) = (s.get (QD.Q_SEQ k.queue) + 1) % 2 ^ 32 ∧
      t.get (QD.Q_OCC k.queue) = (s.get (QD.Q_OCC k.queue) + cellsFor k.payload.length) % 2 ^ 21 ∧
      t.get (LADLE.BANK_AVAIL (homeBank k.queue)) =
        s.get (LADLE.BANK_AVAIL (homeBank k.queue)) - cellsFor k.payload.length) ∧
  (∀ (s : State) (p : Fin 45) (k : Packet), s.running = true → (s.prod p).cur = some k → k.cells.length < k.need →
    ∀ x, s.takeCell (homeBank k.queue) = some x →
    s.faults.armed = [] →
    exec (.cellTake p .good) s = .next ((x.2.linkWritten k.queue k.cells.getLast?).setProd p { s.prod p with
      cur := some { k with cells := k.cells ++ [x.1] } })) ∧
  (∀ (s : State) (p : Fin 45) (k : Packet), s.running = true → (s.prod p).cur = some k → k.need ≤ k.cells.length →
    k.outOfOcc = false → k.marked = false →
    ∃ t : State, exec (.commit p) s = .next t ∧ (t.prod p).cur = none ∧
      (t.queue k.queue).committed = (s.queue k.queue).committed ++ [{ k with hdr := s.finalHeader k }] ∧
      (t.queue k.queue).overrunBefore = false) ∧
  (∀ (s : State) (q : Fin 16384) (k : Packet) (rest : List Packet), s.running = true → s.canPop q = true →
    s.get (QD.Q_CFG_CONSUMER q) = 2 → s.seamRuns (s.get (QD.Q_CFG_UNIT q)) = true →
    (∃ i < 32, s.seamBinds (s.get (QD.Q_CFG_UNIT q)) i = true ∧ s.get (SEAM.MEM_QUEUE (s.get (QD.Q_CFG_UNIT q)) i) = q) →
    headOf (s.queueOrdered q) (s.queue q).committed = some (k, rest) →
    exec (.pop q false) s = .next ((((s.setQueue q { s.queue q with committed := rest, claimed := some k, readBytes := 0 }).sub
      (QD.Q_OCC q) k.cells.length).inc (QD.Q_POPPED q)).putHead q)) ∧
  (∀ (s : State) (q : Fin 16384) (link : Ecc) (n : Nat) (rest : List Nat), s.running = true →
    (s.queue q).returning = n :: rest → s.cellFails n = false → (s.bank (n / 1048576)).debt = 0 → s.faults.armed = [] →
    s.hbmRests = false →
    exec (.cellReturn q link) s = .next (((s.setQueue q { s.queue q with returning := rest }).setBank (n / 1048576)
      { s.bank (n / 1048576) with top := n :: (s.bank (n / 1048576)).top }).put (LADLE.BANK_AVAIL (n / 1048576))
      (s.get (LADLE.BANK_AVAIL (n / 1048576)) + 1)))

/-- The commands of a queue: FLUSH, its end, RELEASE, CLR_OVR, enable, disable and ORDER_EN (R271, R273, R276, R280). -/
def Obligations.QueueCommandsComplete : Prop :=
  (∀ (s : State) (q : Fin 16384), s.hostOn = true → s.queueExists q = true → (s.queue q).flushing = false →
    ∃ t : State, exec (.flush q) s = .next t ∧ (t.queue q).committed = [] ∧
      (t.queue q).markedCells = (s.queue q).markedCells ++ ((s.queue q).committed.map (fun k => k.cells)).flatten ∧
      t.get (QD.Q_OCC q) = s.get (QD.Q_OCC q) - ((s.queue q).committed.map (fun k => k.cells)).flatten.length) ∧
  (∀ (s : State) (q : Fin 16384), s.running = true → (s.queue q).flushing = true →
    (s.openOn q).all (fun p => !p.2.marked || p.2.outOfOcc) = true → ∀ links : List Ecc,
    ∃ t : State, exec (.flushDone q links) s = .next t ∧ (t.queue q).markedCells = [] ∧ (t.queue q).flushing = false) ∧
  (∀ (s : State) (q : Fin 16384), s.hostOn = true → s.queueExists q = true → s.on (QD.Q_STATUS_FENCED q) = true →
    exec (.queueRelease q) s = .next ((s.put (QD.Q_STATUS_FENCED q) 0).put (QD.Q_CFG_EN q) 1)) ∧
  (∀ (s : State) (q : Fin 16384), s.hostOn = true → s.queueExists q = true →
    exec (.clrOvr q) s = .next ((s.put (QD.Q_STATUS_OVERRUN q) 0).put (QD.Q_HWM q) 0)) ∧
  (∀ (s : State) (q : Fin 16384) (o : Bool) (consumer : Fin 4) (unit : Fin 8), s.hostOn = true → s.queueExists q = true →
    s.on (QD.Q_CFG_EN q) = false → s.domainReady (297 + homeBank q) = true → (o = true → s.on LADLE.LADLE_CFG = true) →
    (consumer = 2 → unit ≤ 3) →
    exec (.queueEnable q o consumer unit) s = .next (((((s.put (QD.Q_CFG_EN q) 1).putB (QD.Q_CFG_ORDERED q) o).put
      (QD.Q_CFG_CONSUMER q) consumer).put (QD.Q_CFG_UNIT q) unit).put (QD.Q_SEQ q) 0)) ∧
  (∀ (s : State) (q : Fin 16384), s.hostOn = true → s.queueExists q = true → s.on (QD.Q_CFG_EN q) = true →
    s.queueBusy q = false → (s.on (QD.Q_CFG_ORDERED q) = true → s.on LADLE.LADLE_CFG = true) →
    (s.get (QD.Q_CFG_CONSUMER q) = 2 → s.get (QD.Q_CFG_UNIT q) ≤ 3) →
    ∃ t : State, exec (.queueDisable q) s = .next t ∧ t.on (QD.Q_CFG_EN q) = false ∧ sameBut s t [(QD.Q_CFG_EN q).addr] ∧
      t.on (QD.Q_CFG_ORDERED q) = s.on (QD.Q_CFG_ORDERED q) ∧ t.get (QD.Q_CFG_CONSUMER q) = s.get (QD.Q_CFG_CONSUMER q) ∧
      t.get (QD.Q_CFG_UNIT q) = s.get (QD.Q_CFG_UNIT q)) ∧
  (∀ (s : State) (v : Bool), s.hostOn = true → s.anyQueueOn = false →
    exec (.orderEnWrite v) s = .next (s.putB LADLE.LADLE_CFG v)) ∧
  (∀ (s : State) (v : Bool), s.hostOn = true → s.anyQueueOn = true →
    exec (.orderEnWrite v) s = .next (s.refuse (ladlePage 0) 0x70))

/-- Scrub and sweep: a pass of the scrub is counted, an uncorrectable link entry it finds is remembered and named, and a
sweep runs from its command to the return of what it found (R259, R275, R278, R279, R425). -/
def Obligations.ScrubAndSweepComplete : Prop :=
  (∀ (s : State) (n : Fin 16777216), s.running = true →
    ∃ t : State, exec (.scrubCheck (.linkUe n)) s = .next t ∧ n.val ∈ t.badLinks ∧
      t.get (LADLE.LINK_UE_CELL (n / 1048576)) = n.val ∧
      t.get (LADLE.LINK_UE (n / 1048576)) = (s.get (LADLE.LINK_UE (n / 1048576)) + 1) % 2 ^ 32) ∧
  (∀ (s : State) (h : Fin 4), s.running = true →
    ∃ t : State, exec (.scrubCheck (.pass h)) s = .next t ∧
      t.get (HBM.SCRUB_PASSES h) = (s.get (HBM.SCRUB_PASSES h) + 1) % 2 ^ 32 ∧ t.get (HBM.HBM_PWR_STATUS h) = 0) ∧
  (∀ (s : State) (b : Fin 16), s.hostOn = true → s.bankFenced b = false → s.on (LADLE.SWEEP_STATUS_BUSY b) = false →
    exec (.sweep b) s = .next ((((s.setBank b { s.bank b with sweepSet := (s.bank b).stray, sweepDue := false }).put
      (LADLE.SWEEP_STATUS_BUSY b) 1).put (HDR.CMD_STATUS_OPCODE (ladlePage b)) 1).put
      (HDR.CMD_STATUS_CANCELLED (ladlePage b)) 0)) ∧
  (∀ (s : State) (b : Fin 16), s.running = true → s.on (LADLE.SWEEP_STATUS_BUSY b) = true → (s.endSweep b).2 = false →
    (s.bank b).sweepDue = false → (s.bank b).sweepSet.length < 2 ^ 21 →
    ∃ t : State, exec (.sweepDone b) s = .next t ∧ t.on (LADLE.SWEEP_STATUS_BUSY b) = false ∧
      t.get (LADLE.SWEEP_STATUS_FOUND b) = (s.bank b).sweepSet.length ∧
      t.get (LADLE.SWEEP_COUNT b) = (s.get (LADLE.SWEEP_COUNT b) + 1) % 2 ^ 32)

/-- The forwarded clock and the link timers of a port (R37 to R39, R49 to R51, R103): an accepted window sets CLOCK_OK and takes
a port that may leave DOWN to CLOCK; a missing clock takes a port that is not READY to DOWN and empties its riser; a DLL lock
takes it to ALIGN with its lanes hunting. -/
def Obligations.LinkClockCommandsComplete : Prop :=
  ∀ (s : State) (g : Fin 128) (p : Fin 2), let c := portNo g p
    (∀ count : Fin 65536, s.clockRuns c = true → windowOk (s.get (LNK.RATE c)) count = true → s.engineFenced g = false →
      ∃ t : State, exec (.clockWindowEnd g p count) s = .next t ∧ t.on (LNK.CLOCK_OK c) = true ∧
        t.get (LNK.CLK_COUNT c) = count ∧
        (s.linkState c = linkDown → (s.link c).heldDown = false → s.gateEnabled g = true → s.portFenced c = false →
          t.linkState c = linkClock)) ∧
    (∀ count : Fin 65536, s.clockRuns c = true → windowOk (s.get (LNK.RATE c)) count = false →
      s.on (LNK.CLOCK_OK c) = false → exec (.clockWindowEnd g p count) s = .next (s.put (LNK.CLK_COUNT c) count)) ∧
    (s.clockRuns c = true → s.on (LNK.CLOCK_OK c) = true → s.linkState c ≠ linkReady → s.portFenced c = false →
      ∃ t : State, exec (.clockEdgeTimeout g p) s = .next t ∧ t.on (LNK.CLOCK_OK c) = false ∧ t.on (LNK.DLL_LOCK c) = false ∧
        t.linkState c = linkDown ∧ (t.link c).riser = [] ∧ (t.link c).used = 0 ∧ (t.link c).test = none ∧
        t.get CLK.PEER_RESETS = (s.get CLK.PEER_RESETS + 1) % 2 ^ 32) ∧
    (s.portLive c = true → s.linkState c = linkClock → s.get (GATE.PWR_STATE_STATE g) ≠ 3 → s.portFenced c = false →
      ∃ t : State, exec (.dllLock g p) s = .next t ∧ t.on (LNK.DLL_LOCK c) = true ∧ t.linkState c = linkAlign ∧
        t.on (LNK.DESKEW_DONE c) = false ∧ ∀ n ∈ s.portLanes c, t.get (GATE.LANE_STATUS_ALIGN_STATE g n) = 0) ∧
    (s.receiving c = true → s.gateActive g = true → s.linkState c = linkReady →
      exec (.burstWarn g p) s = .next (if s.on (LNK.BURST_WARN_EN c) = true
        then (s.put (LNK.BURST_WARN c) 1).raise (gatePage g) 5 else s.put (LNK.BURST_WARN c) 1)) ∧
    (s.portLive c = true → (s.link c).trying = true → exec (.linkFail g p) s = .next (s.raise (gatePage g) 2))

/-- Alignment and training bursts on a data lane of a port that receives (R41, R46 to R51, R84, R104; the skews are
O18's): the aligner takes the first comma offset of a word, checks three more commas and aligns; an error while it checks, or
the check's time limit, sends it back to hunt; in ALIGNED it counts errors, and four in 16 words lose the alignment, which
takes a port in ALIGN or TRAIN back to ALIGN and fences a READY one (fault site 7 or 8); a burst is counted, and counted as an
error unless it is the pattern of R84; sixteen bursts on every lane, the last two good, make the port READY, and TRAIN_REQ = 0
is written where it was asked. -/
def Obligations.LaneAlignmentCommandsComplete : Prop :=
  ∀ (s : State) (g : Fin 128) (n : Fin 5) (c : Nat), s.portOfLane g n = some c → s.receiving c = true →
    (s.gateWorks g = true → ∀ (w next : BitVec 40) (inside : Bool),
      let W := s.lookAt g n w next inside
      (∀ o : Nat, s.get (GATE.LANE_STATUS_ALIGN_STATE g n) = 0 →
        commaIn (s.sampled g n w) (s.sampled g n next) = some o →
        exec (.commaDetect g n w next inside) s = .next (((s.put (GATE.LANE_STATUS_BIT_OFFSET g n) o).put
          (GATE.LANE_STATUS_ALIGN_STATE g n) 1).onLane g n
            (fun x => { x with commaCount := 1, rd := some (s.huntRd g n o w next) }))) ∧
      (s.get (GATE.LANE_STATUS_ALIGN_STATE g n) = 1 → W.codeErr + W.dispErr ≠ 0 →
        exec (.commaDetect g n w next inside) s = .next ((s.put (GATE.LANE_STATUS_ALIGN_STATE g n) 0).onLane g n
          (fun x => { x with commaCount := 0, rd := none }))) ∧
      (s.get (GATE.LANE_STATUS_ALIGN_STATE g n) = 1 → W.codeErr = 0 → W.dispErr = 0 →
        (W.here = false → exec (.commaDetect g n w next inside) s = .next (s.onLane g n
          (fun x => { x with rd := some W.rd }))) ∧
        (W.here = true → (s.lane g n).commaCount < 3 → exec (.commaDetect g n w next inside) s = .next (s.onLane g n
          (fun x => { x with commaCount := (s.lane g n).commaCount + 1, rd := some W.rd }))) ∧
        (W.here = true → 3 ≤ (s.lane g n).commaCount → ∃ t : State, exec (.commaDetect g n w next inside) s = .next t ∧
          t.get (GATE.LANE_STATUS_ALIGN_STATE g n) = 2)) ∧
      (2 ≤ s.get (GATE.LANE_STATUS_ALIGN_STATE g n) → s.on (LNK.ADAPT_ALL c) = false → s.linkState c ≠ linkReady →
        (((W.codeErr + W.dispErr) :: (s.lane g n).errHist).take 16).sum < 4 →
        exec (.commaDetect g n w next inside) s = .next (((s.addSat (GATE.LANE_CODE_ERR g n) W.codeErr).addSat
          (GATE.LANE_DISP_ERR g n) W.dispErr).onLane g n
            (fun x => { x with errHist := (((W.codeErr + W.dispErr) :: (s.lane g n).errHist).take 16).take 15
                               rd := some W.rd }))) ∧
      (2 ≤ s.get (GATE.LANE_STATUS_ALIGN_STATE g n) →
        4 ≤ (((W.codeErr + W.dispErr) :: (s.lane g n).errHist).take 16).sum →
        (s.linkState c ≠ linkReady → ∃ t : State, exec (.commaDetect g n w next inside) s = .next t ∧
          t.get (GATE.LANE_STATUS_ALIGN_STATE g n) = 0 ∧
          t.get (GATE.LANE_ALIGN_LOSS g n) = min (GATE.LANE_ALIGN_LOSS g n).top (s.get (GATE.LANE_ALIGN_LOSS g n) + 1) ∧
          t.bitAt (HDR.IRQ_STAT (gatePage g)) 3 = true ∧
          (n.val ∈ s.lanesOf c → s.linkState c = linkAlign ∨ s.linkState c = linkTrain → s.portFenced c = false →
            t.linkState c = linkAlign)) ∧
        (s.linkState c = linkReady → n.val ∈ s.lanesOf c →
          ∃ u : State, exec (.commaDetect g n w next inside) s = .next (u.occur .gate g (7 + c % 2) n true) ∧
            u.get (GATE.LANE_STATUS_ALIGN_STATE g n) = 0 ∧
            u.get (GATE.LANE_ALIGN_LOSS g n) = min (GATE.LANE_ALIGN_LOSS g n).top (s.get (GATE.LANE_ALIGN_LOSS g n) + 1)))) ∧
    (s.gateWorks g = true → s.get (GATE.LANE_STATUS_ALIGN_STATE g n) = 1 →
      exec (.alignCheckTimeout g n) s = .next ((s.put (GATE.LANE_STATUS_ALIGN_STATE g n) 0).onLane g n
        (fun x => { x with commaCount := 0, rd := none }))) ∧
    (s.gateActive g = true → s.get (GATE.LANE_STATUS_ALIGN_STATE g n) = 2 →
      (∀ bytes : List Byte, s.linkState c ≠ linkTrain →
        ∃ t : State, exec (.trainingBurst g n bytes) s = .next t ∧
          t.get (GATE.LANE_BURST_BURST_CNT g n) = min 65535 (s.get (GATE.LANE_BURST_BURST_CNT g n) + 1) ∧
          t.get (GATE.LANE_BURST_BURST_ERR g n) = (if bytes = burstBytes 254 0x7F then s.get (GATE.LANE_BURST_BURST_ERR g n)
            else min 65535 (s.get (GATE.LANE_BURST_BURST_ERR g n) + 1))) ∧
      (s.linkState c = linkTrain → s.portFenced c = false → 15 ≤ (s.lane g n).bursts → 1 ≤ (s.lane g n).goodRun →
        (∀ m ∈ s.lanesOf c, m ≠ n.val → 16 ≤ (s.lane g m).bursts ∧ 2 ≤ (s.lane g m).goodRun) →
        (s.portDown c = false ∨ (s.link c).trainReq = false) →
        ∃ t : State, exec (.trainingBurst g n (burstBytes 254 0x7F)) s = .next t ∧ t.linkState c = linkReady ∧
          (t.link c).trainReq = false ∧ (t.link c).trying = false ∧
          ((s.link c).trainReq = true → ∃ r : Req, (t.engine g).reqs = (s.engine g).reqs ++ [r] ∧ r.purpose = .trainOff ∧
            r.addr = 0x1C ∧ r.data = s.diWord c 0)))

/-- The skew measurement (R42 to R45): with no injection on the lanes, the first packet start stores for each lane by how many
symbols its K27.7 precedes the latest one, or is void and counted where that is more than 31 symbols; a later start with the
stored skews clears the mismatch mark; one with others is counted, and the second in a row ends the deskew. -/
def Obligations.DeskewMeasureCompletes : Prop :=
  ∀ (s : State) (g : Fin 128) (p : Fin 2) (arrivals : List Nat), let c := portNo g p
    s.receiving c = true → arrivals.length = (s.lanesOf c).length → s.allAligned c = true →
    (∀ n ∈ s.lanesOf c, (s.lane g n).displaced = 0) →
    let err (t : State) : Prop :=
      t.get (LNK.DESKEW_ERR c) = min (LNK.DESKEW_ERR c).top (s.get (LNK.DESKEW_ERR c) + 1) ∧
      t.bitAt (HDR.IRQ_STAT (gatePage g)) 6 = true
    (s.on (LNK.DESKEW_DONE c) = false →
      ((∀ a ∈ arrivals, ∀ b ∈ arrivals, a ≤ b + 31) →
        ∃ t : State, exec (.deskewMeasure g p arrivals) s = .next t ∧ t.on (LNK.DESKEW_DONE c) = true ∧
          ∀ x ∈ (s.lanesOf c).zip arrivals, t.get (GATE.LANE_STATUS_SKEW g x.1) = arrivals.foldl max 0 - x.2) ∧
      ((∃ a ∈ arrivals, ∃ b ∈ arrivals, b + 31 < a) →
        ∃ t : State, exec (.deskewMeasure g p arrivals) s = .next t ∧ err t ∧ (t.link c).voidNext = true ∧
          t.on (LNK.DESKEW_DONE c) = false)) ∧
    (s.on (LNK.DESKEW_DONE c) = true →
      ((∀ x ∈ (s.lanesOf c).zip arrivals, s.get (GATE.LANE_STATUS_SKEW g x.1) = arrivals.foldl max 0 - x.2) →
        exec (.deskewMeasure g p arrivals) s =
          .next (((s.gateWake g).skewHolds c).setLink c { s.link c with skewMiss := false })) ∧
      ((∃ x ∈ (s.lanesOf c).zip arrivals, s.get (GATE.LANE_STATUS_SKEW g x.1) ≠ arrivals.foldl max 0 - x.2) →
        ∃ t : State, exec (.deskewMeasure g p arrivals) s = .next t ∧ err t ∧
          t.on (LNK.DESKEW_DONE c) = !(s.link c).skewMiss ∧ (t.link c).skewMiss = !(s.link c).skewMiss))

/-- The link commands of a gate and the lane-mask writes they start (R52, R53, R104, R105). An accepted LINK_TRAIN queues the
full lane mask and TRAIN_REQ = 1 at the camera; SET_RATE queues the rate code and TRAIN_REQ = 1, and its acknowledgement
changes RATE, takes the port to DOWN and clears CLOCK_OK. -/
def Obligations.LinkCommandsComplete : Prop :=
  ∀ (s : State) (g : Fin 128) (p : Fin 2), let c := portNo g p
    (s.hostOn = true → s.linkRefusal c = none → s.portDown c = false →
      ∃ (t : State) (r1 r2 : Req), exec (.linkTrain g p) s = .next t ∧ (t.link c).trainReq = true ∧ (t.link c).mask = .restore ∧
        t.get (HDR.CMD_STATUS_OPCODE (gatePage g)) = 0x01 ∧
        (t.engine g).reqs = (s.engine g).reqs ++ [r1, r2] ∧ r1.purpose = .laneMask ∧ r1.addr = 0x14 ∧
        r1.data = s.diWord c (fullMask (s.gateMode g) p) ∧ r2.purpose = .trainOn ∧ r2.addr = 0x1C ∧
        r2.data = s.diWord c 0x10) ∧
    (∀ code : Fin 16, s.hostOn = true → s.linkRefusal c = none → s.portDown c = false → code.val < 7 →
      code.val ≤ s.get (BRG.CAM_CAPS g p) / 16 % 16 →
      ∃ (t : State) (r1 r2 : Req), exec (.setRate g p code) s = .next t ∧
        (t.link c).newRates = (s.link c).newRates ++ [code.val] ∧ (t.link c).trainReq = true ∧
        (t.engine g).reqs = (s.engine g).reqs ++ [r1, r2] ∧ r1.purpose = .linkRate code ∧ r1.addr = 0x18 ∧
        r1.data = s.diWord c code ∧ r2.purpose = .trainOn ∧ r2.addr = 0x1C ∧ r2.data = s.diWord c 0x10) ∧
    (∀ (r : Req) (v : Nat), s.running = true → s.outstandingRate c = some r → r.purpose = .linkRate v →
      s.portFenced c = false →
      ∃ t : State, exec (.setRateAck g p) s = .next t ∧ t.get (LNK.RATE c) = v % 16 ∧ t.on (LNK.CLOCK_OK c) = false ∧
        t.linkState c = linkDown ∧ (t.link c).newRates = (s.link c).newRates.erase v) ∧
    (s.hostOn = true → s.portPresent c = true → s.portEnabled c = false → s.portFenced c = false →
      ∃ t : State, exec (.linkDown g p) s = .next t ∧ (t.link c).heldDown = true ∧ t.linkState c = linkDown ∧
        t.on (LNK.DLL_LOCK c) = false ∧ (t.link c).test = none) ∧
    (s.hostOn = true → s.portPresent c = true → s.engineFenced g = false →
      ∃ t : State, exec (.linkUp g p) s = .next t ∧ (t.link c).heldDown = false ∧
        t.get (HDR.CMD_STATUS_OPCODE (gatePage g)) = 0x04) ∧
    (s.hostOn = true → ∃ t : State, exec (.clearCounters g) s = .next t ∧
      (∀ n < 5, t.get (GATE.LANE_CODE_ERR g n) = 0 ∧ t.get (GATE.LANE_DISP_ERR g n) = 0 ∧
        t.get (GATE.LANE_ALIGN_LOSS g n) = 0 ∧ t.get (GATE.LANE_BURST g n) = 0 ∧ t.get (GATE.LANE_PRBS_ERR g n) = 0) ∧
      t.get (GATE.DESKEW_ERR_A g) = 0 ∧ t.get (GATE.DESKEW_ERR_B g) = 0 ∧ t.get (GATE.RISER_HWM_HWM_A g) = 0 ∧
      t.get (GATE.RISER_HWM_HWM_B g) = 0) ∧
    (∀ (r : Req) (m : Nat), s.running = true → s.outstandingFor c .laneMask = some r → (s.link c).mask = .degrade m →
      (s.dropReq r).maskDue c = true →
      ∃ t : State, exec (.laneMaskAck g p) s = .next t ∧ t.get (LNK.MASK c) = m % 16 ∧ t.on (GATE.LANE_MASK_DEGRADED_A g) = true ∧
        t.on (LNK.DESKEW_DONE c) = false ∧ (t.link c).mask = .none ∧ t.bitAt (HDR.IRQ_STAT (gatePage g)) 14 = true) ∧
    (∀ m : Nat, s.running = true → (s.link c).mask = .degrade m → s.portFenced c = false →
      ∃ t : State, exec (.degradeTimeout g p) s = .next t ∧ t.portFenced c = true ∧ (t.link c).mask = .none ∧
        t.bitAt (HDR.IRQ_STAT (gatePage g)) 13 = true)

/-- Loopbacks and tests of a port of an enabled gate (R61 to R65, R68, R71, R432): each command starts its test in state TEST,
with the camera writes it needs; TEST_STOP takes the port to CLOCK; the raw checker of a lane takes in its bits, adds the
errors it counts while locked to PRBS_ERR and shows its lock in PRBS_LOCK; a fresh checker locks, without an error, on n seed
bits and 1,024 bits of the generator of R432 from any state but 0 (a register of zeros predicts nothing: log entry 49); in a
pattern-block test FAR_LOCK sets when every lane has had a block equal to LOOP_PAT, and later blocks count their bit errors.
While ADAPT_ALL is 1 an ALIGNED lane adapts (R46). -/
def Obligations.LinkTestCommandsComplete : Prop :=
  (∀ (s : State) (g : Fin 128) (p : Fin 2), let c := portNo g p
    s.hostOn = true → s.portFenced c = false →
    (s.linkRefusal c = none → s.gateEnabled g = true → ∀ pat : Fin 16, 1 ≤ pat.val → pat.val ≤ 4 →
      (∃ t : State, exec (.loopNes g p pat) s = .next t ∧ t.linkState c = linkTest ∧ (t.link c).test = some ⟨1, pat, false⟩ ∧
        t.get (GATE.TEST_STATUS_LOOP_MODE g) = 1 ∧ t.get (HDR.CMD_STATUS_OPCODE (gatePage g)) = 0x06) ∧
      (∃ t : State, exec (.loopNep g p pat) s = .next t ∧ t.linkState c = linkTest ∧ (t.link c).test = some ⟨2, pat, false⟩ ∧
        t.get (GATE.TEST_STATUS_LOOP_MODE g) = 2 ∧ t.get (HDR.CMD_STATUS_OPCODE (gatePage g)) = 0x07)) ∧
    (s.farRefusal c = none → s.portDown c = false →
      (∃ (t : State) (r1 r2 : Req), exec (.loopFar g p) s = .next t ∧ t.linkState c = linkTest ∧ (t.link c).test = some ⟨3, 4, false⟩ ∧
        (t.engine g).reqs = (s.engine g).reqs ++ [r1, r2] ∧ r1.purpose = .loopBuf ∧ r1.addr = 0x100 ∧
        r1.data = s.loopPat g ∧ r2.purpose = .farLoop ∧ r2.addr = 0x1C ∧ r2.data = s.diWord c 1) ∧
      ∀ pat : Fin 16, 1 ≤ pat.val → pat.val ≤ 3 →
        ∃ (t : State) (r : Req), exec (.camPrbs g p pat) s = .next t ∧ t.linkState c = linkTest ∧ (t.link c).test = some ⟨4, pat, false⟩ ∧
          (t.engine g).reqs = (s.engine g).reqs ++ [r] ∧ r.purpose = .prbsSel ∧ r.addr = 0x1C ∧
          r.data = s.diWord c (4 * pat)) ∧
    (s.linkState c = linkTest → s.portDown c = false →
      ((s.link c).discovered = true →
        ∃ (t : State) (r : Req), exec (.testStop g p) s = .next t ∧ t.linkState c = linkClock ∧ (t.link c).test = none ∧
          (t.engine g).reqs = (s.engine g).reqs ++ [r] ∧ r.purpose = .testOff ∧ r.addr = 0x1C ∧ r.data = s.diWord c 0) ∧
      ((s.link c).discovered = false →
        ∃ (t : State) (r1 r2 : Req), exec (.testStop g p) s = .next t ∧ t.linkState c = linkClock ∧ (t.link c).test = none ∧
          (t.engine g).reqs = (s.engine g).reqs ++ [r1, r2] ∧ r1.purpose = .discMagic ∧ r1.addr = 0 ∧
          r2.purpose = .testOff ∧ r2.addr = 0x1C ∧ r2.data = s.diWord c 0))) ∧
  (∀ pattern ∈ [1, 2, 3], ∀ x : Nat, 0 < x → x < 2 ^ (prbsTaps pattern).1 →
    let k := ({} : Checker).run_ pattern
      (prbsBits (prbsTaps pattern).1 (prbsTaps pattern).2 ((prbsTaps pattern).1 + 1024) x)
    k.locked = true ∧ k.errs = 0) ∧
  (∀ (s : State) (g : Fin 128) (n : Fin 5) (c : Nat) (x : PortTest), s.running = true → s.portOfLane g n = some c →
    (s.link c).test = some x →
    (x.mode ≠ 3 → x.pattern ≤ 3 → ∀ bits : List Bool,
      let k := (s.lane g n).prbs.run_ x.pattern (s.rawBits g n x.mode bits)
      (k.locked = false ∨ x.done = true → exec (.prbsLock g n bits) s = .next
        ((((s.adaptAll c n).onLane g n (fun y => { y with prbs := k })).addSat (GATE.LANE_PRBS_ERR g n) k.errs).putB
          (GATE.LANE_STATUS_PRBS_LOCK g n) k.locked)) ∧
      (∃ t : State, exec (.prbsLock g n bits) s = .next t ∧ t.on (GATE.LANE_STATUS_PRBS_LOCK g n) = k.locked)) ∧
    ((x.mode = 3 ∨ x.pattern = 4) → ∀ block : List Byte, block.length = 256 →
      (s.on (LNK.FAR_LOCK c) = true → exec (.farLock g n block) s = .next
        ((s.adaptAll c n).addSat (GATE.LANE_PRBS_ERR g n) (bitErrors block (s.loopPat g)))) ∧
      (s.on (LNK.FAR_LOCK c) = false → block = s.loopPat g → n.val < (s.gate g).lanes.length →
        (∀ m ∈ s.portLanes c, m ≠ n.val → (s.lane g m).blockOk = true) →
        ∃ t : State, exec (.farLock g n block) s = .next t ∧ t.on (LNK.FAR_LOCK c) = true)))

/-- Host accesses to a camera window (R320 to R323, R336 to R342, R348, R373). A write of a port that is not down, with
room in its PW buffer, joins its engine as one request for each piece; without room each piece takes a tag and fails with cause
PW_FULL, with its entry in the error log, FENCE_FAIL, FAIL_TAG and WRITE_FAIL. A read joins as one request for each piece, or
is answered from the prefetch slot, but not before the writes accepted earlier have ended; one of more than 256 bytes fails; in
quench a read completes with bytes of 0xFF. READ_LIMIT fails a read with its completion, its log entry and READ_FAIL; SE bytes
still held are logged with their tag as SE_LOST. -/
def Obligations.WindowAccessCommandsComplete : Prop :=
  (∀ (s : State) (c : Fin 256) (off : Fin 1048576) (data : List (Option Byte)), s.hostOn = true →
    off.val % 4096 + data.length ≤ 4096 → s.portDown c = false →
    let g := c.val / 2
    let pieces := s.hostPieces c off data
    (pieces.length ≤ s.pwFree c →
      ∃ t : State, exec (.bar2Write c off data) s = .next t ∧
        (t.engine g).reqs.map (fun r => (r.port, r.op, r.cls, r.purpose, r.addr, r.data)) =
          (s.engine g).reqs.map (fun r => (r.port, r.op, r.cls, r.purpose, r.addr, r.data)) ++
          pieces.map (fun p => (c.val, 1, 0, .hostWrite, p.1, p.2))) ∧
    (s.pwFree c < pieces.length → pieces.length ≤ 64 → (s.engine g).reads = [] →
      ∃ (t : State) (tags : List Nat), exec (.bar2Write c off data) s = .next t ∧ tags.length = pieces.length ∧
        tags.head? = some (s.nextTag c) ∧ t.on (BRG.FENCE_FAIL g (c % 2)) = true ∧
        (s.on (BRG.FENCE_FAIL g (c % 2)) = false → t.get (BRG.FAIL_TAG g (c % 2)) = s.nextTag c % 65536) ∧
        t.bitAt (HDR.IRQ_STAT (brgPage g)) 0 = true ∧
        t.get (BRG.LOG_COUNT g) = (s.get (BRG.LOG_COUNT g) + pieces.length) % 2 ^ 32 ∧
        ∀ j < pieces.length,
          let i := (s.get (BRG.LOG_HEAD g) + j) % 64
          let p := pieces.getD j (0, [])
          t.get (BRG.LOG g (8 * i + 2)) = p.1 % 2 ^ 32 ∧ t.get (BRG.LOG g (8 * i + 3)) = leNat (p.2.take 4) ∧
          t.get (BRG.LOG g (8 * i + 4)) = tags.getD j 0 % 65536 + 65536 * c + 2 ^ 24 * 7 ∧
          t.get (BRG.LOG g (8 * i + 5)) = 65536 * p.2.length % 2 ^ 32)) ∧
  (∀ (s : State) (c : Fin 256) (off : Fin 1048576) (enables : List Bool) (tag : Nat),
    off.val % 4096 + enables.length ≤ 4096 → s.readsHeld < 24 →
    let g := c.val / 2
    let addrs := (List.range enables.length).map (fun i =>
      if enables.getD i false = true then some (s.cameraAddr c (off + i)) else none)
    let want := addrs.filterMap id
    (s.hostOn = true → s.portDown c = false → want ≠ [] → (s.engine g).reads = [] →
      (want.length ≤ 256 → s.slotOf c = none →
        ∃ t : State, exec (.bar2Read c off enables tag) s = .next t ∧ t.out = s.out ∧
          (t.engine g).reads.map (fun r => (r.id, r.port, r.addrs, r.waits)) = [(tag, c.val, addrs, s.openWrites c)] ∧
          (t.engine g).reqs.map (fun r => (r.port, r.op, r.cls, r.purpose, r.addr, r.want)) =
            (s.engine g).reqs.map (fun r => (r.port, r.op, r.cls, r.purpose, r.addr, r.want)) ++
            (s.cutPieces c none (sortBytes (want.map (fun a => (a, ()))))).map
              (fun p => (c.val, 2, 1, .hostRead (s.engine g).nextKey, p.1, p.2.length))) ∧
      (∀ k, want.length ≤ 256 → s.slotOf c = some k → k.se = false → (∀ a ∈ want, ∃ b, (a, b) ∈ k.bytes) →
        (s.openWrites c = [] →
          ∃ t : State, exec (.bar2Read c off enables tag) s = .next t ∧ (t.engine g).reads = [] ∧
            t.out = .completion tag false (want.map (fun a => tget k.bytes a 0)) :: s.out) ∧
        (s.openWrites c ≠ [] →
          ∃ t : State, exec (.bar2Read c off enables tag) s = .next t ∧ t.out = s.out ∧
            (t.engine g).reads.map (fun r => (r.id, r.got, r.pieces, r.waits)) = [(tag, k.bytes, 0, s.openWrites c)])) ∧
      (256 < want.length → s.openWrites c = [] →
        ∃ t : State, exec (.bar2Read c off enables tag) s = .next t ∧ (t.engine g).reads = [] ∧
          t.out = (if s.on (BRG.BRG_CFG_READ_ERR_CA g) = true then .completion tag true []
            else .completion tag false (want.map (fun _ => 0xFF))) :: s.out ∧
          t.get (BRG.LOG_COUNT g) = (s.get (BRG.LOG_COUNT g) + 1) % 2 ^ 32 ∧
          t.bitAt (HDR.IRQ_STAT (brgPage g)) 1 = true)) ∧
    (s.awake = true → s.quenched = true → s.supply.perstLow = false →
      exec (.bar2Read c off enables tag) s = .next (s.emit (.completion tag false (want.map (fun _ => 0xFF)))))) ∧
  (∀ (s : State) (c : Fin 256) (tag : Nat) (r : HostRead), let g := c.val / 2
    s.running = true → (s.engine g).reads.find? (fun x => x.id == tag && x.port == c.val) = some r →
    (s.engine g).reads.find? (fun x => x.key == r.key) = some r →
    ∃ t : State, exec (.readLimit c tag) s = .next t ∧ (∀ x ∈ (t.engine g).reads, x.key ≠ r.key) ∧
      t.out = (if s.on (BRG.BRG_CFG_READ_ERR_CA g) = true then .completion tag true []
        else .completion tag false ((r.addrs.filterMap id).map (fun _ => 0xFF))) :: s.out ∧
      (r.bad = false → t.bitAt (HDR.IRQ_STAT (brgPage g)) 1 = true ∧
        t.get (BRG.LOG_COUNT g) = (s.get (BRG.LOG_COUNT g) + 1) % 2 ^ 32)) ∧
  (∀ (s : State) (c : Fin 256) (k : Slot), let g := c.val / 2
    s.running = true → s.slotOf c = some k →
    (k.se = false → exec (.prefetchExpiry c) s = .next (s.setSlot c none)) ∧
    (k.se = true →
      let i := s.get (BRG.LOG_HEAD g)
      let held := sortBytes k.bytes
      ∃ t : State, exec (.seLost c) s = .next t ∧ t.slotOf c = none ∧
        t.bitAt (HDR.IRQ_STAT (brgPage g)) 2 = true ∧
        t.get (BRG.LOG_COUNT g) = (s.get (BRG.LOG_COUNT g) + 1) % 2 ^ 32 ∧
        t.get (BRG.LOG g (8 * i + 2)) = (held.map Prod.fst).headD 0 % 2 ^ 32 ∧
        t.get (BRG.LOG g (8 * i + 3)) = leNat ((held.map Prod.snd).take 4) ∧
        t.get (BRG.LOG g (8 * i + 4)) = k.tag % 65536 + 65536 * c + 2 ^ 24 * 11 ∧
        t.get (BRG.LOG g (8 * i + 5)) = (1 + 65536 * k.bytes.length) % 2 ^ 32))

/-- The control lane of a gate (R88 to R91, R93, R112, R332, R334): the first eligible request leaves as a packet; a trigger
pair leaves in its slot, or in the first free one with TRIG_LATE counted; a grant is issued with the duration of R334 and ends
with the returning K28.2 or by an overrun. -/
def Obligations.ControlLaneCommandsComplete : Prop :=
  ∀ (s : State) (g : Fin 128), s.running = true →
    (∀ (r : Req) (turn : Option Nat), (s.engine g).grant = none → s.nextPair g = none → s.eligible g = some (r, turn) →
      r.port / 2 = g → s.slotOf r.port = none →
      ∃ t : State, exec (.packetBoundarySend g) s = .next t ∧ t.out = .lanePacket g r.packet :: s.out ∧
        (∀ q ∈ (t.engine g).reqs, q.port = r.port → q.tag = r.tag → q.state = .outstanding) ∧
        (t.engine g).turn = match turn with | some k => (k + 1) % 4 | none => (s.engine g).turn) ∧
    (∀ p : TrigPair, (s.engine g).grant = none → s.nextPair g = some p → p.t ≤ s.now →
      ∃ (t : State) (slot : Nat), exec (.packetBoundarySend g) s = .next t ∧
        t.out = .trigPair g (p.t % 8 * 32 + p.port * 16 + p.action) slot :: s.out) ∧
    (∀ p : TrigPair, s.nextPair g = some p →
      let slot := p.t - p.t % 8 + 8
      ((s.engine g).nextSlot ≤ slot → exec (.triggerSymbolSend g) s = .next (((s.setEngine g { s.engine g with
        pairs := (s.engine g).pairs.erase p, nextSlot := slot + 16 }).reach slot).emit
          (.trigPair g (p.t % 8 * 32 + p.port * 16 + p.action) slot))) ∧
      (slot < (s.engine g).nextSlot → ∃ t : State, exec (.triggerSymbolSend g) s = .next t ∧
        t.out = .trigPair g (p.t % 8 * 32 + p.port * 16 + p.action) (s.engine g).nextSlot :: s.out ∧
        t.get (GATE.TRIG_LATE g) = (s.get (GATE.TRIG_LATE g) + 1) % 2 ^ 32 ∧
        (t.engine g).nextSlot = (s.engine g).nextSlot + 16)) ∧
    (∀ laneTime : Bool, (s.engine g).grant = none → s.awaited g ≠ [] → s.engineFenced g = false →
      (s.eligible g = none ∨ laneTime = true) →
      let code := min (s.get (BRG.BRG_CFG_GRANT_MAX g))
        (ceilDiv (8 + ((s.awaited g).map (fun r => (if r.op = 2 then r.len + 20 else 16) + 4)).sum) 16 - 1)
      exec (.grantIssue g laneTime) s = .next ((s.setEngine g { s.engine g with grant := some code }).emit
        (.laneGrant g code))) ∧
    ((s.engine g).grant ≠ none →
      exec (.turnaroundReturn g) s = .next (s.setEngine g { s.engine g with grant := none }) ∧
      ∃ t : State, exec (.grantOverrun g) s = .next t ∧ (t.engine g).grant = none ∧
        t.get (GATE.CTL_ERR_GRANT_OVERRUN g) = (s.get (GATE.CTL_ERR_GRANT_OVERRUN g) + 1) % 2 ^ 16 ∧
        t.bitAt (HDR.IRQ_STAT (gatePage g)) 12 = true)

/-- Responses in a grant (R87, R326, R327, R330, R337, R340, R343, R345, R347, R430). A response is good where its HDR_CRC is the
CRC-16 of its own header bytes, of class RSP, or POLL for the answer to a poll (R327), and, with data, its data CRC-32 that of
the data; any other is counted and nothing else changes.
A response that matches nothing is counted; WRITE_DONE, READ_DATA and NAK end, answer or repeat the request they match; the
last piece of a BAR2 read completes it; a piece whose read has failed already is discarded, and logged as SE_LOST where it
carries SE. -/
def Obligations.ResponseCommandsComplete : Prop :=
  ∀ (s : State) (g : Fin 128) (p : Fin 2) (tag : Fin 65536) (addr : Word), let c := portNo g p
    let head (cls op se len st : Nat) : List Byte := leBytes 1 op ++ leBytes 1 (cls + 8 * p + 16 * se) ++ leBytes 2 tag ++
      leBytes 4 addr.toNat ++ leBytes 2 len ++ leBytes 1 st ++ [0]
    let hWrite : BitVec 16 := BitVec.ofNat 16 (crc16 (head 3 4 0 0 0))
    let hRead (cls : Nat) (se : Bool) (data : List Byte) : BitVec 16 :=
      BitVec.ofNat 16 (crc16 (head cls 3 (b2n se) data.length 0))
    let hNak (cls : Nat) (st : Fin 5) : BitVec 16 := BitVec.ofNat 16 (crc16 (head cls 5 0 0 st))
    let dCrc (data : List Byte) : BitVec 32 := BitVec.ofNat 32 (crc32 data)
    s.running = true → (s.engine g).grant ≠ none →
    (∀ bad : State, bad = (s.inc (GATE.CTL_ERR_CRC g)).raise (gatePage g) 12 →
      (∀ h, h ≠ hWrite → exec (.writeDoneRsp g p tag addr h) s = .next bad) ∧
      (∀ se data h d, (h ≠ hRead 3 se data ∧ h ≠ hRead 4 se data) ∨ (data ≠ [] ∧ d ≠ dCrc data) →
        exec (.readDataRsp g p tag se addr data h d) s = .next bad) ∧
      (∀ (st : Fin 5) h, st ≠ 0 → h ≠ hNak 3 st → h ≠ hNak 4 st → exec (.nakRsp g p tag st addr h) s = .next bad)) ∧
    (s.outstanding c tag = none →
      exec (.writeDoneRsp g p tag addr hWrite) s = .next (s.inc (BRG.UNEXPECTED g)) ∧
      (∀ se data k, (k = 3 ∨ k = 4) → exec (.readDataRsp g p tag se addr data (hRead k se data) (dCrc data)) s =
        .next (s.inc (BRG.UNEXPECTED g))) ∧
      (∀ (st : Fin 5) k, st ≠ 0 → (k = 3 ∨ k = 4) → exec (.nakRsp g p tag st addr (hNak k st)) s = .next (s.inc (BRG.UNEXPECTED g))) ∧
      exec (.responseTimeout g p tag) s = .next s) ∧
    (∀ r : Req, s.outstanding c tag = some r → r.port = c → r.tag = tag → (s.engine g).reads = [] →
      (r.op = 1 → r.purpose = .hostWrite → ∃ t : State, exec (.writeDoneRsp g p tag addr hWrite) s = .next t ∧
        (t.engine g).reqs = (s.engine g).reqs.filter (fun q => !(q.port == r.port && q.tag == r.tag)) ∧ t.regs = s.regs) ∧
      (r.op = 1 → r.purpose = .pcWrite → ∃ t : State, exec (.writeDoneRsp g p tag addr hWrite) s = .next t ∧
        t.on (BRG.PORT_STATUS_PCW_BUSY g p) = false ∧ t.bitAt (HDR.IRQ_STAT (brgPage g)) 7 = true) ∧
      (r.op = 6 → r.purpose = .lock → ∃ t : State, exec (.writeDoneRsp g p tag addr hWrite) s = .next t ∧
        t.on (BRG.PORT_STATUS_LOCKED g p) = true ∧ t.on (BRG.PORT_STATUS_LOCK_PENDING g p) = false ∧
        t.bitAt (HDR.IRQ_STAT (brgPage g)) 8 = true) ∧
      (r.op = 2 → r.purpose = .poll → ∀ (se : Bool) (data : List Byte), data.length = r.len →
        ∃ t : State, exec (.readDataRsp g p tag se addr data (hRead 4 se data) (dCrc data)) s = .next t ∧
          t.get (BRG.POLL_LAST g p) = s.diValue c data % 2 ^ 32 ∧
          (t.engine g).reqs = (s.engine g).reqs.filter (fun q => !(q.port == r.port && q.tag == r.tag))) ∧
      (r.op = 2 → r.purpose = .discIdent → ∀ (se : Bool) (data : List Byte), data.length = r.len →
        ∃ t : State, exec (.readDataRsp g p tag se addr data (hRead 3 se data) (dCrc data)) s = .next t ∧
          t.get (BRG.CAM_IDENT g p) = s.diValue c data % 2 ^ 32 ∧ t.get (BRG.PORT_STATUS_DISC g p) = 1 ∧
          t.bitAt (HDR.IRQ_STAT (brgPage g)) 9 = true) ∧
      (r.op = 2 → r.purpose = .poll → ∀ (se : Bool) (data : List Byte), data.length ≠ r.len →
        ∃ t : State, exec (.readDataRsp g p tag se addr data (hRead 4 se data) (dCrc data)) s = .next t ∧
          t.bitAt (HDR.IRQ_STAT (brgPage g)) 1 = true ∧ t.bitAt (HDR.IRQ_STAT (brgPage g)) 6 = true) ∧
      (∀ key : Nat, r.op = 2 → r.purpose = .hostRead key → ∀ (se : Bool) (data : List Byte),
        ∃ t : State, exec (.readDataRsp g p tag se addr data (hRead 3 se data) (dCrc data)) s = .next t ∧ t.out = s.out ∧
          (t.engine g).reqs = (s.engine g).reqs.filter (fun q => !(q.port == r.port && q.tag == r.tag)) ∧
          (se = false → t.regs = s.regs) ∧
          (se = true → t.bitAt (HDR.IRQ_STAT (brgPage g)) 2 = true ∧
            t.get (BRG.LOG_COUNT g) = (s.get (BRG.LOG_COUNT g) + 1) % 2 ^ 32)) ∧
      (r.purpose = .hostWrite → r.op = 1 → ∀ st : Fin 5, (st = 1 ∨ st = 2) →
        ∃ t : State, exec (.nakRsp g p tag st addr (hNak 3 st)) s = .next t ∧
          t.get (BRG.NAK_COUNT g p) = (s.get (BRG.NAK_COUNT g p) + 1) % 2 ^ 32 ∧
          t.on (BRG.FENCE_FAIL g p) = true ∧ t.bitAt (HDR.IRQ_STAT (brgPage g)) 0 = true ∧
          t.get (BRG.LOG_COUNT g) = (s.get (BRG.LOG_COUNT g) + 1) % 2 ^ 32) ∧
      (r.purpose = .hostWrite → r.op = 1 → ∃ t : State, exec (.responseTimeout g p tag) s = .next t ∧
        t.get (BRG.TIMEOUT_COUNT g p) = (s.get (BRG.TIMEOUT_COUNT g p) + 1) % 2 ^ 32 ∧
        t.on (BRG.FENCE_FAIL g p) = true ∧ t.bitAt (HDR.IRQ_STAT (brgPage g)) 0 = true ∧
        t.get (BRG.LOG_COUNT g) = (s.get (BRG.LOG_COUNT g) + 1) % 2 ^ 32)) ∧
    (∀ (r : Req) (x : HostRead) (data : List Byte), s.outstanding c tag = some r → r.port = c → r.op = 2 →
      r.purpose = .hostRead x.key → (s.engine g).reads = [x] → x.pieces = 1 → x.waits = [] → x.bad = false →
      r.want = r.len → data.length = r.len →
      ∃ t : State, exec (.readDataRsp g p tag false addr data (hRead 3 false data) (dCrc data)) s = .next t ∧
        (t.engine g).reads = [] ∧
        t.out = .completion x.id false ((x.addrs.filterMap id).map (fun a =>
          tget (x.got ++ (List.range data.length).map (fun i => (r.addr + i, data.getD i 0))) a 0)) :: s.out) ∧
    (∀ r : Req, s.outstanding c tag = some r → r.port = c → r.tag = tag → r.purpose = .pcWrite →
      (r.crcTries < 3 → exec (.nakRsp g p tag 4 addr (hNak 3 4)) s = .next ((s.inc (BRG.NAK_COUNT g p)).onReq r
        (fun q => { q with state := .queued, crcTries := q.crcTries + 1 }))) ∧
      (r.busyTries < s.get (BRG.BRG_CFG_RETRY_MAX g) → exec (.nakRsp g p tag 3 addr (hNak 3 3)) s =
        .next ((s.inc (BRG.NAK_COUNT g p)).onReq r (fun q => { q with state := .busyWait, busyTries := q.busyTries + 1 }))))

/-- The commands of BRG[g].CMD and the timers of a port's engine (R326, R330, R343 to R345, R347). -/
def Obligations.BridgeCommandsComplete : Prop :=
  ∀ (s : State) (g : Fin 128) (p : Fin 2), let c := portNo g p
    (s.hostOn = true → s.portDown c = false →
      (∃ (t : State) (r : Req), exec (.discover g p) s = .next t ∧ t.get (BRG.PORT_STATUS_DISC g p) = 0 ∧ t.get (BRG.CAM_CAPS g p) = 0 ∧
        (t.engine g).reqs = (s.engine g).reqs ++ [r] ∧ r.port = c ∧ r.op = 2 ∧ r.cls = 1 ∧ r.addr = 0 ∧ r.len = 4 ∧
        r.purpose = .discMagic) ∧
      ((s.engine g).lockPort = none → ∃ (t : State) (r : Req), exec (.lock g p) s = .next t ∧
        t.on (BRG.PORT_STATUS_LOCK_PENDING g p) = true ∧ (t.engine g).lockPort = some c ∧
        (t.engine g).reqs = (s.engine g).reqs ++ [r] ∧ r.port = c ∧ r.op = 6 ∧ r.cls = 2 ∧ r.purpose = .lock) ∧
      (s.on (BRG.PORT_STATUS_LOCKED g p) = true → ∃ (t : State) (r : Req), exec (.unlock g p) s = .next t ∧
        (t.engine g).reqs = (s.engine g).reqs ++ [r] ∧ r.port = c ∧ r.op = 7 ∧ r.cls = 2 ∧ r.purpose = .unlock) ∧
      (s.on (BRG.PORT_STATUS_PCW_BUSY g p) = false → s.get (BRG.PCW_ADDR g p) % 4 = 0 →
        ∃ (t : State) (r : Req), exec (.pcWrite g p) s = .next t ∧ t.on (BRG.PORT_STATUS_PCW_BUSY g p) = true ∧
          (t.engine g).reqs = (s.engine g).reqs ++ [r] ∧ r.port = c ∧ r.op = 1 ∧ r.cls = 2 ∧ r.purpose = .pcWrite ∧
          r.addr = s.get (BRG.PCW_ADDR g p) ∧ r.data = s.diWord c (s.get (BRG.PCW_DATA g p)))) ∧
    (s.hostOn = true → exec (.clearFail g p) s = .next (((s.accept (brgPage g) 5).put (BRG.FENCE_FAIL g p) 0).put
      (BRG.FAIL_TAG g p) 0)) ∧
    (s.running = true → s.on (BRG.PORT_STATUS_LOCKED g p) = true → s.portDown c = false →
      ∃ (t : State) (r : Req), exec (.lockExpired g p) s = .next t ∧ t.bitAt (HDR.IRQ_STAT (brgPage g)) 3 = true ∧
        t.get (BRG.LOG_COUNT g) = (s.get (BRG.LOG_COUNT g) + 1) % 2 ^ 32 ∧
        (t.engine g).reqs = (s.engine g).reqs ++ [r] ∧ r.port = c ∧ r.op = 7 ∧ r.purpose = .unlock) ∧
    (s.running = true → s.on (BRG.POLL_CFG_EN g p) = true → (s.engine g).lockPort = none →
      ((∃ r ∈ (s.engine g).reqs, r.port = c ∧ r.purpose = .poll) →
        exec (.pollTick g p) s = .next (s.inc (BRG.POLL_SKIP g p))) ∧
      ((∀ r ∈ (s.engine g).reqs, r.port = c → r.purpose ≠ .poll) → s.portDown c = false →
        ∃ (t : State) (r : Req), exec (.pollTick g p) s = .next t ∧ (t.engine g).reqs = (s.engine g).reqs ++ [r] ∧ r.port = c ∧ r.op = 2 ∧
          r.cls = 4 ∧ r.addr = s.get (BRG.POLL_ADDR g p) ∧ r.len = 4 ∧ r.purpose = .poll)) ∧
    (∀ (tag : Fin 65536) (r : Req), s.running = true →
      (s.engine (c / 2)).reqs.find? (fun r => r.port == c && r.tag == tag.val && r.state == .busyWait) = some r →
      exec (.busyRetry g p tag) s = .next (s.onReq r (fun q => { q with state := .queued })))

/-- FS and FE packets (R79, R83, R96, R97, R100, R121): on a port where nothing alters what comes, a packet whose header
checks joins the marker queue with its fields and, where the gate is ACTIVE already and ADAPT_ALL is 0, changes no register;
past 16 markers it is an overflow. -/
def Obligations.MarkerPacketsLand : Prop :=
  ∀ (s : State) (g : Fin 128) (p : Fin 2) (body : List Byte), let c := portNo g p
    let plain (t : State) : Prop :=
      s.gateActive g = true → s.on (LNK.ADAPT_ALL c) = false → ∀ a, t.word a = s.word a
    s.plainPort c = true →
    (byteAt body 0 = 1 → body.length = 14 → crc16 (body.take 12) = leAt body 12 2 →
      ((s.link c).markers < 16 →
        ∃ (t : State) (m : Marker), exec (.fsPacket g p body) s = .next t ∧ (t.link c).riser = (s.link c).riser ++ [.marker m] ∧
          m.isFs = true ∧ m.hdrOk = true ∧ m.echo = leAt body 2 2 ∧ m.fmtOk = s.fsMatches c body ∧ m.landed = s.now ∧
          (t.link c).fsSince = true ∧ (t.link c).valid = 0 ∧ plain t) ∧
      (16 ≤ (s.link c).markers →
        ∃ t : State, exec (.fsPacket g p body) s = .next t ∧ (t.link c).riser = (s.link c).riser ∧
          t.get (LNK.RISER_OVF c) = (s.get (LNK.RISER_OVF c) + 1) % 2 ^ 16 ∧
          t.bitAt (HDR.IRQ_STAT (gatePage g)) 16 = true)) ∧
    (byteAt body 0 = 3 → body.length = 12 → crc16 (body.take 10) = leAt body 10 2 → (s.link c).markers < 16 →
      ∃ (t : State) (m : Marker), exec (.fePacket g p body) s = .next t ∧ (t.link c).riser = (s.link c).riser ++ [.marker m] ∧
        m.isFs = false ∧ m.hdrOk = true ∧ m.fcrcPresent = bitOf (byteAt body 1) 0 ∧ m.lineCount = leAt body 2 3 ∧
        m.status = byteAt body 5 ∧ m.frameCrc = leAt body 6 4 ∧ m.valid = (s.link c).valid ∧
        m.crc = crc32 (((s.link c).pays.map Prod.snd).flatten) ∧ plain t)

/-- Line packets and packets of other types (R75, R76, R78, R82, R96, R97, R99, R100, R120): a line whose checks pass and whose
payload has the expected length lands with its pixels and takes its blocks; a payload that fails its CRC lands as CRC_POLICY
says; without room it is an overflow whose bytes are slag, and is not counted for its frame; a packet of an unknown type, and
K30.7 in a packet, are protocol errors whose bytes are slag, but a packet closed already at its declared length (R75) is
received as it is. -/
def Obligations.LinePacketsLand : Prop :=
  ∀ (s : State) (g : Fin 128) (p : Fin 2) (body : List Byte), let c := portNo g p
    (s.plainPort c = true → byteAt body 0 = 2 → byteAt body 1 % 2 = 0 → leAt body 5 2 = s.portE c →
      body.length = 13 + s.portE c → crc16 (body.take 7) = leAt body 7 2 →
      ((s.link c).used + s.lineBlocks c ≤ s.riserPart c → crc32 ((body.drop 9).take (s.portE c)) = leAt body (9 + s.portE c) 4 →
        ∃ t : State, exec (.linePacket g p body) s = .next t ∧ (t.link c).riser = (s.link c).riser ++ [.line
          { num := some (leAt body 2 3), pixels := unpackPixels (s.portW c) (s.portBits c) ((body.drop 9).take (s.portE c)),
            bodyLen := body.length, blocks := s.lineBlocks c }] ∧
          (t.link c).used = (s.link c).used + s.lineBlocks c ∧ (t.link c).valid = (s.link c).valid + 1) ∧
      ((s.link c).used + s.lineBlocks c ≤ s.riserPart c → crc32 ((body.drop 9).take (s.portE c)) ≠ leAt body (9 + s.portE c) 4 →
        s.get (GATE.CHECK_CFG_CRC_POLICY g) ≤ 2 →
        ∃ (t : State) (l : Landed), exec (.linePacket g p body) s = .next t ∧ (t.link c).riser = (s.link c).riser ++ [.line l] ∧
          l.num = some (leAt body 2 3) ∧ l.payFail = true ∧ l.flags = 2 ^ s.get (GATE.CHECK_CFG_CRC_POLICY g) ∧
          l.replace = (s.get (GATE.CHECK_CFG_CRC_POLICY g) == 1) ∧ l.reported = true ∧
          (s.get (GATE.CHECK_CFG_CRC_POLICY g) = 2 → l.pixels = s.padPixels c) ∧
          t.get (LNK.PAY_CRC_ERR c) = (s.get (LNK.PAY_CRC_ERR c) + 1) % 2 ^ 16 ∧
          t.bitAt (HDR.IRQ_STAT (gatePage g)) 9 = true) ∧
      (s.riserPart c < (s.link c).used + s.lineBlocks c →
        ∃ t : State, exec (.linePacket g p body) s = .next t ∧ (t.link c).riser = (s.link c).riser ∧
          (t.link c).valid = (s.link c).valid ∧ (t.link c).pays = (s.link c).pays ∧
          t.get (LNK.RISER_OVF c) = (s.get (LNK.RISER_OVF c) + 1) % 2 ^ 16 ∧
          t.get (CAM.FC_SLAG_BYTES c) = (s.get (CAM.FC_SLAG_BYTES c) + body.length) % 2 ^ 32)) ∧
    (s.plainPort c = true → (byteAt body 0 = 0 ∨ 4 ≤ byteAt body 0) →
      (hdrChecks body 12 = true ∨ hdrChecks body 7 = true ∨ hdrChecks body 10 = true) →
      ∃ t : State, exec (.unknownTypePacket g p body) s = .next t ∧ (t.link c).riser = (s.link c).riser ∧
        t.get (LNK.PROTO_ERR c) = (s.get (LNK.PROTO_ERR c) + 1) % 2 ^ 16 ∧
        t.bitAt (HDR.IRQ_STAT (gatePage g)) 10 = true ∧
        t.get (CAM.FC_SLAG_BYTES c) = (s.get (CAM.FC_SLAG_BYTES c) + body.length) % 2 ^ 32) ∧
    (s.plainPort c = true →
      (s.overlong c body = false →
        ∃ t : State, exec (.abortSymbol g p body) s = .next t ∧ (t.link c).riser = (s.link c).riser ∧
          t.get (LNK.PROTO_ERR c) = (s.get (LNK.PROTO_ERR c) + 1) % 2 ^ 16 ∧
          t.get (CAM.FC_SLAG_BYTES c) = (s.get (CAM.FC_SLAG_BYTES c) + body.length) % 2 ^ 32) ∧
      (s.overlong c body = true → exec (.abortSymbol g p body) s = .next ((s.gateWake g).receive c body) ∧
        (byteAt body 0 = 1 → exec (.abortSymbol g p body) s = exec (.fsPacket g p body) s) ∧
        (byteAt body 0 = 2 → exec (.abortSymbol g p body) s = exec (.linePacket g p body) s) ∧
        (byteAt body 0 = 3 → exec (.abortSymbol g p body) s = exec (.fePacket g p body) s)))

/-- In quench every packet that still comes is discarded as slag, and nothing else changes (R372); FRAME_TIMEOUT closes the open
frame behind what has landed, and a shot without its FS is counted (R100). -/
def Obligations.PacketTimeoutsAndQuench : Prop :=
  (∀ (s : State) (g : Fin 128) (p : Fin 2) (body : List Byte), let c := portNo g p
    s.quenched = true → s.hears c = true →
    exec (.fsPacket g p body) s = .next (s.add (CAM.FC_SLAG_BYTES c) body.length) ∧
    exec (.linePacket g p body) s = .next (s.add (CAM.FC_SLAG_BYTES c) body.length) ∧
    exec (.fePacket g p body) s = .next (s.add (CAM.FC_SLAG_BYTES c) body.length) ∧
    exec (.unknownTypePacket g p body) s = .next (s.add (CAM.FC_SLAG_BYTES c) body.length) ∧
    exec (.abortSymbol g p body) s = .next (s.add (CAM.FC_SLAG_BYTES c) body.length)) ∧
  (∀ (s : State) (c : Fin 256), s.running = true → s.get (CAM.FC_TIMEOUT c) ≠ 0 →
    ((s.link c).frameLanding = true → exec (.frameTimeout c) s = .next (s.setLink c { s.link c with
      riser := (s.link c).riser ++ [.marker { isFs := false, hdrOk := true, implied := true }] })) ∧
    ∀ shot : Word, (s.link c).fsSince = false → (∃ b, (shot.toNat, b) ∈ (s.sched c).outst) →
      ∃ t : State, exec (.missingFrameTimeout c shot) s = .next t ∧
        (t.sched c).outst = (s.sched c).outst.filter (fun x => x.1 != shot.toNat) ∧
        t.get (CAM.FC_MISSING_FRAME c) = (s.get (CAM.FC_MISSING_FRAME c) + 1) % 2 ^ 32 ∧
        t.bitAt (HDR.IRQ_STAT (gatePage (c / 2))) 11 = true)

/-- Link injections (R107, R108, R112): an accepted INJECT arms the operation of INJ_CFG; it is refused as R108 says; INJ_CANCEL
disarms it; when it meets its target it is done. -/
def Obligations.InjectionCommandsComplete : Prop :=
  ∀ (s : State) (g : Fin 128),
    (∀ x ∈ [(Instr.dropSymbols g, 1), (.dropLine g, 2), (.corruptSymbol g, 3), (.corruptHdrCrc g, 4),
        (.corruptPayCrc g, 5), (.reorder g, 6)], s.hostOn = true → s.get (GATE.INJ_CFG_OP g) = x.2 →
      let c := portNo g (s.get (GATE.INJ_CFG_PORT g))
      (s.injRefusal g = none →
        ∃ t : State, exec x.1 s = .next t ∧ t.on (GATE.INJ_STATUS_ARMED g) = true ∧ t.on (GATE.INJ_STATUS_DONE g) = false ∧
          t.on (GATE.INJ_STATUS_REAL_SEEN g) = false ∧ (t.gate g).inj = .armed ∧
          t.get (HDR.CMD_STATUS_OPCODE (gatePage g)) = 0x10) ∧
      (s.portPresent c = false → exec x.1 s = .next (s.refuse (gatePage g) 0x21)) ∧
      (s.portPresent c = true → s.linkState c ≠ linkReady → exec x.1 s = .next (s.refuse (gatePage g) 0x24)) ∧
      (s.portPresent c = true → s.linkState c = linkReady → s.get (GATE.INJ_CFG_COUNT g) ≠ 0 →
        s.on (GATE.INJ_STATUS_ARMED g) = true → exec x.1 s = .next (s.refuse (gatePage g) 0x28))) ∧
    (s.hostOn = true → s.on (GATE.INJ_STATUS_ARMED g) = true →
      ∃ t : State, exec (.injCancel g) s = .next t ∧ t.on (GATE.INJ_STATUS_ARMED g) = false ∧ (t.gate g).inj = .idle ∧
        t.get (HDR.CMD_STATUS_OPCODE (gatePage g)) = 0x11) ∧
    (s.hostOn = true → s.on (GATE.INJ_STATUS_ARMED g) = false →
      exec (.injCancel g) s = .next (s.refuse (gatePage g) 0x2A)) ∧
    (s.running = true → (s.gate g).inj = .armed →
      ∃ t : State, exec (.injectionActs g) s = .next t ∧ t.on (GATE.INJ_STATUS_ARMED g) = false ∧
        t.on (GATE.INJ_STATUS_DONE g) = true ∧ t.bitAt (HDR.IRQ_STAT (gatePage g)) 15 = true ∧
        (t.gate g).inj = (if s.get (GATE.INJ_CFG_OP g) = 1 then .idle else .acting))

/-- Gate mode, enable and disable (R114 to R116, R139, R326, R395, R420): an accepted write sets the mode and the split, and a
new mode puts both ports in DOWN with their full lane masks and empty risers; an enable lets a port with its clock go to
CLOCK; a disable holds both ports in DOWN. -/
def Obligations.GateCommandsComplete : Prop :=
  (∀ (s : State) (g : Fin 128) (mode : Fin 4) (split : Fin 256), s.hostOn = true → s.gateEnabled g = false →
    mode.val ≠ 3 → split.val ≠ 0 →
    (mode.val = s.gateMode g → exec (.gateCfgWrite g mode split) s = .next
      ((s.put (GATE.GATE_CFG_GATE_MODE g) mode).put (GATE.GATE_CFG_RISER_SPLIT_A g) split)) ∧
    (mode.val ≠ s.gateMode g → (s.engine g).reqs = [] → (s.engine g).reads = [] →
      ∃ t : State, exec (.gateCfgWrite g mode split) s = .next t ∧ t.gateMode g = mode ∧
        t.get (GATE.GATE_CFG_RISER_SPLIT_A g) = split ∧ t.get (GATE.LANE_MASK_MASK_A g) = fullMask mode 0 ∧
        t.get (GATE.LANE_MASK_MASK_B g) = fullMask mode 1 ∧
        (∀ n < 5, t.get (GATE.LANE_STATUS_ROLE g n) = laneRole mode n) ∧
        ∀ c ∈ [2 * g.val, 2 * g.val + 1], (t.link c).riser = [] ∧ (t.link c).used = 0 ∧
          (s.portFenced c = false → t.linkState c = linkDown))) ∧
  (∀ (s : State) (g : Fin 128), s.hostOn = true → s.gateEnabled g = false → s.domainReady g = true →
    s.domainReady (128 + g) = true → s.engineFenced g = false →
    ∃ t : State, exec (.gateEnable g) s = .next t ∧ t.gateEnabled g = true ∧
      ∀ c ∈ [2 * g.val, 2 * g.val + 1], s.linkState c = linkDown → s.portFenced c = false →
        (s.on (LNK.CLOCK_OK c) = true → (s.link c).heldDown = false → s.portPresent c = true → t.linkState c = linkClock) ∧
        (s.on (LNK.CLOCK_OK c) = false → t.linkState c = linkDown)) ∧
  (∀ (s : State) (g : Fin 128), s.hostOn = true → s.gateEnabled g = true → s.portEnabled (2 * g) = false →
    s.portEnabled (2 * g + 1) = false → (s.engine g).reqs = [] → (s.engine g).reads = [] →
    ∃ t : State, exec (.gateDisable g) s = .next t ∧ t.gateEnabled g = false ∧
      ∀ c ∈ [2 * g.val, 2 * g.val + 1], (t.link c).riser = [] ∧ (t.link c).test = none ∧
        (s.portFenced c = false → t.linkState c = linkDown))

/-- Camera ports, the HBM limit and window commits (R116, R129, R136, R141, R154, R187, R192, R233): an enable whose tests pass
books the port's demand and enables it; a disable cuts what is open and takes the demand back; a commit makes the staging
set active, at once on a disabled port and at the next FS on an enabled one. -/
def Obligations.PortCommandsComplete : Prop :=
  (∀ (s : State) (c : Fin 256), s.hostOn = true → s.portEnabled c = false →
    (s.camRefusal c = none →
      ∃ t : State, exec (.camEnable c) s = .next t ∧ t.portEnabled c = true ∧ (t.link c).riser = [] ∧ (t.link c).used = 0 ∧
        (t.cam c).first = true ∧ t.get (CAM.ADM_VEC c) = s.camVec c % 2 ^ 32 ∧
        t.get (CAM.ADM_HBM c) = s.portHbm c (s.cam c).wins % 2 ^ 32 ∧
        t.on (CAM.NR_STATUS_SUPPRESSED c) = s.refTooLarge c) ∧
    (s.portPresent c = false → exec (.camEnable c) s = .next (s.refuse (camPage c) 0x21)) ∧
    (s.portPresent c = true → s.gateEnabled (c / 2) = false → exec (.camEnable c) s = .next (s.refuse (camPage c) 0x4E)) ∧
    (∀ code, s.camRefusal c = some code → exec (.camEnable c) s = .next (s.refuse (camPage c) code))) ∧
  (∀ (s : State) (c : Fin 256), s.hostOn = true →
    (s.portEnabled c = true → ∃ t : State, exec (.camDisable c) s = .next t ∧ t.portEnabled c = false ∧ (t.link c).riser = [] ∧
      t.get (CAM.ADM_VEC c) = 0 ∧ t.get (CAM.ADM_HBM c) = 0 ∧ t.schedOn c = false ∧ t.on (CAM.NR_STATUS_HOLDING c) = false) ∧
    (s.portEnabled c = false → exec (.camDisable c) s = .next s)) ∧
  (∀ (s : State) (v : Word), s.hostOn = true →
    (3200000 < v.toNat → exec (.admHbmLimitWrite v) s = .next (s.refuse devPage 0x4D)) ∧
    (v.toNat ≤ 3200000 → v.toNat < s.get DEV.ADM_HBM_TOTAL → exec (.admHbmLimitWrite v) s = .next (s.refuse devPage 0x42)) ∧
    (v.toNat ≤ 3200000 → s.get DEV.ADM_HBM_TOTAL ≤ v.toNat →
      exec (.admHbmLimitWrite v) s = .next (s.put DEV.ADM_HBM_LIMIT v.toNat))) ∧
  (∀ (s : State) (c : Fin 256), s.hostOn = true →
    (s.on (CAM.WIN_STATUS_PENDING c) = true → exec (.winCommit c) s = .next (s.refuse (camPage c) 0x51)) ∧
    (s.on (CAM.WIN_STATUS_PENDING c) = false → (∃ v ∈ s.staged c,
        v.valid (s.portW c) (s.portH c) (s.get (CAM.FMT_CFG_PIXEL_FORMAT c)) = false) →
      exec (.winCommit c) s = .next (s.refuse (camPage c) 0x52)) ∧
    (s.commitRefusal c = none → s.portEnabled c = false →
      exec (.winCommit c) s = .next ((s.setCam c { s.cam c with wins := s.staged c }).put (CAM.WIN_STATUS_ACTIVE_COUNT c)
        (s.staged c).length)) ∧
    (s.commitRefusal c = none → s.portEnabled c = true →
      ∃ t : State, exec (.winCommit c) s = .next t ∧ (t.cam c).pendWins = some (s.staged c) ∧ (t.cam c).wins = (s.cam c).wins ∧
        t.on (CAM.WIN_STATUS_PENDING c) = true))

/-- A turn of the intake arbiter (R99, R100, R123, R124, R126, R127, R161) of a slice in which one port alone has an item ready
and no hold begins: an FS opens a frame, and closes the frame still open before it in the same turn, or makes its pad lines due;
the next line of the open frame goes on with its blocks freed, whether the frame is at frame check already or not, and takes a
following FE with it; a gap is filled with pad lines, or abandons the frame where it is too long; a line out of place is
discarded; an FE begins the closing. -/
def Obligations.IntakeCommandCompletes : Prop :=
  ∀ (s : State) (k : Fin 33) (i c : Nat), s.sliceServes k = true → i < 8 → (s.servedPorts k)[i]? = some c →
    s.itemReady k c = true → (∀ j < 8, j ≠ i → ∀ d, (s.servedPorts k)[j]? = some d → s.itemReady k d = false) →
    (∀ d ∈ s.servedPorts k, s.needsHold d = true → (s.cam d).holdOver = true) →
    let l := s.link c
    let fc := (s.slice k).fc
    let missed (x : Landed) : Landed := if (s.cam c).holdOver = true then { x with flags := setBitN x.flags 6 } else x
    let noFe (rest : List RItem) : Prop := ∀ m r, rest = .marker m :: r → m.isFs = true
    let turn (t : State) (items : List FcItem) : Prop := exec (.intakeItem k) s = .next t ∧ (t.slice k).fc = fc ++ items ∧
      (t.slice k).last = i
    let pad : Landed := { num := some l.e, pixels := s.padPixels c, flags := if l.injGap.contains (l.frameNo, l.e) then 36 else 4,
                          reported := true, allTagged := l.injGap.contains (l.frameNo, l.e) }
    (l.pads ≠ 0 → ∃ t : State, turn t [.line c l.e (missed pad) (s.refCount c)] ∧ (t.link c).e = l.e + 1 ∧
      (t.link c).pads = l.pads - 1 ∧ (t.link c).riser = l.riser) ∧
    (l.pads = 0 →
      (∀ (m : Marker) (rest : List RItem), l.riser = .marker m :: rest → m.isFs = true →
        (l.open_ = false → 2 ≤ s.get (CAM.NR_CTRL_MODE c) →
          ∃ t : State, turn t [.fs c (l.frameNo + 1) m] ∧ (t.link c).open_ = true ∧ (t.link c).e = 0 ∧ (t.link c).riser = rest) ∧
        (l.open_ = false → s.get (CAM.NR_CTRL_MODE c) < 2 → ∀ x r, rest = .line x :: r → x.num = some 0 → 0 < s.portH c →
          noFe r → ∃ t : State, turn t [.fs c (l.frameNo + 1) m, .line c 0 (missed x) (s.refCount c)] ∧
            (t.link c).open_ = true ∧ (t.link c).e = 1 ∧ (t.link c).riser = r) ∧
        (l.open_ = true → l.e < s.portH c → ∃ t : State, turn t [.fe c none] ∧ (t.link c).closing = true ∧
          (t.link c).riser = l.riser) ∧
        (l.open_ = true → s.portH c ≤ l.e → 2 ≤ s.get (CAM.NR_CTRL_MODE c) →
          ∃ t : State, turn t [.fe c none, .fs c (l.frameNo + 1) m] ∧ (t.link c).open_ = true ∧ (t.link c).e = 0 ∧
            (t.link c).riser = rest)) ∧
      (∀ (x : Landed) (rest : List RItem), l.riser = .line x :: rest → l.open_ = true → l.abandoned = false →
        let n := x.num.getD l.e
        (n = l.e → l.e < s.portH c →
          (noFe rest → ∃ t : State, turn t [.line c l.e (missed x) (s.refCount c)] ∧ (t.link c).e = l.e + 1 ∧
            (t.link c).riser = rest ∧ (t.link c).used = l.used - x.blocks) ∧
          (∀ m r, rest = .marker m :: r → m.isFs = false → ∃ t : State,
            turn t [.line c l.e (missed x) (s.refCount c), .fe c (if m.implied = true then none else some m)] ∧
            (t.link c).e = l.e + 1 ∧ (t.link c).riser = r ∧ (t.link c).closing = true)) ∧
        (l.e < n → n < s.portH c → n - l.e ≤ s.get (CAM.FC_CFG_GAP_MAX c) →
          ∃ t : State, turn t [.line c l.e (missed pad) (s.refCount c)] ∧ (t.link c).e = l.e + 1 ∧
            (t.link c).pads = n - l.e - 1 ∧ (t.link c).riser = l.riser ∧
            t.get (CAM.FC_PAD_LINES c) = (s.get (CAM.FC_PAD_LINES c) + (n - l.e)) % 2 ^ 32) ∧
        (l.e < n → n < s.portH c → s.get (CAM.FC_CFG_GAP_MAX c) < n - l.e → noFe rest →
          ∃ t : State, turn t [.abandon c (l.gapTagged n).1] ∧ (t.link c).open_ = false ∧ (t.link c).abandoned = true ∧
            (t.link c).riser = rest ∧ t.get (CAM.FC_ABANDONED c) = (s.get (CAM.FC_ABANDONED c) + 1) % 2 ^ 32) ∧
        ((s.portH c ≤ n ∨ n < l.e) → noFe rest →
          ∃ t : State, turn t [.drop c (if s.portH c ≤ n then .long else .order (l.injGap.contains (l.frameNo, n)))] ∧
            (t.link c).riser = rest ∧
            t.get (CAM.FC_SLAG_BYTES c) = (s.get (CAM.FC_SLAG_BYTES c) + x.bodyLen) % 2 ^ 32 ∧
            t.bitAt (HDR.IRQ_STAT (gatePage (c / 2))) 10 = true)) ∧
      (∀ (m : Marker) (rest : List RItem), l.riser = .marker m :: rest → m.isFs = false →
        (l.abandoned = false → ∃ t : State, turn t [.fe c (if m.implied = true then none else some m)] ∧
          (t.link c).closing = l.open_ ∧ (t.link c).riser = rest) ∧
        (l.abandoned = true → l.feGone = false → ∃ t : State, turn t [] ∧ (t.link c).riser = rest ∧
          (t.link c).feGone = (!m.implied) ∧
          t.get (CAM.FC_SLAG_BYTES c) = (s.get (CAM.FC_SLAG_BYTES c) + m.bodyLen) % 2 ^ 32)))

/-- Frame check (R96, R100, R101, R127, R237, R238, R247): an FS opens a frame, which takes what R247 fixes and is bound to the
outstanding shot its echo names; a line enters its frame; an FE after the last line closes it and keeps its STATUS, one before
makes the missing lines due as pad lines and counts a short frame, and one without a frame is an orphan. -/
def Obligations.FrameCheckCommandsComplete : Prop :=
  ∀ (s : State) (k : Fin 33) (c : Nat) (rest : List FcItem), s.sliceServes k = true →
    (∀ (id : Nat) (m : Marker), (s.slice k).fc = .fs c id m :: rest → s.portEnabled c = true → s.portFenced c = false →
      ∃ (t : State) (fr : Frame), exec (.fsAtFrameCheck k) s = .next t ∧ (t.slice k).fc = rest ∧ (t.cam c).frames = (s.cam c).frames ++ [fr] ∧
        fr.c = c ∧ fr.id = id ∧ fr.closed = false ∧ fr.latch = s.latchRegs c ∧
        bitOf fr.fstat 10 = !m.fmtOk ∧ bitOf fr.fstat 13 = !m.hdrOk ∧
        ((s.sched c).outst = [] → fr.bound = false ∧ bitOf fr.xstat 4 = true) ∧
        (∀ n sy, (s.sched c).outst = [(n, sy)] → s.groupFenced c = false → fr.bound = true ∧ fr.shot = n ∧
          (t.sched c).outst = [])) ∧
    (∀ (n cnt : Nat) (x : Landed) (fr : Frame), (s.slice k).fc = .line c n x cnt :: rest → s.openFrame c = some fr →
      fr.c = c → fr.ended = false →
      let before := match fr.entered.getLast? with | some l => l.pix | none => s.padPixels c
      ∃ t : State, exec (.lineAtFrameCheck k) s = .next t ∧ (t.slice k).fc = rest ∧ ∃ f ∈ (t.cam c).frames, f.id = fr.id ∧
        f.closed = false ∧ f.entered = fr.entered ++ [⟨if x.replace = true then before else x.pixels, x.flags, cnt⟩]) ∧
    (∀ (m : Marker) (fr : Frame), (s.slice k).fc = .fe c (some m) :: rest → s.openFrame c = some fr → fr.c = c →
      (s.link c).frameNo = fr.id →
      (s.portH c ≤ (s.link c).e →
        ∃ t : State, exec (.feAtFrameCheck k) s = .next t ∧ (t.slice k).fc = rest ∧ (t.link c).open_ = false ∧
          (m.hdrOk = true → (t.cam c).camStatus = m.status) ∧
          ∀ f ∈ (t.cam c).frames, f.id = fr.id → f.closed = true ∧ f.cut = false) ∧
      ((s.link c).e < s.portH c →
        ∃ t : State, exec (.feAtFrameCheck k) s = .next t ∧ (t.slice k).fc = rest ∧ (t.link c).closing = true ∧
          (t.link c).pads = s.portH c - (s.link c).e ∧
          t.get (CAM.FC_SHORT_FRAME c) = (s.get (CAM.FC_SHORT_FRAME c) + 1) % 2 ^ 32 ∧
          ∀ f ∈ (t.cam c).frames, f.id = fr.id → f.ended = true ∧ bitOf f.fstat 3 = true)) ∧
    (∀ m : Marker, (s.slice k).fc = .fe c (some m) :: rest → s.openFrame c = none →
      ∃ t : State, exec (.feAtFrameCheck k) s = .next t ∧ (t.slice k).fc = rest ∧
        t.get (CAM.FC_ORPHAN c) = (s.get (CAM.FC_ORPHAN c) + 1) % 2 ^ 32 ∧
        t.get (CAM.FC_SLAG_BYTES c) = (s.get (CAM.FC_SLAG_BYTES c) + m.bodyLen) % 2 ^ 32 ∧
        t.bitAt (HDR.IRQ_STAT (gatePage (c / 2))) 10 = true)

/-- Noise reduction on lines (R144, R147, R150 to R156, R160 to R163): the displacement of a frame is computed once from the two
positions; a line is emitted as filtered and, with the temporal filter, written to the reference; writes are acknowledged in
any order and counted without gaps; a reference line is read and decoded, and raises REF_ERR at once where it cannot be used; a
hold times out with its lines missing. -/
def Obligations.NoiseReductionCommandsComplete : Prop :=
  (∀ (s : State) (c : Fin 256) (fr : Frame), s.stageRuns c = true → s.frameAtDisp c = some fr → fr.c = c →
    (fr.on (CAM.NR_CTRL_REG_EN c) = false → ∃ t : State, exec (.displacementCompute c) s = .next t ∧
      t.get (CAM.NR_LAST_D c) = 0 ∧ ∃ f ∈ (t.cam c).frames, f.id = fr.id ∧ f.dispDone = true ∧ f.d16 = 0) ∧
    (fr.on (CAM.NR_CTRL_REG_EN c) = true → ∀ p, fr.pos = some p → ∀ q, s.refPos c = some q → ∀ d inRange,
      displacement (sext 32 (fr.get (CAM.NR_REG_SCALE c))) (fr.get (CAM.NR_REG_MAX c)) p q = some (d, inRange) →
      ∃ t : State, exec (.displacementCompute c) s = .next t ∧ t.get (CAM.NR_LAST_D c) = toBits 32 d ∧
        (∃ f ∈ (t.cam c).frames, f.id = fr.id ∧ f.dispDone = true ∧ f.d16 = d ∧
          (inRange = false → fr.temporal = true → fr.cause = 0 → f.cause = 4)) ∧
        (inRange = false → fr.temporal = true → fr.cause = 0 →
          t.get (CAM.NR_NOREF_FRAMES c) = (s.get (CAM.NR_NOREF_FRAMES c) + 1) % 2 ^ 32 ∧
          t.bitAt (HDR.IRQ_STAT (camPage c)) 1 = true))) ∧
  (∀ (s : State) (c : Fin 256), s.stageRuns c = true → s.get (CAM.NR_HOLD c) ≠ 0 → s.on (CAM.NR_STATUS_HOLDING c) = true →
    ∃ t : State, exec (.holdTimeout c) s = .next t ∧ t.on (CAM.NR_STATUS_HOLDING c) = false ∧ (t.cam c).holdOver = true ∧
      t.get (CAM.NR_MISS_LINES c) = (s.get (CAM.NR_MISS_LINES c) + 1) % 2 ^ 32 ∧
      t.bitAt (HDR.IRQ_STAT (camPage c)) 0 = true) ∧
  (∀ (s : State) (c : Fin 256) (fr : Frame) (l : SLine), s.stageRuns c = true → s.frameInNr c = some fr → fr.c = c →
    fr.entered[fr.nr.length]? = some l → (fr.closed = true ∨ fr.nr.length + 3 ≤ fr.entered.length) →
    (fr.dispDone = true ∨ fr.get (CAM.NR_CTRL_MODE c) < 2) → fr.refsReady fr.nr.length l.cnt = true →
    let y := fr.nr.length
    ∃ (t : State) (m : SLine), exec (.nrLineEmit c) s = .next t ∧ m.pix = (fr.filterLine y l).1 ∧ m.cnt = l.cnt ∧
      (fr.refFailed y l.cnt = false → m.flags = l.flags) ∧ (∃ f ∈ (t.cam c).frames, f.id = fr.id ∧ f.nr = fr.nr ++ [m]) ∧
      (fr.temporal = true → t.hbmRead (refAddr c fr.writeBuf fr.w fr.bits y) (fr.refBytes (fr.filterLine y l).2).length =
        fr.refBytes (fr.filterLine y l).2) ∧
      (fr.temporal = false → t.hbm = s.hbm)) ∧
  (∀ (s : State) (c : Fin 256) (b : Fin 2) (y : Nat), s.running = true → s.anyChannelFenced = false →
    (y ∈ (s.refBuf c b).busy →
      (∃ t : State, exec (.refWriteAck c b y) s = .next t ∧ (t.refBuf c b).acked = y :: (s.refBuf c b).acked ∧
        (t.refBuf c b).busy = (s.refBuf c b).busy.erase y ∧
        t.get (refValid c b) = gapFree (y :: (s.refBuf c b).acked) ((s.refBuf c b).acked.length + 1) 0 % 2 ^ 24) ∧
      (∃ t : State, exec (.refWriteFail c b y) s = .next t ∧ (t.refBuf c b).acked = (s.refBuf c b).acked ∧
        (t.refBuf c b).busy = (s.refBuf c b).busy.erase y)) ∧
    (y ∉ (s.refBuf c b).busy → exec (.refWriteAck c b y) s = .next s ∧ exec (.refWriteFail c b y) s = .next s)) ∧
  (∀ (s : State) (c : Fin 256) (y : Nat) (fr : Frame), s.stageRuns c = true → s.anyChannelFenced = false →
    s.frameInNr c = some fr → fr.c = c → fr.useRef = true → (∀ v, (y, v) ∉ fr.refs) →
    y < s.get (refValid c fr.readBuf) → y < fr.h →
    (∃ t : State, exec (.refReadDone c y .good) s = .next t ∧ (∃ f ∈ (t.cam c).frames, f.id = fr.id ∧
        f.refs = fr.refs ++ [(y, s.readRef fr (refAddr c fr.readBuf fr.w fr.bits y))]) ∧
      (s.readRef fr (refAddr c fr.readBuf fr.w fr.bits y) = none → t.bitAt (HDR.IRQ_STAT (camPage c)) 2 = true)) ∧
    (∃ t : State, exec (.refReadDone c y .ue) s = .next t ∧ t.bitAt (HDR.IRQ_STAT (camPage c)) 2 = true ∧
      ∃ f ∈ (t.cam c).frames, f.id = fr.id ∧ f.refs = fr.refs ++ [(y, none)])) ∧
  (∀ (s : State) (c : Fin 256), s.hostOn = true →
    exec (.refReset c) s = .next (s.setCam c { s.cam c with resetDue := true }))

/-- Corrections, windows and statistics of a frame (R175, R178, R180, R181, R183, R190, R194, R248 to R250): the correction stages
emit the next line as R178 to R183 compute it, count what fettle replaced and report a table that cannot be read (R186); the
window engine sends the next output line as a packet; the statistics packet goes behind the frame's last window packet. -/
def Obligations.StageCommandsComplete : Prop :=
  ∀ (s : State) (c : Fin 256) (fr : Frame), s.stageRuns c = true → fr.c = c →
    (∀ (l : SLine) (bad : List Nat), s.frameInCorr c = some fr → fr.closed = false → fr.nr[fr.corr.length]? = some l →
      fr.corrReady fr.corr.length = true →
      (bitOf l.flags 2 = true → ∃ t : State, exec (.fettleLineEmit c bad) s = .next t ∧ t.regs = s.regs ∧
        ∃ f ∈ (t.cam c).frames, f.id = fr.id ∧ f.corr = fr.corr ++ [l]) ∧
      (bitOf l.flags 2 = false →
        let r := s.correctLine fr bad fr.corr.length l
        ∃ t : State, exec (.fettleLineEmit c bad) s = .next t ∧
          (∃ f ∈ (t.cam c).frames, f.id = fr.id ∧
            f.corr = fr.corr ++ [⟨r.1, if r.2.2 = true then setBitN l.flags 8 else l.flags, l.cnt⟩] ∧
            (r.2.2 = true → bitOf f.xstat 3 = true)) ∧
          (r.2.2 = true → t.bitAt (HDR.IRQ_STAT (camPage c)) 6 = true) ∧
          t.get (CAM.FT_FIXED c) = (s.get (CAM.FT_FIXED c) + r.2.1.1) % 2 ^ 32 ∧
          t.get (CAM.FT_DYN c) = (s.get (CAM.FT_DYN c) + r.2.1.2.1) % 2 ^ 32 ∧
          t.get (CAM.FT_UNFIXED c) = (s.get (CAM.FT_UNFIXED c) + r.2.1.2.2) % 2 ^ 32)) ∧
    (∀ (v : Win) (r : Nat), s.frameInWin c = some fr → fr.nextOut = some (v, r) →
      ∃ t : State, exec (.windowLineEmit c) s = .next t ∧ t.regs = s.regs ∧
        (t.prod (s.serving c)).todo = (s.prod (s.serving c)).todo ++ [fr.winPacket v r] ∧
        ∃ f ∈ (t.cam c).frames, f.id = fr.id ∧ f.nextRow v = r + 1) ∧
    (∀ b : Nat, (s.cam c).frames.find? (fun f => !f.statDone) = some fr → fr.statBank = some b → fr.winDone = true →
      ∃ t : State, exec (.statBankClose c) s = .next t ∧ t.regs = s.regs ∧
        (t.prod (s.serving c)).todo = (s.prod (s.serving c)).todo ++ [s.statPacket fr b] ∧
        ∃ f ∈ (t.cam c).frames, f.id = fr.id ∧ f.statDone = true)

/-- Calibration tables (R169 to R173, R182, R185, R300): a load starts; one of the first four ends with its bytes in HBM and the
bank valid, or with its failure recorded, and a later one waits; a write of COL_BANK that is not refused starts the copy; the copy ends; a grid geometry is set for a bank that
is not in use. -/
def Obligations.TableCommandsComplete : Prop :=
  (∀ (s : State) (c : Fin 256) (sel : Fin 4) (bank : Fin 2), s.hostOn = true →
    (s.loadRefusal c sel bank = none →
      ∃ t : State, exec (.tblLoad c sel bank) s = .next t ∧ t.on (CAM.TBL_STATUS_BUSY c) = true ∧ t.bankValid c sel bank = false ∧
        t.loads = s.loads ++
          [⟨c, sel, bank, s.get64 (CAM.TBL_HOST_LO c) (CAM.TBL_HOST_HI c), s.get (CAM.TBL_LEN c), 0⟩]) ∧
    (s.on (CAM.TBL_STATUS_BUSY c) = true → exec (.tblLoad c sel bank) s = .next (s.refuse (camPage c) 0x56)) ∧
    (s.on (CAM.TBL_STATUS_BUSY c) = false → (sel.val = 3 ∨ s.get (CAM.TBL_HOST_LO c) % 64 ≠ 0 ∨
        s.tblLenOk c sel bank = false) → exec (.tblLoad c sel bank) s = .next (s.refuse (camPage c) 0x55)) ∧
    (s.on (CAM.TBL_STATUS_BUSY c) = false → sel.val ≠ 3 → s.get (CAM.TBL_HOST_LO c) % 64 = 0 →
      s.tblLenOk c sel bank = true → s.bankInUse c sel bank = true →
      exec (.tblLoad c sel bank) s = .next (s.refuse (camPage c) 0x53))) ∧
  (∀ (s : State) (c : Fin 256) (r : LoadEnd), s.running = true → (s.loads.take 4).find? (fun y => y.port == c.val) = none →
    exec (.tblLoadDone c r) s = .next s) ∧
  (∀ (s : State) (c : Fin 256) (x : TableLoad), s.running = true →
    (s.loads.take 4).find? (fun y => y.port == c.val) = some x →
    x.sel < 3 → x.bank < 2 →
    (∀ bytes : List Byte, bytes.length = x.len → (x.sel = 0 → defectsOk bytes = true) → s.anyChannelFenced = false →
      ∃ t : State, exec (.tblLoadDone c (.data bytes)) s = .next t ∧ t.on (CAM.TBL_STATUS_BUSY c) = false ∧
        t.get (CAM.TBL_STATUS_RESULT c) = 0 ∧ t.bankValid c x.sel x.bank = true ∧
        t.get (CAM.TBL_LEN_USED c (2 * x.sel + x.bank)) = x.len % 2 ^ 20 ∧
        t.hbmRead (tableBase c + bankOffset x.sel x.bank) x.len = bytes ∧
        t.bitAt (HDR.IRQ_STAT (camPage c)) 3 = true) ∧
    (∃ t : State, exec (.tblLoadDone c .hostErr) s = .next t ∧ t.on (CAM.TBL_STATUS_BUSY c) = false ∧
      t.get (CAM.TBL_STATUS_RESULT c) = 1 ∧ t.hbm = s.hbm ∧ t.bitAt (HDR.IRQ_STAT (camPage c)) 4 = true)) ∧
  (∀ (s : State) (c : Fin 256) (bank : Fin 2), s.hostOn = true →
    let mode := s.get (CAM.FF_CTRL_MODE c)
    let noTable := (mode = 1 ∧ s.bankValid c 1 (s.get (CAM.FF_CTRL_GRID_BANK c)) = false) ∨
      (mode = 2 ∧ s.bankValid c 2 bank = false)
    (mode ≠ 3 → ¬ noTable →
      ∃ t : State, exec (.colBankWrite c bank) s = .next t ∧ t.get (CAM.FF_CTRL_COL_BANK c) = bank ∧
        t.on (CAM.FF_STATUS_COL_LOADING c) = true ∧ (t.cam c).copying = some bank.val) ∧
    (mode ≠ 3 → noTable → exec (.colBankWrite c bank) s = .next (s.refuse (camPage c) 0x54)) ∧
    (mode = 3 → exec (.colBankWrite c bank) s = .next (s.refuse (camPage c) 0x58))) ∧
  (∀ (s : State) (c : Fin 256) (b : Nat), s.stageRuns c = true → (s.cam c).copying = some b → s.anyChannelFenced = false →
    ∃ t : State, exec (.colCopyDone c .good) s = .next t ∧ t.on (CAM.FF_STATUS_COL_LOADING c) = false ∧
      (t.cam c).copying = none ∧ (t.cam c).copied = some b ∧
      tget (t.cam c).cols b [] = s.hbmRead (tableBase c + bankOffset 2 b) (s.get (CAM.TBL_LEN_USED c (4 + b)))) ∧
  (∀ (s : State) (c : Fin 256) (n : Fin 2) (v : Word), s.hostOn = true →
    (s.bankInUse c 1 n = true → exec (.ffGridWrite c n v) s = .next (s.refuse (camPage c) 0x53)) ∧
    (s.bankInUse c 1 n = false → (gridOf v).inRange = false →
      exec (.ffGridWrite c n v) s = .next (s.refuse (camPage c) 0x57)) ∧
    (s.bankInUse c 1 n = false → (gridOf v).inRange = true →
      exec (.ffGridWrite c n v) s = .next ((s.put (CAM.FF_GRID c n) v.toNat).putBit (CAM.TBL_STATUS_VALID c) (2 + n) false)))

/-- Enable and disable of seam and mould units (R129, R134 to R136, R203, R210, R217, R218): an enable whose tests pass books the
unit's demand and starts it empty; a disable takes the demand back. -/
def Obligations.UnitEnableCommandsComplete : Prop :=
  (∀ (s : State) (u : Fin 4), s.hostOn = true →
    (s.on (HDR.CTRL_ENABLE (seamPage u)) = false → s.seamRefusal u = none →
      ∃ t : State, exec (.seamEnable u) s = .next t ∧ t.on (HDR.CTRL_ENABLE (seamPage u)) = true ∧
        t.get (SEAM.ADM_VEC u) = s.seamVec s.demand u % 2 ^ 32 ∧ t.get (SEAM.ADM_HBM u) = s.seamHbm s.demand u % 2 ^ 32 ∧
        t.get DEV.ADM_HBM_TOTAL = (s.get DEV.ADM_HBM_TOTAL + s.seamHbm s.demand u) % 2 ^ 32 ∧
        t.get (SEAM.SEAM_LINE u) = 0 ∧ (t.seam u).store = []) ∧
    (∀ code, s.on (HDR.CTRL_ENABLE (seamPage u)) = false → s.seamRefusal u = some code →
      exec (.seamEnable u) s = .next (s.refuse (seamPage u) code)) ∧
    (s.on (HDR.CTRL_ENABLE (seamPage u)) = true → exec (.seamEnable u) s = .next s ∧
      ∃ t : State, exec (.seamDisable u) s = .next t ∧ t.on (HDR.CTRL_ENABLE (seamPage u)) = false ∧
        t.get (SEAM.ADM_VEC u) = 0 ∧ t.get (SEAM.ADM_HBM u) = 0) ∧
    (s.on (HDR.CTRL_ENABLE (seamPage u)) = false → exec (.seamDisable u) s = .next s)) ∧
  (∀ (s : State) (m : Fin 8), s.hostOn = true →
    (s.on (HDR.CTRL_ENABLE (mouldPage m)) = false → s.mouldRefusal m = none →
      ∃ t : State, exec (.mouldEnable m) s = .next t ∧ t.on (HDR.CTRL_ENABLE (mouldPage m)) = true ∧
        t.get (MOULD.ADM_HBM m) = s.mouldHbm m % 2 ^ 32 ∧
        t.get DEV.ADM_HBM_TOTAL = (s.get DEV.ADM_HBM_TOTAL + s.mouldHbm m) % 2 ^ 32 ∧
        (t.mould m).n = 0 ∧ (t.mould m).reading = none) ∧
    (∀ code, s.on (HDR.CTRL_ENABLE (mouldPage m)) = false → s.mouldRefusal m = some code →
      exec (.mouldEnable m) s = .next (s.refuse (mouldPage m) code)) ∧
    (s.on (HDR.CTRL_ENABLE (mouldPage m)) = true → exec (.mouldEnable m) s = .next s ∧
      ∃ t : State, exec (.mouldDisable m) s = .next t ∧ t.on (HDR.CTRL_ENABLE (mouldPage m)) = false ∧
        t.get (MOULD.ADM_HBM m) = 0) ∧
    (s.on (HDR.CTRL_ENABLE (mouldPage m)) = false → exec (.mouldDisable m) s = .next s))

/-- Seam units (R204 to R210, R275): a member packet that fits is stored in HBM under its index, a packet of a wrong length or a
compressed one is counted as bad, one behind the current strip line or stored already as late; a packet with an uncorrectable
link entry is slag and its queue is fenced; a complete strip line goes out in segments with the columns of R208; a time-out
forces the line and reports its missing members, those whose slot cannot be read among them. -/
def Obligations.SeamCommandsComplete : Prop :=
  (∀ (s : State) (u : Fin 4) (i : Fin 32) (p : Packet), s.seamRuns u = true → s.seamBinds u i = true →
    let q := s.get (SEAM.MEM_QUEUE u i)
    (s.queue q).claimed = some p →
    let k := s.memberIndex u i p.hdr.shot p.hdr.line
    ((∀ n ∈ p.cells, s.linkEcc n .good = .good) → s.anyChannelFenced = false →
      ((p.payload.length ≠ s.get (SEAM.MEM_WIDTH u i) * s.seamSample u ∨ bitOf p.hdr.hflags 2 = true) →
        ∃ t : State, exec (.seamPacket u i [] []) s = .next t ∧
          t.get (SEAM.SEAM_BAD_PKT u) = (s.get (SEAM.SEAM_BAD_PKT u) + 1) % 2 ^ 32 ∧
          t.bitAt (HDR.IRQ_STAT (seamPage u)) 1 = true ∧ t.markedBad u i k = true) ∧
      (p.payload.length = s.get (SEAM.MEM_WIDTH u i) * s.seamSample u → bitOf p.hdr.hflags 2 = false →
        (serialLt k (s.needIndex u i) = true ∨ s.stored u i k ≠ none → ∃ t : State, exec (.seamPacket u i [] []) s = .next t ∧
          t.get (SEAM.SEAM_LATE u) = (s.get (SEAM.SEAM_LATE u) + 1) % 2 ^ 32 ∧ (t.seam u).store = (s.seam u).store ∧
          (t.queue q).claimed = none) ∧
        (serialLt k (s.needIndex u i) = false → s.stored u i k = none → serialDiff k (s.needIndex u i) < 1024 →
          ∃ (t : State) (x : SeamSlot), exec (.seamPacket u i [] []) s = .next t ∧
            (t.seam u).store = (s.seam u).store ++ [x] ∧ x.member = i.val ∧ x.k = k ∧
            x.bad = false ∧ x.shot = p.hdr.shot ∧ x.line = p.hdr.line ∧
            t.slotSamples u i k = (chunks (s.seamSample u) p.payload).map leNat ∧ (t.queue q).claimed = none))) ∧
    (2 ≤ p.cells.length → s.linkEcc (p.cells.headD 0) .good = .ue →
      ∃ t : State, exec (.seamPacket u i [] []) s = .next t ∧ t.on (QD.Q_STATUS_FENCED q) = true ∧
        t.get (LADLE.LINK_UE (homeBank q)) = (s.get (LADLE.LINK_UE (homeBank q)) + 1) % 2 ^ 32 ∧
        t.get (LADLE.LINK_UE_CELL (homeBank q)) = p.cells.headD 0 % 2 ^ 24)) ∧
  (∀ (s : State) (u : Fin 4) (bad : List (Nat × Nat)), s.seamRuns u = true →
    (s.lineReady u = true →
      let ms := (List.range (s.seamMembers u)).map (fun i => (s.stripMember u i (s.slotBad u i bad)).1)
      let top := if s.on (SEAM.SEAM_CFG_SAMPLE u) then 255 else 65535
      let cols := (List.range (s.get (SEAM.SEAM_WIDTH u))).map (fun x =>
        (stripColumn ms top x).getD (s.get (SEAM.SEAM_PAD u)))
      ∃ (t : State) (ps : List Packet), exec (.seamLineForm u bad) s = .next t ∧
        (t.prod (33 + u)).todo = (s.prod (33 + u)).todo ++ ps ∧
        (ps.map (fun p => p.payload)).flatten = (cols.map (leBytes (s.seamSample u))).flatten ∧
        (∀ p ∈ ps, p.queue = s.get (SEAM.SEAM_QUEUE_QUEUE u) ∧ p.hdr.kind = 4 ∧ p.hdr.line = s.get (SEAM.SEAM_LINE u)) ∧
        t.get (SEAM.SEAM_LINE u) = (s.get (SEAM.SEAM_LINE u) + 1) % 2 ^ 32) ∧
    (s.get (SEAM.SEAM_TIMEOUT u) ≠ 0 → s.lineStarted u = true →
      (s.lineReady u = true → exec (.seamTimeout u bad) s = exec (.seamLineForm u bad) s) ∧
      (s.lineReady u = false →
        let gone := (List.range (s.seamMembers u)).filter (fun i =>
          s.memberMissing u i || (s.stored u i (s.needIndex u i)).isNone || s.slotBad u i bad)
        ∃ t : State, exec (.seamTimeout u bad) s = .next t ∧
          t.get (SEAM.SEAM_FORCED u) = (s.get (SEAM.SEAM_FORCED u) + 1) % 2 ^ 32 ∧
          t.get (SEAM.SEAM_MISS_LINES u) = (s.get (SEAM.SEAM_MISS_LINES u) + gone.length) % 2 ^ 32 ∧
          t.get (SEAM.SEAM_MISS_MASK u) = gone.foldl setBitN 0 % 2 ^ 32 ∧
          t.get (SEAM.SEAM_LINE u) = (s.get (SEAM.SEAM_LINE u) + 1) % 2 ^ 32 ∧
          t.get (SEAM.SEAM_SKIPPED u) = s.get (SEAM.SEAM_SKIPPED u) ∧ t.bitAt (HDR.IRQ_STAT (seamPage u)) 0 = true)))

/-- Mould units (R211, R214, R216, R217): a packet without its source is bad, a middle line of a source frame joins it; an output
frame comes due and is read out, or is skipped while one is read out; the next panel line goes out as a packet; a tile without
news is stale. -/
def Obligations.MouldCommandsComplete : Prop :=
  ∀ (s : State) (m : Fin 8), s.mouldRuns m = true →
    (∀ (n : Fin 64) (p : Packet), s.mouldBinds m n = true → s.get (MOULD.TILE_SRC_KIND m n) < 2 → s.nofit m n = false →
      (s.queue (s.get (MOULD.TILE_SRC_QUEUE m n))).claimed = some p →
      (∀ n ∈ p.cells, s.linkEcc n .good = .good) → s.anyChannelFenced = false →
      (s.tileSource m n = none → ∃ t : State, exec (.mouldPacket m n []) s = .next t ∧
        t.get (MOULD.BAD_PKT m) = (s.get (MOULD.BAD_PKT m) + 1) % 2 ^ 32 ∧ t.bitAt (HDR.IRQ_STAT (mouldPage m)) 2 = true) ∧
      (∀ (x : TileSource) (f : TileFrame), s.tileSource m n = some x → x.strip = false → x.packed = false →
        p.hdr.hflags % 8 = 0 → p.payload.length = x.width * x.bytes → s.on (MOULD.TILE_CTRL_MODE m n) = false →
        (s.tile m n).cur = some f →
        ∃ t : State, exec (.mouldPacket m n []) s = .next t ∧ (t.tile m n).cur = some { f with
          lines := f.lines ++ [(p.hdr.line, [(0, (chunks x.bytes p.payload).map leNat)])] } ∧
          (t.queue (s.get (MOULD.TILE_SRC_QUEUE m n))).claimed = none)) ∧
    ((s.mould m).reading = none → ∃ t : State, exec (.mouldFrameStart m) s = .next t ∧
      (t.mould m).reading = some ((s.mould m).n, 0) ∧ (t.mould m).n = (s.mould m).n + 1 ∧
      t.get (MOULD.FRAME_COUNT m) = (s.get (MOULD.FRAME_COUNT m) + 1) % 2 ^ 32 ∧
      (t.mould m).bg = s.get (MOULD.BG_COLOUR m)) ∧
    (∀ r, (s.mould m).reading = some r → ∃ t : State, exec (.mouldFrameStart m) s = .next t ∧ (t.mould m).reading = some r ∧
      (t.mould m).n = (s.mould m).n + 1 ∧ t.get (MOULD.FRAME_SKIP m) = (s.get (MOULD.FRAME_SKIP m) + 1) % 2 ^ 32 ∧
      t.bitAt (HDR.IRQ_STAT (mouldPage m)) 0 = true) ∧
    (∀ n y bad, (s.mould m).reading = some (n, y) → ∃ t : State, exec (.mouldLineReadout m bad) s = .next t ∧
      (bad = [] → s.hbmRests = false → t.regs = s.regs) ∧
      (t.prod (37 + m)).todo = (s.prod (37 + m)).todo ++ [s.panelPacket m n y bad] ∧
      (t.mould m).reading = (if s.get (MOULD.MOULD_SIZE_HEIGHT m) ≤ y + 1 then none else some (n, y + 1))) ∧
    (∀ n : Fin 64, s.get (MOULD.STALE_MS m) ≠ 0 → s.tileOn m n = true → s.isStale m n = false →
      exec (.tileStale m n) s = .next ((s.setStale m n true).raise (mouldPage m) 1))

/-- Trigger sources (R225, R226, R228, R229, R234): an edge of an input pin, a firing of a timer and a software trigger give every
schedule that takes them its instant; an encoder counts one step or notes an error, and holds its position while an input is
open or shorted (R455); its index latches or clears the position. -/
def Obligations.TriggerCommandsComplete : Prop :=
  (∀ (s : State) (n : Fin 64) (rising : Bool) (t8 : Nat), s.running = true → s.on (TRG.PIN_CFG_DIR n) = false →
    ∃ t : State, exec (.pinEdge n rising t8) s = .next t ∧
      t.bitAt (if n.val < 32 then TRG.PIN_IN_LO else TRG.PIN_IN_HI) (n % 32) = rising ∧ t.now = max s.now (t8 / 8) ∧
      (s.fabricFenced = false → (s.get (TRG.PIN_CFG_EDGE n) = 2 ∨ s.get (TRG.PIN_CFG_EDGE n) = (if rising then 0 else 1)) →
        ∀ c < 256, s.takes c 0 n →
          (t.sched c).pend = insertPend (s.sched c).pend ⟨t8 + 8 * s.get (CAM.SCHED_DELAY c), false⟩)) ∧
  (∀ (s : State) (e : Fin 8) (a b : Bool) (at_ : Nat), s.running = true →
    (s.on (TRG.ENC_CFG_EN e) = false ∨ s.isLive (trgPage 1) 0 e = true →
      exec (.encoderEdge e a b at_) s = .next ((s.reach at_).setEnc e ⟨a, b⟩)) ∧
    (s.on (TRG.ENC_CFG_EN e) = true → s.isLive (trgPage 1) 0 e = false → a ≠ (s.enc e).a → b ≠ (s.enc e).b →
      ∃ t : State, exec (.encoderEdge e a b at_) s = .next t ∧ t.encPos e = s.encPos e ∧ t.bitAt (HDR.IRQ_STAT (trgPage 1)) e = true) ∧
    (∀ up, s.on (TRG.ENC_CFG_EN e) = true → s.isLive (trgPage 1) 0 e = false → (a = (s.enc e).a ∨ b = (s.enc e).b) → ¬(a = (s.enc e).a ∧ b = (s.enc e).b) →
      s.encFenced e = false → (∀ k < 32, s.on (TRG.CMP_CFG_EN k) = false) →
      countOf (s.get (TRG.ENC_CFG_MODE e)) (s.enc e).a (s.enc e).b a b = some up →
      ∃ t : State, exec (.encoderEdge e a b at_) s = .next t ∧ t.enc e = ⟨a, b⟩ ∧
        t.encPos e = (if xor up (s.on (TRG.ENC_CFG_INVERT e)) = true then s.encPos e + 1 else s.encPos e + 2 ^ 48 - 1) %
          2 ^ 48)) ∧
  (∀ (s : State) (e : Fin 8), s.running = true → s.on (TRG.ENC_CFG_EN e) = true →
    (s.get (TRG.ENC_CFG_Z_MODE e) = 1 → ∃ t : State, exec (.encoderIndex e) s = .next t ∧
      t.get64 (TRG.ENC_ZLATCH_LO e) (TRG.ENC_ZLATCH_HI e) = s.encPos e ∧ t.bitAt (HDR.IRQ_STAT (trgPage 1)) (8 + e) = true) ∧
    (s.get (TRG.ENC_CFG_Z_MODE e) = 2 → s.encFenced e = false → s.isLive (trgPage 1) 0 e = false → ∃ t : State, exec (.encoderIndex e) s = .next t ∧ t.encPos e = 0 ∧
      t.bitAt (HDR.IRQ_STAT (trgPage 1)) (8 + e) = true)) ∧
  (∀ (s : State) (e : Fin 8), s.hostOn = true → s.encFenced e = false → exec (.encLoad e) s = .next
    (s.put64 (TRG.ENC_POS_LO e) (TRG.ENC_POS_HI e) (s.get64 (TRG.ENC_SET_LO e) (TRG.ENC_SET_HI e) % 2 ^ 48))) ∧
  (∀ (s : State) (k : Fin 16), s.hostOn = true → s.on (TRG.TMR_CFG k) = false →
    ∃ t : State, exec (.timerEnable k) s = .next t ∧ t.on (TRG.TMR_CFG k) = true ∧
      t.timer k = ⟨s.timerFirst k (s.now + 1000)⟩) ∧
  (∀ (s : State) (k : Fin 16), s.running = true → s.on (TRG.TMR_CFG k) = true →
    ∃ t : State, exec (.timerFire k) s = .next t ∧ t.now = max s.now (s.timer k).next ∧
      t.get (TRG.TMR_COUNT k) = (s.get (TRG.TMR_COUNT k) + 1) % 2 ^ 32 ∧
      t.timer k = ⟨(s.timer k).next + s.get (TRG.TMR_PERIOD k)⟩ ∧
      (s.fabricFenced = false → ∀ c < 256, s.takes c 2 k → (t.sched c).pend =
        insertPend (s.sched c).pend ⟨8 * (s.timer k).next + 8 * s.get (CAM.SCHED_DELAY c), false⟩)) ∧
  (∀ (s : State) (g : Fin 8) (groups : Fin 256), s.hostOn = true → groups.val = 2 ^ g.val → s.fabricFenced = false →
    ∃ t : State, exec (.swTrig groups) s = .next t ∧ ∀ c < 256, s.takes c 3 g → (t.sched c).pend =
      insertPend (s.sched c).pend ⟨8 * (s.now + if s.time.frac = 0 then 0 else 1) + 8 * s.get (CAM.SCHED_DELAY c), true⟩)

/-- Schedules and shots (R230, R231, R233, R235 to R237, R242, R244): a schedule without OUT_SYMBOL counts from its enable, one
with it writes SHOT_CTRL first; a disable discards its instants; an issue takes the earliest instant, advances SHOT_NEXT, writes
the record, over one that the ledger still held, drives the outputs, and brings a delivered commit into force or marks the shot
LATE; the strobe of a port that ends first ends at its time. -/
def Obligations.ShotCommandsComplete : Prop :=
  (∀ (s : State) (c : Fin 256), s.hostOn = true →
    let w := setBits (s.word (camPage c + 0x800)) 31 31 1
    (s.schedOn c = false → s.portEnabled c = false → exec (.schedEnable c) s = .next (s.refuse (camPage c) 0x67)) ∧
    (s.schedOn c = false → s.portEnabled c = true → s.schedValid c w = false →
      exec (.schedEnable c) s = .next (s.refuse (camPage c) 0x61)) ∧
    (s.schedOn c = false → s.portEnabled c = true → s.schedValid c w = true → getBits w 9 9 = 0 →
      ∃ t : State, exec (.schedEnable c) s = .next t ∧ t.word (camPage c + 0x800) = w ∧ t.schedOn c = true ∧
        t.on (CAM.SHOT_STATUS_SYNC c) = true ∧ (t.sched c).j = 0 ∧ (t.sched c).pend = []) ∧
    (s.schedOn c = false → s.portEnabled c = true → s.schedValid c w = true → getBits w 9 9 = 1 → s.portDown c = false →
      let be := s.on (BRG.PORT_CFG_BE (c.val / 2) (c % 2))
      let v := s.get (CAM.SHOT_NEXT c) % 65536
      ∃ (t : State) (r : Req), exec (.schedEnable c) s = .next t ∧ t.word (camPage c + 0x800) = w ∧ t.schedOn c = true ∧
        t.on (CAM.SHOT_STATUS_SYNC c) = s.on (CAM.SHOT_STATUS_SYNC c) ∧ (t.sched c).pend = [] ∧
        (t.engine (c.val / 2)).reqs = (s.engine (c.val / 2)).reqs ++ [r] ∧ r.purpose = .shotCtrl ∧
        r.addr = (if be = (c.val % 2 == 0) then 0x22 else 0x20) ∧
        r.data = (if be = true then beBytes 2 v else leBytes 2 v)) ∧
    (s.schedOn c = true → ∃ t : State, exec (.schedDisable c) s = .next t ∧ t.schedOn c = false ∧
      t.on (CAM.SHOT_STATUS_SYNC c) = false ∧ (t.sched c).pend = []) ∧
    (∀ v : Word, (s.schedOn c = true → exec (.shotSet c v) s = .next (s.refuse (camPage c) 0x60)) ∧
      (s.schedOn c = false → exec (.shotSet c v) s = .next (s.put (CAM.SHOT_NEXT c) v.toNat)))) ∧
  (∀ (s : State) (c : Fin 256) (p : Pend) (rest : List Pend), s.running = true → s.fabricFenced = false →
    s.groupFenced c = false → (s.sched c).pend = p :: rest →
    let n := s.get (CAM.SHOT_NEXT c)
    let old := s.record c n
    let missed := old.held && (s.sched c).outst.any (fun x => x.1 == old.shot)
    ∃ t : State, exec (.shotIssue c) s = .next t ∧ t.get (CAM.SHOT_NEXT c) = (n + 1) % 2 ^ 32 ∧ (t.sched c).pend = rest ∧
      (t.sched c).last8 = some p.t8 ∧
      (t.sched c).outst = (if missed = true then (s.sched c).outst.filter (fun x => x.1 != old.shot) else (s.sched c).outst) ++
        [(n, s.on (CAM.SCHED_CFG_OUT_SYMBOL c))] ∧
      t.get (CAM.LEDGER_LOST c) = (s.get (CAM.LEDGER_LOST c) + b2n (old.held && old.frameOpen)) % 2 ^ 32 ∧
      (missed = true → t.get (CAM.FC_MISSING_FRAME c) = (s.get (CAM.FC_MISSING_FRAME c) + 1) % 2 ^ 32 ∧
        t.bitAt (HDR.IRQ_STAT (gatePage (c.val / 2))) 11 = true) ∧
      t.holdsShot c n = true ∧ (t.record c n).tTrig = p.t8 / 8 ∧ (t.record c n).version = t.get (CAM.VER_APPLIED c) ∧
      (t.link c).fsSince = false ∧ t.now = max s.now (p.t8 / 8) ∧
      (s.on (CAM.SCHED_CFG_OUT_SYMBOL c) = true → ⟨c % 2, 0, p.t8 / 8, n⟩ ∈ (t.engine (c.val / 2)).pairs) ∧
      (s.on (CAM.SCHED_CFG_OUT_STROBE c) = true → t.strobes = s.strobes ++
        [⟨c, s.get (CAM.SCHED_CFG_STROBE_PIN c), p.t8 + 40, p.t8 + 40 + 8 * s.get (CAM.SCHED_WIDTH c)⟩]) ∧
      ((s.sched c).commits = [] → t.get (CAM.VER_APPLIED c) = s.get (CAM.VER_APPLIED c)) ∧
      (∀ x : Commit, (s.sched c).commits = [x] → x.slot < 8 → x.delivered = true → x.failed = false →
        (x.target = none ∨ x.target = some n) →
        (8 * x.tAck + 8000 * s.get (CAM.SETTLE_LEAD c) ≤ p.t8 → t.get (CAM.VER_APPLIED c) = x.version % 2 ^ 32 ∧
          (t.sched c).commits = [] ∧ t.slotState c x.slot = 0 ∧ t.on (CAM.SET_STATUS c) = false ∧
          t.bitAt (HDR.IRQ_STAT (camPage c)) 7 = true) ∧
        (p.t8 < 8 * x.tAck + 8000 * s.get (CAM.SETTLE_LEAD c) → t.get (CAM.VER_APPLIED c) = s.get (CAM.VER_APPLIED c) ∧
          (t.sched c).commits = [x] ∧
          (x.target = some n → bitOf (t.record c n).flags 4 = true ∧ t.bitAt (HDR.IRQ_STAT (camPage c)) 8 = true)))) ∧
  (∀ (s : State) (c : Fin 256) (x : Strobe), s.running = true → s.firstStrobe c = some x →
    (∀ y ∈ s.strobes, y.port = c.val → x.t8 ≤ y.t8) ∧
    ∃ t : State, exec (.strobeEnd c) s = .next t ∧ t.strobes = s.strobes.erase x ∧ t.now = max s.now (x.t8 / 8) ∧
      (s.on (TRG.PIN_CFG_DIR x.pin) = true → t.out = .pin x.pin (xor ((s.strobes.erase x).any (fun y => y.pin == x.pin &&
        decide (y.on8 ≤ x.t8) && decide (x.t8 < y.t8))) (s.on (TRG.PIN_CFG_ACTIVE_LOW x.pin))) x.t8 :: s.out))

/-- Settings commits and ledger look-ups (R239 to R241, R244, R246): a commit takes the next version and waits; its delivery
begins with its writes at the section engine, or ends at once without any; a look-up shows a held record. -/
def Obligations.SettingsAndLedgerCommandsComplete : Prop :=
  (∀ (s : State) (c : Fin 256) (slot : Fin 8), s.hostOn = true →
    (s.slotState c slot ≠ 0 → exec (.settingsCommit c slot) s = .next (s.refuse (camPage c) 0x64) ∧
      exec (.settingsCommitNext c slot) s = .next (s.refuse (camPage c) 0x64)) ∧
    (s.slotState c slot = 0 → (∃ w ∈ s.slotWrites c slot, w.1 % 4 ≠ 0) →
      exec (.settingsCommit c slot) s = .next (s.refuse (camPage c) 0x63) ∧
      exec (.settingsCommitNext c slot) s = .next (s.refuse (camPage c) 0x63)) ∧
    (s.slotState c slot = 0 → (∀ w ∈ s.slotWrites c slot, w.1 % 4 = 0) →
      let v := (s.get (CAM.VER_LAST c) + 1) % 2 ^ 32
      (∃ (t : State) (x : Commit), exec (.settingsCommitNext c slot) s = .next t ∧ t.get (CAM.VER_LAST c) = v ∧ t.slotState c slot = 1 ∧
        (t.sched c).commits = (s.sched c).commits ++ [x] ∧ x.slot = slot.val ∧ x.version = v ∧ x.target = none ∧
        x.writes = s.slotWrites c slot) ∧
      (serialLt (s.get (CAM.SET_TARGET c)) (s.get (CAM.SHOT_NEXT c)) = true →
        exec (.settingsCommit c slot) s = .next (s.refuse (camPage c) 0x65)) ∧
      (serialLt (s.get (CAM.SET_TARGET c)) (s.get (CAM.SHOT_NEXT c)) = false →
        (∃ x ∈ (s.sched c).commits, ∃ v, x.target = some v ∧ serialLt (s.get (CAM.SET_TARGET c)) v = true) →
        exec (.settingsCommit c slot) s = .next (s.refuse (camPage c) 0x66)) ∧
      (serialLt (s.get (CAM.SET_TARGET c)) (s.get (CAM.SHOT_NEXT c)) = false → (s.sched c).commits = [] →
        ∃ (t : State) (x : Commit), exec (.settingsCommit c slot) s = .next t ∧ t.get (CAM.VER_LAST c) = v ∧ t.slotState c slot = 1 ∧
          (t.sched c).commits = [x] ∧ x.slot = slot.val ∧ x.version = v ∧ x.target = some (s.get (CAM.SET_TARGET c)) ∧
          x.writes = s.slotWrites c slot))) ∧
  (∀ (s : State) (c : Fin 256) (x : Commit) (w : Nat), s.running = true →
    (s.sched c).commits.find? (fun y => !y.delivered) = some x → x.delivering = false → s.deliveryWait c x = some w →
    x.slot < 8 →
    (x.writes = [] → ∃ t : State, exec (.settingsDeliveryStart c) s = .next t ∧ t.slotState c x.slot = 3 ∧ t.now = max s.now w) ∧
    (x.writes ≠ [] → s.portDown c = false → ∃ t : State, exec (.settingsDeliveryStart c) s = .next t ∧
      t.slotState c x.slot = 2 ∧ t.now = max s.now w ∧
      (t.engine (c / 2)).reqs.map (fun r => (r.port, r.op, r.cls, r.purpose, r.addr, r.data)) =
        (s.engine (c / 2)).reqs.map (fun r => (r.port, r.op, r.cls, r.purpose, r.addr, r.data)) ++
        x.writes.map (fun a => (c.val, 1, 2, .settings x.slot, a.1, s.diWord c a.2)))) ∧
  (∀ (s : State) (k : Fin 16) (shot : Word), s.hostOn = true →
    let c := 16 * k.val + s.get (SHOT.LEDGER_PORT k)
    s.groupFenced c = false →
    (s.holdsShot c shot.toNat = true → ∃ t : State, exec (.ledgerLookup k shot) s = .next t ∧ t.get (SHOT.LEDGER_STATUS k) = 1 ∧
      ∀ i < 8, t.get (SHOT.LEDGER_REC k i) = leAt (s.record c shot.toNat).bytes (4 * i) 4) ∧
    (s.holdsShot c shot.toNat = false → ∃ t : State, exec (.ledgerLookup k shot) s = .next t ∧
      t.get (SHOT.LEDGER_STATUS k) = (if serialLt shot.toNat (s.get (CAM.SHOT_NEXT c)) = true then 2 else 4) ∧
      ∀ i < 8, t.get (SHOT.LEDGER_REC k i) = 0))

/-- Fault occurrences (R353 to R355, R357, R359, R361, R371, R375, R377, R390) at a site of a page whose bit rises: FAULT_STICKY is
set and FAULT_FIRST takes it where it holds none; class C does nothing more, class U fences a seam unit and starts the
escalation timer of a check unit, class F quenches. An injected one needs its injection, ends it and is tagged. At a condition
site with the bit at 1 already another sub-unit only joins; a condition that clears leaves FAULT_STICKY. The pulse begins a
transfer over the page's crossing or is counted behind one, and at 15 it leaves the same, counted in CLK.XING_LOST. -/
def Obligations.FaultOccurrencesComplete : Prop :=
  ∀ (s : State) (page : Fin 4096) (bit : Fin 32) (detail : Fin 65536) (loc : Nat) (p : Page) (n : Nat), s.awake = true →
    hdrPage (page * 0x1000) = some (p, n) →
    let a := pageAddr p n
    let x := s.xing (xingOf a true)
    (s.detailOk p n bit detail = true → s.canOccur p n bit detail loc = true → s.isLive a bit detail = false →
      s.alreadyLive p n bit = false → s.quenched = false → p ≠ .clk → p ≠ .ladle → p ≠ .hbm → p ≠ .gate → p ≠ .pwr →
      p ≠ .dev → ∀ acked : Bool,
      (s.siteClass a bit = 0 → ∃ t : State, exec (.faultOccurrence page bit detail true acked loc) s = .next t ∧
        t.bitAt (HDR.FAULT_STICKY a) bit = true ∧ t.bitAt (HDR.FAULT_INJ_TAGGED a) bit = false ∧ t.quenched = false ∧
        t.on (HDR.FAULT_REACT_FENCED a) = s.on (HDR.FAULT_REACT_FENCED a) ∧
        bitOf (t.liveBits a) bit = true ∧
        (s.on (HDR.FAULT_FIRST_VALID a) = false → t.on (HDR.FAULT_FIRST_VALID a) = true ∧
          t.get (HDR.FAULT_FIRST_BIT a) = bit ∧ t.get (HDR.FAULT_FIRST_DETAIL a) = detail ∧
          t.get (HDR.FAULT_FIRST_CLASS a) = 0 ∧ t.on (HDR.FAULT_FIRST_INJECTED a) = false ∧
          t.get64 (HDR.FAULT_FIRST_TIME_LO a) (HDR.FAULT_FIRST_TIME_HI a) = s.now % 2 ^ 64) ∧
        (x.busy = false → acked = false → t.xing (xingOf a true) = { x with busy := true }) ∧
        (acked = true → x.count = 0 → t.xing (xingOf a true) = { x with busy := true }) ∧
        (acked = true → x.count ≠ 0 → t.xing (xingOf a true) = { x with busy := true, count := 1 }) ∧
        (x.busy = true → acked = false → x.count < 15 → t.xing (xingOf a true) = { x with count := x.count + 1 } ∧
          t.get CLK.XING_LOST = s.get CLK.XING_LOST) ∧
        (x.busy = true → acked = false → 15 ≤ x.count → t.xing (xingOf a true) = { x with lost := true } ∧
          t.get CLK.XING_LOST = (s.get CLK.XING_LOST + 1) % 2 ^ 32 ∧ t.get CLK.XING_LOST_SRC = page ∧
          t.bitAt (HDR.IRQ_STAT clkPage) 0 = true)) ∧
      (s.siteClass a bit = 0 → s.armedAt a bit detail = true →
        ∃ t : State, exec (.faultOccurrence page bit detail false acked loc) s = .next t ∧
          t.bitAt (HDR.FAULT_STICKY a) bit = true ∧ t.on (HDR.FAULT_INJ_ARMED a) = false ∧ t.armedOf a = none ∧
          (s.bitAt (HDR.FAULT_STICKY a) bit = false → t.bitAt (HDR.FAULT_INJ_TAGGED a) bit = true) ∧
          (s.on (HDR.FAULT_FIRST_VALID a) = false → t.on (HDR.FAULT_FIRST_INJECTED a) = true)) ∧
      (s.armedAt a bit detail = false → exec (.faultOccurrence page bit detail false acked loc) s = .next s) ∧
      (s.siteClass a bit = 1 → p = .seam → ∃ t : State, exec (.faultOccurrence page bit detail true acked loc) s = .next t ∧
        t.bitAt (HDR.FAULT_STICKY a) bit = true ∧ t.on (HDR.FAULT_REACT_FENCED a) = true) ∧
      (s.siteClass a bit = 1 → p = .chk → s.chkFenced n = false → s.on (HDR.ESC_STATUS_RUNNING a) = false →
        s.get (HDR.ESC_TIMER a) ≠ 0 →
        ∃ t : State, exec (.faultOccurrence page bit detail true acked loc) s = .next t ∧ t.bitAt (HDR.FAULT_STICKY a) bit = true ∧
          t.on (HDR.ESC_STATUS_RUNNING a) = true ∧ t.on (HDR.FAULT_REACT_FENCED a) = false) ∧
      (s.siteClass a bit = 2 → ∃ t : State, exec (.faultOccurrence page bit detail true acked loc) s = .next t ∧
        t.bitAt (HDR.FAULT_STICKY a) bit = true ∧ t.quenched = true ∧ t.get DEV.QUENCH_STATUS_CAUSE = 1 ∧
        t.get DEV.QUENCH_STATUS_BIT = bit ∧ t.get DEV.QUENCH_DETAIL = detail ∧ t.on POUR.POUR_STATUS_STOPPED = true)) ∧
    (s.isLive a bit detail = true → p ≠ .clk → ∀ real acked : Bool,
      exec (.faultOccurrence page bit detail real acked loc) s = .next s) ∧
    (s.detailOk p n bit detail = true → s.canOccur p n bit detail loc = true → s.isLive a bit detail = false →
      s.alreadyLive p n bit = true → s.quenched = false → p ≠ .clk → p ≠ .ladle → p ≠ .hbm → p ≠ .gate → p ≠ .pwr → p ≠ .dev →
      ∀ acked : Bool, exec (.faultOccurrence page bit detail true acked loc) s = .next (s.setLive a bit detail true)) ∧
    (s.isLive a bit detail = true → p ≠ .clk → p ≠ .pwr →
      exec (.conditionSiteClears page bit detail) s = .next (s.setLive a bit detail false))

/-- Commands on the fault registers of a page (R353, R354, R362 to R364, R375, R376, R471): what each leaves, and what it is
refused for; an acknowledgement at the expiry or after it comes too late (R363). The end of a remap or return of a slice (R368, R370): its ports have their new server, and LAST_INTERRUPT its length. -/
def Obligations.FaultCommandsComplete : Prop :=
  (∀ (s : State) (page : Fin 4096) (p : Page) (n : Nat), hdrPage (page * 0x1000) = some (p, n) →
     let a := pageAddr p n
     (∀ bits : Word, s.hostOn = true → ∃ t : State, exec (.faultStickyClear page bits) s = .next t ∧
       (∀ k < 32, t.bitAt (HDR.FAULT_STICKY a) k =
           (s.bitAt (HDR.FAULT_STICKY a) k && (!bitOf bits.toNat k || bitOf (s.liveConds a) k)) ∧
         t.bitAt (HDR.FAULT_INJ_TAGGED a) k = (s.bitAt (HDR.FAULT_INJ_TAGGED a) k && t.bitAt (HDR.FAULT_STICKY a) k)) ∧
       (t.get (HDR.FAULT_STICKY a) = 0 → t.on (HDR.FAULT_FIRST_VALID a) = false)) ∧
     (s.hostOn = true → (s.on (HDR.ESC_STATUS_RUNNING a) = false ∨ s.now < (s.escOf a).start + 1000 * (s.escOf a).us) →
       ∃ t : State, exec (.escAck page) s = .next t ∧ t.on (HDR.ESC_STATUS_RUNNING a) = false ∧
         t.on (HDR.ESC_STATUS_EXPIRED a) = false ∧ t.chks = s.chks) ∧
     (∀ (o : PendOcc) (k : Nat), s.hostOn = true → s.on (HDR.ESC_STATUS_RUNNING a) = true → (s.escOf a).occs = [o] →
       (s.escOf a).start + 1000 * (s.escOf a).us ≤ s.now → o.unit = .chk k → s.chkFenced k = false →
       ∃ t : State, exec (.escAck page) s = .next t ∧ t.chkFenced k = true ∧
         t.on (HDR.FAULT_REACT_ESC_FENCED (chkPage k)) = true ∧ t.on (HDR.ESC_STATUS_RUNNING a) = false) ∧
     (∀ o : PendOcc, s.running = true → s.on (HDR.ESC_STATUS_RUNNING a) = true → (s.escOf a).occs = [o] →
       (∀ k, o.unit = .chk k → s.chkFenced k = false → ∃ t : State, exec (.escalationExpiry page) s = .next t ∧
         t.chkFenced k = true ∧ t.on (HDR.FAULT_REACT_ESC_FENCED (chkPage k)) = true ∧
         t.on (HDR.ESC_STATUS_EXPIRED a) = true ∧ t.on (HDR.ESC_STATUS_RUNNING a) = false) ∧
       (o.unit = .ring → ∃ t : State, exec (.escalationExpiry page) s = .next t ∧ t.quenched = true ∧
         t.get DEV.QUENCH_STATUS_CAUSE = 2)) ∧
     (∀ (bit : Fin 32) (detail : Fin 65536), s.hostOn = true →
       (s.detailOk p n bit detail = false → exec (.faultInject page bit detail) s = .next (s.refuse a 0xA2)) ∧
       (s.detailOk p n bit detail = true → s.on (HDR.FAULT_INJ_ARMED a) = true →
         exec (.faultInject page bit detail) s = .next (s.refuse a 0xA3)) ∧
       (s.detailOk p n bit detail = true → s.on (HDR.FAULT_INJ_ARMED a) = false → s.siteClass a bit = 2 →
         s.on DEV.QUENCH_CFG = false → exec (.faultInject page bit detail) s = .next (s.refuse a 0xA4)) ∧
       (s.detailOk p n bit detail = true → s.on (HDR.FAULT_INJ_ARMED a) = false → s.on DEV.QUENCH_CFG = true →
         ∃ t : State, exec (.faultInject page bit detail) s = .next t ∧ t.on (HDR.FAULT_INJ_ARMED a) = true ∧
           t.get (HDR.FAULT_INJ_BIT a) = bit ∧ t.get (HDR.FAULT_INJ_DETAIL a) = detail ∧ t.armedAt a bit detail = true ∧
           t.armedOf a = some { bit := bit, detail := detail })) ∧
     (∀ (scope : Fin 16) (index : Fin 32) (port : Fin 2), s.hostOn = true → (sites p n).isEmpty = true →
       exec (.faultRelease page scope index port) s = .next (s.refuse a 0x01) ∧
       exec (.faultFence page scope index port) s = .next (s.refuse a 0x01)) ∧
     (∀ (scope : Fin 16) (index : Fin 32) (port : Fin 2), s.hostOn = true → (sites p n).isEmpty = false →
       (scopeUnit p n scope index port = none →
         exec (.faultRelease page scope index port) s = .next (s.refuse a 0xA6) ∧
         exec (.faultFence page scope index port) s = .next (s.refuse a 0xA6)) ∧
       (∀ u, scopeUnit p n scope index port = some u →
         (s.unitFenced u = false → exec (.faultRelease page scope index port) s = .next (s.refuse a 0xA5)) ∧
         (s.unitFenced u = true → s.unitLive u = true →
           exec (.faultRelease page scope index port) s = .next (s.refuse a 0xA1)))) ∧
     (∀ (index : Fin 32) (port : Fin 2), s.hostOn = true → p = .chk →
       (s.chkFenced n = true → s.unitLive (.chk n) = false → ∃ t : State, exec (.faultRelease page 0 index port) s = .next t ∧
         t.chkFenced n = false ∧ t.on (HDR.ESC_STATUS_EXPIRED a) = false ∧ t.get (HDR.CMD_STATUS_OPCODE a) = 0xF0) ∧
       (s.chkFenced n = false → ∃ t : State, exec (.faultFence page 0 index port) s = .next t ∧ t.chkFenced n = true ∧
         t.bitAt (HDR.IRQ_STAT a) 30 = true ∧ t.get (HDR.CMD_STATUS_OPCODE a) = 0xF1))) ∧
  (∀ (s : State) (ns : Word) (r : Remap), s.running = true → s.faults.remap = some r → r.k < 32 →
     (let k := if r.back then r.k else 32; s.sliceOn k = true ∧ s.sliceFenced k = false) →
     ∃ t : State, exec (.remapDone ns) s = .next t ∧ t.faults.remap = none ∧ t.on SLICE.SPARE_STATUS_BUSY = false ∧
       t.get SLICE.LAST_INTERRUPT = ns.toNat ∧ t.on SLICE.SPARE_STATUS_IN_USE = !r.back ∧
       (r.back = false → t.get SLICE.SPARE_STATUS_FOR = r.k ∧ t.serving (8 * r.k) = 32) ∧
       (r.back = true → t.serving (8 * r.k) = r.k))

/-- Block resets and power domains (R358, R365, R366, R372, R388, R393 to R396, R410): SOFT_RST on a disabled block is a peer reset
of it, which leaves its settings and its fence, on an enabled one it is refused, and elsewhere it has no effect; DOMAIN_OFF keeps
the bits of switchable domains and starts a switch for each that changes; a switch that ends shows in DOMAIN_STATE, one that
opens resets its unit, and a gate on again shows its ports' fences; a switch past its bound is SWITCH_FAIL, of class U: the unit
is fenced, and the chip's own domain quenches the device. -/
def Obligations.DomainCommandsComplete : Prop :=
  (∀ (s : State) (page : Fin 4096) (p : Page) (n : Nat), s.hostOn = true → hdrPage (page * 0x1000) = some (p, n) →
    (p = .gate → s.gateEnabled n = false → ∃ t : State, exec (.softRst page) s = .next t ∧
      (∀ c ∈ [2 * n, 2 * n + 1], (t.link c).riser = [] ∧ (t.link c).test = none) ∧ (t.gate n).inj = .idle ∧
      t.on (HDR.FAULT_REACT_FENCED (gatePage n)) = s.on (HDR.FAULT_REACT_FENCED (gatePage n)) ∧
      t.get CLK.PEER_RESETS = (s.get CLK.PEER_RESETS + 1) % 2 ^ 32) ∧
    (p = .seam → s.on (HDR.CTRL_ENABLE (seamPage n)) = false → ∃ t : State, exec (.softRst page) s = .next t ∧ t.seam n = {} ∧
      t.get (SEAM.SEAM_LINE n) = 0 ∧ t.get (SEAM.SEAM_MISS_MASK n) = 0 ∧
      t.get CLK.PEER_RESETS = (s.get CLK.PEER_RESETS + 1) % 2 ^ 32 ∧
      sameBut { s with seams := t.seams, faults := t.faults } t
        [(SEAM.SEAM_LINE n).addr, (SEAM.SEAM_MISS_MASK n).addr, CLK.PEER_RESETS.addr]) ∧
    (p = .mould → s.on (HDR.CTRL_ENABLE (mouldPage n)) = false → ∃ t : State, exec (.softRst page) s = .next t ∧
      t.mould n = {} ∧ t.get (MOULD.STALE_LO n) = 0 ∧ t.get (MOULD.STALE_HI n) = 0 ∧ t.get (MOULD.NOFIT_LO n) = 0 ∧
      t.get (MOULD.NOFIT_HI n) = 0 ∧ t.get CLK.PEER_RESETS = (s.get CLK.PEER_RESETS + 1) % 2 ^ 32 ∧
      sameBut { s with moulds := t.moulds, faults := t.faults } t
        [(MOULD.STALE_LO n).addr, (MOULD.STALE_HI n).addr, (MOULD.NOFIT_LO n).addr, (MOULD.NOFIT_HI n).addr,
          CLK.PEER_RESETS.addr]) ∧
    ((p = .gate ∨ p = .seam ∨ p = .mould) → s.on (HDR.CTRL_ENABLE (pageAddr p n)) = true →
      exec (.softRst page) s = .next (s.refuse (pageAddr p n) 0xB0)) ∧
    (p ≠ .gate → p ≠ .seam → p ≠ .mould → exec (.softRst page) s = .next s)) ∧
  (∀ (s : State) (i : Fin 11) (v : Word), s.hostOn = true →
    ((∃ n < 32, switchable (32 * i + n) = true ∧ bitOf v.toNat n = true ∧ s.domainInUse (32 * i + n) = true) →
      exec (.domainOffWrite i v) s = .next (s.refuse pwrPage 0xB2)) ∧
    ((∀ n < 32, switchable (32 * i + n) = true → bitOf v.toNat n = true → s.domainInUse (32 * i + n) = false) →
      ∃ t : State, exec (.domainOffWrite i v) s = .next t ∧
        ∀ n < 32, t.bitAt (PWR.DOMAIN_OFF i) n = (switchable (32 * i + n) && bitOf v.toNat n) ∧
          (switchable (32 * i + n) = true → bitOf v.toNat n ≠ s.bitAt (PWR.DOMAIN_OFF i) n →
            (32 * i.val + n, !bitOf v.toNat n) ∈ t.supply.switching))) ∧
  (∀ (s : State) (d : Fin 326), s.running = true →
    (∀ x, s.supply.switching.find? (fun y => y.1 == d.val) = some x →
      ∃ t : State, exec (.domainSwitchDone d) s = .next t ∧ t.domainOn d = x.2 ∧ t.bitAt (HDR.IRQ_STAT pwrPage) 0 = true ∧
        t.supply.switching = s.supply.switching.filter (fun y => y.1 != d.val) ∧
        t.get CLK.PEER_RESETS = (if x.2 then s.get CLK.PEER_RESETS else (s.get CLK.PEER_RESETS + 1) % 2 ^ 32) ∧
        (d.val < 256 → x.2 = true → t.gatePowered (d % 128) = true → ∀ c ∈ [2 * (d.val % 128), 2 * (d.val % 128) + 1],
          s.portFenced c = true → t.linkState c = linkFenced) ∧
        (d.val < 256 → x.2 = false → ∀ c ∈ [2 * (d.val % 128), 2 * (d.val % 128) + 1],
          t.linkState c = linkDown ∧ (t.link c).riser = [] ∧ t.portFenced c = s.portFenced c) ∧
        (313 ≤ d.val → d.val < 317 → x.2 = false → t.seam (d - 313) = {} ∧ t.get (SEAM.SEAM_LINE (d - 313)) = 0)) ∧
    ((∃ x ∈ s.supply.switching, x.1 = d.val) → s.siteClass pwrPage 2 = 1 →
      ∃ t : State, exec (.switchTimeout d) s = .next t ∧ t.bitAt (HDR.FAULT_STICKY pwrPage) 2 = true ∧
        (d.val < 256 → t.on (HDR.FAULT_REACT_FENCED (gatePage (d % 128))) = true) ∧
        (297 ≤ d.val → d.val < 313 → t.bankFenced (d - 297) = true) ∧
        (313 ≤ d.val → d.val < 317 → t.on (HDR.FAULT_REACT_FENCED (seamPage (d - 313))) = true) ∧
        (317 ≤ d.val → d.val < 325 → t.on (HDR.FAULT_REACT_FENCED (mouldPage (d - 317))) = true)) ∧
    (s.starting = true → s.siteClass pwrPage 2 = 1 → d.val = 325 → ∃ t : State, exec (.switchTimeout d) s = .next t ∧
      t.bitAt (HDR.FAULT_STICKY pwrPage) 2 = true ∧ t.quenched = true ∧ t.get DEV.QUENCH_STATUS_CAUSE = 4))

/-- Power states of gates and slices (R55, R57 to R59, R398 to R403): an entry begins, goes down a state with each step and ends at
its target; an exit ends in ACTIVE or ON; a pending instant and a data symbol wake in time. -/
def Obligations.PowerStateCommandsComplete : Prop :=
  (∀ (s : State) (page : Fin 4096) (v : Word) (p : Page) (n : Nat), s.hostOn = true → hdrPage (page * 0x1000) = some (p, n) →
    let us := v.toNat % 2 ^ 20
    ((p = .gate ∨ p = .slice) → 1000000 < us → exec (.pwrBudgetWrite page v) s = .next (s.refuse (pageAddr p n) 0xB1)) ∧
    (p = .gate → us ≤ 1000000 → ∃ t : State, exec (.pwrBudgetWrite page v) s = .next t ∧ t.get (GATE.PWR_BUDGET n) = us) ∧
    (p = .slice → us ≤ 1000000 → ∃ t : State, exec (.pwrBudgetWrite page v) s = .next t ∧ t.get (SLICE.PWR_BUDGET n) = us)) ∧
  (∀ (s : State) (g : Fin 128), s.running = true → s.gatePowered g = true →
    (s.gateMayRest g = true → ∃ t : State, exec (.gateHystExpiry g) s = .next t ∧
      t.get (GATE.PWR_STATE_TARGET g) = gateBudget (s.get (GATE.PWR_BUDGET g)) ∧
      t.on (GATE.PWR_STATE_IN_TRANSITION g) = true ∧ (t.gate g).stepping = true) ∧
    ((s.gate g).stepping = true → (s.gate g).wake = false → s.get (GATE.PWR_STATE_STATE g) < 3 →
      ∃ t : State, exec (.gateEntryStepDone g) s = .next t ∧ t.get (GATE.PWR_STATE_STATE g) = s.get (GATE.PWR_STATE_STATE g) + 1 ∧
        (s.get (GATE.PWR_STATE_TARGET g) = s.get (GATE.PWR_STATE_STATE g) + 1 →
          t.on (GATE.PWR_STATE_IN_TRANSITION g) = false ∧ (t.gate g).stepping = false)) ∧
    (∀ offsets, (s.gate g).wake = true → (s.gate g).stepping = false → s.get (GATE.PWR_STATE_STATE g) < 2 →
      ∃ t : State, exec (.gateExitDone g offsets) s = .next t ∧ t.gateActive g = true ∧ (t.gate g).wake = false ∧
        t.get (GATE.PWR_EXITS g) = (s.get (GATE.PWR_EXITS g) + 1) % 2 ^ 32) ∧
    (∀ (lane : Fin 5) (w next : BitVec 40) (c : Nat), s.get (GATE.PWR_STATE_STATE g) = 1 → s.portOfLane g lane = some c →
      let r := s.lookAt g lane w next false
      (s.receiving c = true → r.other = true →
        exec (.warmDataSymbol g lane w next) s = .next ((s.add (CAM.FC_SLAG_BYTES c) r.data).gateWake g)) ∧
      ((s.receiving c = false ∨ r.other = false) → exec (.warmDataSymbol g lane w next) s = .next s)) ∧
    (∀ t8, s.nextInstant ([2 * g.val, 2 * g.val + 1].filter s.portPresent) = some t8 → s.gateDepth g ≠ 0 →
      exec (.wakeAheadExit false g) s = .next ((s.reach (t8 - gateLatency (s.gateDepth g))).gateWake g))) ∧
  (∀ (s : State) (k : Fin 33), s.running = true →
    (s.sliceMayRest k = true → ∃ t : State, exec (.sliceHystExpiry k) s = .next t ∧
      t.get (SLICE.PWR_STATE_TARGET k) = sliceBudget (s.sliceBudgetUs k) ∧
      t.on (SLICE.PWR_STATE_IN_TRANSITION k) = true ∧ (t.slice k).stepping = true) ∧
    ((s.slice k).stepping = true → (s.slice k).wake = false → s.get (SLICE.PWR_STATE_STATE k) < 2 →
      ∃ t : State, exec (.sliceEntryStepDone k) s = .next t ∧ t.get (SLICE.PWR_STATE_STATE k) = s.get (SLICE.PWR_STATE_STATE k) + 1 ∧
        (s.get (SLICE.PWR_STATE_STATE k) = 1 → t.domainOn (256 + k) = false)) ∧
    ((s.slice k).wake = true → (s.slice k).stepping = false → s.sliceFenced k = false →
      ∃ t : State, exec (.sliceExitDone k) s = .next t ∧ t.sliceOn k = true ∧
        t.get (SLICE.PWR_EXITS k) = (s.get (SLICE.PWR_EXITS k) + 1) % 2 ^ 32))

/-- HBM at rest (R405), temperatures and rails (R444, R445, R450, R459, R461): the power states of a pseudo-channel, the readings
and what they raise; beyond its absolute maximum rating of R445 a rail stops the model. -/
def Obligations.SupervisionCommandsComplete : Prop :=
  (∀ (s : State) (h : Fin 4) (i : Fin 32), s.running = true →
    (s.on (HBM.HBM_PWR_CFG_PD_EN h) = true → 32 * h.val + i.val ∉ s.supply.powerDown →
      s.bitAt (HBM.HBM_PWR_STATUS h) i = false → exec (.hbmPowerDown h i) s = .next
        { s with supply := { s.supply with powerDown := (32 * h.val + i.val) :: s.supply.powerDown } }) ∧
    (s.on (HBM.HBM_PWR_CFG_SR_EN h) = true → ∃ t : State, exec (.hbmSelfRefresh h i) s = .next t ∧
      t.bitAt (HBM.HBM_PWR_STATUS h) i = true ∧ 32 * h.val + i.val ∉ t.supply.powerDown)) ∧
  (∀ (s : State) (l : List (BitVec 16)), s.supply.aon = true → s.supply.refclk = true → l.length = 8 →
    ((∀ x ∈ l, x.toInt < 920) → ∃ t : State, exec (.tempConversion l) s = .next t ∧ t.smb.temps = some (l.map BitVec.toInt) ∧
      t.smb.tripped = s.smb.tripped ∧ t.supply.hot = false ∧ t.regs = s.regs) ∧
    ((∃ x ∈ l, 920 ≤ x.toInt) → s.awake = true → s.quenched = false → s.alreadyLive .pwr 0 1 = false →
      s.siteClass pwrPage 1 = 2 → ∃ t : State, exec (.tempConversion l) s = .next t ∧
        t.smb.temps = some (l.map BitVec.toInt) ∧ t.smb.tripped = true ∧ t.quenched = true ∧ t.supply.hot = true)) ∧
  (∀ (s : State) (mv : List (BitVec 16)), s.supply.aon = true → mv.length = 10 →
    ∃ t : State, exec (.railReadingUpdate mv) s = .next t ∧ t.smb.rails = mv.map BitVec.toNat ∧ t.regs = s.regs) ∧
  (∀ (s : State) (rail : Fin 10) (mv : Nat),
    (railMax.getD rail 0 < mv → exec (.railFault rail mv) s = .fault (.beyondAbsoluteMaximum rail)) ∧
    (s.supply.aon = true → (railRange.getD rail (0, 0)).1 ≤ mv → mv ≤ (railRange.getD rail (0, 0)).2 →
      exec (.railFault rail mv) s = .next s) ∧
    (s.supply.aon = true → mv < (railRange.getD rail (0, 0)).1 → s.smb.rails.length = 10 → s.awake = true →
      s.quenched = false → s.alreadyLive .pwr 0 0 = false → s.siteClass pwrPage 0 = 2 →
      ∃ t : State, exec (.railFault rail mv) s = .next t ∧ t.smb.rails.getD rail 0 = mv ∧ rail.val ∈ t.supply.railsOut ∧
        t.quenched = true))

/-- A step takes the command at the front of the queue and is that command's meaning on the state with the queue's rest. -/
def Obligations.StepRunsFrontCommand : Prop :=
  ∀ (s : State) (c : Instr) (rest : List Instr), s.pending = c :: rest → step s = exec c { s with pending := rest }

/-- With no command waiting a step is a PCLK cycle where PCLK runs: device time advances by 1 ns and the rate adjustment, whose
part below 1 ns is carried in 32 bits (R307); nothing else changes. That an empty queue lets a PCLK cycle pass is the model's
choice (log entry 10), and so is that an adjustment is rounded down to a multiple of 2^-32 ns (log entry 23). -/
def Obligations.EmptyQueueIsOnePclkCycle : Prop :=
  ∀ s : State, s.pending = [] →
    (s.awake = true → s.on CLK.CLK_STATUS_CRUCIBLE_LOCK = true →
      let fr : Int := s.time.frac + sext 32 (s.get TIME.PTM_ADJ) * 2 ^ 32 / 10 ^ 9
      ∃ t : State, step s = .next t ∧ (t.now : Int) = ((s.now + 1 + fr / 2 ^ 32).toNat : Int) % 2 ^ 64 ∧
        t.time.frac = fr % 2 ^ 32 ∧ t = { s with time := { s.time with ns := t.time.ns, frac := t.time.frac } }) ∧
    ((s.awake = false ∨ s.on CLK.CLK_STATUS_CRUCIBLE_LOCK = false) → step s = .next s)

/-- What reset leaves: every register its Reset value (R424), device time 0 (R307), the check units RUNNING and EMPTY with the
parameters of CRC-32 IEEE, SMBus ALERT_MASK 0x0F (R461), no quench, empty memory in its canonical form, an empty queue. That
the model's reset is the moment when power is good and PORESET_N and PERST_N are still low is log entry 14. -/
def Obligations.ResetState : Prop :=
  (∀ a, State.reset.word a = resetWord a) ∧ State.reset.now = 0 ∧ State.reset.quenched = false ∧
  (∀ n < 4, State.reset.on (CHK.CHK_CFG_EMPTY n) = true ∧ State.reset.on (CHK.CHK_CFG_DONE n) = false ∧
    State.reset.get (CHK.CHK_CFG_ALG n) = 0 ∧ State.reset.get (CHK.CHK_INIT n) = 0xFFFFFFFF ∧
    State.reset.get (CHK.CHK_XOR n) = 0xFFFFFFFF) ∧
  State.reset.smb.alertMask = 0x0F ∧ State.reset.memoryOk ∧ State.reset.hbm = [] ∧ State.reset.pending = [] ∧
  State.reset.supply.poresetLow = true ∧ State.reset.supply.perstLow = true

/-- Quench is left only by the removal of VDD_AON, whatever command comes, one by one or at the front of the queue; the removal
ends it, and when power returns every register and every fault record stands at its Reset value (R374). -/
def Obligations.QuenchIsKept : Prop :=
  (∀ (c : Instr) (s t : State), s.safeOff → c ≠ .vddAonRemoval → exec c s = .next t → t.safeOff) ∧
  (∀ s t : State, s.safeOff → s.pending.head? ≠ some .vddAonRemoval → step s = .next t → t.safeOff) ∧
  (∀ s : State, ∃ t : State, exec .vddAonRemoval s = .next t ∧ t.quenched = false ∧ t.supply.aon = false) ∧
  (∀ (s : State) (strap : Fin 4), s.supply.aon = false → ∃ t : State, exec (.vddAonPowerUp strap) s = .next t ∧
    t.quenched = false ∧ (∀ a, t.word a = resetWord a) ∧ t.faults = State.reset.faults ∧
    t = { State.reset with
      pending := s.pending, fresh := s.fresh, out := s.out, encs := s.encs, smb := { strap := strap } })

/-- Every command and every step keeps the canonical form of the HBM: addresses strictly rising, no entry equal to what an
unlisted address reads as. -/
def Obligations.MemoryKeepsItsForm : Prop :=
  (∀ (c : Instr) (s t : State), s.memoryOk → exec c s = .next t → t.memoryOk) ∧
  (∀ s t : State, s.memoryOk → step s = .next t → t.memoryOk)

/-- The frame of every command: a part of the state that the command does not write, as `writes` lists them, is unchanged. The
queue of commands is no command's to change; every byte of memory is unchanged except by TBL_LOAD_DONE, NR_LINE_EMIT,
SEAM_PACKET, MOULD_PACKET and the loss or reset of supply; configuration space, device time, each group of units, the host's
rings, the SMBus target and the test access port change only where a command that acts on them is named. -/
def Obligations.PartsFrame : Prop :=
  (∀ (c : Instr) (s t : State) (q : Part), exec c s = .next t → q ∉ writes c → samePart q s t) ∧
  (∀ c : Instr, Part.pending ∉ writes c) ∧
  (∀ c : Instr, Part.hbm ∈ writes c →
    c = .vddAonRemoval ∨ c = .poresetAssert ∨ (∃ x, c = .vddAonPowerUp x) ∨ (∃ x y, c = .tblLoadDone x y) ∨
      (∃ x, c = .nrLineEmit x) ∨ (∃ x y l b, c = .seamPacket x y l b) ∨ ∃ x y l, c = .mouldPacket x y l)

/-- Bytes of HBM that a storing command leaves: all outside the table bank that a load fills, the slot of the reference line
that noise reduction writes, the delay-store slot of the member packet a seam takes, as read out of the ladle, and the two slots
of the tile a mould packet belongs to (R155, R170, R210, R218). -/
def Obligations.StoresFrame : Prop :=
  (∀ (s t : State) (c : Fin 256) (r : LoadEnd) (a : Nat), exec (.tblLoadDone c r) s = .next t →
    (∀ x, s.loads.find? (fun y => y.port == c.val) = some x →
      a < tableBase x.port + bankOffset x.sel x.bank ∨ tableBase x.port + bankOffset x.sel x.bank + x.len ≤ a) →
    t.hbmByte a = s.hbmByte a) ∧
  (∀ (s t : State) (c : Fin 256) (a : Nat), exec (.nrLineEmit c) s = .next t →
    (∀ fr l, s.frameInNr c = some fr → fr.entered[fr.nr.length]? = some l → fr.temporal = true →
      let b := refAddr fr.c fr.writeBuf fr.w fr.bits fr.nr.length
      a < b ∨ b + (fr.refBytes (fr.filterLine fr.nr.length l).2).length ≤ a) →
    t.hbmByte a = s.hbmByte a) ∧
  (∀ (s t : State) (u : Fin 4) (i : Fin 32) (links : List Ecc) (bad : List (Nat × Nat)) (a : Nat),
    exec (.seamPacket u i links bad) s = .next t →
    let q := s.get (SEAM.MEM_QUEUE u i)
    let r := (s.claimFor q).readOut q links
    (∀ p, r.1 = some p →
      let b := seamSlotAddr u i (r.2.memberIndex u i p.hdr.shot p.hdr.line)
      a < b ∨ b + 2 * r.2.get (SEAM.MEM_WIDTH u i) ≤ a) →
    t.hbmByte a = s.hbmByte a) ∧
  (∀ (s t : State) (m : Fin 8) (n : Fin 64) (links : List Ecc) (a : Nat), exec (.mouldPacket m n links) s = .next t →
    let q := s.get (MOULD.TILE_SRC_QUEUE m n)
    let r := (s.claimFor q).readOut q links
    (∀ b, (r.2.tile m n).base = some b → a < b ∨ b + 2 * r.2.slotBytes m n ≤ a) →
    (∀ f k, (r.2.tile m n).cur = some f → f.slot = some k → k < 2) →
    t.hbmByte a = s.hbmByte a)

/-- A command that the host makes in BAR0, BAR2, BAR4 or configuration space has no effect while the device is not running, is
in quench or is held by PERST_N (R373: writes are discarded). That it reaches nothing before the clocks run is log entry 2. -/
def Obligations.HostCommandsNeedHost : Prop :=
  ∀ (c : Instr) (s : State), hostCommand c = true → s.hostOn = false → exec c s = .next s

/-- The records of a page. A refusal sets REFUSED, REFUSE_CODE and REFUSE_COUNT and nothing else (R417); an accepted command
sets CMD_STATUS.OPCODE and clears CANCELLED, and nothing else (R418); an event sets its bit of IRQ_STAT and no other, and
requests the page's vector exactly when the bit of IRQ_STAT AND IRQ_EN goes from 0 to 1 (R168, R306). REFUSE_COUNT and CMD_STATUS
follow log entry 22. -/
def Obligations.PageRecords : Prop :=
  ∀ (s : State) (page : Nat), page + 0x1000 ≤ pbaWord 0 →
    (∀ code < 256, let t := s.refuse page code
      t.on (HDR.STATE_REFUSED page) = true ∧ t.get (HDR.STATE_REFUSE_CODE page) = code ∧
      t.get (HDR.STATE_REFUSE_COUNT page) = min 255 (s.get (HDR.STATE_REFUSE_COUNT page) + 1) ∧ sameBut s t [page + 0xC]) ∧
    (∀ op < 256, let t := s.accept page op
      t.get (HDR.CMD_STATUS_OPCODE page) = op ∧ t.on (HDR.CMD_STATUS_CANCELLED page) = false ∧ sameBut s t [page + 0x14]) ∧
    (∀ n < 32, let t := s.raise page n
      let v := s.get (HDR.IRQ_VEC page)
      (∀ b < 32, t.bitAt (HDR.IRQ_STAT page) b = (s.bitAt (HDR.IRQ_STAT page) b || b == n)) ∧
      t.on (PBA.PENDING v) = (s.on (PBA.PENDING v) ||
        (!s.bitAt (HDR.IRQ_STAT page) n && s.bitAt (HDR.IRQ_EN page) n)) ∧
      (∀ w, w ≠ v → t.on (PBA.PENDING w) = s.on (PBA.PENDING w)) ∧
      sameBut s t [page + 0x20, (PBA.PENDING v).addr])

/-- The residual coder is lossless, and a coded line never exceeds ceil(Wl × bc × 103 / 800) bytes (R194 to R198): decoding what the
coder makes of a line gives the line, in stand-alone and in chained mode, for MONO and Bayer formats. -/
def Obligations.CoderLossless : Prop :=
  (∀ (bc st : Nat) (above : Option (List Nat)) (l : List Nat), 1 ≤ bc → bc ≤ 16 → 1 ≤ st → (∀ v ∈ l, v < 2 ^ bc) →
    decodeLine bc st l.length above (codeLine bc st above l) = some l) ∧
  (∀ (bc st : Nat) (above : Option (List Nat)) (l : List Nat), 8 ≤ bc → bc ≤ 16 → 1 ≤ st → 1 ≤ l.length → l.length ≤ 16384 →
    (codeLine bc st above l).length ≤ codedBound l.length bc)

/-- Line payloads (R81): packing a line takes ceil(W × b / 8) bytes, and the pixels a payload gives are the pixels packed. -/
def Obligations.PixelsRoundTrip : Prop :=
  ∀ (b : Nat) (l : List Nat), 1 ≤ b → b ≤ 16 → (∀ v ∈ l, v < 2 ^ b) →
    (packPixels b l).length = expectedBytes l.length b ∧ unpackPixels l.length b (packPixels b l) = l

/-- PERST_N outside quench: a register of any page that R387 does not list, and without a field that it keeps, returns to its
Reset value (R386, R387), the SLICE pages among them but for the fence and, of a fenced slice, its power state (R357, R404), and so
does DOMAIN_OFF (R397). The fault registers of the CLK, PWR and LADLE pages follow R357, while the refusal record of such a page
stays: log entries 60 and 59. -/
def Obligations.PerstRegisters : Prop :=
  ∀ s : State, s.running = true → s.supply.perstLow = false → ∃ t : State, exec .perst s = .next t ∧
    (∀ a p n o, locate a = some (p, n, o) → p ≠ .qd → p ≠ .slice → p ≠ .pwr → p ≠ .clk → p ≠ .ladle → ¬(p = .hbm ∧ o = 0x40) →
      (∀ f ∈ fieldsAt a, f.keep = false) → t.word a = resetWord a) ∧
    (∀ a n o, locate a = some (.slice, n, o) → o ≠ 0x40 → (s.sliceFenced n = true → a ≠ (SLICE.PWR_STATE n).addr) →
      (∀ f ∈ fieldsAt a, f.keep = false) → t.word a = resetWord a) ∧
    (∀ a p n o, locate a = some (p, n, o) → (p = .clk ∨ p = .pwr ∨ p = .ladle) → 0x30 ≤ o → o < 0x60 → ¬(p = .ladle ∧ o = 0x40) →
      (∀ f ∈ fieldsAt a, f.keep = false) → t.word a = resetWord a) ∧
    (∀ a p n, locate a = some (p, n, 0x40) → (p = .slice ∨ p = .hbm) →
      getBits (t.word a) 31 30 = getBits (s.word a) 31 30 ∧ getBits (t.word a) 29 0 = getBits (resetWord a) 29 0) ∧
    (∀ n < 33, t.domainOn (256 + n) = !s.sliceFenced n) ∧
    t.word (HDR.STATE_REFUSED pwrPage).addr = s.word (HDR.STATE_REFUSED pwrPage).addr ∧
    ∀ i < 11, t.word (PWR.DOMAIN_OFF i).addr = resetWord (PWR.DOMAIN_OFF i).addr

/-- The register frame of the commands of one unit: none changes a register outside its unit's page, the pages its rule names
beside it (the power and clock pages of a slice that goes OFF, the clock page that counts a lost pulse, the admission totals of
DEV, the ladle page that records a queue's refusals) and, where it raises an event, the pending bits: gates with their links, tests and injections, slices, check
units, the trigger fabric, the shot pages, the fault records of every page, HBM stacks, camera ports, power, PCI Express, time,
seams, moulds, ladle banks, queues and section engines. -/
def Obligations.UnitFrames : Prop :=
  ∀ s t : State,
    (∀ (g : Fin 128) (p : Fin 2) (n : Fin 5) (w : Fin 16) (e : List Bool) (l : List Nat) (b : List Byte),
      ∀ c ∈ [Instr.gateHystExpiry g, .gateEntryStepDone g, .injCancel g, .injectionActs g, .clearCounters g, .dropSymbols g,
        .dropLine g, .corruptSymbol g, .corruptHdrCrc g, .corruptPayCrc g, .reorder g, .dllLock g p, .linkDown g p,
        .loopNes g p w, .loopNep g p w, .prbsLock g n e, .farLock g n b, .alignCheckTimeout g n, .deskewMeasure g p l,
        .burstWarn g p, .linkFail g p, .grantOverrun g],
      exec c s = .next t → staysIn s t [spanOf .gate g, pbaSpan]) ∧
    (∀ k : Fin 33, exec (.sliceHystExpiry k) s = .next t → staysIn s t [spanOf .slice k]) ∧
    (∀ k : Fin 33, exec (.sliceEntryStepDone k) s = .next t → staysIn s t [spanOf .slice k, spanOf .pwr 0, spanOf .clk 0]) ∧
    (∀ (n : Fin 4) (alg : Fin 8) (v : Word), ∀ c ∈ [Instr.chkStart n, .chkPreset n alg, .chkData8 n v, .chkData16 n v, .chkData32 n v,
        .chkFinal n], exec c s = .next t → staysIn s t [spanOf .chk n, pbaSpan]) ∧
    (∀ (e : Fin 8) (k : Fin 16), ∀ c ∈ [Instr.encLoad e, .encoderIndex e, .timerEnable k],
      exec c s = .next t → staysIn s t ((List.range 16).map (spanOf .trg) ++ [pbaSpan])) ∧
    (∀ (k : Fin 16) (v : Word), exec (.ledgerLookup k v) s = .next t → staysIn s t [spanOf .shot k]) ∧
    (∀ (page : Fin 4096) (bit : Fin 32) (d : Fin 65536) (v : Word), ∀ c ∈ [Instr.faultInject page bit d,
        .faultStickyClear page v, .irqStatClear page v, .stateClear page],
      exec c s = .next t → staysIn s t [(page * 0x1000, 0x1000), pbaSpan]) ∧
    (∀ page : Fin 4096, (s.on (HDR.ESC_STATUS_RUNNING (page * 0x1000)) = false ∨
        s.now < (s.escOf (page * 0x1000)).start + 1000 * (s.escOf (page * 0x1000)).us) →
      exec (.escAck page) s = .next t → staysIn s t [(page * 0x1000, 0x1000)]) ∧
    (∀ (page : Fin 4096) (v : Word) (acked : Bool), exec (.irqSet page v acked) s = .next t →
      staysIn s t [(page * 0x1000, 0x1000), spanOf .clk 0, pbaSpan]) ∧
    (∀ (h : Fin 4) (i : Fin 32), exec (.hbmSelfRefresh h i) s = .next t → staysIn s t [spanOf .hbm h]) ∧
    (∀ (c : Fin 256) (sel : Fin 4) (bank : Fin 2) (slot : Fin 8) (v : Word), ∀ x ∈ [Instr.tblLoad c sel bank, .ffGridWrite c bank v,
        .holdTimeout c, .shotSet c v, .settingsCommit c slot, .settingsCommitNext c slot],
      exec x s = .next t → staysIn s t [spanOf .cam c, pbaSpan]) ∧
    (∀ (i : Fin 11) (v : Word), exec (.domainOffWrite i v) s = .next t → staysIn s t [spanOf .pwr 0]) ∧
    (∀ (up fl : Bool) (sp : Fin 16) (wd : Fin 64), exec (.linkChange up sp wd fl) s = .next t → staysIn s t [spanOf .pex 0, pbaSpan]) ∧
    (∀ t1 t4 t2 t3 : BitVec 64, ∀ c ∈ [Instr.ptmDialogueDone t1 t4 t2 t3, .ptmLost, .ptmEnable, .timeSet],
      exec c s = .next t → staysIn s t [spanOf .time 0, pbaSpan]) ∧
    (∀ u : Fin 4, exec (.seamEnable u) s = .next t → staysIn s t [spanOf .seam u, spanOf .dev 0]) ∧
    (∀ m : Fin 8, exec (.mouldEnable m) s = .next t → staysIn s t [spanOf .mould m, spanOf .dev 0, pbaSpan]) ∧
    (∀ (m : Fin 8) (n : Fin 64), ∀ c ∈ [Instr.mouldFrameStart m, .tileStale m n],
      exec c s = .next t → staysIn s t [spanOf .mould m, pbaSpan]) ∧
    (∀ b : Fin 16, exec (.sweep b) s = .next t → staysIn s t [spanOf .ladle b]) ∧
    (∀ (q : Fin 16384) (o : Bool) (k : Fin 4) (u : Fin 8), ∀ c ∈ [Instr.queueEnable q o k u, .queueDisable q, .queueRelease q, .clrOvr q],
      exec c s = .next t → staysIn s t [spanOf .qd q, spanOf .ladle (homeBank q)]) ∧
    (∀ v : Bool, exec (.orderEnWrite v) s = .next t → staysIn s t [spanOf .ladle 0]) ∧
    (∀ (g : Fin 128) (p : Fin 2), exec (.clearFail g p) s = .next t → staysIn s t [spanOf .brg g]) ∧
    (∀ c : Fin 256, exec (.seLost c) s = .next t → staysIn s t [spanOf .brg (c / 2), pbaSpan])

/-- Commands that are turned away: each changes nothing but the refusal record of its page, with the code of its rule. Check units
(R436 to R438): fenced, running, an ALG above 3, data or FINAL after DONE. Rings (R313): a size outside 4 to 16, a base that is not
aligned, a queue that is not the pour engine's. Link commands (R52): a port absent in the gate's mode, enabled, under test, or a
pattern the command does not have. Section engines (R347): an absent port, a disabled gate, a lock, a PC write that is busy or not
aligned. Gates (R115, R136, R139, R395, R420): enabled, a mode or split outside its range, a domain that is off, an enabled port. -/
def Obligations.CommandRefusals : Prop :=
  (∀ (s : State) (n : Fin 4), s.hostOn = true →
     (s.chkFenced n = true →
       exec (.chkStart n) s = .next (s.refuse (chkPage n) 0xC4) ∧
       exec (.chkFinal n) s = .next (s.refuse (chkPage n) 0xC4) ∧
       ∀ alg : Fin 8, exec (.chkPreset n alg) s = .next (s.refuse (chkPage n) 0xC4)) ∧
     (s.chkFenced n = false → s.chkBusy n = true → ∀ alg : Fin 8,
       exec (.chkPreset n alg) s = .next (s.refuse (chkPage n) 0xC1)) ∧
     (s.chkFenced n = false → s.chkBusy n = false → ∀ alg : Fin 8, 3 < alg.val →
       exec (.chkPreset n alg) s = .next (s.refuse (chkPage n) 0xC0)) ∧
     (s.chkFenced n = false → s.on (CHK.CHK_CFG_DONE n) = true →
       exec (.chkFinal n) s = .next (s.refuse (chkPage n) 0xC3) ∧
       ∀ v : Word, exec (.chkData8 n v) s = .next (s.refuse (chkPage n) 0xC2) ∧
         exec (.chkData16 n v) s = .next (s.refuse (chkPage n) 0xC2) ∧
         exec (.chkData32 n v) s = .next (s.refuse (chkPage n) 0xC2))) ∧
  (∀ (s : State) (q : Fin 16384), s.hostOn = true → s.on (RING.RING_CFG_EN q) = false →
     ((s.get (RING.RING_CFG_SIZE q) < 4 ∨ 16 < s.get (RING.RING_CFG_SIZE q)) →
       exec (.ringEnable q) s = .next (s.refuse (pourPage 0) 0x81)) ∧
     (4 ≤ s.get (RING.RING_CFG_SIZE q) → s.get (RING.RING_CFG_SIZE q) ≤ 16 → s.get (RING.DESC_BASE_LO q) % 64 ≠ 0 →
       exec (.ringEnable q) s = .next (s.refuse (pourPage 0) 0x81)) ∧
     (4 ≤ s.get (RING.RING_CFG_SIZE q) → s.get (RING.RING_CFG_SIZE q) ≤ 16 → s.get (RING.DESC_BASE_LO q) % 64 = 0 →
       s.get (RING.CPL_BASE_LO q) % 64 = 0 → s.get (QD.Q_CFG_CONSUMER q) ≠ 1 →
       exec (.ringEnable q) s = .next (s.refuse (pourPage 0) 0x82))) ∧
  (∀ (s : State) (g : Fin 128) (p : Fin 2), let c := portNo g p
     s.hostOn = true →
     (s.portPresent c = false →
       exec (.linkTrain g p) s = .next (s.refuse (gatePage g) 0x21) ∧ exec (.linkDown g p) s = .next (s.refuse (gatePage g) 0x21) ∧
       exec (.linkUp g p) s = .next (s.refuse (gatePage g) 0x21)) ∧
     (s.portPresent c = true → s.portEnabled c = true →
       exec (.linkTrain g p) s = .next (s.refuse (gatePage g) 0x22) ∧ exec (.linkDown g p) s = .next (s.refuse (gatePage g) 0x22)) ∧
     (s.portPresent c = true → s.portEnabled c = false → s.linkState c = linkTest → ∀ code : Fin 16,
       exec (.setRate g p code) s = .next (s.refuse (gatePage g) 0x26)) ∧
     (s.linkRefusal c = none → ∀ pat : Fin 16, (pat.val = 0 ∨ 4 < pat.val) →
       exec (.loopNes g p pat) s = .next (s.refuse (gatePage g) 0x27) ∧
       exec (.loopNep g p pat) s = .next (s.refuse (gatePage g) 0x27))) ∧
  (∀ (s : State) (g : Fin 128) (p : Fin 2), let c := portNo g p
     s.hostOn = true →
     (s.portPresent c = false →
       exec (.discover g p) s = .next (s.refuse (brgPage g) 0x21) ∧ exec (.lock g p) s = .next (s.refuse (brgPage g) 0x21) ∧
       exec (.pcWrite g p) s = .next (s.refuse (brgPage g) 0x21)) ∧
     (s.portPresent c = true → s.gateEnabled g = false →
       exec (.discover g p) s = .next (s.refuse (brgPage g) 0x4E) ∧ exec (.lock g p) s = .next (s.refuse (brgPage g) 0x4E) ∧
       exec (.pcWrite g p) s = .next (s.refuse (brgPage g) 0x4E)) ∧
     (s.portPresent c = true → s.gateEnabled g = true →
       ((s.engine g).lockPort ≠ none → exec (.lock g p) s = .next (s.refuse (brgPage g) 0x91)) ∧
       (s.on (BRG.PORT_STATUS_PCW_BUSY g p) = true → exec (.pcWrite g p) s = .next (s.refuse (brgPage g) 0x93)) ∧
       (s.on (BRG.PORT_STATUS_PCW_BUSY g p) = false → s.get (BRG.PCW_ADDR g p) % 4 ≠ 0 →
         exec (.pcWrite g p) s = .next (s.refuse (brgPage g) 0x90))) ∧
     (s.on (BRG.PORT_STATUS_LOCKED g p) = false → exec (.unlock g p) s = .next (s.refuse (brgPage g) 0x92))) ∧
  (∀ (s : State) (g : Fin 128), s.hostOn = true →
     (∀ (mode : Fin 4) (split : Fin 256),
       (s.gateEnabled g = true → (mode.val ≠ s.gateMode g ∨ split.val ≠ s.get (GATE.GATE_CFG_RISER_SPLIT_A g)) →
         exec (.gateCfgWrite g mode split) s = .next (s.refuse (gatePage g) 0x02)) ∧
       (s.gateEnabled g = false → mode.val = 3 → exec (.gateCfgWrite g mode split) s = .next (s.refuse (gatePage g) 0x2B)) ∧
       (s.gateEnabled g = false → mode.val ≠ 3 → split.val = 0 →
         exec (.gateCfgWrite g mode split) s = .next (s.refuse (gatePage g) 0x4D))) ∧
     (s.gateEnabled g = false → (s.domainReady g = false ∨ s.domainReady (128 + g) = false) →
       exec (.gateEnable g) s = .next (s.refuse (gatePage g) 0xB3)) ∧
     (s.gateEnabled g = true → (s.portEnabled (2 * g) = true ∨ s.portEnabled (2 * g + 1) = true) →
       exec (.gateDisable g) s = .next (s.refuse (gatePage g) 0x4F)))
end

