-- ==== Sys2Proof/Laws/State.lean ====
section
/-!
SUPPORT. What each named update of the state leaves alone: one lemma for each field and update, and for each reader of
another part of the state. No proof needs to unfold a record update.
-/

namespace Sys2Proof.Machine


/-! ### State.setWord -/

@[simp] theorem State.setWord_pending (s : State) (a : Nat) (w : Word) : (s.setWord a w).pending = s.pending := (rfl)
@[simp] theorem State.setWord_supply (s : State) (a : Nat) (w : Word) : (s.setWord a w).supply = s.supply := (rfl)
@[simp] theorem State.setWord_latches (s : State) (a : Nat) (w : Word) : (s.setWord a w).latches = s.latches := (rfl)
@[simp] theorem State.setWord_cfg (s : State) (a : Nat) (w : Word) : (s.setWord a w).cfg = s.cfg := (rfl)
@[simp] theorem State.setWord_time (s : State) (a : Nat) (w : Word) : (s.setWord a w).time = s.time := (rfl)
@[simp] theorem State.setWord_gates (s : State) (a : Nat) (w : Word) : (s.setWord a w).gates = s.gates := (rfl)
@[simp] theorem State.setWord_links (s : State) (a : Nat) (w : Word) : (s.setWord a w).links = s.links := (rfl)
@[simp] theorem State.setWord_engines (s : State) (a : Nat) (w : Word) : (s.setWord a w).engines = s.engines := (rfl)
@[simp] theorem State.setWord_cams (s : State) (a : Nat) (w : Word) : (s.setWord a w).cams = s.cams := (rfl)
@[simp] theorem State.setWord_slices (s : State) (a : Nat) (w : Word) : (s.setWord a w).slices = s.slices := (rfl)
@[simp] theorem State.setWord_seams (s : State) (a : Nat) (w : Word) : (s.setWord a w).seams = s.seams := (rfl)
@[simp] theorem State.setWord_moulds (s : State) (a : Nat) (w : Word) : (s.setWord a w).moulds = s.moulds := (rfl)
@[simp] theorem State.setWord_encs (s : State) (a : Nat) (w : Word) : (s.setWord a w).encs = s.encs := (rfl)
@[simp] theorem State.setWord_timers (s : State) (a : Nat) (w : Word) : (s.setWord a w).timers = s.timers := (rfl)
@[simp] theorem State.setWord_strobes (s : State) (a : Nat) (w : Word) : (s.setWord a w).strobes = s.strobes := (rfl)
@[simp] theorem State.setWord_records (s : State) (a : Nat) (w : Word) : (s.setWord a w).records = s.records := (rfl)
@[simp] theorem State.setWord_queues (s : State) (a : Nat) (w : Word) : (s.setWord a w).queues = s.queues := (rfl)
@[simp] theorem State.setWord_banks (s : State) (a : Nat) (w : Word) : (s.setWord a w).banks = s.banks := (rfl)
@[simp] theorem State.setWord_prods (s : State) (a : Nat) (w : Word) : (s.setWord a w).prods = s.prods := (rfl)
@[simp] theorem State.setWord_badLinks (s : State) (a : Nat) (w : Word) : (s.setWord a w).badLinks = s.badLinks := (rfl)
@[simp] theorem State.setWord_rings (s : State) (a : Nat) (w : Word) : (s.setWord a w).rings = s.rings := (rfl)
@[simp] theorem State.setWord_loads (s : State) (a : Nat) (w : Word) : (s.setWord a w).loads = s.loads := (rfl)
@[simp] theorem State.setWord_chks (s : State) (a : Nat) (w : Word) : (s.setWord a w).chks = s.chks := (rfl)
@[simp] theorem State.setWord_faults (s : State) (a : Nat) (w : Word) : (s.setWord a w).faults = s.faults := (rfl)
@[simp] theorem State.setWord_smb (s : State) (a : Nat) (w : Word) : (s.setWord a w).smb = s.smb := (rfl)
@[simp] theorem State.setWord_jtag (s : State) (a : Nat) (w : Word) : (s.setWord a w).jtag = s.jtag := (rfl)
@[simp] theorem State.setWord_hbm (s : State) (a : Nat) (w : Word) : (s.setWord a w).hbm = s.hbm := (rfl)
@[simp] theorem State.setWord_fresh (s : State) (a : Nat) (w : Word) : (s.setWord a w).fresh = s.fresh := (rfl)
@[simp] theorem State.setWord_out (s : State) (a : Nat) (w : Word) : (s.setWord a w).out = s.out := (rfl)
@[simp] theorem State.setWord_gate (s : State) (a : Nat) (w : Word) (x : Nat) : (s.setWord a w).gate x = s.gate x := (rfl)
@[simp] theorem State.setWord_link (s : State) (a : Nat) (w : Word) (x : Nat) : (s.setWord a w).link x = s.link x := (rfl)
@[simp] theorem State.setWord_engine (s : State) (a : Nat) (w : Word) (x : Nat) : (s.setWord a w).engine x = s.engine x := (rfl)
@[simp] theorem State.setWord_cam (s : State) (a : Nat) (w : Word) (x : Nat) : (s.setWord a w).cam x = s.cam x := (rfl)
@[simp] theorem State.setWord_slice (s : State) (a : Nat) (w : Word) (x : Nat) : (s.setWord a w).slice x = s.slice x := (rfl)
@[simp] theorem State.setWord_seam (s : State) (a : Nat) (w : Word) (x : Nat) : (s.setWord a w).seam x = s.seam x := (rfl)
@[simp] theorem State.setWord_mould (s : State) (a : Nat) (w : Word) (x : Nat) : (s.setWord a w).mould x = s.mould x := (rfl)
@[simp] theorem State.setWord_enc (s : State) (a : Nat) (w : Word) (x : Nat) : (s.setWord a w).enc x = s.enc x := (rfl)
@[simp] theorem State.setWord_timer (s : State) (a : Nat) (w : Word) (x : Nat) : (s.setWord a w).timer x = s.timer x := (rfl)
@[simp] theorem State.setWord_queue (s : State) (a : Nat) (w : Word) (x : Nat) : (s.setWord a w).queue x = s.queue x := (rfl)
@[simp] theorem State.setWord_bank (s : State) (a : Nat) (w : Word) (x : Nat) : (s.setWord a w).bank x = s.bank x := (rfl)
@[simp] theorem State.setWord_prod (s : State) (a : Nat) (w : Word) (x : Nat) : (s.setWord a w).prod x = s.prod x := (rfl)
@[simp] theorem State.setWord_ring (s : State) (a : Nat) (w : Word) (x : Nat) : (s.setWord a w).ring x = s.ring x := (rfl)
@[simp] theorem State.setWord_chk (s : State) (a : Nat) (w : Word) (x : Nat) : (s.setWord a w).chk x = s.chk x := (rfl)
@[simp] theorem State.setWord_record (s : State) (a : Nat) (w : Word) (x y : Nat) : (s.setWord a w).record x y = s.record x y := (rfl)
@[simp] theorem State.setWord_hbmByte (s : State) (a : Nat) (w : Word) (x : Nat) : (s.setWord a w).hbmByte x = s.hbmByte x := (rfl)
@[simp] theorem State.setWord_now (s : State) (a : Nat) (w : Word) : (s.setWord a w).now = s.now := (rfl)

/-! ### State.put -/

@[simp] theorem State.put_pending (s : State) (f : Fld) (v : Nat) : (s.put f v).pending = s.pending := (rfl)
@[simp] theorem State.put_supply (s : State) (f : Fld) (v : Nat) : (s.put f v).supply = s.supply := (rfl)
@[simp] theorem State.put_latches (s : State) (f : Fld) (v : Nat) : (s.put f v).latches = s.latches := (rfl)
@[simp] theorem State.put_cfg (s : State) (f : Fld) (v : Nat) : (s.put f v).cfg = s.cfg := (rfl)
@[simp] theorem State.put_time (s : State) (f : Fld) (v : Nat) : (s.put f v).time = s.time := (rfl)
@[simp] theorem State.put_gates (s : State) (f : Fld) (v : Nat) : (s.put f v).gates = s.gates := (rfl)
@[simp] theorem State.put_links (s : State) (f : Fld) (v : Nat) : (s.put f v).links = s.links := (rfl)
@[simp] theorem State.put_engines (s : State) (f : Fld) (v : Nat) : (s.put f v).engines = s.engines := (rfl)
@[simp] theorem State.put_cams (s : State) (f : Fld) (v : Nat) : (s.put f v).cams = s.cams := (rfl)
@[simp] theorem State.put_slices (s : State) (f : Fld) (v : Nat) : (s.put f v).slices = s.slices := (rfl)
@[simp] theorem State.put_seams (s : State) (f : Fld) (v : Nat) : (s.put f v).seams = s.seams := (rfl)
@[simp] theorem State.put_moulds (s : State) (f : Fld) (v : Nat) : (s.put f v).moulds = s.moulds := (rfl)
@[simp] theorem State.put_encs (s : State) (f : Fld) (v : Nat) : (s.put f v).encs = s.encs := (rfl)
@[simp] theorem State.put_timers (s : State) (f : Fld) (v : Nat) : (s.put f v).timers = s.timers := (rfl)
@[simp] theorem State.put_strobes (s : State) (f : Fld) (v : Nat) : (s.put f v).strobes = s.strobes := (rfl)
@[simp] theorem State.put_records (s : State) (f : Fld) (v : Nat) : (s.put f v).records = s.records := (rfl)
@[simp] theorem State.put_queues (s : State) (f : Fld) (v : Nat) : (s.put f v).queues = s.queues := (rfl)
@[simp] theorem State.put_banks (s : State) (f : Fld) (v : Nat) : (s.put f v).banks = s.banks := (rfl)
@[simp] theorem State.put_prods (s : State) (f : Fld) (v : Nat) : (s.put f v).prods = s.prods := (rfl)
@[simp] theorem State.put_badLinks (s : State) (f : Fld) (v : Nat) : (s.put f v).badLinks = s.badLinks := (rfl)
@[simp] theorem State.put_rings (s : State) (f : Fld) (v : Nat) : (s.put f v).rings = s.rings := (rfl)
@[simp] theorem State.put_loads (s : State) (f : Fld) (v : Nat) : (s.put f v).loads = s.loads := (rfl)
@[simp] theorem State.put_chks (s : State) (f : Fld) (v : Nat) : (s.put f v).chks = s.chks := (rfl)
@[simp] theorem State.put_faults (s : State) (f : Fld) (v : Nat) : (s.put f v).faults = s.faults := (rfl)
@[simp] theorem State.put_smb (s : State) (f : Fld) (v : Nat) : (s.put f v).smb = s.smb := (rfl)
@[simp] theorem State.put_jtag (s : State) (f : Fld) (v : Nat) : (s.put f v).jtag = s.jtag := (rfl)
@[simp] theorem State.put_hbm (s : State) (f : Fld) (v : Nat) : (s.put f v).hbm = s.hbm := (rfl)
@[simp] theorem State.put_fresh (s : State) (f : Fld) (v : Nat) : (s.put f v).fresh = s.fresh := (rfl)
@[simp] theorem State.put_out (s : State) (f : Fld) (v : Nat) : (s.put f v).out = s.out := (rfl)
@[simp] theorem State.put_gate (s : State) (f : Fld) (v : Nat) (x : Nat) : (s.put f v).gate x = s.gate x := (rfl)
@[simp] theorem State.put_link (s : State) (f : Fld) (v : Nat) (x : Nat) : (s.put f v).link x = s.link x := (rfl)
@[simp] theorem State.put_engine (s : State) (f : Fld) (v : Nat) (x : Nat) : (s.put f v).engine x = s.engine x := (rfl)
@[simp] theorem State.put_cam (s : State) (f : Fld) (v : Nat) (x : Nat) : (s.put f v).cam x = s.cam x := (rfl)
@[simp] theorem State.put_slice (s : State) (f : Fld) (v : Nat) (x : Nat) : (s.put f v).slice x = s.slice x := (rfl)
@[simp] theorem State.put_seam (s : State) (f : Fld) (v : Nat) (x : Nat) : (s.put f v).seam x = s.seam x := (rfl)
@[simp] theorem State.put_mould (s : State) (f : Fld) (v : Nat) (x : Nat) : (s.put f v).mould x = s.mould x := (rfl)
@[simp] theorem State.put_enc (s : State) (f : Fld) (v : Nat) (x : Nat) : (s.put f v).enc x = s.enc x := (rfl)
@[simp] theorem State.put_timer (s : State) (f : Fld) (v : Nat) (x : Nat) : (s.put f v).timer x = s.timer x := (rfl)
@[simp] theorem State.put_queue (s : State) (f : Fld) (v : Nat) (x : Nat) : (s.put f v).queue x = s.queue x := (rfl)
@[simp] theorem State.put_bank (s : State) (f : Fld) (v : Nat) (x : Nat) : (s.put f v).bank x = s.bank x := (rfl)
@[simp] theorem State.put_prod (s : State) (f : Fld) (v : Nat) (x : Nat) : (s.put f v).prod x = s.prod x := (rfl)
@[simp] theorem State.put_ring (s : State) (f : Fld) (v : Nat) (x : Nat) : (s.put f v).ring x = s.ring x := (rfl)
@[simp] theorem State.put_chk (s : State) (f : Fld) (v : Nat) (x : Nat) : (s.put f v).chk x = s.chk x := (rfl)
@[simp] theorem State.put_record (s : State) (f : Fld) (v : Nat) (x y : Nat) : (s.put f v).record x y = s.record x y := (rfl)
@[simp] theorem State.put_hbmByte (s : State) (f : Fld) (v : Nat) (x : Nat) : (s.put f v).hbmByte x = s.hbmByte x := (rfl)
@[simp] theorem State.put_now (s : State) (f : Fld) (v : Nat) : (s.put f v).now = s.now := (rfl)

/-! ### State.putB -/

@[simp] theorem State.putB_pending (s : State) (f : Fld) (b : Bool) : (s.putB f b).pending = s.pending := (rfl)
@[simp] theorem State.putB_supply (s : State) (f : Fld) (b : Bool) : (s.putB f b).supply = s.supply := (rfl)
@[simp] theorem State.putB_latches (s : State) (f : Fld) (b : Bool) : (s.putB f b).latches = s.latches := (rfl)
@[simp] theorem State.putB_cfg (s : State) (f : Fld) (b : Bool) : (s.putB f b).cfg = s.cfg := (rfl)
@[simp] theorem State.putB_time (s : State) (f : Fld) (b : Bool) : (s.putB f b).time = s.time := (rfl)
@[simp] theorem State.putB_gates (s : State) (f : Fld) (b : Bool) : (s.putB f b).gates = s.gates := (rfl)
@[simp] theorem State.putB_links (s : State) (f : Fld) (b : Bool) : (s.putB f b).links = s.links := (rfl)
@[simp] theorem State.putB_engines (s : State) (f : Fld) (b : Bool) : (s.putB f b).engines = s.engines := (rfl)
@[simp] theorem State.putB_cams (s : State) (f : Fld) (b : Bool) : (s.putB f b).cams = s.cams := (rfl)
@[simp] theorem State.putB_slices (s : State) (f : Fld) (b : Bool) : (s.putB f b).slices = s.slices := (rfl)
@[simp] theorem State.putB_seams (s : State) (f : Fld) (b : Bool) : (s.putB f b).seams = s.seams := (rfl)
@[simp] theorem State.putB_moulds (s : State) (f : Fld) (b : Bool) : (s.putB f b).moulds = s.moulds := (rfl)
@[simp] theorem State.putB_encs (s : State) (f : Fld) (b : Bool) : (s.putB f b).encs = s.encs := (rfl)
@[simp] theorem State.putB_timers (s : State) (f : Fld) (b : Bool) : (s.putB f b).timers = s.timers := (rfl)
@[simp] theorem State.putB_strobes (s : State) (f : Fld) (b : Bool) : (s.putB f b).strobes = s.strobes := (rfl)
@[simp] theorem State.putB_records (s : State) (f : Fld) (b : Bool) : (s.putB f b).records = s.records := (rfl)
@[simp] theorem State.putB_queues (s : State) (f : Fld) (b : Bool) : (s.putB f b).queues = s.queues := (rfl)
@[simp] theorem State.putB_banks (s : State) (f : Fld) (b : Bool) : (s.putB f b).banks = s.banks := (rfl)
@[simp] theorem State.putB_prods (s : State) (f : Fld) (b : Bool) : (s.putB f b).prods = s.prods := (rfl)
@[simp] theorem State.putB_badLinks (s : State) (f : Fld) (b : Bool) : (s.putB f b).badLinks = s.badLinks := (rfl)
@[simp] theorem State.putB_rings (s : State) (f : Fld) (b : Bool) : (s.putB f b).rings = s.rings := (rfl)
@[simp] theorem State.putB_loads (s : State) (f : Fld) (b : Bool) : (s.putB f b).loads = s.loads := (rfl)
@[simp] theorem State.putB_chks (s : State) (f : Fld) (b : Bool) : (s.putB f b).chks = s.chks := (rfl)
@[simp] theorem State.putB_faults (s : State) (f : Fld) (b : Bool) : (s.putB f b).faults = s.faults := (rfl)
@[simp] theorem State.putB_smb (s : State) (f : Fld) (b : Bool) : (s.putB f b).smb = s.smb := (rfl)
@[simp] theorem State.putB_jtag (s : State) (f : Fld) (b : Bool) : (s.putB f b).jtag = s.jtag := (rfl)
@[simp] theorem State.putB_hbm (s : State) (f : Fld) (b : Bool) : (s.putB f b).hbm = s.hbm := (rfl)
@[simp] theorem State.putB_fresh (s : State) (f : Fld) (b : Bool) : (s.putB f b).fresh = s.fresh := (rfl)
@[simp] theorem State.putB_out (s : State) (f : Fld) (b : Bool) : (s.putB f b).out = s.out := (rfl)
@[simp] theorem State.putB_gate (s : State) (f : Fld) (b : Bool) (x : Nat) : (s.putB f b).gate x = s.gate x := (rfl)
@[simp] theorem State.putB_link (s : State) (f : Fld) (b : Bool) (x : Nat) : (s.putB f b).link x = s.link x := (rfl)
@[simp] theorem State.putB_engine (s : State) (f : Fld) (b : Bool) (x : Nat) : (s.putB f b).engine x = s.engine x := (rfl)
@[simp] theorem State.putB_cam (s : State) (f : Fld) (b : Bool) (x : Nat) : (s.putB f b).cam x = s.cam x := (rfl)
@[simp] theorem State.putB_slice (s : State) (f : Fld) (b : Bool) (x : Nat) : (s.putB f b).slice x = s.slice x := (rfl)
@[simp] theorem State.putB_seam (s : State) (f : Fld) (b : Bool) (x : Nat) : (s.putB f b).seam x = s.seam x := (rfl)
@[simp] theorem State.putB_mould (s : State) (f : Fld) (b : Bool) (x : Nat) : (s.putB f b).mould x = s.mould x := (rfl)
@[simp] theorem State.putB_enc (s : State) (f : Fld) (b : Bool) (x : Nat) : (s.putB f b).enc x = s.enc x := (rfl)
@[simp] theorem State.putB_timer (s : State) (f : Fld) (b : Bool) (x : Nat) : (s.putB f b).timer x = s.timer x := (rfl)
@[simp] theorem State.putB_queue (s : State) (f : Fld) (b : Bool) (x : Nat) : (s.putB f b).queue x = s.queue x := (rfl)
@[simp] theorem State.putB_bank (s : State) (f : Fld) (b : Bool) (x : Nat) : (s.putB f b).bank x = s.bank x := (rfl)
@[simp] theorem State.putB_prod (s : State) (f : Fld) (b : Bool) (x : Nat) : (s.putB f b).prod x = s.prod x := (rfl)
@[simp] theorem State.putB_ring (s : State) (f : Fld) (b : Bool) (x : Nat) : (s.putB f b).ring x = s.ring x := (rfl)
@[simp] theorem State.putB_chk (s : State) (f : Fld) (b : Bool) (x : Nat) : (s.putB f b).chk x = s.chk x := (rfl)
@[simp] theorem State.putB_record (s : State) (f : Fld) (b : Bool) (x y : Nat) : (s.putB f b).record x y = s.record x y := (rfl)
@[simp] theorem State.putB_hbmByte (s : State) (f : Fld) (b : Bool) (x : Nat) : (s.putB f b).hbmByte x = s.hbmByte x := (rfl)
@[simp] theorem State.putB_now (s : State) (f : Fld) (b : Bool) : (s.putB f b).now = s.now := (rfl)

/-! ### State.add -/

@[simp] theorem State.add_pending (s : State) (f : Fld) (n : Nat) : (s.add f n).pending = s.pending := (rfl)
@[simp] theorem State.add_supply (s : State) (f : Fld) (n : Nat) : (s.add f n).supply = s.supply := (rfl)
@[simp] theorem State.add_latches (s : State) (f : Fld) (n : Nat) : (s.add f n).latches = s.latches := (rfl)
@[simp] theorem State.add_cfg (s : State) (f : Fld) (n : Nat) : (s.add f n).cfg = s.cfg := (rfl)
@[simp] theorem State.add_time (s : State) (f : Fld) (n : Nat) : (s.add f n).time = s.time := (rfl)
@[simp] theorem State.add_gates (s : State) (f : Fld) (n : Nat) : (s.add f n).gates = s.gates := (rfl)
@[simp] theorem State.add_links (s : State) (f : Fld) (n : Nat) : (s.add f n).links = s.links := (rfl)
@[simp] theorem State.add_engines (s : State) (f : Fld) (n : Nat) : (s.add f n).engines = s.engines := (rfl)
@[simp] theorem State.add_cams (s : State) (f : Fld) (n : Nat) : (s.add f n).cams = s.cams := (rfl)
@[simp] theorem State.add_slices (s : State) (f : Fld) (n : Nat) : (s.add f n).slices = s.slices := (rfl)
@[simp] theorem State.add_seams (s : State) (f : Fld) (n : Nat) : (s.add f n).seams = s.seams := (rfl)
@[simp] theorem State.add_moulds (s : State) (f : Fld) (n : Nat) : (s.add f n).moulds = s.moulds := (rfl)
@[simp] theorem State.add_encs (s : State) (f : Fld) (n : Nat) : (s.add f n).encs = s.encs := (rfl)
@[simp] theorem State.add_timers (s : State) (f : Fld) (n : Nat) : (s.add f n).timers = s.timers := (rfl)
@[simp] theorem State.add_strobes (s : State) (f : Fld) (n : Nat) : (s.add f n).strobes = s.strobes := (rfl)
@[simp] theorem State.add_records (s : State) (f : Fld) (n : Nat) : (s.add f n).records = s.records := (rfl)
@[simp] theorem State.add_queues (s : State) (f : Fld) (n : Nat) : (s.add f n).queues = s.queues := (rfl)
@[simp] theorem State.add_banks (s : State) (f : Fld) (n : Nat) : (s.add f n).banks = s.banks := (rfl)
@[simp] theorem State.add_prods (s : State) (f : Fld) (n : Nat) : (s.add f n).prods = s.prods := (rfl)
@[simp] theorem State.add_badLinks (s : State) (f : Fld) (n : Nat) : (s.add f n).badLinks = s.badLinks := (rfl)
@[simp] theorem State.add_rings (s : State) (f : Fld) (n : Nat) : (s.add f n).rings = s.rings := (rfl)
@[simp] theorem State.add_loads (s : State) (f : Fld) (n : Nat) : (s.add f n).loads = s.loads := (rfl)
@[simp] theorem State.add_chks (s : State) (f : Fld) (n : Nat) : (s.add f n).chks = s.chks := (rfl)
@[simp] theorem State.add_faults (s : State) (f : Fld) (n : Nat) : (s.add f n).faults = s.faults := (rfl)
@[simp] theorem State.add_smb (s : State) (f : Fld) (n : Nat) : (s.add f n).smb = s.smb := (rfl)
@[simp] theorem State.add_jtag (s : State) (f : Fld) (n : Nat) : (s.add f n).jtag = s.jtag := (rfl)
@[simp] theorem State.add_hbm (s : State) (f : Fld) (n : Nat) : (s.add f n).hbm = s.hbm := (rfl)
@[simp] theorem State.add_fresh (s : State) (f : Fld) (n : Nat) : (s.add f n).fresh = s.fresh := (rfl)
@[simp] theorem State.add_out (s : State) (f : Fld) (n : Nat) : (s.add f n).out = s.out := (rfl)
@[simp] theorem State.add_gate (s : State) (f : Fld) (n : Nat) (x : Nat) : (s.add f n).gate x = s.gate x := (rfl)
@[simp] theorem State.add_link (s : State) (f : Fld) (n : Nat) (x : Nat) : (s.add f n).link x = s.link x := (rfl)
@[simp] theorem State.add_engine (s : State) (f : Fld) (n : Nat) (x : Nat) : (s.add f n).engine x = s.engine x := (rfl)
@[simp] theorem State.add_cam (s : State) (f : Fld) (n : Nat) (x : Nat) : (s.add f n).cam x = s.cam x := (rfl)
@[simp] theorem State.add_slice (s : State) (f : Fld) (n : Nat) (x : Nat) : (s.add f n).slice x = s.slice x := (rfl)
@[simp] theorem State.add_seam (s : State) (f : Fld) (n : Nat) (x : Nat) : (s.add f n).seam x = s.seam x := (rfl)
@[simp] theorem State.add_mould (s : State) (f : Fld) (n : Nat) (x : Nat) : (s.add f n).mould x = s.mould x := (rfl)
@[simp] theorem State.add_enc (s : State) (f : Fld) (n : Nat) (x : Nat) : (s.add f n).enc x = s.enc x := (rfl)
@[simp] theorem State.add_timer (s : State) (f : Fld) (n : Nat) (x : Nat) : (s.add f n).timer x = s.timer x := (rfl)
@[simp] theorem State.add_queue (s : State) (f : Fld) (n : Nat) (x : Nat) : (s.add f n).queue x = s.queue x := (rfl)
@[simp] theorem State.add_bank (s : State) (f : Fld) (n : Nat) (x : Nat) : (s.add f n).bank x = s.bank x := (rfl)
@[simp] theorem State.add_prod (s : State) (f : Fld) (n : Nat) (x : Nat) : (s.add f n).prod x = s.prod x := (rfl)
@[simp] theorem State.add_ring (s : State) (f : Fld) (n : Nat) (x : Nat) : (s.add f n).ring x = s.ring x := (rfl)
@[simp] theorem State.add_chk (s : State) (f : Fld) (n : Nat) (x : Nat) : (s.add f n).chk x = s.chk x := (rfl)
@[simp] theorem State.add_record (s : State) (f : Fld) (n : Nat) (x y : Nat) : (s.add f n).record x y = s.record x y := (rfl)
@[simp] theorem State.add_hbmByte (s : State) (f : Fld) (n : Nat) (x : Nat) : (s.add f n).hbmByte x = s.hbmByte x := (rfl)
@[simp] theorem State.add_now (s : State) (f : Fld) (n : Nat) : (s.add f n).now = s.now := (rfl)

/-! ### State.addSat -/

@[simp] theorem State.addSat_pending (s : State) (f : Fld) (n : Nat) : (s.addSat f n).pending = s.pending := (rfl)
@[simp] theorem State.addSat_supply (s : State) (f : Fld) (n : Nat) : (s.addSat f n).supply = s.supply := (rfl)
@[simp] theorem State.addSat_latches (s : State) (f : Fld) (n : Nat) : (s.addSat f n).latches = s.latches := (rfl)
@[simp] theorem State.addSat_cfg (s : State) (f : Fld) (n : Nat) : (s.addSat f n).cfg = s.cfg := (rfl)
@[simp] theorem State.addSat_time (s : State) (f : Fld) (n : Nat) : (s.addSat f n).time = s.time := (rfl)
@[simp] theorem State.addSat_gates (s : State) (f : Fld) (n : Nat) : (s.addSat f n).gates = s.gates := (rfl)
@[simp] theorem State.addSat_links (s : State) (f : Fld) (n : Nat) : (s.addSat f n).links = s.links := (rfl)
@[simp] theorem State.addSat_engines (s : State) (f : Fld) (n : Nat) : (s.addSat f n).engines = s.engines := (rfl)
@[simp] theorem State.addSat_cams (s : State) (f : Fld) (n : Nat) : (s.addSat f n).cams = s.cams := (rfl)
@[simp] theorem State.addSat_slices (s : State) (f : Fld) (n : Nat) : (s.addSat f n).slices = s.slices := (rfl)
@[simp] theorem State.addSat_seams (s : State) (f : Fld) (n : Nat) : (s.addSat f n).seams = s.seams := (rfl)
@[simp] theorem State.addSat_moulds (s : State) (f : Fld) (n : Nat) : (s.addSat f n).moulds = s.moulds := (rfl)
@[simp] theorem State.addSat_encs (s : State) (f : Fld) (n : Nat) : (s.addSat f n).encs = s.encs := (rfl)
@[simp] theorem State.addSat_timers (s : State) (f : Fld) (n : Nat) : (s.addSat f n).timers = s.timers := (rfl)
@[simp] theorem State.addSat_strobes (s : State) (f : Fld) (n : Nat) : (s.addSat f n).strobes = s.strobes := (rfl)
@[simp] theorem State.addSat_records (s : State) (f : Fld) (n : Nat) : (s.addSat f n).records = s.records := (rfl)
@[simp] theorem State.addSat_queues (s : State) (f : Fld) (n : Nat) : (s.addSat f n).queues = s.queues := (rfl)
@[simp] theorem State.addSat_banks (s : State) (f : Fld) (n : Nat) : (s.addSat f n).banks = s.banks := (rfl)
@[simp] theorem State.addSat_prods (s : State) (f : Fld) (n : Nat) : (s.addSat f n).prods = s.prods := (rfl)
@[simp] theorem State.addSat_badLinks (s : State) (f : Fld) (n : Nat) : (s.addSat f n).badLinks = s.badLinks := (rfl)
@[simp] theorem State.addSat_rings (s : State) (f : Fld) (n : Nat) : (s.addSat f n).rings = s.rings := (rfl)
@[simp] theorem State.addSat_loads (s : State) (f : Fld) (n : Nat) : (s.addSat f n).loads = s.loads := (rfl)
@[simp] theorem State.addSat_chks (s : State) (f : Fld) (n : Nat) : (s.addSat f n).chks = s.chks := (rfl)
@[simp] theorem State.addSat_faults (s : State) (f : Fld) (n : Nat) : (s.addSat f n).faults = s.faults := (rfl)
@[simp] theorem State.addSat_smb (s : State) (f : Fld) (n : Nat) : (s.addSat f n).smb = s.smb := (rfl)
@[simp] theorem State.addSat_jtag (s : State) (f : Fld) (n : Nat) : (s.addSat f n).jtag = s.jtag := (rfl)
@[simp] theorem State.addSat_hbm (s : State) (f : Fld) (n : Nat) : (s.addSat f n).hbm = s.hbm := (rfl)
@[simp] theorem State.addSat_fresh (s : State) (f : Fld) (n : Nat) : (s.addSat f n).fresh = s.fresh := (rfl)
@[simp] theorem State.addSat_out (s : State) (f : Fld) (n : Nat) : (s.addSat f n).out = s.out := (rfl)
@[simp] theorem State.addSat_gate (s : State) (f : Fld) (n : Nat) (x : Nat) : (s.addSat f n).gate x = s.gate x := (rfl)
@[simp] theorem State.addSat_link (s : State) (f : Fld) (n : Nat) (x : Nat) : (s.addSat f n).link x = s.link x := (rfl)
@[simp] theorem State.addSat_engine (s : State) (f : Fld) (n : Nat) (x : Nat) : (s.addSat f n).engine x = s.engine x := (rfl)
@[simp] theorem State.addSat_cam (s : State) (f : Fld) (n : Nat) (x : Nat) : (s.addSat f n).cam x = s.cam x := (rfl)
@[simp] theorem State.addSat_slice (s : State) (f : Fld) (n : Nat) (x : Nat) : (s.addSat f n).slice x = s.slice x := (rfl)
@[simp] theorem State.addSat_seam (s : State) (f : Fld) (n : Nat) (x : Nat) : (s.addSat f n).seam x = s.seam x := (rfl)
@[simp] theorem State.addSat_mould (s : State) (f : Fld) (n : Nat) (x : Nat) : (s.addSat f n).mould x = s.mould x := (rfl)
@[simp] theorem State.addSat_enc (s : State) (f : Fld) (n : Nat) (x : Nat) : (s.addSat f n).enc x = s.enc x := (rfl)
@[simp] theorem State.addSat_timer (s : State) (f : Fld) (n : Nat) (x : Nat) : (s.addSat f n).timer x = s.timer x := (rfl)
@[simp] theorem State.addSat_queue (s : State) (f : Fld) (n : Nat) (x : Nat) : (s.addSat f n).queue x = s.queue x := (rfl)
@[simp] theorem State.addSat_bank (s : State) (f : Fld) (n : Nat) (x : Nat) : (s.addSat f n).bank x = s.bank x := (rfl)
@[simp] theorem State.addSat_prod (s : State) (f : Fld) (n : Nat) (x : Nat) : (s.addSat f n).prod x = s.prod x := (rfl)
@[simp] theorem State.addSat_ring (s : State) (f : Fld) (n : Nat) (x : Nat) : (s.addSat f n).ring x = s.ring x := (rfl)
@[simp] theorem State.addSat_chk (s : State) (f : Fld) (n : Nat) (x : Nat) : (s.addSat f n).chk x = s.chk x := (rfl)
@[simp] theorem State.addSat_record (s : State) (f : Fld) (n : Nat) (x y : Nat) : (s.addSat f n).record x y = s.record x y := (rfl)
@[simp] theorem State.addSat_hbmByte (s : State) (f : Fld) (n : Nat) (x : Nat) : (s.addSat f n).hbmByte x = s.hbmByte x := (rfl)
@[simp] theorem State.addSat_now (s : State) (f : Fld) (n : Nat) : (s.addSat f n).now = s.now := (rfl)

/-! ### State.sub -/

@[simp] theorem State.sub_pending (s : State) (f : Fld) (n : Nat) : (s.sub f n).pending = s.pending := (rfl)
@[simp] theorem State.sub_supply (s : State) (f : Fld) (n : Nat) : (s.sub f n).supply = s.supply := (rfl)
@[simp] theorem State.sub_latches (s : State) (f : Fld) (n : Nat) : (s.sub f n).latches = s.latches := (rfl)
@[simp] theorem State.sub_cfg (s : State) (f : Fld) (n : Nat) : (s.sub f n).cfg = s.cfg := (rfl)
@[simp] theorem State.sub_time (s : State) (f : Fld) (n : Nat) : (s.sub f n).time = s.time := (rfl)
@[simp] theorem State.sub_gates (s : State) (f : Fld) (n : Nat) : (s.sub f n).gates = s.gates := (rfl)
@[simp] theorem State.sub_links (s : State) (f : Fld) (n : Nat) : (s.sub f n).links = s.links := (rfl)
@[simp] theorem State.sub_engines (s : State) (f : Fld) (n : Nat) : (s.sub f n).engines = s.engines := (rfl)
@[simp] theorem State.sub_cams (s : State) (f : Fld) (n : Nat) : (s.sub f n).cams = s.cams := (rfl)
@[simp] theorem State.sub_slices (s : State) (f : Fld) (n : Nat) : (s.sub f n).slices = s.slices := (rfl)
@[simp] theorem State.sub_seams (s : State) (f : Fld) (n : Nat) : (s.sub f n).seams = s.seams := (rfl)
@[simp] theorem State.sub_moulds (s : State) (f : Fld) (n : Nat) : (s.sub f n).moulds = s.moulds := (rfl)
@[simp] theorem State.sub_encs (s : State) (f : Fld) (n : Nat) : (s.sub f n).encs = s.encs := (rfl)
@[simp] theorem State.sub_timers (s : State) (f : Fld) (n : Nat) : (s.sub f n).timers = s.timers := (rfl)
@[simp] theorem State.sub_strobes (s : State) (f : Fld) (n : Nat) : (s.sub f n).strobes = s.strobes := (rfl)
@[simp] theorem State.sub_records (s : State) (f : Fld) (n : Nat) : (s.sub f n).records = s.records := (rfl)
@[simp] theorem State.sub_queues (s : State) (f : Fld) (n : Nat) : (s.sub f n).queues = s.queues := (rfl)
@[simp] theorem State.sub_banks (s : State) (f : Fld) (n : Nat) : (s.sub f n).banks = s.banks := (rfl)
@[simp] theorem State.sub_prods (s : State) (f : Fld) (n : Nat) : (s.sub f n).prods = s.prods := (rfl)
@[simp] theorem State.sub_badLinks (s : State) (f : Fld) (n : Nat) : (s.sub f n).badLinks = s.badLinks := (rfl)
@[simp] theorem State.sub_rings (s : State) (f : Fld) (n : Nat) : (s.sub f n).rings = s.rings := (rfl)
@[simp] theorem State.sub_loads (s : State) (f : Fld) (n : Nat) : (s.sub f n).loads = s.loads := (rfl)
@[simp] theorem State.sub_chks (s : State) (f : Fld) (n : Nat) : (s.sub f n).chks = s.chks := (rfl)
@[simp] theorem State.sub_faults (s : State) (f : Fld) (n : Nat) : (s.sub f n).faults = s.faults := (rfl)
@[simp] theorem State.sub_smb (s : State) (f : Fld) (n : Nat) : (s.sub f n).smb = s.smb := (rfl)
@[simp] theorem State.sub_jtag (s : State) (f : Fld) (n : Nat) : (s.sub f n).jtag = s.jtag := (rfl)
@[simp] theorem State.sub_hbm (s : State) (f : Fld) (n : Nat) : (s.sub f n).hbm = s.hbm := (rfl)
@[simp] theorem State.sub_fresh (s : State) (f : Fld) (n : Nat) : (s.sub f n).fresh = s.fresh := (rfl)
@[simp] theorem State.sub_out (s : State) (f : Fld) (n : Nat) : (s.sub f n).out = s.out := (rfl)
@[simp] theorem State.sub_gate (s : State) (f : Fld) (n : Nat) (x : Nat) : (s.sub f n).gate x = s.gate x := (rfl)
@[simp] theorem State.sub_link (s : State) (f : Fld) (n : Nat) (x : Nat) : (s.sub f n).link x = s.link x := (rfl)
@[simp] theorem State.sub_engine (s : State) (f : Fld) (n : Nat) (x : Nat) : (s.sub f n).engine x = s.engine x := (rfl)
@[simp] theorem State.sub_cam (s : State) (f : Fld) (n : Nat) (x : Nat) : (s.sub f n).cam x = s.cam x := (rfl)
@[simp] theorem State.sub_slice (s : State) (f : Fld) (n : Nat) (x : Nat) : (s.sub f n).slice x = s.slice x := (rfl)
@[simp] theorem State.sub_seam (s : State) (f : Fld) (n : Nat) (x : Nat) : (s.sub f n).seam x = s.seam x := (rfl)
@[simp] theorem State.sub_mould (s : State) (f : Fld) (n : Nat) (x : Nat) : (s.sub f n).mould x = s.mould x := (rfl)
@[simp] theorem State.sub_enc (s : State) (f : Fld) (n : Nat) (x : Nat) : (s.sub f n).enc x = s.enc x := (rfl)
@[simp] theorem State.sub_timer (s : State) (f : Fld) (n : Nat) (x : Nat) : (s.sub f n).timer x = s.timer x := (rfl)
@[simp] theorem State.sub_queue (s : State) (f : Fld) (n : Nat) (x : Nat) : (s.sub f n).queue x = s.queue x := (rfl)
@[simp] theorem State.sub_bank (s : State) (f : Fld) (n : Nat) (x : Nat) : (s.sub f n).bank x = s.bank x := (rfl)
@[simp] theorem State.sub_prod (s : State) (f : Fld) (n : Nat) (x : Nat) : (s.sub f n).prod x = s.prod x := (rfl)
@[simp] theorem State.sub_ring (s : State) (f : Fld) (n : Nat) (x : Nat) : (s.sub f n).ring x = s.ring x := (rfl)
@[simp] theorem State.sub_chk (s : State) (f : Fld) (n : Nat) (x : Nat) : (s.sub f n).chk x = s.chk x := (rfl)
@[simp] theorem State.sub_record (s : State) (f : Fld) (n : Nat) (x y : Nat) : (s.sub f n).record x y = s.record x y := (rfl)
@[simp] theorem State.sub_hbmByte (s : State) (f : Fld) (n : Nat) (x : Nat) : (s.sub f n).hbmByte x = s.hbmByte x := (rfl)
@[simp] theorem State.sub_now (s : State) (f : Fld) (n : Nat) : (s.sub f n).now = s.now := (rfl)

/-! ### State.putBit -/

@[simp] theorem State.putBit_pending (s : State) (f : Fld) (n : Nat) (b : Bool) : (s.putBit f n b).pending = s.pending := (rfl)
@[simp] theorem State.putBit_supply (s : State) (f : Fld) (n : Nat) (b : Bool) : (s.putBit f n b).supply = s.supply := (rfl)
@[simp] theorem State.putBit_latches (s : State) (f : Fld) (n : Nat) (b : Bool) : (s.putBit f n b).latches = s.latches := (rfl)
@[simp] theorem State.putBit_cfg (s : State) (f : Fld) (n : Nat) (b : Bool) : (s.putBit f n b).cfg = s.cfg := (rfl)
@[simp] theorem State.putBit_time (s : State) (f : Fld) (n : Nat) (b : Bool) : (s.putBit f n b).time = s.time := (rfl)
@[simp] theorem State.putBit_gates (s : State) (f : Fld) (n : Nat) (b : Bool) : (s.putBit f n b).gates = s.gates := (rfl)
@[simp] theorem State.putBit_links (s : State) (f : Fld) (n : Nat) (b : Bool) : (s.putBit f n b).links = s.links := (rfl)
@[simp] theorem State.putBit_engines (s : State) (f : Fld) (n : Nat) (b : Bool) : (s.putBit f n b).engines = s.engines := (rfl)
@[simp] theorem State.putBit_cams (s : State) (f : Fld) (n : Nat) (b : Bool) : (s.putBit f n b).cams = s.cams := (rfl)
@[simp] theorem State.putBit_slices (s : State) (f : Fld) (n : Nat) (b : Bool) : (s.putBit f n b).slices = s.slices := (rfl)
@[simp] theorem State.putBit_seams (s : State) (f : Fld) (n : Nat) (b : Bool) : (s.putBit f n b).seams = s.seams := (rfl)
@[simp] theorem State.putBit_moulds (s : State) (f : Fld) (n : Nat) (b : Bool) : (s.putBit f n b).moulds = s.moulds := (rfl)
@[simp] theorem State.putBit_encs (s : State) (f : Fld) (n : Nat) (b : Bool) : (s.putBit f n b).encs = s.encs := (rfl)
@[simp] theorem State.putBit_timers (s : State) (f : Fld) (n : Nat) (b : Bool) : (s.putBit f n b).timers = s.timers := (rfl)
@[simp] theorem State.putBit_strobes (s : State) (f : Fld) (n : Nat) (b : Bool) : (s.putBit f n b).strobes = s.strobes := (rfl)
@[simp] theorem State.putBit_records (s : State) (f : Fld) (n : Nat) (b : Bool) : (s.putBit f n b).records = s.records := (rfl)
@[simp] theorem State.putBit_queues (s : State) (f : Fld) (n : Nat) (b : Bool) : (s.putBit f n b).queues = s.queues := (rfl)
@[simp] theorem State.putBit_banks (s : State) (f : Fld) (n : Nat) (b : Bool) : (s.putBit f n b).banks = s.banks := (rfl)
@[simp] theorem State.putBit_prods (s : State) (f : Fld) (n : Nat) (b : Bool) : (s.putBit f n b).prods = s.prods := (rfl)
@[simp] theorem State.putBit_badLinks (s : State) (f : Fld) (n : Nat) (b : Bool) : (s.putBit f n b).badLinks = s.badLinks := (rfl)
@[simp] theorem State.putBit_rings (s : State) (f : Fld) (n : Nat) (b : Bool) : (s.putBit f n b).rings = s.rings := (rfl)
@[simp] theorem State.putBit_loads (s : State) (f : Fld) (n : Nat) (b : Bool) : (s.putBit f n b).loads = s.loads := (rfl)
@[simp] theorem State.putBit_chks (s : State) (f : Fld) (n : Nat) (b : Bool) : (s.putBit f n b).chks = s.chks := (rfl)
@[simp] theorem State.putBit_faults (s : State) (f : Fld) (n : Nat) (b : Bool) : (s.putBit f n b).faults = s.faults := (rfl)
@[simp] theorem State.putBit_smb (s : State) (f : Fld) (n : Nat) (b : Bool) : (s.putBit f n b).smb = s.smb := (rfl)
@[simp] theorem State.putBit_jtag (s : State) (f : Fld) (n : Nat) (b : Bool) : (s.putBit f n b).jtag = s.jtag := (rfl)
@[simp] theorem State.putBit_hbm (s : State) (f : Fld) (n : Nat) (b : Bool) : (s.putBit f n b).hbm = s.hbm := (rfl)
@[simp] theorem State.putBit_fresh (s : State) (f : Fld) (n : Nat) (b : Bool) : (s.putBit f n b).fresh = s.fresh := (rfl)
@[simp] theorem State.putBit_out (s : State) (f : Fld) (n : Nat) (b : Bool) : (s.putBit f n b).out = s.out := (rfl)
@[simp] theorem State.putBit_gate (s : State) (f : Fld) (n : Nat) (b : Bool) (x : Nat) : (s.putBit f n b).gate x = s.gate x := (rfl)
@[simp] theorem State.putBit_link (s : State) (f : Fld) (n : Nat) (b : Bool) (x : Nat) : (s.putBit f n b).link x = s.link x := (rfl)
@[simp] theorem State.putBit_engine (s : State) (f : Fld) (n : Nat) (b : Bool) (x : Nat) : (s.putBit f n b).engine x = s.engine x := (rfl)
@[simp] theorem State.putBit_cam (s : State) (f : Fld) (n : Nat) (b : Bool) (x : Nat) : (s.putBit f n b).cam x = s.cam x := (rfl)
@[simp] theorem State.putBit_slice (s : State) (f : Fld) (n : Nat) (b : Bool) (x : Nat) : (s.putBit f n b).slice x = s.slice x := (rfl)
@[simp] theorem State.putBit_seam (s : State) (f : Fld) (n : Nat) (b : Bool) (x : Nat) : (s.putBit f n b).seam x = s.seam x := (rfl)
@[simp] theorem State.putBit_mould (s : State) (f : Fld) (n : Nat) (b : Bool) (x : Nat) : (s.putBit f n b).mould x = s.mould x := (rfl)
@[simp] theorem State.putBit_enc (s : State) (f : Fld) (n : Nat) (b : Bool) (x : Nat) : (s.putBit f n b).enc x = s.enc x := (rfl)
@[simp] theorem State.putBit_timer (s : State) (f : Fld) (n : Nat) (b : Bool) (x : Nat) : (s.putBit f n b).timer x = s.timer x := (rfl)
@[simp] theorem State.putBit_queue (s : State) (f : Fld) (n : Nat) (b : Bool) (x : Nat) : (s.putBit f n b).queue x = s.queue x := (rfl)
@[simp] theorem State.putBit_bank (s : State) (f : Fld) (n : Nat) (b : Bool) (x : Nat) : (s.putBit f n b).bank x = s.bank x := (rfl)
@[simp] theorem State.putBit_prod (s : State) (f : Fld) (n : Nat) (b : Bool) (x : Nat) : (s.putBit f n b).prod x = s.prod x := (rfl)
@[simp] theorem State.putBit_ring (s : State) (f : Fld) (n : Nat) (b : Bool) (x : Nat) : (s.putBit f n b).ring x = s.ring x := (rfl)
@[simp] theorem State.putBit_chk (s : State) (f : Fld) (n : Nat) (b : Bool) (x : Nat) : (s.putBit f n b).chk x = s.chk x := (rfl)
@[simp] theorem State.putBit_record (s : State) (f : Fld) (n : Nat) (b : Bool) (x y : Nat) : (s.putBit f n b).record x y = s.record x y := (rfl)
@[simp] theorem State.putBit_hbmByte (s : State) (f : Fld) (n : Nat) (b : Bool) (x : Nat) : (s.putBit f n b).hbmByte x = s.hbmByte x := (rfl)
@[simp] theorem State.putBit_now (s : State) (f : Fld) (n : Nat) (b : Bool) : (s.putBit f n b).now = s.now := (rfl)

/-! ### State.put64 -/

@[simp] theorem State.put64_pending (s : State) (lo hi : Fld) (v : Nat) : (s.put64 lo hi v).pending = s.pending := (rfl)
@[simp] theorem State.put64_supply (s : State) (lo hi : Fld) (v : Nat) : (s.put64 lo hi v).supply = s.supply := (rfl)
@[simp] theorem State.put64_latches (s : State) (lo hi : Fld) (v : Nat) : (s.put64 lo hi v).latches = s.latches := (rfl)
@[simp] theorem State.put64_cfg (s : State) (lo hi : Fld) (v : Nat) : (s.put64 lo hi v).cfg = s.cfg := (rfl)
@[simp] theorem State.put64_time (s : State) (lo hi : Fld) (v : Nat) : (s.put64 lo hi v).time = s.time := (rfl)
@[simp] theorem State.put64_gates (s : State) (lo hi : Fld) (v : Nat) : (s.put64 lo hi v).gates = s.gates := (rfl)
@[simp] theorem State.put64_links (s : State) (lo hi : Fld) (v : Nat) : (s.put64 lo hi v).links = s.links := (rfl)
@[simp] theorem State.put64_engines (s : State) (lo hi : Fld) (v : Nat) : (s.put64 lo hi v).engines = s.engines := (rfl)
@[simp] theorem State.put64_cams (s : State) (lo hi : Fld) (v : Nat) : (s.put64 lo hi v).cams = s.cams := (rfl)
@[simp] theorem State.put64_slices (s : State) (lo hi : Fld) (v : Nat) : (s.put64 lo hi v).slices = s.slices := (rfl)
@[simp] theorem State.put64_seams (s : State) (lo hi : Fld) (v : Nat) : (s.put64 lo hi v).seams = s.seams := (rfl)
@[simp] theorem State.put64_moulds (s : State) (lo hi : Fld) (v : Nat) : (s.put64 lo hi v).moulds = s.moulds := (rfl)
@[simp] theorem State.put64_encs (s : State) (lo hi : Fld) (v : Nat) : (s.put64 lo hi v).encs = s.encs := (rfl)
@[simp] theorem State.put64_timers (s : State) (lo hi : Fld) (v : Nat) : (s.put64 lo hi v).timers = s.timers := (rfl)
@[simp] theorem State.put64_strobes (s : State) (lo hi : Fld) (v : Nat) : (s.put64 lo hi v).strobes = s.strobes := (rfl)
@[simp] theorem State.put64_records (s : State) (lo hi : Fld) (v : Nat) : (s.put64 lo hi v).records = s.records := (rfl)
@[simp] theorem State.put64_queues (s : State) (lo hi : Fld) (v : Nat) : (s.put64 lo hi v).queues = s.queues := (rfl)
@[simp] theorem State.put64_banks (s : State) (lo hi : Fld) (v : Nat) : (s.put64 lo hi v).banks = s.banks := (rfl)
@[simp] theorem State.put64_prods (s : State) (lo hi : Fld) (v : Nat) : (s.put64 lo hi v).prods = s.prods := (rfl)
@[simp] theorem State.put64_badLinks (s : State) (lo hi : Fld) (v : Nat) : (s.put64 lo hi v).badLinks = s.badLinks := (rfl)
@[simp] theorem State.put64_rings (s : State) (lo hi : Fld) (v : Nat) : (s.put64 lo hi v).rings = s.rings := (rfl)
@[simp] theorem State.put64_loads (s : State) (lo hi : Fld) (v : Nat) : (s.put64 lo hi v).loads = s.loads := (rfl)
@[simp] theorem State.put64_chks (s : State) (lo hi : Fld) (v : Nat) : (s.put64 lo hi v).chks = s.chks := (rfl)
@[simp] theorem State.put64_faults (s : State) (lo hi : Fld) (v : Nat) : (s.put64 lo hi v).faults = s.faults := (rfl)
@[simp] theorem State.put64_smb (s : State) (lo hi : Fld) (v : Nat) : (s.put64 lo hi v).smb = s.smb := (rfl)
@[simp] theorem State.put64_jtag (s : State) (lo hi : Fld) (v : Nat) : (s.put64 lo hi v).jtag = s.jtag := (rfl)
@[simp] theorem State.put64_hbm (s : State) (lo hi : Fld) (v : Nat) : (s.put64 lo hi v).hbm = s.hbm := (rfl)
@[simp] theorem State.put64_fresh (s : State) (lo hi : Fld) (v : Nat) : (s.put64 lo hi v).fresh = s.fresh := (rfl)
@[simp] theorem State.put64_out (s : State) (lo hi : Fld) (v : Nat) : (s.put64 lo hi v).out = s.out := (rfl)
@[simp] theorem State.put64_gate (s : State) (lo hi : Fld) (v : Nat) (x : Nat) : (s.put64 lo hi v).gate x = s.gate x := (rfl)
@[simp] theorem State.put64_link (s : State) (lo hi : Fld) (v : Nat) (x : Nat) : (s.put64 lo hi v).link x = s.link x := (rfl)
@[simp] theorem State.put64_engine (s : State) (lo hi : Fld) (v : Nat) (x : Nat) : (s.put64 lo hi v).engine x = s.engine x := (rfl)
@[simp] theorem State.put64_cam (s : State) (lo hi : Fld) (v : Nat) (x : Nat) : (s.put64 lo hi v).cam x = s.cam x := (rfl)
@[simp] theorem State.put64_slice (s : State) (lo hi : Fld) (v : Nat) (x : Nat) : (s.put64 lo hi v).slice x = s.slice x := (rfl)
@[simp] theorem State.put64_seam (s : State) (lo hi : Fld) (v : Nat) (x : Nat) : (s.put64 lo hi v).seam x = s.seam x := (rfl)
@[simp] theorem State.put64_mould (s : State) (lo hi : Fld) (v : Nat) (x : Nat) : (s.put64 lo hi v).mould x = s.mould x := (rfl)
@[simp] theorem State.put64_enc (s : State) (lo hi : Fld) (v : Nat) (x : Nat) : (s.put64 lo hi v).enc x = s.enc x := (rfl)
@[simp] theorem State.put64_timer (s : State) (lo hi : Fld) (v : Nat) (x : Nat) : (s.put64 lo hi v).timer x = s.timer x := (rfl)
@[simp] theorem State.put64_queue (s : State) (lo hi : Fld) (v : Nat) (x : Nat) : (s.put64 lo hi v).queue x = s.queue x := (rfl)
@[simp] theorem State.put64_bank (s : State) (lo hi : Fld) (v : Nat) (x : Nat) : (s.put64 lo hi v).bank x = s.bank x := (rfl)
@[simp] theorem State.put64_prod (s : State) (lo hi : Fld) (v : Nat) (x : Nat) : (s.put64 lo hi v).prod x = s.prod x := (rfl)
@[simp] theorem State.put64_ring (s : State) (lo hi : Fld) (v : Nat) (x : Nat) : (s.put64 lo hi v).ring x = s.ring x := (rfl)
@[simp] theorem State.put64_chk (s : State) (lo hi : Fld) (v : Nat) (x : Nat) : (s.put64 lo hi v).chk x = s.chk x := (rfl)
@[simp] theorem State.put64_record (s : State) (lo hi : Fld) (v : Nat) (x y : Nat) : (s.put64 lo hi v).record x y = s.record x y := (rfl)
@[simp] theorem State.put64_hbmByte (s : State) (lo hi : Fld) (v : Nat) (x : Nat) : (s.put64 lo hi v).hbmByte x = s.hbmByte x := (rfl)
@[simp] theorem State.put64_now (s : State) (lo hi : Fld) (v : Nat) : (s.put64 lo hi v).now = s.now := (rfl)

/-! ### State.refuse -/

@[simp] theorem State.refuse_pending (s : State) (page code : Nat) : (s.refuse page code).pending = s.pending := by simp [State.refuse]
@[simp] theorem State.refuse_supply (s : State) (page code : Nat) : (s.refuse page code).supply = s.supply := by simp [State.refuse]
@[simp] theorem State.refuse_latches (s : State) (page code : Nat) : (s.refuse page code).latches = s.latches := by simp [State.refuse]
@[simp] theorem State.refuse_cfg (s : State) (page code : Nat) : (s.refuse page code).cfg = s.cfg := by simp [State.refuse]
@[simp] theorem State.refuse_time (s : State) (page code : Nat) : (s.refuse page code).time = s.time := by simp [State.refuse]
@[simp] theorem State.refuse_gates (s : State) (page code : Nat) : (s.refuse page code).gates = s.gates := by simp [State.refuse]
@[simp] theorem State.refuse_links (s : State) (page code : Nat) : (s.refuse page code).links = s.links := by simp [State.refuse]
@[simp] theorem State.refuse_engines (s : State) (page code : Nat) : (s.refuse page code).engines = s.engines := by simp [State.refuse]
@[simp] theorem State.refuse_cams (s : State) (page code : Nat) : (s.refuse page code).cams = s.cams := by simp [State.refuse]
@[simp] theorem State.refuse_slices (s : State) (page code : Nat) : (s.refuse page code).slices = s.slices := by simp [State.refuse]
@[simp] theorem State.refuse_seams (s : State) (page code : Nat) : (s.refuse page code).seams = s.seams := by simp [State.refuse]
@[simp] theorem State.refuse_moulds (s : State) (page code : Nat) : (s.refuse page code).moulds = s.moulds := by simp [State.refuse]
@[simp] theorem State.refuse_encs (s : State) (page code : Nat) : (s.refuse page code).encs = s.encs := by simp [State.refuse]
@[simp] theorem State.refuse_timers (s : State) (page code : Nat) : (s.refuse page code).timers = s.timers := by simp [State.refuse]
@[simp] theorem State.refuse_strobes (s : State) (page code : Nat) : (s.refuse page code).strobes = s.strobes := by simp [State.refuse]
@[simp] theorem State.refuse_records (s : State) (page code : Nat) : (s.refuse page code).records = s.records := by simp [State.refuse]
@[simp] theorem State.refuse_queues (s : State) (page code : Nat) : (s.refuse page code).queues = s.queues := by simp [State.refuse]
@[simp] theorem State.refuse_banks (s : State) (page code : Nat) : (s.refuse page code).banks = s.banks := by simp [State.refuse]
@[simp] theorem State.refuse_prods (s : State) (page code : Nat) : (s.refuse page code).prods = s.prods := by simp [State.refuse]
@[simp] theorem State.refuse_badLinks (s : State) (page code : Nat) : (s.refuse page code).badLinks = s.badLinks := by simp [State.refuse]
@[simp] theorem State.refuse_rings (s : State) (page code : Nat) : (s.refuse page code).rings = s.rings := by simp [State.refuse]
@[simp] theorem State.refuse_loads (s : State) (page code : Nat) : (s.refuse page code).loads = s.loads := by simp [State.refuse]
@[simp] theorem State.refuse_chks (s : State) (page code : Nat) : (s.refuse page code).chks = s.chks := by simp [State.refuse]
@[simp] theorem State.refuse_faults (s : State) (page code : Nat) : (s.refuse page code).faults = s.faults := by simp [State.refuse]
@[simp] theorem State.refuse_smb (s : State) (page code : Nat) : (s.refuse page code).smb = s.smb := by simp [State.refuse]
@[simp] theorem State.refuse_jtag (s : State) (page code : Nat) : (s.refuse page code).jtag = s.jtag := by simp [State.refuse]
@[simp] theorem State.refuse_hbm (s : State) (page code : Nat) : (s.refuse page code).hbm = s.hbm := by simp [State.refuse]
@[simp] theorem State.refuse_fresh (s : State) (page code : Nat) : (s.refuse page code).fresh = s.fresh := by simp [State.refuse]
@[simp] theorem State.refuse_out (s : State) (page code : Nat) : (s.refuse page code).out = s.out := by simp [State.refuse]
@[simp] theorem State.refuse_gate (s : State) (page code : Nat) (x : Nat) : (s.refuse page code).gate x = s.gate x := by simp [State.refuse]
@[simp] theorem State.refuse_link (s : State) (page code : Nat) (x : Nat) : (s.refuse page code).link x = s.link x := by simp [State.refuse]
@[simp] theorem State.refuse_engine (s : State) (page code : Nat) (x : Nat) : (s.refuse page code).engine x = s.engine x := by simp [State.refuse]
@[simp] theorem State.refuse_cam (s : State) (page code : Nat) (x : Nat) : (s.refuse page code).cam x = s.cam x := by simp [State.refuse]
@[simp] theorem State.refuse_slice (s : State) (page code : Nat) (x : Nat) : (s.refuse page code).slice x = s.slice x := by simp [State.refuse]
@[simp] theorem State.refuse_seam (s : State) (page code : Nat) (x : Nat) : (s.refuse page code).seam x = s.seam x := by simp [State.refuse]
@[simp] theorem State.refuse_mould (s : State) (page code : Nat) (x : Nat) : (s.refuse page code).mould x = s.mould x := by simp [State.refuse]
@[simp] theorem State.refuse_enc (s : State) (page code : Nat) (x : Nat) : (s.refuse page code).enc x = s.enc x := by simp [State.refuse]
@[simp] theorem State.refuse_timer (s : State) (page code : Nat) (x : Nat) : (s.refuse page code).timer x = s.timer x := by simp [State.refuse]
@[simp] theorem State.refuse_queue (s : State) (page code : Nat) (x : Nat) : (s.refuse page code).queue x = s.queue x := by simp [State.refuse]
@[simp] theorem State.refuse_bank (s : State) (page code : Nat) (x : Nat) : (s.refuse page code).bank x = s.bank x := by simp [State.refuse]
@[simp] theorem State.refuse_prod (s : State) (page code : Nat) (x : Nat) : (s.refuse page code).prod x = s.prod x := by simp [State.refuse]
@[simp] theorem State.refuse_ring (s : State) (page code : Nat) (x : Nat) : (s.refuse page code).ring x = s.ring x := by simp [State.refuse]
@[simp] theorem State.refuse_chk (s : State) (page code : Nat) (x : Nat) : (s.refuse page code).chk x = s.chk x := by simp [State.refuse]
@[simp] theorem State.refuse_record (s : State) (page code : Nat) (x y : Nat) : (s.refuse page code).record x y = s.record x y := by simp [State.refuse]
@[simp] theorem State.refuse_hbmByte (s : State) (page code : Nat) (x : Nat) : (s.refuse page code).hbmByte x = s.hbmByte x := by simp [State.refuse]
@[simp] theorem State.refuse_now (s : State) (page code : Nat) : (s.refuse page code).now = s.now := by simp [State.refuse]

/-! ### State.accept -/

@[simp] theorem State.accept_pending (s : State) (page op : Nat) : (s.accept page op).pending = s.pending := by simp [State.accept]
@[simp] theorem State.accept_supply (s : State) (page op : Nat) : (s.accept page op).supply = s.supply := by simp [State.accept]
@[simp] theorem State.accept_latches (s : State) (page op : Nat) : (s.accept page op).latches = s.latches := by simp [State.accept]
@[simp] theorem State.accept_cfg (s : State) (page op : Nat) : (s.accept page op).cfg = s.cfg := by simp [State.accept]
@[simp] theorem State.accept_time (s : State) (page op : Nat) : (s.accept page op).time = s.time := by simp [State.accept]
@[simp] theorem State.accept_gates (s : State) (page op : Nat) : (s.accept page op).gates = s.gates := by simp [State.accept]
@[simp] theorem State.accept_links (s : State) (page op : Nat) : (s.accept page op).links = s.links := by simp [State.accept]
@[simp] theorem State.accept_engines (s : State) (page op : Nat) : (s.accept page op).engines = s.engines := by simp [State.accept]
@[simp] theorem State.accept_cams (s : State) (page op : Nat) : (s.accept page op).cams = s.cams := by simp [State.accept]
@[simp] theorem State.accept_slices (s : State) (page op : Nat) : (s.accept page op).slices = s.slices := by simp [State.accept]
@[simp] theorem State.accept_seams (s : State) (page op : Nat) : (s.accept page op).seams = s.seams := by simp [State.accept]
@[simp] theorem State.accept_moulds (s : State) (page op : Nat) : (s.accept page op).moulds = s.moulds := by simp [State.accept]
@[simp] theorem State.accept_encs (s : State) (page op : Nat) : (s.accept page op).encs = s.encs := by simp [State.accept]
@[simp] theorem State.accept_timers (s : State) (page op : Nat) : (s.accept page op).timers = s.timers := by simp [State.accept]
@[simp] theorem State.accept_strobes (s : State) (page op : Nat) : (s.accept page op).strobes = s.strobes := by simp [State.accept]
@[simp] theorem State.accept_records (s : State) (page op : Nat) : (s.accept page op).records = s.records := by simp [State.accept]
@[simp] theorem State.accept_queues (s : State) (page op : Nat) : (s.accept page op).queues = s.queues := by simp [State.accept]
@[simp] theorem State.accept_banks (s : State) (page op : Nat) : (s.accept page op).banks = s.banks := by simp [State.accept]
@[simp] theorem State.accept_prods (s : State) (page op : Nat) : (s.accept page op).prods = s.prods := by simp [State.accept]
@[simp] theorem State.accept_badLinks (s : State) (page op : Nat) : (s.accept page op).badLinks = s.badLinks := by simp [State.accept]
@[simp] theorem State.accept_rings (s : State) (page op : Nat) : (s.accept page op).rings = s.rings := by simp [State.accept]
@[simp] theorem State.accept_loads (s : State) (page op : Nat) : (s.accept page op).loads = s.loads := by simp [State.accept]
@[simp] theorem State.accept_chks (s : State) (page op : Nat) : (s.accept page op).chks = s.chks := by simp [State.accept]
@[simp] theorem State.accept_faults (s : State) (page op : Nat) : (s.accept page op).faults = s.faults := by simp [State.accept]
@[simp] theorem State.accept_smb (s : State) (page op : Nat) : (s.accept page op).smb = s.smb := by simp [State.accept]
@[simp] theorem State.accept_jtag (s : State) (page op : Nat) : (s.accept page op).jtag = s.jtag := by simp [State.accept]
@[simp] theorem State.accept_hbm (s : State) (page op : Nat) : (s.accept page op).hbm = s.hbm := by simp [State.accept]
@[simp] theorem State.accept_fresh (s : State) (page op : Nat) : (s.accept page op).fresh = s.fresh := by simp [State.accept]
@[simp] theorem State.accept_out (s : State) (page op : Nat) : (s.accept page op).out = s.out := by simp [State.accept]
@[simp] theorem State.accept_gate (s : State) (page op : Nat) (x : Nat) : (s.accept page op).gate x = s.gate x := by simp [State.accept]
@[simp] theorem State.accept_link (s : State) (page op : Nat) (x : Nat) : (s.accept page op).link x = s.link x := by simp [State.accept]
@[simp] theorem State.accept_engine (s : State) (page op : Nat) (x : Nat) : (s.accept page op).engine x = s.engine x := by simp [State.accept]
@[simp] theorem State.accept_cam (s : State) (page op : Nat) (x : Nat) : (s.accept page op).cam x = s.cam x := by simp [State.accept]
@[simp] theorem State.accept_slice (s : State) (page op : Nat) (x : Nat) : (s.accept page op).slice x = s.slice x := by simp [State.accept]
@[simp] theorem State.accept_seam (s : State) (page op : Nat) (x : Nat) : (s.accept page op).seam x = s.seam x := by simp [State.accept]
@[simp] theorem State.accept_mould (s : State) (page op : Nat) (x : Nat) : (s.accept page op).mould x = s.mould x := by simp [State.accept]
@[simp] theorem State.accept_enc (s : State) (page op : Nat) (x : Nat) : (s.accept page op).enc x = s.enc x := by simp [State.accept]
@[simp] theorem State.accept_timer (s : State) (page op : Nat) (x : Nat) : (s.accept page op).timer x = s.timer x := by simp [State.accept]
@[simp] theorem State.accept_queue (s : State) (page op : Nat) (x : Nat) : (s.accept page op).queue x = s.queue x := by simp [State.accept]
@[simp] theorem State.accept_bank (s : State) (page op : Nat) (x : Nat) : (s.accept page op).bank x = s.bank x := by simp [State.accept]
@[simp] theorem State.accept_prod (s : State) (page op : Nat) (x : Nat) : (s.accept page op).prod x = s.prod x := by simp [State.accept]
@[simp] theorem State.accept_ring (s : State) (page op : Nat) (x : Nat) : (s.accept page op).ring x = s.ring x := by simp [State.accept]
@[simp] theorem State.accept_chk (s : State) (page op : Nat) (x : Nat) : (s.accept page op).chk x = s.chk x := by simp [State.accept]
@[simp] theorem State.accept_record (s : State) (page op : Nat) (x y : Nat) : (s.accept page op).record x y = s.record x y := by simp [State.accept]
@[simp] theorem State.accept_hbmByte (s : State) (page op : Nat) (x : Nat) : (s.accept page op).hbmByte x = s.hbmByte x := by simp [State.accept]
@[simp] theorem State.accept_now (s : State) (page op : Nat) : (s.accept page op).now = s.now := by simp [State.accept]

/-! ### State.requestVector -/

@[simp] theorem State.requestVector_pending (s : State) (v : Nat) : (s.requestVector v).pending = s.pending := (rfl)
@[simp] theorem State.requestVector_supply (s : State) (v : Nat) : (s.requestVector v).supply = s.supply := (rfl)
@[simp] theorem State.requestVector_latches (s : State) (v : Nat) : (s.requestVector v).latches = s.latches := (rfl)
@[simp] theorem State.requestVector_cfg (s : State) (v : Nat) : (s.requestVector v).cfg = s.cfg := (rfl)
@[simp] theorem State.requestVector_time (s : State) (v : Nat) : (s.requestVector v).time = s.time := (rfl)
@[simp] theorem State.requestVector_gates (s : State) (v : Nat) : (s.requestVector v).gates = s.gates := (rfl)
@[simp] theorem State.requestVector_links (s : State) (v : Nat) : (s.requestVector v).links = s.links := (rfl)
@[simp] theorem State.requestVector_engines (s : State) (v : Nat) : (s.requestVector v).engines = s.engines := (rfl)
@[simp] theorem State.requestVector_cams (s : State) (v : Nat) : (s.requestVector v).cams = s.cams := (rfl)
@[simp] theorem State.requestVector_slices (s : State) (v : Nat) : (s.requestVector v).slices = s.slices := (rfl)
@[simp] theorem State.requestVector_seams (s : State) (v : Nat) : (s.requestVector v).seams = s.seams := (rfl)
@[simp] theorem State.requestVector_moulds (s : State) (v : Nat) : (s.requestVector v).moulds = s.moulds := (rfl)
@[simp] theorem State.requestVector_encs (s : State) (v : Nat) : (s.requestVector v).encs = s.encs := (rfl)
@[simp] theorem State.requestVector_timers (s : State) (v : Nat) : (s.requestVector v).timers = s.timers := (rfl)
@[simp] theorem State.requestVector_strobes (s : State) (v : Nat) : (s.requestVector v).strobes = s.strobes := (rfl)
@[simp] theorem State.requestVector_records (s : State) (v : Nat) : (s.requestVector v).records = s.records := (rfl)
@[simp] theorem State.requestVector_queues (s : State) (v : Nat) : (s.requestVector v).queues = s.queues := (rfl)
@[simp] theorem State.requestVector_banks (s : State) (v : Nat) : (s.requestVector v).banks = s.banks := (rfl)
@[simp] theorem State.requestVector_prods (s : State) (v : Nat) : (s.requestVector v).prods = s.prods := (rfl)
@[simp] theorem State.requestVector_badLinks (s : State) (v : Nat) : (s.requestVector v).badLinks = s.badLinks := (rfl)
@[simp] theorem State.requestVector_rings (s : State) (v : Nat) : (s.requestVector v).rings = s.rings := (rfl)
@[simp] theorem State.requestVector_loads (s : State) (v : Nat) : (s.requestVector v).loads = s.loads := (rfl)
@[simp] theorem State.requestVector_chks (s : State) (v : Nat) : (s.requestVector v).chks = s.chks := (rfl)
@[simp] theorem State.requestVector_faults (s : State) (v : Nat) : (s.requestVector v).faults = s.faults := (rfl)
@[simp] theorem State.requestVector_smb (s : State) (v : Nat) : (s.requestVector v).smb = s.smb := (rfl)
@[simp] theorem State.requestVector_jtag (s : State) (v : Nat) : (s.requestVector v).jtag = s.jtag := (rfl)
@[simp] theorem State.requestVector_hbm (s : State) (v : Nat) : (s.requestVector v).hbm = s.hbm := (rfl)
@[simp] theorem State.requestVector_fresh (s : State) (v : Nat) : (s.requestVector v).fresh = s.fresh := (rfl)
@[simp] theorem State.requestVector_out (s : State) (v : Nat) : (s.requestVector v).out = s.out := (rfl)
@[simp] theorem State.requestVector_gate (s : State) (v : Nat) (x : Nat) : (s.requestVector v).gate x = s.gate x := (rfl)
@[simp] theorem State.requestVector_link (s : State) (v : Nat) (x : Nat) : (s.requestVector v).link x = s.link x := (rfl)
@[simp] theorem State.requestVector_engine (s : State) (v : Nat) (x : Nat) : (s.requestVector v).engine x = s.engine x := (rfl)
@[simp] theorem State.requestVector_cam (s : State) (v : Nat) (x : Nat) : (s.requestVector v).cam x = s.cam x := (rfl)
@[simp] theorem State.requestVector_slice (s : State) (v : Nat) (x : Nat) : (s.requestVector v).slice x = s.slice x := (rfl)
@[simp] theorem State.requestVector_seam (s : State) (v : Nat) (x : Nat) : (s.requestVector v).seam x = s.seam x := (rfl)
@[simp] theorem State.requestVector_mould (s : State) (v : Nat) (x : Nat) : (s.requestVector v).mould x = s.mould x := (rfl)
@[simp] theorem State.requestVector_enc (s : State) (v : Nat) (x : Nat) : (s.requestVector v).enc x = s.enc x := (rfl)
@[simp] theorem State.requestVector_timer (s : State) (v : Nat) (x : Nat) : (s.requestVector v).timer x = s.timer x := (rfl)
@[simp] theorem State.requestVector_queue (s : State) (v : Nat) (x : Nat) : (s.requestVector v).queue x = s.queue x := (rfl)
@[simp] theorem State.requestVector_bank (s : State) (v : Nat) (x : Nat) : (s.requestVector v).bank x = s.bank x := (rfl)
@[simp] theorem State.requestVector_prod (s : State) (v : Nat) (x : Nat) : (s.requestVector v).prod x = s.prod x := (rfl)
@[simp] theorem State.requestVector_ring (s : State) (v : Nat) (x : Nat) : (s.requestVector v).ring x = s.ring x := (rfl)
@[simp] theorem State.requestVector_chk (s : State) (v : Nat) (x : Nat) : (s.requestVector v).chk x = s.chk x := (rfl)
@[simp] theorem State.requestVector_record (s : State) (v : Nat) (x y : Nat) : (s.requestVector v).record x y = s.record x y := (rfl)
@[simp] theorem State.requestVector_hbmByte (s : State) (v : Nat) (x : Nat) : (s.requestVector v).hbmByte x = s.hbmByte x := (rfl)
@[simp] theorem State.requestVector_now (s : State) (v : Nat) : (s.requestVector v).now = s.now := (rfl)

/-! ### State.emit -/

@[simp] theorem State.emit_pending (s : State) (e : Emission) : (s.emit e).pending = s.pending := (rfl)
@[simp] theorem State.emit_supply (s : State) (e : Emission) : (s.emit e).supply = s.supply := (rfl)
@[simp] theorem State.emit_regs (s : State) (e : Emission) : (s.emit e).regs = s.regs := (rfl)
@[simp] theorem State.emit_latches (s : State) (e : Emission) : (s.emit e).latches = s.latches := (rfl)
@[simp] theorem State.emit_cfg (s : State) (e : Emission) : (s.emit e).cfg = s.cfg := (rfl)
@[simp] theorem State.emit_time (s : State) (e : Emission) : (s.emit e).time = s.time := (rfl)
@[simp] theorem State.emit_gates (s : State) (e : Emission) : (s.emit e).gates = s.gates := (rfl)
@[simp] theorem State.emit_links (s : State) (e : Emission) : (s.emit e).links = s.links := (rfl)
@[simp] theorem State.emit_engines (s : State) (e : Emission) : (s.emit e).engines = s.engines := (rfl)
@[simp] theorem State.emit_cams (s : State) (e : Emission) : (s.emit e).cams = s.cams := (rfl)
@[simp] theorem State.emit_slices (s : State) (e : Emission) : (s.emit e).slices = s.slices := (rfl)
@[simp] theorem State.emit_seams (s : State) (e : Emission) : (s.emit e).seams = s.seams := (rfl)
@[simp] theorem State.emit_moulds (s : State) (e : Emission) : (s.emit e).moulds = s.moulds := (rfl)
@[simp] theorem State.emit_encs (s : State) (e : Emission) : (s.emit e).encs = s.encs := (rfl)
@[simp] theorem State.emit_timers (s : State) (e : Emission) : (s.emit e).timers = s.timers := (rfl)
@[simp] theorem State.emit_strobes (s : State) (e : Emission) : (s.emit e).strobes = s.strobes := (rfl)
@[simp] theorem State.emit_records (s : State) (e : Emission) : (s.emit e).records = s.records := (rfl)
@[simp] theorem State.emit_queues (s : State) (e : Emission) : (s.emit e).queues = s.queues := (rfl)
@[simp] theorem State.emit_banks (s : State) (e : Emission) : (s.emit e).banks = s.banks := (rfl)
@[simp] theorem State.emit_prods (s : State) (e : Emission) : (s.emit e).prods = s.prods := (rfl)
@[simp] theorem State.emit_badLinks (s : State) (e : Emission) : (s.emit e).badLinks = s.badLinks := (rfl)
@[simp] theorem State.emit_rings (s : State) (e : Emission) : (s.emit e).rings = s.rings := (rfl)
@[simp] theorem State.emit_loads (s : State) (e : Emission) : (s.emit e).loads = s.loads := (rfl)
@[simp] theorem State.emit_chks (s : State) (e : Emission) : (s.emit e).chks = s.chks := (rfl)
@[simp] theorem State.emit_faults (s : State) (e : Emission) : (s.emit e).faults = s.faults := (rfl)
@[simp] theorem State.emit_smb (s : State) (e : Emission) : (s.emit e).smb = s.smb := (rfl)
@[simp] theorem State.emit_jtag (s : State) (e : Emission) : (s.emit e).jtag = s.jtag := (rfl)
@[simp] theorem State.emit_hbm (s : State) (e : Emission) : (s.emit e).hbm = s.hbm := (rfl)
@[simp] theorem State.emit_fresh (s : State) (e : Emission) : (s.emit e).fresh = s.fresh := (rfl)
@[simp] theorem State.emit_word (s : State) (e : Emission) (x : Nat) : (s.emit e).word x = s.word x := (rfl)
@[simp] theorem State.emit_get (s : State) (e : Emission) (x : Fld) : (s.emit e).get x = s.get x := (rfl)
@[simp] theorem State.emit_on (s : State) (e : Emission) (x : Fld) : (s.emit e).on x = s.on x := (rfl)
@[simp] theorem State.emit_bitAt (s : State) (e : Emission) (x : Fld) (i : Nat) : (s.emit e).bitAt x i = s.bitAt x i := (rfl)
@[simp] theorem State.emit_gate (s : State) (e : Emission) (x : Nat) : (s.emit e).gate x = s.gate x := (rfl)
@[simp] theorem State.emit_link (s : State) (e : Emission) (x : Nat) : (s.emit e).link x = s.link x := (rfl)
@[simp] theorem State.emit_engine (s : State) (e : Emission) (x : Nat) : (s.emit e).engine x = s.engine x := (rfl)
@[simp] theorem State.emit_cam (s : State) (e : Emission) (x : Nat) : (s.emit e).cam x = s.cam x := (rfl)
@[simp] theorem State.emit_slice (s : State) (e : Emission) (x : Nat) : (s.emit e).slice x = s.slice x := (rfl)
@[simp] theorem State.emit_seam (s : State) (e : Emission) (x : Nat) : (s.emit e).seam x = s.seam x := (rfl)
@[simp] theorem State.emit_mould (s : State) (e : Emission) (x : Nat) : (s.emit e).mould x = s.mould x := (rfl)
@[simp] theorem State.emit_enc (s : State) (e : Emission) (x : Nat) : (s.emit e).enc x = s.enc x := (rfl)
@[simp] theorem State.emit_timer (s : State) (e : Emission) (x : Nat) : (s.emit e).timer x = s.timer x := (rfl)
@[simp] theorem State.emit_queue (s : State) (e : Emission) (x : Nat) : (s.emit e).queue x = s.queue x := (rfl)
@[simp] theorem State.emit_bank (s : State) (e : Emission) (x : Nat) : (s.emit e).bank x = s.bank x := (rfl)
@[simp] theorem State.emit_prod (s : State) (e : Emission) (x : Nat) : (s.emit e).prod x = s.prod x := (rfl)
@[simp] theorem State.emit_ring (s : State) (e : Emission) (x : Nat) : (s.emit e).ring x = s.ring x := (rfl)
@[simp] theorem State.emit_chk (s : State) (e : Emission) (x : Nat) : (s.emit e).chk x = s.chk x := (rfl)
@[simp] theorem State.emit_record (s : State) (e : Emission) (x y : Nat) : (s.emit e).record x y = s.record x y := (rfl)
@[simp] theorem State.emit_hbmByte (s : State) (e : Emission) (x : Nat) : (s.emit e).hbmByte x = s.hbmByte x := (rfl)
@[simp] theorem State.emit_now (s : State) (e : Emission) : (s.emit e).now = s.now := (rfl)

/-! ### State.reach -/

@[simp] theorem State.reach_pending (s : State) (t : Nat) : (s.reach t).pending = s.pending := (rfl)
@[simp] theorem State.reach_supply (s : State) (t : Nat) : (s.reach t).supply = s.supply := (rfl)
@[simp] theorem State.reach_regs (s : State) (t : Nat) : (s.reach t).regs = s.regs := (rfl)
@[simp] theorem State.reach_latches (s : State) (t : Nat) : (s.reach t).latches = s.latches := (rfl)
@[simp] theorem State.reach_cfg (s : State) (t : Nat) : (s.reach t).cfg = s.cfg := (rfl)
@[simp] theorem State.reach_gates (s : State) (t : Nat) : (s.reach t).gates = s.gates := (rfl)
@[simp] theorem State.reach_links (s : State) (t : Nat) : (s.reach t).links = s.links := (rfl)
@[simp] theorem State.reach_engines (s : State) (t : Nat) : (s.reach t).engines = s.engines := (rfl)
@[simp] theorem State.reach_cams (s : State) (t : Nat) : (s.reach t).cams = s.cams := (rfl)
@[simp] theorem State.reach_slices (s : State) (t : Nat) : (s.reach t).slices = s.slices := (rfl)
@[simp] theorem State.reach_seams (s : State) (t : Nat) : (s.reach t).seams = s.seams := (rfl)
@[simp] theorem State.reach_moulds (s : State) (t : Nat) : (s.reach t).moulds = s.moulds := (rfl)
@[simp] theorem State.reach_encs (s : State) (t : Nat) : (s.reach t).encs = s.encs := (rfl)
@[simp] theorem State.reach_timers (s : State) (t : Nat) : (s.reach t).timers = s.timers := (rfl)
@[simp] theorem State.reach_strobes (s : State) (t : Nat) : (s.reach t).strobes = s.strobes := (rfl)
@[simp] theorem State.reach_records (s : State) (t : Nat) : (s.reach t).records = s.records := (rfl)
@[simp] theorem State.reach_queues (s : State) (t : Nat) : (s.reach t).queues = s.queues := (rfl)
@[simp] theorem State.reach_banks (s : State) (t : Nat) : (s.reach t).banks = s.banks := (rfl)
@[simp] theorem State.reach_prods (s : State) (t : Nat) : (s.reach t).prods = s.prods := (rfl)
@[simp] theorem State.reach_badLinks (s : State) (t : Nat) : (s.reach t).badLinks = s.badLinks := (rfl)
@[simp] theorem State.reach_rings (s : State) (t : Nat) : (s.reach t).rings = s.rings := (rfl)
@[simp] theorem State.reach_loads (s : State) (t : Nat) : (s.reach t).loads = s.loads := (rfl)
@[simp] theorem State.reach_chks (s : State) (t : Nat) : (s.reach t).chks = s.chks := (rfl)
@[simp] theorem State.reach_faults (s : State) (t : Nat) : (s.reach t).faults = s.faults := (rfl)
@[simp] theorem State.reach_smb (s : State) (t : Nat) : (s.reach t).smb = s.smb := (rfl)
@[simp] theorem State.reach_jtag (s : State) (t : Nat) : (s.reach t).jtag = s.jtag := (rfl)
@[simp] theorem State.reach_hbm (s : State) (t : Nat) : (s.reach t).hbm = s.hbm := (rfl)
@[simp] theorem State.reach_fresh (s : State) (t : Nat) : (s.reach t).fresh = s.fresh := (rfl)
@[simp] theorem State.reach_out (s : State) (t : Nat) : (s.reach t).out = s.out := (rfl)
@[simp] theorem State.reach_word (s : State) (t : Nat) (x : Nat) : (s.reach t).word x = s.word x := (rfl)
@[simp] theorem State.reach_get (s : State) (t : Nat) (x : Fld) : (s.reach t).get x = s.get x := (rfl)
@[simp] theorem State.reach_on (s : State) (t : Nat) (x : Fld) : (s.reach t).on x = s.on x := (rfl)
@[simp] theorem State.reach_bitAt (s : State) (t : Nat) (x : Fld) (i : Nat) : (s.reach t).bitAt x i = s.bitAt x i := (rfl)
@[simp] theorem State.reach_gate (s : State) (t : Nat) (x : Nat) : (s.reach t).gate x = s.gate x := (rfl)
@[simp] theorem State.reach_link (s : State) (t : Nat) (x : Nat) : (s.reach t).link x = s.link x := (rfl)
@[simp] theorem State.reach_engine (s : State) (t : Nat) (x : Nat) : (s.reach t).engine x = s.engine x := (rfl)
@[simp] theorem State.reach_cam (s : State) (t : Nat) (x : Nat) : (s.reach t).cam x = s.cam x := (rfl)
@[simp] theorem State.reach_slice (s : State) (t : Nat) (x : Nat) : (s.reach t).slice x = s.slice x := (rfl)
@[simp] theorem State.reach_seam (s : State) (t : Nat) (x : Nat) : (s.reach t).seam x = s.seam x := (rfl)
@[simp] theorem State.reach_mould (s : State) (t : Nat) (x : Nat) : (s.reach t).mould x = s.mould x := (rfl)
@[simp] theorem State.reach_enc (s : State) (t : Nat) (x : Nat) : (s.reach t).enc x = s.enc x := (rfl)
@[simp] theorem State.reach_timer (s : State) (t : Nat) (x : Nat) : (s.reach t).timer x = s.timer x := (rfl)
@[simp] theorem State.reach_queue (s : State) (t : Nat) (x : Nat) : (s.reach t).queue x = s.queue x := (rfl)
@[simp] theorem State.reach_bank (s : State) (t : Nat) (x : Nat) : (s.reach t).bank x = s.bank x := (rfl)
@[simp] theorem State.reach_prod (s : State) (t : Nat) (x : Nat) : (s.reach t).prod x = s.prod x := (rfl)
@[simp] theorem State.reach_ring (s : State) (t : Nat) (x : Nat) : (s.reach t).ring x = s.ring x := (rfl)
@[simp] theorem State.reach_chk (s : State) (t : Nat) (x : Nat) : (s.reach t).chk x = s.chk x := (rfl)
@[simp] theorem State.reach_record (s : State) (t : Nat) (x y : Nat) : (s.reach t).record x y = s.record x y := (rfl)
@[simp] theorem State.reach_hbmByte (s : State) (t : Nat) (x : Nat) : (s.reach t).hbmByte x = s.hbmByte x := (rfl)

/-! ### State.setGate -/

@[simp] theorem State.setGate_pending (s : State) (g : Nat) (v : GateSt) : (s.setGate g v).pending = s.pending := (rfl)
@[simp] theorem State.setGate_supply (s : State) (g : Nat) (v : GateSt) : (s.setGate g v).supply = s.supply := (rfl)
@[simp] theorem State.setGate_regs (s : State) (g : Nat) (v : GateSt) : (s.setGate g v).regs = s.regs := (rfl)
@[simp] theorem State.setGate_latches (s : State) (g : Nat) (v : GateSt) : (s.setGate g v).latches = s.latches := (rfl)
@[simp] theorem State.setGate_cfg (s : State) (g : Nat) (v : GateSt) : (s.setGate g v).cfg = s.cfg := (rfl)
@[simp] theorem State.setGate_time (s : State) (g : Nat) (v : GateSt) : (s.setGate g v).time = s.time := (rfl)
@[simp] theorem State.setGate_links (s : State) (g : Nat) (v : GateSt) : (s.setGate g v).links = s.links := (rfl)
@[simp] theorem State.setGate_engines (s : State) (g : Nat) (v : GateSt) : (s.setGate g v).engines = s.engines := (rfl)
@[simp] theorem State.setGate_cams (s : State) (g : Nat) (v : GateSt) : (s.setGate g v).cams = s.cams := (rfl)
@[simp] theorem State.setGate_slices (s : State) (g : Nat) (v : GateSt) : (s.setGate g v).slices = s.slices := (rfl)
@[simp] theorem State.setGate_seams (s : State) (g : Nat) (v : GateSt) : (s.setGate g v).seams = s.seams := (rfl)
@[simp] theorem State.setGate_moulds (s : State) (g : Nat) (v : GateSt) : (s.setGate g v).moulds = s.moulds := (rfl)
@[simp] theorem State.setGate_encs (s : State) (g : Nat) (v : GateSt) : (s.setGate g v).encs = s.encs := (rfl)
@[simp] theorem State.setGate_timers (s : State) (g : Nat) (v : GateSt) : (s.setGate g v).timers = s.timers := (rfl)
@[simp] theorem State.setGate_strobes (s : State) (g : Nat) (v : GateSt) : (s.setGate g v).strobes = s.strobes := (rfl)
@[simp] theorem State.setGate_records (s : State) (g : Nat) (v : GateSt) : (s.setGate g v).records = s.records := (rfl)
@[simp] theorem State.setGate_queues (s : State) (g : Nat) (v : GateSt) : (s.setGate g v).queues = s.queues := (rfl)
@[simp] theorem State.setGate_banks (s : State) (g : Nat) (v : GateSt) : (s.setGate g v).banks = s.banks := (rfl)
@[simp] theorem State.setGate_prods (s : State) (g : Nat) (v : GateSt) : (s.setGate g v).prods = s.prods := (rfl)
@[simp] theorem State.setGate_badLinks (s : State) (g : Nat) (v : GateSt) : (s.setGate g v).badLinks = s.badLinks := (rfl)
@[simp] theorem State.setGate_rings (s : State) (g : Nat) (v : GateSt) : (s.setGate g v).rings = s.rings := (rfl)
@[simp] theorem State.setGate_loads (s : State) (g : Nat) (v : GateSt) : (s.setGate g v).loads = s.loads := (rfl)
@[simp] theorem State.setGate_chks (s : State) (g : Nat) (v : GateSt) : (s.setGate g v).chks = s.chks := (rfl)
@[simp] theorem State.setGate_faults (s : State) (g : Nat) (v : GateSt) : (s.setGate g v).faults = s.faults := (rfl)
@[simp] theorem State.setGate_smb (s : State) (g : Nat) (v : GateSt) : (s.setGate g v).smb = s.smb := (rfl)
@[simp] theorem State.setGate_jtag (s : State) (g : Nat) (v : GateSt) : (s.setGate g v).jtag = s.jtag := (rfl)
@[simp] theorem State.setGate_hbm (s : State) (g : Nat) (v : GateSt) : (s.setGate g v).hbm = s.hbm := (rfl)
@[simp] theorem State.setGate_fresh (s : State) (g : Nat) (v : GateSt) : (s.setGate g v).fresh = s.fresh := (rfl)
@[simp] theorem State.setGate_out (s : State) (g : Nat) (v : GateSt) : (s.setGate g v).out = s.out := (rfl)
@[simp] theorem State.setGate_word (s : State) (g : Nat) (v : GateSt) (x : Nat) : (s.setGate g v).word x = s.word x := (rfl)
@[simp] theorem State.setGate_get (s : State) (g : Nat) (v : GateSt) (x : Fld) : (s.setGate g v).get x = s.get x := (rfl)
@[simp] theorem State.setGate_on (s : State) (g : Nat) (v : GateSt) (x : Fld) : (s.setGate g v).on x = s.on x := (rfl)
@[simp] theorem State.setGate_bitAt (s : State) (g : Nat) (v : GateSt) (x : Fld) (i : Nat) : (s.setGate g v).bitAt x i = s.bitAt x i := (rfl)
@[simp] theorem State.setGate_link (s : State) (g : Nat) (v : GateSt) (x : Nat) : (s.setGate g v).link x = s.link x := (rfl)
@[simp] theorem State.setGate_engine (s : State) (g : Nat) (v : GateSt) (x : Nat) : (s.setGate g v).engine x = s.engine x := (rfl)
@[simp] theorem State.setGate_cam (s : State) (g : Nat) (v : GateSt) (x : Nat) : (s.setGate g v).cam x = s.cam x := (rfl)
@[simp] theorem State.setGate_slice (s : State) (g : Nat) (v : GateSt) (x : Nat) : (s.setGate g v).slice x = s.slice x := (rfl)
@[simp] theorem State.setGate_seam (s : State) (g : Nat) (v : GateSt) (x : Nat) : (s.setGate g v).seam x = s.seam x := (rfl)
@[simp] theorem State.setGate_mould (s : State) (g : Nat) (v : GateSt) (x : Nat) : (s.setGate g v).mould x = s.mould x := (rfl)
@[simp] theorem State.setGate_enc (s : State) (g : Nat) (v : GateSt) (x : Nat) : (s.setGate g v).enc x = s.enc x := (rfl)
@[simp] theorem State.setGate_timer (s : State) (g : Nat) (v : GateSt) (x : Nat) : (s.setGate g v).timer x = s.timer x := (rfl)
@[simp] theorem State.setGate_queue (s : State) (g : Nat) (v : GateSt) (x : Nat) : (s.setGate g v).queue x = s.queue x := (rfl)
@[simp] theorem State.setGate_bank (s : State) (g : Nat) (v : GateSt) (x : Nat) : (s.setGate g v).bank x = s.bank x := (rfl)
@[simp] theorem State.setGate_prod (s : State) (g : Nat) (v : GateSt) (x : Nat) : (s.setGate g v).prod x = s.prod x := (rfl)
@[simp] theorem State.setGate_ring (s : State) (g : Nat) (v : GateSt) (x : Nat) : (s.setGate g v).ring x = s.ring x := (rfl)
@[simp] theorem State.setGate_chk (s : State) (g : Nat) (v : GateSt) (x : Nat) : (s.setGate g v).chk x = s.chk x := (rfl)
@[simp] theorem State.setGate_record (s : State) (g : Nat) (v : GateSt) (x y : Nat) : (s.setGate g v).record x y = s.record x y := (rfl)
@[simp] theorem State.setGate_hbmByte (s : State) (g : Nat) (v : GateSt) (x : Nat) : (s.setGate g v).hbmByte x = s.hbmByte x := (rfl)
@[simp] theorem State.setGate_now (s : State) (g : Nat) (v : GateSt) : (s.setGate g v).now = s.now := (rfl)

/-! ### State.setLink -/

@[simp] theorem State.setLink_pending (s : State) (c : Nat) (v : LinkSt) : (s.setLink c v).pending = s.pending := (rfl)
@[simp] theorem State.setLink_supply (s : State) (c : Nat) (v : LinkSt) : (s.setLink c v).supply = s.supply := (rfl)
@[simp] theorem State.setLink_regs (s : State) (c : Nat) (v : LinkSt) : (s.setLink c v).regs = s.regs := (rfl)
@[simp] theorem State.setLink_latches (s : State) (c : Nat) (v : LinkSt) : (s.setLink c v).latches = s.latches := (rfl)
@[simp] theorem State.setLink_cfg (s : State) (c : Nat) (v : LinkSt) : (s.setLink c v).cfg = s.cfg := (rfl)
@[simp] theorem State.setLink_time (s : State) (c : Nat) (v : LinkSt) : (s.setLink c v).time = s.time := (rfl)
@[simp] theorem State.setLink_gates (s : State) (c : Nat) (v : LinkSt) : (s.setLink c v).gates = s.gates := (rfl)
@[simp] theorem State.setLink_engines (s : State) (c : Nat) (v : LinkSt) : (s.setLink c v).engines = s.engines := (rfl)
@[simp] theorem State.setLink_cams (s : State) (c : Nat) (v : LinkSt) : (s.setLink c v).cams = s.cams := (rfl)
@[simp] theorem State.setLink_slices (s : State) (c : Nat) (v : LinkSt) : (s.setLink c v).slices = s.slices := (rfl)
@[simp] theorem State.setLink_seams (s : State) (c : Nat) (v : LinkSt) : (s.setLink c v).seams = s.seams := (rfl)
@[simp] theorem State.setLink_moulds (s : State) (c : Nat) (v : LinkSt) : (s.setLink c v).moulds = s.moulds := (rfl)
@[simp] theorem State.setLink_encs (s : State) (c : Nat) (v : LinkSt) : (s.setLink c v).encs = s.encs := (rfl)
@[simp] theorem State.setLink_timers (s : State) (c : Nat) (v : LinkSt) : (s.setLink c v).timers = s.timers := (rfl)
@[simp] theorem State.setLink_strobes (s : State) (c : Nat) (v : LinkSt) : (s.setLink c v).strobes = s.strobes := (rfl)
@[simp] theorem State.setLink_records (s : State) (c : Nat) (v : LinkSt) : (s.setLink c v).records = s.records := (rfl)
@[simp] theorem State.setLink_queues (s : State) (c : Nat) (v : LinkSt) : (s.setLink c v).queues = s.queues := (rfl)
@[simp] theorem State.setLink_banks (s : State) (c : Nat) (v : LinkSt) : (s.setLink c v).banks = s.banks := (rfl)
@[simp] theorem State.setLink_prods (s : State) (c : Nat) (v : LinkSt) : (s.setLink c v).prods = s.prods := (rfl)
@[simp] theorem State.setLink_badLinks (s : State) (c : Nat) (v : LinkSt) : (s.setLink c v).badLinks = s.badLinks := (rfl)
@[simp] theorem State.setLink_rings (s : State) (c : Nat) (v : LinkSt) : (s.setLink c v).rings = s.rings := (rfl)
@[simp] theorem State.setLink_loads (s : State) (c : Nat) (v : LinkSt) : (s.setLink c v).loads = s.loads := (rfl)
@[simp] theorem State.setLink_chks (s : State) (c : Nat) (v : LinkSt) : (s.setLink c v).chks = s.chks := (rfl)
@[simp] theorem State.setLink_faults (s : State) (c : Nat) (v : LinkSt) : (s.setLink c v).faults = s.faults := (rfl)
@[simp] theorem State.setLink_smb (s : State) (c : Nat) (v : LinkSt) : (s.setLink c v).smb = s.smb := (rfl)
@[simp] theorem State.setLink_jtag (s : State) (c : Nat) (v : LinkSt) : (s.setLink c v).jtag = s.jtag := (rfl)
@[simp] theorem State.setLink_hbm (s : State) (c : Nat) (v : LinkSt) : (s.setLink c v).hbm = s.hbm := (rfl)
@[simp] theorem State.setLink_fresh (s : State) (c : Nat) (v : LinkSt) : (s.setLink c v).fresh = s.fresh := (rfl)
@[simp] theorem State.setLink_out (s : State) (c : Nat) (v : LinkSt) : (s.setLink c v).out = s.out := (rfl)
@[simp] theorem State.setLink_word (s : State) (c : Nat) (v : LinkSt) (x : Nat) : (s.setLink c v).word x = s.word x := (rfl)
@[simp] theorem State.setLink_get (s : State) (c : Nat) (v : LinkSt) (x : Fld) : (s.setLink c v).get x = s.get x := (rfl)
@[simp] theorem State.setLink_on (s : State) (c : Nat) (v : LinkSt) (x : Fld) : (s.setLink c v).on x = s.on x := (rfl)
@[simp] theorem State.setLink_bitAt (s : State) (c : Nat) (v : LinkSt) (x : Fld) (i : Nat) : (s.setLink c v).bitAt x i = s.bitAt x i := (rfl)
@[simp] theorem State.setLink_gate (s : State) (c : Nat) (v : LinkSt) (x : Nat) : (s.setLink c v).gate x = s.gate x := (rfl)
@[simp] theorem State.setLink_engine (s : State) (c : Nat) (v : LinkSt) (x : Nat) : (s.setLink c v).engine x = s.engine x := (rfl)
@[simp] theorem State.setLink_cam (s : State) (c : Nat) (v : LinkSt) (x : Nat) : (s.setLink c v).cam x = s.cam x := (rfl)
@[simp] theorem State.setLink_slice (s : State) (c : Nat) (v : LinkSt) (x : Nat) : (s.setLink c v).slice x = s.slice x := (rfl)
@[simp] theorem State.setLink_seam (s : State) (c : Nat) (v : LinkSt) (x : Nat) : (s.setLink c v).seam x = s.seam x := (rfl)
@[simp] theorem State.setLink_mould (s : State) (c : Nat) (v : LinkSt) (x : Nat) : (s.setLink c v).mould x = s.mould x := (rfl)
@[simp] theorem State.setLink_enc (s : State) (c : Nat) (v : LinkSt) (x : Nat) : (s.setLink c v).enc x = s.enc x := (rfl)
@[simp] theorem State.setLink_timer (s : State) (c : Nat) (v : LinkSt) (x : Nat) : (s.setLink c v).timer x = s.timer x := (rfl)
@[simp] theorem State.setLink_queue (s : State) (c : Nat) (v : LinkSt) (x : Nat) : (s.setLink c v).queue x = s.queue x := (rfl)
@[simp] theorem State.setLink_bank (s : State) (c : Nat) (v : LinkSt) (x : Nat) : (s.setLink c v).bank x = s.bank x := (rfl)
@[simp] theorem State.setLink_prod (s : State) (c : Nat) (v : LinkSt) (x : Nat) : (s.setLink c v).prod x = s.prod x := (rfl)
@[simp] theorem State.setLink_ring (s : State) (c : Nat) (v : LinkSt) (x : Nat) : (s.setLink c v).ring x = s.ring x := (rfl)
@[simp] theorem State.setLink_chk (s : State) (c : Nat) (v : LinkSt) (x : Nat) : (s.setLink c v).chk x = s.chk x := (rfl)
@[simp] theorem State.setLink_record (s : State) (c : Nat) (v : LinkSt) (x y : Nat) : (s.setLink c v).record x y = s.record x y := (rfl)
@[simp] theorem State.setLink_hbmByte (s : State) (c : Nat) (v : LinkSt) (x : Nat) : (s.setLink c v).hbmByte x = s.hbmByte x := (rfl)
@[simp] theorem State.setLink_now (s : State) (c : Nat) (v : LinkSt) : (s.setLink c v).now = s.now := (rfl)

/-! ### State.setEngine -/

@[simp] theorem State.setEngine_pending (s : State) (g : Nat) (v : EngineSt) : (s.setEngine g v).pending = s.pending := (rfl)
@[simp] theorem State.setEngine_supply (s : State) (g : Nat) (v : EngineSt) : (s.setEngine g v).supply = s.supply := (rfl)
@[simp] theorem State.setEngine_regs (s : State) (g : Nat) (v : EngineSt) : (s.setEngine g v).regs = s.regs := (rfl)
@[simp] theorem State.setEngine_latches (s : State) (g : Nat) (v : EngineSt) : (s.setEngine g v).latches = s.latches := (rfl)
@[simp] theorem State.setEngine_cfg (s : State) (g : Nat) (v : EngineSt) : (s.setEngine g v).cfg = s.cfg := (rfl)
@[simp] theorem State.setEngine_time (s : State) (g : Nat) (v : EngineSt) : (s.setEngine g v).time = s.time := (rfl)
@[simp] theorem State.setEngine_gates (s : State) (g : Nat) (v : EngineSt) : (s.setEngine g v).gates = s.gates := (rfl)
@[simp] theorem State.setEngine_links (s : State) (g : Nat) (v : EngineSt) : (s.setEngine g v).links = s.links := (rfl)
@[simp] theorem State.setEngine_cams (s : State) (g : Nat) (v : EngineSt) : (s.setEngine g v).cams = s.cams := (rfl)
@[simp] theorem State.setEngine_slices (s : State) (g : Nat) (v : EngineSt) : (s.setEngine g v).slices = s.slices := (rfl)
@[simp] theorem State.setEngine_seams (s : State) (g : Nat) (v : EngineSt) : (s.setEngine g v).seams = s.seams := (rfl)
@[simp] theorem State.setEngine_moulds (s : State) (g : Nat) (v : EngineSt) : (s.setEngine g v).moulds = s.moulds := (rfl)
@[simp] theorem State.setEngine_encs (s : State) (g : Nat) (v : EngineSt) : (s.setEngine g v).encs = s.encs := (rfl)
@[simp] theorem State.setEngine_timers (s : State) (g : Nat) (v : EngineSt) : (s.setEngine g v).timers = s.timers := (rfl)
@[simp] theorem State.setEngine_strobes (s : State) (g : Nat) (v : EngineSt) : (s.setEngine g v).strobes = s.strobes := (rfl)
@[simp] theorem State.setEngine_records (s : State) (g : Nat) (v : EngineSt) : (s.setEngine g v).records = s.records := (rfl)
@[simp] theorem State.setEngine_queues (s : State) (g : Nat) (v : EngineSt) : (s.setEngine g v).queues = s.queues := (rfl)
@[simp] theorem State.setEngine_banks (s : State) (g : Nat) (v : EngineSt) : (s.setEngine g v).banks = s.banks := (rfl)
@[simp] theorem State.setEngine_prods (s : State) (g : Nat) (v : EngineSt) : (s.setEngine g v).prods = s.prods := (rfl)
@[simp] theorem State.setEngine_badLinks (s : State) (g : Nat) (v : EngineSt) : (s.setEngine g v).badLinks = s.badLinks := (rfl)
@[simp] theorem State.setEngine_rings (s : State) (g : Nat) (v : EngineSt) : (s.setEngine g v).rings = s.rings := (rfl)
@[simp] theorem State.setEngine_loads (s : State) (g : Nat) (v : EngineSt) : (s.setEngine g v).loads = s.loads := (rfl)
@[simp] theorem State.setEngine_chks (s : State) (g : Nat) (v : EngineSt) : (s.setEngine g v).chks = s.chks := (rfl)
@[simp] theorem State.setEngine_faults (s : State) (g : Nat) (v : EngineSt) : (s.setEngine g v).faults = s.faults := (rfl)
@[simp] theorem State.setEngine_smb (s : State) (g : Nat) (v : EngineSt) : (s.setEngine g v).smb = s.smb := (rfl)
@[simp] theorem State.setEngine_jtag (s : State) (g : Nat) (v : EngineSt) : (s.setEngine g v).jtag = s.jtag := (rfl)
@[simp] theorem State.setEngine_hbm (s : State) (g : Nat) (v : EngineSt) : (s.setEngine g v).hbm = s.hbm := (rfl)
@[simp] theorem State.setEngine_fresh (s : State) (g : Nat) (v : EngineSt) : (s.setEngine g v).fresh = s.fresh := (rfl)
@[simp] theorem State.setEngine_out (s : State) (g : Nat) (v : EngineSt) : (s.setEngine g v).out = s.out := (rfl)
@[simp] theorem State.setEngine_word (s : State) (g : Nat) (v : EngineSt) (x : Nat) : (s.setEngine g v).word x = s.word x := (rfl)
@[simp] theorem State.setEngine_get (s : State) (g : Nat) (v : EngineSt) (x : Fld) : (s.setEngine g v).get x = s.get x := (rfl)
@[simp] theorem State.setEngine_on (s : State) (g : Nat) (v : EngineSt) (x : Fld) : (s.setEngine g v).on x = s.on x := (rfl)
@[simp] theorem State.setEngine_bitAt (s : State) (g : Nat) (v : EngineSt) (x : Fld) (i : Nat) : (s.setEngine g v).bitAt x i = s.bitAt x i := (rfl)
@[simp] theorem State.setEngine_gate (s : State) (g : Nat) (v : EngineSt) (x : Nat) : (s.setEngine g v).gate x = s.gate x := (rfl)
@[simp] theorem State.setEngine_link (s : State) (g : Nat) (v : EngineSt) (x : Nat) : (s.setEngine g v).link x = s.link x := (rfl)
@[simp] theorem State.setEngine_cam (s : State) (g : Nat) (v : EngineSt) (x : Nat) : (s.setEngine g v).cam x = s.cam x := (rfl)
@[simp] theorem State.setEngine_slice (s : State) (g : Nat) (v : EngineSt) (x : Nat) : (s.setEngine g v).slice x = s.slice x := (rfl)
@[simp] theorem State.setEngine_seam (s : State) (g : Nat) (v : EngineSt) (x : Nat) : (s.setEngine g v).seam x = s.seam x := (rfl)
@[simp] theorem State.setEngine_mould (s : State) (g : Nat) (v : EngineSt) (x : Nat) : (s.setEngine g v).mould x = s.mould x := (rfl)
@[simp] theorem State.setEngine_enc (s : State) (g : Nat) (v : EngineSt) (x : Nat) : (s.setEngine g v).enc x = s.enc x := (rfl)
@[simp] theorem State.setEngine_timer (s : State) (g : Nat) (v : EngineSt) (x : Nat) : (s.setEngine g v).timer x = s.timer x := (rfl)
@[simp] theorem State.setEngine_queue (s : State) (g : Nat) (v : EngineSt) (x : Nat) : (s.setEngine g v).queue x = s.queue x := (rfl)
@[simp] theorem State.setEngine_bank (s : State) (g : Nat) (v : EngineSt) (x : Nat) : (s.setEngine g v).bank x = s.bank x := (rfl)
@[simp] theorem State.setEngine_prod (s : State) (g : Nat) (v : EngineSt) (x : Nat) : (s.setEngine g v).prod x = s.prod x := (rfl)
@[simp] theorem State.setEngine_ring (s : State) (g : Nat) (v : EngineSt) (x : Nat) : (s.setEngine g v).ring x = s.ring x := (rfl)
@[simp] theorem State.setEngine_chk (s : State) (g : Nat) (v : EngineSt) (x : Nat) : (s.setEngine g v).chk x = s.chk x := (rfl)
@[simp] theorem State.setEngine_record (s : State) (g : Nat) (v : EngineSt) (x y : Nat) : (s.setEngine g v).record x y = s.record x y := (rfl)
@[simp] theorem State.setEngine_hbmByte (s : State) (g : Nat) (v : EngineSt) (x : Nat) : (s.setEngine g v).hbmByte x = s.hbmByte x := (rfl)
@[simp] theorem State.setEngine_now (s : State) (g : Nat) (v : EngineSt) : (s.setEngine g v).now = s.now := (rfl)

/-! ### State.setCam -/

@[simp] theorem State.setCam_pending (s : State) (c : Nat) (v : CamSt) : (s.setCam c v).pending = s.pending := (rfl)
@[simp] theorem State.setCam_supply (s : State) (c : Nat) (v : CamSt) : (s.setCam c v).supply = s.supply := (rfl)
@[simp] theorem State.setCam_regs (s : State) (c : Nat) (v : CamSt) : (s.setCam c v).regs = s.regs := (rfl)
@[simp] theorem State.setCam_latches (s : State) (c : Nat) (v : CamSt) : (s.setCam c v).latches = s.latches := (rfl)
@[simp] theorem State.setCam_cfg (s : State) (c : Nat) (v : CamSt) : (s.setCam c v).cfg = s.cfg := (rfl)
@[simp] theorem State.setCam_time (s : State) (c : Nat) (v : CamSt) : (s.setCam c v).time = s.time := (rfl)
@[simp] theorem State.setCam_gates (s : State) (c : Nat) (v : CamSt) : (s.setCam c v).gates = s.gates := (rfl)
@[simp] theorem State.setCam_links (s : State) (c : Nat) (v : CamSt) : (s.setCam c v).links = s.links := (rfl)
@[simp] theorem State.setCam_engines (s : State) (c : Nat) (v : CamSt) : (s.setCam c v).engines = s.engines := (rfl)
@[simp] theorem State.setCam_slices (s : State) (c : Nat) (v : CamSt) : (s.setCam c v).slices = s.slices := (rfl)
@[simp] theorem State.setCam_seams (s : State) (c : Nat) (v : CamSt) : (s.setCam c v).seams = s.seams := (rfl)
@[simp] theorem State.setCam_moulds (s : State) (c : Nat) (v : CamSt) : (s.setCam c v).moulds = s.moulds := (rfl)
@[simp] theorem State.setCam_encs (s : State) (c : Nat) (v : CamSt) : (s.setCam c v).encs = s.encs := (rfl)
@[simp] theorem State.setCam_timers (s : State) (c : Nat) (v : CamSt) : (s.setCam c v).timers = s.timers := (rfl)
@[simp] theorem State.setCam_strobes (s : State) (c : Nat) (v : CamSt) : (s.setCam c v).strobes = s.strobes := (rfl)
@[simp] theorem State.setCam_records (s : State) (c : Nat) (v : CamSt) : (s.setCam c v).records = s.records := (rfl)
@[simp] theorem State.setCam_queues (s : State) (c : Nat) (v : CamSt) : (s.setCam c v).queues = s.queues := (rfl)
@[simp] theorem State.setCam_banks (s : State) (c : Nat) (v : CamSt) : (s.setCam c v).banks = s.banks := (rfl)
@[simp] theorem State.setCam_prods (s : State) (c : Nat) (v : CamSt) : (s.setCam c v).prods = s.prods := (rfl)
@[simp] theorem State.setCam_badLinks (s : State) (c : Nat) (v : CamSt) : (s.setCam c v).badLinks = s.badLinks := (rfl)
@[simp] theorem State.setCam_rings (s : State) (c : Nat) (v : CamSt) : (s.setCam c v).rings = s.rings := (rfl)
@[simp] theorem State.setCam_loads (s : State) (c : Nat) (v : CamSt) : (s.setCam c v).loads = s.loads := (rfl)
@[simp] theorem State.setCam_chks (s : State) (c : Nat) (v : CamSt) : (s.setCam c v).chks = s.chks := (rfl)
@[simp] theorem State.setCam_faults (s : State) (c : Nat) (v : CamSt) : (s.setCam c v).faults = s.faults := (rfl)
@[simp] theorem State.setCam_smb (s : State) (c : Nat) (v : CamSt) : (s.setCam c v).smb = s.smb := (rfl)
@[simp] theorem State.setCam_jtag (s : State) (c : Nat) (v : CamSt) : (s.setCam c v).jtag = s.jtag := (rfl)
@[simp] theorem State.setCam_hbm (s : State) (c : Nat) (v : CamSt) : (s.setCam c v).hbm = s.hbm := (rfl)
@[simp] theorem State.setCam_fresh (s : State) (c : Nat) (v : CamSt) : (s.setCam c v).fresh = s.fresh := (rfl)
@[simp] theorem State.setCam_out (s : State) (c : Nat) (v : CamSt) : (s.setCam c v).out = s.out := (rfl)
@[simp] theorem State.setCam_word (s : State) (c : Nat) (v : CamSt) (x : Nat) : (s.setCam c v).word x = s.word x := (rfl)
@[simp] theorem State.setCam_get (s : State) (c : Nat) (v : CamSt) (x : Fld) : (s.setCam c v).get x = s.get x := (rfl)
@[simp] theorem State.setCam_on (s : State) (c : Nat) (v : CamSt) (x : Fld) : (s.setCam c v).on x = s.on x := (rfl)
@[simp] theorem State.setCam_bitAt (s : State) (c : Nat) (v : CamSt) (x : Fld) (i : Nat) : (s.setCam c v).bitAt x i = s.bitAt x i := (rfl)
@[simp] theorem State.setCam_gate (s : State) (c : Nat) (v : CamSt) (x : Nat) : (s.setCam c v).gate x = s.gate x := (rfl)
@[simp] theorem State.setCam_link (s : State) (c : Nat) (v : CamSt) (x : Nat) : (s.setCam c v).link x = s.link x := (rfl)
@[simp] theorem State.setCam_engine (s : State) (c : Nat) (v : CamSt) (x : Nat) : (s.setCam c v).engine x = s.engine x := (rfl)
@[simp] theorem State.setCam_slice (s : State) (c : Nat) (v : CamSt) (x : Nat) : (s.setCam c v).slice x = s.slice x := (rfl)
@[simp] theorem State.setCam_seam (s : State) (c : Nat) (v : CamSt) (x : Nat) : (s.setCam c v).seam x = s.seam x := (rfl)
@[simp] theorem State.setCam_mould (s : State) (c : Nat) (v : CamSt) (x : Nat) : (s.setCam c v).mould x = s.mould x := (rfl)
@[simp] theorem State.setCam_enc (s : State) (c : Nat) (v : CamSt) (x : Nat) : (s.setCam c v).enc x = s.enc x := (rfl)
@[simp] theorem State.setCam_timer (s : State) (c : Nat) (v : CamSt) (x : Nat) : (s.setCam c v).timer x = s.timer x := (rfl)
@[simp] theorem State.setCam_queue (s : State) (c : Nat) (v : CamSt) (x : Nat) : (s.setCam c v).queue x = s.queue x := (rfl)
@[simp] theorem State.setCam_bank (s : State) (c : Nat) (v : CamSt) (x : Nat) : (s.setCam c v).bank x = s.bank x := (rfl)
@[simp] theorem State.setCam_prod (s : State) (c : Nat) (v : CamSt) (x : Nat) : (s.setCam c v).prod x = s.prod x := (rfl)
@[simp] theorem State.setCam_ring (s : State) (c : Nat) (v : CamSt) (x : Nat) : (s.setCam c v).ring x = s.ring x := (rfl)
@[simp] theorem State.setCam_chk (s : State) (c : Nat) (v : CamSt) (x : Nat) : (s.setCam c v).chk x = s.chk x := (rfl)
@[simp] theorem State.setCam_record (s : State) (c : Nat) (v : CamSt) (x y : Nat) : (s.setCam c v).record x y = s.record x y := (rfl)
@[simp] theorem State.setCam_hbmByte (s : State) (c : Nat) (v : CamSt) (x : Nat) : (s.setCam c v).hbmByte x = s.hbmByte x := (rfl)
@[simp] theorem State.setCam_now (s : State) (c : Nat) (v : CamSt) : (s.setCam c v).now = s.now := (rfl)

/-! ### State.setSlice -/

@[simp] theorem State.setSlice_pending (s : State) (k : Nat) (v : SliceSt) : (s.setSlice k v).pending = s.pending := (rfl)
@[simp] theorem State.setSlice_supply (s : State) (k : Nat) (v : SliceSt) : (s.setSlice k v).supply = s.supply := (rfl)
@[simp] theorem State.setSlice_regs (s : State) (k : Nat) (v : SliceSt) : (s.setSlice k v).regs = s.regs := (rfl)
@[simp] theorem State.setSlice_latches (s : State) (k : Nat) (v : SliceSt) : (s.setSlice k v).latches = s.latches := (rfl)
@[simp] theorem State.setSlice_cfg (s : State) (k : Nat) (v : SliceSt) : (s.setSlice k v).cfg = s.cfg := (rfl)
@[simp] theorem State.setSlice_time (s : State) (k : Nat) (v : SliceSt) : (s.setSlice k v).time = s.time := (rfl)
@[simp] theorem State.setSlice_gates (s : State) (k : Nat) (v : SliceSt) : (s.setSlice k v).gates = s.gates := (rfl)
@[simp] theorem State.setSlice_links (s : State) (k : Nat) (v : SliceSt) : (s.setSlice k v).links = s.links := (rfl)
@[simp] theorem State.setSlice_engines (s : State) (k : Nat) (v : SliceSt) : (s.setSlice k v).engines = s.engines := (rfl)
@[simp] theorem State.setSlice_cams (s : State) (k : Nat) (v : SliceSt) : (s.setSlice k v).cams = s.cams := (rfl)
@[simp] theorem State.setSlice_seams (s : State) (k : Nat) (v : SliceSt) : (s.setSlice k v).seams = s.seams := (rfl)
@[simp] theorem State.setSlice_moulds (s : State) (k : Nat) (v : SliceSt) : (s.setSlice k v).moulds = s.moulds := (rfl)
@[simp] theorem State.setSlice_encs (s : State) (k : Nat) (v : SliceSt) : (s.setSlice k v).encs = s.encs := (rfl)
@[simp] theorem State.setSlice_timers (s : State) (k : Nat) (v : SliceSt) : (s.setSlice k v).timers = s.timers := (rfl)
@[simp] theorem State.setSlice_strobes (s : State) (k : Nat) (v : SliceSt) : (s.setSlice k v).strobes = s.strobes := (rfl)
@[simp] theorem State.setSlice_records (s : State) (k : Nat) (v : SliceSt) : (s.setSlice k v).records = s.records := (rfl)
@[simp] theorem State.setSlice_queues (s : State) (k : Nat) (v : SliceSt) : (s.setSlice k v).queues = s.queues := (rfl)
@[simp] theorem State.setSlice_banks (s : State) (k : Nat) (v : SliceSt) : (s.setSlice k v).banks = s.banks := (rfl)
@[simp] theorem State.setSlice_prods (s : State) (k : Nat) (v : SliceSt) : (s.setSlice k v).prods = s.prods := (rfl)
@[simp] theorem State.setSlice_badLinks (s : State) (k : Nat) (v : SliceSt) : (s.setSlice k v).badLinks = s.badLinks := (rfl)
@[simp] theorem State.setSlice_rings (s : State) (k : Nat) (v : SliceSt) : (s.setSlice k v).rings = s.rings := (rfl)
@[simp] theorem State.setSlice_loads (s : State) (k : Nat) (v : SliceSt) : (s.setSlice k v).loads = s.loads := (rfl)
@[simp] theorem State.setSlice_chks (s : State) (k : Nat) (v : SliceSt) : (s.setSlice k v).chks = s.chks := (rfl)
@[simp] theorem State.setSlice_faults (s : State) (k : Nat) (v : SliceSt) : (s.setSlice k v).faults = s.faults := (rfl)
@[simp] theorem State.setSlice_smb (s : State) (k : Nat) (v : SliceSt) : (s.setSlice k v).smb = s.smb := (rfl)
@[simp] theorem State.setSlice_jtag (s : State) (k : Nat) (v : SliceSt) : (s.setSlice k v).jtag = s.jtag := (rfl)
@[simp] theorem State.setSlice_hbm (s : State) (k : Nat) (v : SliceSt) : (s.setSlice k v).hbm = s.hbm := (rfl)
@[simp] theorem State.setSlice_fresh (s : State) (k : Nat) (v : SliceSt) : (s.setSlice k v).fresh = s.fresh := (rfl)
@[simp] theorem State.setSlice_out (s : State) (k : Nat) (v : SliceSt) : (s.setSlice k v).out = s.out := (rfl)
@[simp] theorem State.setSlice_word (s : State) (k : Nat) (v : SliceSt) (x : Nat) : (s.setSlice k v).word x = s.word x := (rfl)
@[simp] theorem State.setSlice_get (s : State) (k : Nat) (v : SliceSt) (x : Fld) : (s.setSlice k v).get x = s.get x := (rfl)
@[simp] theorem State.setSlice_on (s : State) (k : Nat) (v : SliceSt) (x : Fld) : (s.setSlice k v).on x = s.on x := (rfl)
@[simp] theorem State.setSlice_bitAt (s : State) (k : Nat) (v : SliceSt) (x : Fld) (i : Nat) : (s.setSlice k v).bitAt x i = s.bitAt x i := (rfl)
@[simp] theorem State.setSlice_gate (s : State) (k : Nat) (v : SliceSt) (x : Nat) : (s.setSlice k v).gate x = s.gate x := (rfl)
@[simp] theorem State.setSlice_link (s : State) (k : Nat) (v : SliceSt) (x : Nat) : (s.setSlice k v).link x = s.link x := (rfl)
@[simp] theorem State.setSlice_engine (s : State) (k : Nat) (v : SliceSt) (x : Nat) : (s.setSlice k v).engine x = s.engine x := (rfl)
@[simp] theorem State.setSlice_cam (s : State) (k : Nat) (v : SliceSt) (x : Nat) : (s.setSlice k v).cam x = s.cam x := (rfl)
@[simp] theorem State.setSlice_seam (s : State) (k : Nat) (v : SliceSt) (x : Nat) : (s.setSlice k v).seam x = s.seam x := (rfl)
@[simp] theorem State.setSlice_mould (s : State) (k : Nat) (v : SliceSt) (x : Nat) : (s.setSlice k v).mould x = s.mould x := (rfl)
@[simp] theorem State.setSlice_enc (s : State) (k : Nat) (v : SliceSt) (x : Nat) : (s.setSlice k v).enc x = s.enc x := (rfl)
@[simp] theorem State.setSlice_timer (s : State) (k : Nat) (v : SliceSt) (x : Nat) : (s.setSlice k v).timer x = s.timer x := (rfl)
@[simp] theorem State.setSlice_queue (s : State) (k : Nat) (v : SliceSt) (x : Nat) : (s.setSlice k v).queue x = s.queue x := (rfl)
@[simp] theorem State.setSlice_bank (s : State) (k : Nat) (v : SliceSt) (x : Nat) : (s.setSlice k v).bank x = s.bank x := (rfl)
@[simp] theorem State.setSlice_prod (s : State) (k : Nat) (v : SliceSt) (x : Nat) : (s.setSlice k v).prod x = s.prod x := (rfl)
@[simp] theorem State.setSlice_ring (s : State) (k : Nat) (v : SliceSt) (x : Nat) : (s.setSlice k v).ring x = s.ring x := (rfl)
@[simp] theorem State.setSlice_chk (s : State) (k : Nat) (v : SliceSt) (x : Nat) : (s.setSlice k v).chk x = s.chk x := (rfl)
@[simp] theorem State.setSlice_record (s : State) (k : Nat) (v : SliceSt) (x y : Nat) : (s.setSlice k v).record x y = s.record x y := (rfl)
@[simp] theorem State.setSlice_hbmByte (s : State) (k : Nat) (v : SliceSt) (x : Nat) : (s.setSlice k v).hbmByte x = s.hbmByte x := (rfl)
@[simp] theorem State.setSlice_now (s : State) (k : Nat) (v : SliceSt) : (s.setSlice k v).now = s.now := (rfl)

/-! ### State.setSeam -/

@[simp] theorem State.setSeam_pending (s : State) (u : Nat) (v : SeamSt) : (s.setSeam u v).pending = s.pending := (rfl)
@[simp] theorem State.setSeam_supply (s : State) (u : Nat) (v : SeamSt) : (s.setSeam u v).supply = s.supply := (rfl)
@[simp] theorem State.setSeam_regs (s : State) (u : Nat) (v : SeamSt) : (s.setSeam u v).regs = s.regs := (rfl)
@[simp] theorem State.setSeam_latches (s : State) (u : Nat) (v : SeamSt) : (s.setSeam u v).latches = s.latches := (rfl)
@[simp] theorem State.setSeam_cfg (s : State) (u : Nat) (v : SeamSt) : (s.setSeam u v).cfg = s.cfg := (rfl)
@[simp] theorem State.setSeam_time (s : State) (u : Nat) (v : SeamSt) : (s.setSeam u v).time = s.time := (rfl)
@[simp] theorem State.setSeam_gates (s : State) (u : Nat) (v : SeamSt) : (s.setSeam u v).gates = s.gates := (rfl)
@[simp] theorem State.setSeam_links (s : State) (u : Nat) (v : SeamSt) : (s.setSeam u v).links = s.links := (rfl)
@[simp] theorem State.setSeam_engines (s : State) (u : Nat) (v : SeamSt) : (s.setSeam u v).engines = s.engines := (rfl)
@[simp] theorem State.setSeam_cams (s : State) (u : Nat) (v : SeamSt) : (s.setSeam u v).cams = s.cams := (rfl)
@[simp] theorem State.setSeam_slices (s : State) (u : Nat) (v : SeamSt) : (s.setSeam u v).slices = s.slices := (rfl)
@[simp] theorem State.setSeam_moulds (s : State) (u : Nat) (v : SeamSt) : (s.setSeam u v).moulds = s.moulds := (rfl)
@[simp] theorem State.setSeam_encs (s : State) (u : Nat) (v : SeamSt) : (s.setSeam u v).encs = s.encs := (rfl)
@[simp] theorem State.setSeam_timers (s : State) (u : Nat) (v : SeamSt) : (s.setSeam u v).timers = s.timers := (rfl)
@[simp] theorem State.setSeam_strobes (s : State) (u : Nat) (v : SeamSt) : (s.setSeam u v).strobes = s.strobes := (rfl)
@[simp] theorem State.setSeam_records (s : State) (u : Nat) (v : SeamSt) : (s.setSeam u v).records = s.records := (rfl)
@[simp] theorem State.setSeam_queues (s : State) (u : Nat) (v : SeamSt) : (s.setSeam u v).queues = s.queues := (rfl)
@[simp] theorem State.setSeam_banks (s : State) (u : Nat) (v : SeamSt) : (s.setSeam u v).banks = s.banks := (rfl)
@[simp] theorem State.setSeam_prods (s : State) (u : Nat) (v : SeamSt) : (s.setSeam u v).prods = s.prods := (rfl)
@[simp] theorem State.setSeam_badLinks (s : State) (u : Nat) (v : SeamSt) : (s.setSeam u v).badLinks = s.badLinks := (rfl)
@[simp] theorem State.setSeam_rings (s : State) (u : Nat) (v : SeamSt) : (s.setSeam u v).rings = s.rings := (rfl)
@[simp] theorem State.setSeam_loads (s : State) (u : Nat) (v : SeamSt) : (s.setSeam u v).loads = s.loads := (rfl)
@[simp] theorem State.setSeam_chks (s : State) (u : Nat) (v : SeamSt) : (s.setSeam u v).chks = s.chks := (rfl)
@[simp] theorem State.setSeam_faults (s : State) (u : Nat) (v : SeamSt) : (s.setSeam u v).faults = s.faults := (rfl)
@[simp] theorem State.setSeam_smb (s : State) (u : Nat) (v : SeamSt) : (s.setSeam u v).smb = s.smb := (rfl)
@[simp] theorem State.setSeam_jtag (s : State) (u : Nat) (v : SeamSt) : (s.setSeam u v).jtag = s.jtag := (rfl)
@[simp] theorem State.setSeam_hbm (s : State) (u : Nat) (v : SeamSt) : (s.setSeam u v).hbm = s.hbm := (rfl)
@[simp] theorem State.setSeam_fresh (s : State) (u : Nat) (v : SeamSt) : (s.setSeam u v).fresh = s.fresh := (rfl)
@[simp] theorem State.setSeam_out (s : State) (u : Nat) (v : SeamSt) : (s.setSeam u v).out = s.out := (rfl)
@[simp] theorem State.setSeam_word (s : State) (u : Nat) (v : SeamSt) (x : Nat) : (s.setSeam u v).word x = s.word x := (rfl)
@[simp] theorem State.setSeam_get (s : State) (u : Nat) (v : SeamSt) (x : Fld) : (s.setSeam u v).get x = s.get x := (rfl)
@[simp] theorem State.setSeam_on (s : State) (u : Nat) (v : SeamSt) (x : Fld) : (s.setSeam u v).on x = s.on x := (rfl)
@[simp] theorem State.setSeam_bitAt (s : State) (u : Nat) (v : SeamSt) (x : Fld) (i : Nat) : (s.setSeam u v).bitAt x i = s.bitAt x i := (rfl)
@[simp] theorem State.setSeam_gate (s : State) (u : Nat) (v : SeamSt) (x : Nat) : (s.setSeam u v).gate x = s.gate x := (rfl)
@[simp] theorem State.setSeam_link (s : State) (u : Nat) (v : SeamSt) (x : Nat) : (s.setSeam u v).link x = s.link x := (rfl)
@[simp] theorem State.setSeam_engine (s : State) (u : Nat) (v : SeamSt) (x : Nat) : (s.setSeam u v).engine x = s.engine x := (rfl)
@[simp] theorem State.setSeam_cam (s : State) (u : Nat) (v : SeamSt) (x : Nat) : (s.setSeam u v).cam x = s.cam x := (rfl)
@[simp] theorem State.setSeam_slice (s : State) (u : Nat) (v : SeamSt) (x : Nat) : (s.setSeam u v).slice x = s.slice x := (rfl)
@[simp] theorem State.setSeam_mould (s : State) (u : Nat) (v : SeamSt) (x : Nat) : (s.setSeam u v).mould x = s.mould x := (rfl)
@[simp] theorem State.setSeam_enc (s : State) (u : Nat) (v : SeamSt) (x : Nat) : (s.setSeam u v).enc x = s.enc x := (rfl)
@[simp] theorem State.setSeam_timer (s : State) (u : Nat) (v : SeamSt) (x : Nat) : (s.setSeam u v).timer x = s.timer x := (rfl)
@[simp] theorem State.setSeam_queue (s : State) (u : Nat) (v : SeamSt) (x : Nat) : (s.setSeam u v).queue x = s.queue x := (rfl)
@[simp] theorem State.setSeam_bank (s : State) (u : Nat) (v : SeamSt) (x : Nat) : (s.setSeam u v).bank x = s.bank x := (rfl)
@[simp] theorem State.setSeam_prod (s : State) (u : Nat) (v : SeamSt) (x : Nat) : (s.setSeam u v).prod x = s.prod x := (rfl)
@[simp] theorem State.setSeam_ring (s : State) (u : Nat) (v : SeamSt) (x : Nat) : (s.setSeam u v).ring x = s.ring x := (rfl)
@[simp] theorem State.setSeam_chk (s : State) (u : Nat) (v : SeamSt) (x : Nat) : (s.setSeam u v).chk x = s.chk x := (rfl)
@[simp] theorem State.setSeam_record (s : State) (u : Nat) (v : SeamSt) (x y : Nat) : (s.setSeam u v).record x y = s.record x y := (rfl)
@[simp] theorem State.setSeam_hbmByte (s : State) (u : Nat) (v : SeamSt) (x : Nat) : (s.setSeam u v).hbmByte x = s.hbmByte x := (rfl)
@[simp] theorem State.setSeam_now (s : State) (u : Nat) (v : SeamSt) : (s.setSeam u v).now = s.now := (rfl)

/-! ### State.setMould -/

@[simp] theorem State.setMould_pending (s : State) (m : Nat) (v : MouldSt) : (s.setMould m v).pending = s.pending := (rfl)
@[simp] theorem State.setMould_supply (s : State) (m : Nat) (v : MouldSt) : (s.setMould m v).supply = s.supply := (rfl)
@[simp] theorem State.setMould_regs (s : State) (m : Nat) (v : MouldSt) : (s.setMould m v).regs = s.regs := (rfl)
@[simp] theorem State.setMould_latches (s : State) (m : Nat) (v : MouldSt) : (s.setMould m v).latches = s.latches := (rfl)
@[simp] theorem State.setMould_cfg (s : State) (m : Nat) (v : MouldSt) : (s.setMould m v).cfg = s.cfg := (rfl)
@[simp] theorem State.setMould_time (s : State) (m : Nat) (v : MouldSt) : (s.setMould m v).time = s.time := (rfl)
@[simp] theorem State.setMould_gates (s : State) (m : Nat) (v : MouldSt) : (s.setMould m v).gates = s.gates := (rfl)
@[simp] theorem State.setMould_links (s : State) (m : Nat) (v : MouldSt) : (s.setMould m v).links = s.links := (rfl)
@[simp] theorem State.setMould_engines (s : State) (m : Nat) (v : MouldSt) : (s.setMould m v).engines = s.engines := (rfl)
@[simp] theorem State.setMould_cams (s : State) (m : Nat) (v : MouldSt) : (s.setMould m v).cams = s.cams := (rfl)
@[simp] theorem State.setMould_slices (s : State) (m : Nat) (v : MouldSt) : (s.setMould m v).slices = s.slices := (rfl)
@[simp] theorem State.setMould_seams (s : State) (m : Nat) (v : MouldSt) : (s.setMould m v).seams = s.seams := (rfl)
@[simp] theorem State.setMould_encs (s : State) (m : Nat) (v : MouldSt) : (s.setMould m v).encs = s.encs := (rfl)
@[simp] theorem State.setMould_timers (s : State) (m : Nat) (v : MouldSt) : (s.setMould m v).timers = s.timers := (rfl)
@[simp] theorem State.setMould_strobes (s : State) (m : Nat) (v : MouldSt) : (s.setMould m v).strobes = s.strobes := (rfl)
@[simp] theorem State.setMould_records (s : State) (m : Nat) (v : MouldSt) : (s.setMould m v).records = s.records := (rfl)
@[simp] theorem State.setMould_queues (s : State) (m : Nat) (v : MouldSt) : (s.setMould m v).queues = s.queues := (rfl)
@[simp] theorem State.setMould_banks (s : State) (m : Nat) (v : MouldSt) : (s.setMould m v).banks = s.banks := (rfl)
@[simp] theorem State.setMould_prods (s : State) (m : Nat) (v : MouldSt) : (s.setMould m v).prods = s.prods := (rfl)
@[simp] theorem State.setMould_badLinks (s : State) (m : Nat) (v : MouldSt) : (s.setMould m v).badLinks = s.badLinks := (rfl)
@[simp] theorem State.setMould_rings (s : State) (m : Nat) (v : MouldSt) : (s.setMould m v).rings = s.rings := (rfl)
@[simp] theorem State.setMould_loads (s : State) (m : Nat) (v : MouldSt) : (s.setMould m v).loads = s.loads := (rfl)
@[simp] theorem State.setMould_chks (s : State) (m : Nat) (v : MouldSt) : (s.setMould m v).chks = s.chks := (rfl)
@[simp] theorem State.setMould_faults (s : State) (m : Nat) (v : MouldSt) : (s.setMould m v).faults = s.faults := (rfl)
@[simp] theorem State.setMould_smb (s : State) (m : Nat) (v : MouldSt) : (s.setMould m v).smb = s.smb := (rfl)
@[simp] theorem State.setMould_jtag (s : State) (m : Nat) (v : MouldSt) : (s.setMould m v).jtag = s.jtag := (rfl)
@[simp] theorem State.setMould_hbm (s : State) (m : Nat) (v : MouldSt) : (s.setMould m v).hbm = s.hbm := (rfl)
@[simp] theorem State.setMould_fresh (s : State) (m : Nat) (v : MouldSt) : (s.setMould m v).fresh = s.fresh := (rfl)
@[simp] theorem State.setMould_out (s : State) (m : Nat) (v : MouldSt) : (s.setMould m v).out = s.out := (rfl)
@[simp] theorem State.setMould_word (s : State) (m : Nat) (v : MouldSt) (x : Nat) : (s.setMould m v).word x = s.word x := (rfl)
@[simp] theorem State.setMould_get (s : State) (m : Nat) (v : MouldSt) (x : Fld) : (s.setMould m v).get x = s.get x := (rfl)
@[simp] theorem State.setMould_on (s : State) (m : Nat) (v : MouldSt) (x : Fld) : (s.setMould m v).on x = s.on x := (rfl)
@[simp] theorem State.setMould_bitAt (s : State) (m : Nat) (v : MouldSt) (x : Fld) (i : Nat) : (s.setMould m v).bitAt x i = s.bitAt x i := (rfl)
@[simp] theorem State.setMould_gate (s : State) (m : Nat) (v : MouldSt) (x : Nat) : (s.setMould m v).gate x = s.gate x := (rfl)
@[simp] theorem State.setMould_link (s : State) (m : Nat) (v : MouldSt) (x : Nat) : (s.setMould m v).link x = s.link x := (rfl)
@[simp] theorem State.setMould_engine (s : State) (m : Nat) (v : MouldSt) (x : Nat) : (s.setMould m v).engine x = s.engine x := (rfl)
@[simp] theorem State.setMould_cam (s : State) (m : Nat) (v : MouldSt) (x : Nat) : (s.setMould m v).cam x = s.cam x := (rfl)
@[simp] theorem State.setMould_slice (s : State) (m : Nat) (v : MouldSt) (x : Nat) : (s.setMould m v).slice x = s.slice x := (rfl)
@[simp] theorem State.setMould_seam (s : State) (m : Nat) (v : MouldSt) (x : Nat) : (s.setMould m v).seam x = s.seam x := (rfl)
@[simp] theorem State.setMould_enc (s : State) (m : Nat) (v : MouldSt) (x : Nat) : (s.setMould m v).enc x = s.enc x := (rfl)
@[simp] theorem State.setMould_timer (s : State) (m : Nat) (v : MouldSt) (x : Nat) : (s.setMould m v).timer x = s.timer x := (rfl)
@[simp] theorem State.setMould_queue (s : State) (m : Nat) (v : MouldSt) (x : Nat) : (s.setMould m v).queue x = s.queue x := (rfl)
@[simp] theorem State.setMould_bank (s : State) (m : Nat) (v : MouldSt) (x : Nat) : (s.setMould m v).bank x = s.bank x := (rfl)
@[simp] theorem State.setMould_prod (s : State) (m : Nat) (v : MouldSt) (x : Nat) : (s.setMould m v).prod x = s.prod x := (rfl)
@[simp] theorem State.setMould_ring (s : State) (m : Nat) (v : MouldSt) (x : Nat) : (s.setMould m v).ring x = s.ring x := (rfl)
@[simp] theorem State.setMould_chk (s : State) (m : Nat) (v : MouldSt) (x : Nat) : (s.setMould m v).chk x = s.chk x := (rfl)
@[simp] theorem State.setMould_record (s : State) (m : Nat) (v : MouldSt) (x y : Nat) : (s.setMould m v).record x y = s.record x y := (rfl)
@[simp] theorem State.setMould_hbmByte (s : State) (m : Nat) (v : MouldSt) (x : Nat) : (s.setMould m v).hbmByte x = s.hbmByte x := (rfl)
@[simp] theorem State.setMould_now (s : State) (m : Nat) (v : MouldSt) : (s.setMould m v).now = s.now := (rfl)

/-! ### State.setEnc -/

@[simp] theorem State.setEnc_pending (s : State) (e : Nat) (v : EncSt) : (s.setEnc e v).pending = s.pending := (rfl)
@[simp] theorem State.setEnc_supply (s : State) (e : Nat) (v : EncSt) : (s.setEnc e v).supply = s.supply := (rfl)
@[simp] theorem State.setEnc_regs (s : State) (e : Nat) (v : EncSt) : (s.setEnc e v).regs = s.regs := (rfl)
@[simp] theorem State.setEnc_latches (s : State) (e : Nat) (v : EncSt) : (s.setEnc e v).latches = s.latches := (rfl)
@[simp] theorem State.setEnc_cfg (s : State) (e : Nat) (v : EncSt) : (s.setEnc e v).cfg = s.cfg := (rfl)
@[simp] theorem State.setEnc_time (s : State) (e : Nat) (v : EncSt) : (s.setEnc e v).time = s.time := (rfl)
@[simp] theorem State.setEnc_gates (s : State) (e : Nat) (v : EncSt) : (s.setEnc e v).gates = s.gates := (rfl)
@[simp] theorem State.setEnc_links (s : State) (e : Nat) (v : EncSt) : (s.setEnc e v).links = s.links := (rfl)
@[simp] theorem State.setEnc_engines (s : State) (e : Nat) (v : EncSt) : (s.setEnc e v).engines = s.engines := (rfl)
@[simp] theorem State.setEnc_cams (s : State) (e : Nat) (v : EncSt) : (s.setEnc e v).cams = s.cams := (rfl)
@[simp] theorem State.setEnc_slices (s : State) (e : Nat) (v : EncSt) : (s.setEnc e v).slices = s.slices := (rfl)
@[simp] theorem State.setEnc_seams (s : State) (e : Nat) (v : EncSt) : (s.setEnc e v).seams = s.seams := (rfl)
@[simp] theorem State.setEnc_moulds (s : State) (e : Nat) (v : EncSt) : (s.setEnc e v).moulds = s.moulds := (rfl)
@[simp] theorem State.setEnc_timers (s : State) (e : Nat) (v : EncSt) : (s.setEnc e v).timers = s.timers := (rfl)
@[simp] theorem State.setEnc_strobes (s : State) (e : Nat) (v : EncSt) : (s.setEnc e v).strobes = s.strobes := (rfl)
@[simp] theorem State.setEnc_records (s : State) (e : Nat) (v : EncSt) : (s.setEnc e v).records = s.records := (rfl)
@[simp] theorem State.setEnc_queues (s : State) (e : Nat) (v : EncSt) : (s.setEnc e v).queues = s.queues := (rfl)
@[simp] theorem State.setEnc_banks (s : State) (e : Nat) (v : EncSt) : (s.setEnc e v).banks = s.banks := (rfl)
@[simp] theorem State.setEnc_prods (s : State) (e : Nat) (v : EncSt) : (s.setEnc e v).prods = s.prods := (rfl)
@[simp] theorem State.setEnc_badLinks (s : State) (e : Nat) (v : EncSt) : (s.setEnc e v).badLinks = s.badLinks := (rfl)
@[simp] theorem State.setEnc_rings (s : State) (e : Nat) (v : EncSt) : (s.setEnc e v).rings = s.rings := (rfl)
@[simp] theorem State.setEnc_loads (s : State) (e : Nat) (v : EncSt) : (s.setEnc e v).loads = s.loads := (rfl)
@[simp] theorem State.setEnc_chks (s : State) (e : Nat) (v : EncSt) : (s.setEnc e v).chks = s.chks := (rfl)
@[simp] theorem State.setEnc_faults (s : State) (e : Nat) (v : EncSt) : (s.setEnc e v).faults = s.faults := (rfl)
@[simp] theorem State.setEnc_smb (s : State) (e : Nat) (v : EncSt) : (s.setEnc e v).smb = s.smb := (rfl)
@[simp] theorem State.setEnc_jtag (s : State) (e : Nat) (v : EncSt) : (s.setEnc e v).jtag = s.jtag := (rfl)
@[simp] theorem State.setEnc_hbm (s : State) (e : Nat) (v : EncSt) : (s.setEnc e v).hbm = s.hbm := (rfl)
@[simp] theorem State.setEnc_fresh (s : State) (e : Nat) (v : EncSt) : (s.setEnc e v).fresh = s.fresh := (rfl)
@[simp] theorem State.setEnc_out (s : State) (e : Nat) (v : EncSt) : (s.setEnc e v).out = s.out := (rfl)
@[simp] theorem State.setEnc_word (s : State) (e : Nat) (v : EncSt) (x : Nat) : (s.setEnc e v).word x = s.word x := (rfl)
@[simp] theorem State.setEnc_get (s : State) (e : Nat) (v : EncSt) (x : Fld) : (s.setEnc e v).get x = s.get x := (rfl)
@[simp] theorem State.setEnc_on (s : State) (e : Nat) (v : EncSt) (x : Fld) : (s.setEnc e v).on x = s.on x := (rfl)
@[simp] theorem State.setEnc_bitAt (s : State) (e : Nat) (v : EncSt) (x : Fld) (i : Nat) : (s.setEnc e v).bitAt x i = s.bitAt x i := (rfl)
@[simp] theorem State.setEnc_gate (s : State) (e : Nat) (v : EncSt) (x : Nat) : (s.setEnc e v).gate x = s.gate x := (rfl)
@[simp] theorem State.setEnc_link (s : State) (e : Nat) (v : EncSt) (x : Nat) : (s.setEnc e v).link x = s.link x := (rfl)
@[simp] theorem State.setEnc_engine (s : State) (e : Nat) (v : EncSt) (x : Nat) : (s.setEnc e v).engine x = s.engine x := (rfl)
@[simp] theorem State.setEnc_cam (s : State) (e : Nat) (v : EncSt) (x : Nat) : (s.setEnc e v).cam x = s.cam x := (rfl)
@[simp] theorem State.setEnc_slice (s : State) (e : Nat) (v : EncSt) (x : Nat) : (s.setEnc e v).slice x = s.slice x := (rfl)
@[simp] theorem State.setEnc_seam (s : State) (e : Nat) (v : EncSt) (x : Nat) : (s.setEnc e v).seam x = s.seam x := (rfl)
@[simp] theorem State.setEnc_mould (s : State) (e : Nat) (v : EncSt) (x : Nat) : (s.setEnc e v).mould x = s.mould x := (rfl)
@[simp] theorem State.setEnc_timer (s : State) (e : Nat) (v : EncSt) (x : Nat) : (s.setEnc e v).timer x = s.timer x := (rfl)
@[simp] theorem State.setEnc_queue (s : State) (e : Nat) (v : EncSt) (x : Nat) : (s.setEnc e v).queue x = s.queue x := (rfl)
@[simp] theorem State.setEnc_bank (s : State) (e : Nat) (v : EncSt) (x : Nat) : (s.setEnc e v).bank x = s.bank x := (rfl)
@[simp] theorem State.setEnc_prod (s : State) (e : Nat) (v : EncSt) (x : Nat) : (s.setEnc e v).prod x = s.prod x := (rfl)
@[simp] theorem State.setEnc_ring (s : State) (e : Nat) (v : EncSt) (x : Nat) : (s.setEnc e v).ring x = s.ring x := (rfl)
@[simp] theorem State.setEnc_chk (s : State) (e : Nat) (v : EncSt) (x : Nat) : (s.setEnc e v).chk x = s.chk x := (rfl)
@[simp] theorem State.setEnc_record (s : State) (e : Nat) (v : EncSt) (x y : Nat) : (s.setEnc e v).record x y = s.record x y := (rfl)
@[simp] theorem State.setEnc_hbmByte (s : State) (e : Nat) (v : EncSt) (x : Nat) : (s.setEnc e v).hbmByte x = s.hbmByte x := (rfl)
@[simp] theorem State.setEnc_now (s : State) (e : Nat) (v : EncSt) : (s.setEnc e v).now = s.now := (rfl)

/-! ### State.setTimer -/

@[simp] theorem State.setTimer_pending (s : State) (t : Nat) (v : TimerSt) : (s.setTimer t v).pending = s.pending := (rfl)
@[simp] theorem State.setTimer_supply (s : State) (t : Nat) (v : TimerSt) : (s.setTimer t v).supply = s.supply := (rfl)
@[simp] theorem State.setTimer_regs (s : State) (t : Nat) (v : TimerSt) : (s.setTimer t v).regs = s.regs := (rfl)
@[simp] theorem State.setTimer_latches (s : State) (t : Nat) (v : TimerSt) : (s.setTimer t v).latches = s.latches := (rfl)
@[simp] theorem State.setTimer_cfg (s : State) (t : Nat) (v : TimerSt) : (s.setTimer t v).cfg = s.cfg := (rfl)
@[simp] theorem State.setTimer_time (s : State) (t : Nat) (v : TimerSt) : (s.setTimer t v).time = s.time := (rfl)
@[simp] theorem State.setTimer_gates (s : State) (t : Nat) (v : TimerSt) : (s.setTimer t v).gates = s.gates := (rfl)
@[simp] theorem State.setTimer_links (s : State) (t : Nat) (v : TimerSt) : (s.setTimer t v).links = s.links := (rfl)
@[simp] theorem State.setTimer_engines (s : State) (t : Nat) (v : TimerSt) : (s.setTimer t v).engines = s.engines := (rfl)
@[simp] theorem State.setTimer_cams (s : State) (t : Nat) (v : TimerSt) : (s.setTimer t v).cams = s.cams := (rfl)
@[simp] theorem State.setTimer_slices (s : State) (t : Nat) (v : TimerSt) : (s.setTimer t v).slices = s.slices := (rfl)
@[simp] theorem State.setTimer_seams (s : State) (t : Nat) (v : TimerSt) : (s.setTimer t v).seams = s.seams := (rfl)
@[simp] theorem State.setTimer_moulds (s : State) (t : Nat) (v : TimerSt) : (s.setTimer t v).moulds = s.moulds := (rfl)
@[simp] theorem State.setTimer_encs (s : State) (t : Nat) (v : TimerSt) : (s.setTimer t v).encs = s.encs := (rfl)
@[simp] theorem State.setTimer_strobes (s : State) (t : Nat) (v : TimerSt) : (s.setTimer t v).strobes = s.strobes := (rfl)
@[simp] theorem State.setTimer_records (s : State) (t : Nat) (v : TimerSt) : (s.setTimer t v).records = s.records := (rfl)
@[simp] theorem State.setTimer_queues (s : State) (t : Nat) (v : TimerSt) : (s.setTimer t v).queues = s.queues := (rfl)
@[simp] theorem State.setTimer_banks (s : State) (t : Nat) (v : TimerSt) : (s.setTimer t v).banks = s.banks := (rfl)
@[simp] theorem State.setTimer_prods (s : State) (t : Nat) (v : TimerSt) : (s.setTimer t v).prods = s.prods := (rfl)
@[simp] theorem State.setTimer_badLinks (s : State) (t : Nat) (v : TimerSt) : (s.setTimer t v).badLinks = s.badLinks := (rfl)
@[simp] theorem State.setTimer_rings (s : State) (t : Nat) (v : TimerSt) : (s.setTimer t v).rings = s.rings := (rfl)
@[simp] theorem State.setTimer_loads (s : State) (t : Nat) (v : TimerSt) : (s.setTimer t v).loads = s.loads := (rfl)
@[simp] theorem State.setTimer_chks (s : State) (t : Nat) (v : TimerSt) : (s.setTimer t v).chks = s.chks := (rfl)
@[simp] theorem State.setTimer_faults (s : State) (t : Nat) (v : TimerSt) : (s.setTimer t v).faults = s.faults := (rfl)
@[simp] theorem State.setTimer_smb (s : State) (t : Nat) (v : TimerSt) : (s.setTimer t v).smb = s.smb := (rfl)
@[simp] theorem State.setTimer_jtag (s : State) (t : Nat) (v : TimerSt) : (s.setTimer t v).jtag = s.jtag := (rfl)
@[simp] theorem State.setTimer_hbm (s : State) (t : Nat) (v : TimerSt) : (s.setTimer t v).hbm = s.hbm := (rfl)
@[simp] theorem State.setTimer_fresh (s : State) (t : Nat) (v : TimerSt) : (s.setTimer t v).fresh = s.fresh := (rfl)
@[simp] theorem State.setTimer_out (s : State) (t : Nat) (v : TimerSt) : (s.setTimer t v).out = s.out := (rfl)
@[simp] theorem State.setTimer_word (s : State) (t : Nat) (v : TimerSt) (x : Nat) : (s.setTimer t v).word x = s.word x := (rfl)
@[simp] theorem State.setTimer_get (s : State) (t : Nat) (v : TimerSt) (x : Fld) : (s.setTimer t v).get x = s.get x := (rfl)
@[simp] theorem State.setTimer_on (s : State) (t : Nat) (v : TimerSt) (x : Fld) : (s.setTimer t v).on x = s.on x := (rfl)
@[simp] theorem State.setTimer_bitAt (s : State) (t : Nat) (v : TimerSt) (x : Fld) (i : Nat) : (s.setTimer t v).bitAt x i = s.bitAt x i := (rfl)
@[simp] theorem State.setTimer_gate (s : State) (t : Nat) (v : TimerSt) (x : Nat) : (s.setTimer t v).gate x = s.gate x := (rfl)
@[simp] theorem State.setTimer_link (s : State) (t : Nat) (v : TimerSt) (x : Nat) : (s.setTimer t v).link x = s.link x := (rfl)
@[simp] theorem State.setTimer_engine (s : State) (t : Nat) (v : TimerSt) (x : Nat) : (s.setTimer t v).engine x = s.engine x := (rfl)
@[simp] theorem State.setTimer_cam (s : State) (t : Nat) (v : TimerSt) (x : Nat) : (s.setTimer t v).cam x = s.cam x := (rfl)
@[simp] theorem State.setTimer_slice (s : State) (t : Nat) (v : TimerSt) (x : Nat) : (s.setTimer t v).slice x = s.slice x := (rfl)
@[simp] theorem State.setTimer_seam (s : State) (t : Nat) (v : TimerSt) (x : Nat) : (s.setTimer t v).seam x = s.seam x := (rfl)
@[simp] theorem State.setTimer_mould (s : State) (t : Nat) (v : TimerSt) (x : Nat) : (s.setTimer t v).mould x = s.mould x := (rfl)
@[simp] theorem State.setTimer_enc (s : State) (t : Nat) (v : TimerSt) (x : Nat) : (s.setTimer t v).enc x = s.enc x := (rfl)
@[simp] theorem State.setTimer_queue (s : State) (t : Nat) (v : TimerSt) (x : Nat) : (s.setTimer t v).queue x = s.queue x := (rfl)
@[simp] theorem State.setTimer_bank (s : State) (t : Nat) (v : TimerSt) (x : Nat) : (s.setTimer t v).bank x = s.bank x := (rfl)
@[simp] theorem State.setTimer_prod (s : State) (t : Nat) (v : TimerSt) (x : Nat) : (s.setTimer t v).prod x = s.prod x := (rfl)
@[simp] theorem State.setTimer_ring (s : State) (t : Nat) (v : TimerSt) (x : Nat) : (s.setTimer t v).ring x = s.ring x := (rfl)
@[simp] theorem State.setTimer_chk (s : State) (t : Nat) (v : TimerSt) (x : Nat) : (s.setTimer t v).chk x = s.chk x := (rfl)
@[simp] theorem State.setTimer_record (s : State) (t : Nat) (v : TimerSt) (x y : Nat) : (s.setTimer t v).record x y = s.record x y := (rfl)
@[simp] theorem State.setTimer_hbmByte (s : State) (t : Nat) (v : TimerSt) (x : Nat) : (s.setTimer t v).hbmByte x = s.hbmByte x := (rfl)
@[simp] theorem State.setTimer_now (s : State) (t : Nat) (v : TimerSt) : (s.setTimer t v).now = s.now := (rfl)

/-! ### State.setQueue -/

@[simp] theorem State.setQueue_pending (s : State) (q : Nat) (v : QueueSt) : (s.setQueue q v).pending = s.pending := (rfl)
@[simp] theorem State.setQueue_supply (s : State) (q : Nat) (v : QueueSt) : (s.setQueue q v).supply = s.supply := (rfl)
@[simp] theorem State.setQueue_regs (s : State) (q : Nat) (v : QueueSt) : (s.setQueue q v).regs = s.regs := (rfl)
@[simp] theorem State.setQueue_latches (s : State) (q : Nat) (v : QueueSt) : (s.setQueue q v).latches = s.latches := (rfl)
@[simp] theorem State.setQueue_cfg (s : State) (q : Nat) (v : QueueSt) : (s.setQueue q v).cfg = s.cfg := (rfl)
@[simp] theorem State.setQueue_time (s : State) (q : Nat) (v : QueueSt) : (s.setQueue q v).time = s.time := (rfl)
@[simp] theorem State.setQueue_gates (s : State) (q : Nat) (v : QueueSt) : (s.setQueue q v).gates = s.gates := (rfl)
@[simp] theorem State.setQueue_links (s : State) (q : Nat) (v : QueueSt) : (s.setQueue q v).links = s.links := (rfl)
@[simp] theorem State.setQueue_engines (s : State) (q : Nat) (v : QueueSt) : (s.setQueue q v).engines = s.engines := (rfl)
@[simp] theorem State.setQueue_cams (s : State) (q : Nat) (v : QueueSt) : (s.setQueue q v).cams = s.cams := (rfl)
@[simp] theorem State.setQueue_slices (s : State) (q : Nat) (v : QueueSt) : (s.setQueue q v).slices = s.slices := (rfl)
@[simp] theorem State.setQueue_seams (s : State) (q : Nat) (v : QueueSt) : (s.setQueue q v).seams = s.seams := (rfl)
@[simp] theorem State.setQueue_moulds (s : State) (q : Nat) (v : QueueSt) : (s.setQueue q v).moulds = s.moulds := (rfl)
@[simp] theorem State.setQueue_encs (s : State) (q : Nat) (v : QueueSt) : (s.setQueue q v).encs = s.encs := (rfl)
@[simp] theorem State.setQueue_timers (s : State) (q : Nat) (v : QueueSt) : (s.setQueue q v).timers = s.timers := (rfl)
@[simp] theorem State.setQueue_strobes (s : State) (q : Nat) (v : QueueSt) : (s.setQueue q v).strobes = s.strobes := (rfl)
@[simp] theorem State.setQueue_records (s : State) (q : Nat) (v : QueueSt) : (s.setQueue q v).records = s.records := (rfl)
@[simp] theorem State.setQueue_banks (s : State) (q : Nat) (v : QueueSt) : (s.setQueue q v).banks = s.banks := (rfl)
@[simp] theorem State.setQueue_prods (s : State) (q : Nat) (v : QueueSt) : (s.setQueue q v).prods = s.prods := (rfl)
@[simp] theorem State.setQueue_badLinks (s : State) (q : Nat) (v : QueueSt) : (s.setQueue q v).badLinks = s.badLinks := (rfl)
@[simp] theorem State.setQueue_rings (s : State) (q : Nat) (v : QueueSt) : (s.setQueue q v).rings = s.rings := (rfl)
@[simp] theorem State.setQueue_loads (s : State) (q : Nat) (v : QueueSt) : (s.setQueue q v).loads = s.loads := (rfl)
@[simp] theorem State.setQueue_chks (s : State) (q : Nat) (v : QueueSt) : (s.setQueue q v).chks = s.chks := (rfl)
@[simp] theorem State.setQueue_faults (s : State) (q : Nat) (v : QueueSt) : (s.setQueue q v).faults = s.faults := (rfl)
@[simp] theorem State.setQueue_smb (s : State) (q : Nat) (v : QueueSt) : (s.setQueue q v).smb = s.smb := (rfl)
@[simp] theorem State.setQueue_jtag (s : State) (q : Nat) (v : QueueSt) : (s.setQueue q v).jtag = s.jtag := (rfl)
@[simp] theorem State.setQueue_hbm (s : State) (q : Nat) (v : QueueSt) : (s.setQueue q v).hbm = s.hbm := (rfl)
@[simp] theorem State.setQueue_fresh (s : State) (q : Nat) (v : QueueSt) : (s.setQueue q v).fresh = s.fresh := (rfl)
@[simp] theorem State.setQueue_out (s : State) (q : Nat) (v : QueueSt) : (s.setQueue q v).out = s.out := (rfl)
@[simp] theorem State.setQueue_word (s : State) (q : Nat) (v : QueueSt) (x : Nat) : (s.setQueue q v).word x = s.word x := (rfl)
@[simp] theorem State.setQueue_get (s : State) (q : Nat) (v : QueueSt) (x : Fld) : (s.setQueue q v).get x = s.get x := (rfl)
@[simp] theorem State.setQueue_on (s : State) (q : Nat) (v : QueueSt) (x : Fld) : (s.setQueue q v).on x = s.on x := (rfl)
@[simp] theorem State.setQueue_bitAt (s : State) (q : Nat) (v : QueueSt) (x : Fld) (i : Nat) : (s.setQueue q v).bitAt x i = s.bitAt x i := (rfl)
@[simp] theorem State.setQueue_gate (s : State) (q : Nat) (v : QueueSt) (x : Nat) : (s.setQueue q v).gate x = s.gate x := (rfl)
@[simp] theorem State.setQueue_link (s : State) (q : Nat) (v : QueueSt) (x : Nat) : (s.setQueue q v).link x = s.link x := (rfl)
@[simp] theorem State.setQueue_engine (s : State) (q : Nat) (v : QueueSt) (x : Nat) : (s.setQueue q v).engine x = s.engine x := (rfl)
@[simp] theorem State.setQueue_cam (s : State) (q : Nat) (v : QueueSt) (x : Nat) : (s.setQueue q v).cam x = s.cam x := (rfl)
@[simp] theorem State.setQueue_slice (s : State) (q : Nat) (v : QueueSt) (x : Nat) : (s.setQueue q v).slice x = s.slice x := (rfl)
@[simp] theorem State.setQueue_seam (s : State) (q : Nat) (v : QueueSt) (x : Nat) : (s.setQueue q v).seam x = s.seam x := (rfl)
@[simp] theorem State.setQueue_mould (s : State) (q : Nat) (v : QueueSt) (x : Nat) : (s.setQueue q v).mould x = s.mould x := (rfl)
@[simp] theorem State.setQueue_enc (s : State) (q : Nat) (v : QueueSt) (x : Nat) : (s.setQueue q v).enc x = s.enc x := (rfl)
@[simp] theorem State.setQueue_timer (s : State) (q : Nat) (v : QueueSt) (x : Nat) : (s.setQueue q v).timer x = s.timer x := (rfl)
@[simp] theorem State.setQueue_bank (s : State) (q : Nat) (v : QueueSt) (x : Nat) : (s.setQueue q v).bank x = s.bank x := (rfl)
@[simp] theorem State.setQueue_prod (s : State) (q : Nat) (v : QueueSt) (x : Nat) : (s.setQueue q v).prod x = s.prod x := (rfl)
@[simp] theorem State.setQueue_ring (s : State) (q : Nat) (v : QueueSt) (x : Nat) : (s.setQueue q v).ring x = s.ring x := (rfl)
@[simp] theorem State.setQueue_chk (s : State) (q : Nat) (v : QueueSt) (x : Nat) : (s.setQueue q v).chk x = s.chk x := (rfl)
@[simp] theorem State.setQueue_record (s : State) (q : Nat) (v : QueueSt) (x y : Nat) : (s.setQueue q v).record x y = s.record x y := (rfl)
@[simp] theorem State.setQueue_hbmByte (s : State) (q : Nat) (v : QueueSt) (x : Nat) : (s.setQueue q v).hbmByte x = s.hbmByte x := (rfl)
@[simp] theorem State.setQueue_now (s : State) (q : Nat) (v : QueueSt) : (s.setQueue q v).now = s.now := (rfl)

/-! ### State.setBank -/

@[simp] theorem State.setBank_pending (s : State) (b : Nat) (v : BankSt) : (s.setBank b v).pending = s.pending := (rfl)
@[simp] theorem State.setBank_supply (s : State) (b : Nat) (v : BankSt) : (s.setBank b v).supply = s.supply := (rfl)
@[simp] theorem State.setBank_regs (s : State) (b : Nat) (v : BankSt) : (s.setBank b v).regs = s.regs := (rfl)
@[simp] theorem State.setBank_latches (s : State) (b : Nat) (v : BankSt) : (s.setBank b v).latches = s.latches := (rfl)
@[simp] theorem State.setBank_cfg (s : State) (b : Nat) (v : BankSt) : (s.setBank b v).cfg = s.cfg := (rfl)
@[simp] theorem State.setBank_time (s : State) (b : Nat) (v : BankSt) : (s.setBank b v).time = s.time := (rfl)
@[simp] theorem State.setBank_gates (s : State) (b : Nat) (v : BankSt) : (s.setBank b v).gates = s.gates := (rfl)
@[simp] theorem State.setBank_links (s : State) (b : Nat) (v : BankSt) : (s.setBank b v).links = s.links := (rfl)
@[simp] theorem State.setBank_engines (s : State) (b : Nat) (v : BankSt) : (s.setBank b v).engines = s.engines := (rfl)
@[simp] theorem State.setBank_cams (s : State) (b : Nat) (v : BankSt) : (s.setBank b v).cams = s.cams := (rfl)
@[simp] theorem State.setBank_slices (s : State) (b : Nat) (v : BankSt) : (s.setBank b v).slices = s.slices := (rfl)
@[simp] theorem State.setBank_seams (s : State) (b : Nat) (v : BankSt) : (s.setBank b v).seams = s.seams := (rfl)
@[simp] theorem State.setBank_moulds (s : State) (b : Nat) (v : BankSt) : (s.setBank b v).moulds = s.moulds := (rfl)
@[simp] theorem State.setBank_encs (s : State) (b : Nat) (v : BankSt) : (s.setBank b v).encs = s.encs := (rfl)
@[simp] theorem State.setBank_timers (s : State) (b : Nat) (v : BankSt) : (s.setBank b v).timers = s.timers := (rfl)
@[simp] theorem State.setBank_strobes (s : State) (b : Nat) (v : BankSt) : (s.setBank b v).strobes = s.strobes := (rfl)
@[simp] theorem State.setBank_records (s : State) (b : Nat) (v : BankSt) : (s.setBank b v).records = s.records := (rfl)
@[simp] theorem State.setBank_queues (s : State) (b : Nat) (v : BankSt) : (s.setBank b v).queues = s.queues := (rfl)
@[simp] theorem State.setBank_prods (s : State) (b : Nat) (v : BankSt) : (s.setBank b v).prods = s.prods := (rfl)
@[simp] theorem State.setBank_badLinks (s : State) (b : Nat) (v : BankSt) : (s.setBank b v).badLinks = s.badLinks := (rfl)
@[simp] theorem State.setBank_rings (s : State) (b : Nat) (v : BankSt) : (s.setBank b v).rings = s.rings := (rfl)
@[simp] theorem State.setBank_loads (s : State) (b : Nat) (v : BankSt) : (s.setBank b v).loads = s.loads := (rfl)
@[simp] theorem State.setBank_chks (s : State) (b : Nat) (v : BankSt) : (s.setBank b v).chks = s.chks := (rfl)
@[simp] theorem State.setBank_faults (s : State) (b : Nat) (v : BankSt) : (s.setBank b v).faults = s.faults := (rfl)
@[simp] theorem State.setBank_smb (s : State) (b : Nat) (v : BankSt) : (s.setBank b v).smb = s.smb := (rfl)
@[simp] theorem State.setBank_jtag (s : State) (b : Nat) (v : BankSt) : (s.setBank b v).jtag = s.jtag := (rfl)
@[simp] theorem State.setBank_hbm (s : State) (b : Nat) (v : BankSt) : (s.setBank b v).hbm = s.hbm := (rfl)
@[simp] theorem State.setBank_fresh (s : State) (b : Nat) (v : BankSt) : (s.setBank b v).fresh = s.fresh := (rfl)
@[simp] theorem State.setBank_out (s : State) (b : Nat) (v : BankSt) : (s.setBank b v).out = s.out := (rfl)
@[simp] theorem State.setBank_word (s : State) (b : Nat) (v : BankSt) (x : Nat) : (s.setBank b v).word x = s.word x := (rfl)
@[simp] theorem State.setBank_get (s : State) (b : Nat) (v : BankSt) (x : Fld) : (s.setBank b v).get x = s.get x := (rfl)
@[simp] theorem State.setBank_on (s : State) (b : Nat) (v : BankSt) (x : Fld) : (s.setBank b v).on x = s.on x := (rfl)
@[simp] theorem State.setBank_bitAt (s : State) (b : Nat) (v : BankSt) (x : Fld) (i : Nat) : (s.setBank b v).bitAt x i = s.bitAt x i := (rfl)
@[simp] theorem State.setBank_gate (s : State) (b : Nat) (v : BankSt) (x : Nat) : (s.setBank b v).gate x = s.gate x := (rfl)
@[simp] theorem State.setBank_link (s : State) (b : Nat) (v : BankSt) (x : Nat) : (s.setBank b v).link x = s.link x := (rfl)
@[simp] theorem State.setBank_engine (s : State) (b : Nat) (v : BankSt) (x : Nat) : (s.setBank b v).engine x = s.engine x := (rfl)
@[simp] theorem State.setBank_cam (s : State) (b : Nat) (v : BankSt) (x : Nat) : (s.setBank b v).cam x = s.cam x := (rfl)
@[simp] theorem State.setBank_slice (s : State) (b : Nat) (v : BankSt) (x : Nat) : (s.setBank b v).slice x = s.slice x := (rfl)
@[simp] theorem State.setBank_seam (s : State) (b : Nat) (v : BankSt) (x : Nat) : (s.setBank b v).seam x = s.seam x := (rfl)
@[simp] theorem State.setBank_mould (s : State) (b : Nat) (v : BankSt) (x : Nat) : (s.setBank b v).mould x = s.mould x := (rfl)
@[simp] theorem State.setBank_enc (s : State) (b : Nat) (v : BankSt) (x : Nat) : (s.setBank b v).enc x = s.enc x := (rfl)
@[simp] theorem State.setBank_timer (s : State) (b : Nat) (v : BankSt) (x : Nat) : (s.setBank b v).timer x = s.timer x := (rfl)
@[simp] theorem State.setBank_queue (s : State) (b : Nat) (v : BankSt) (x : Nat) : (s.setBank b v).queue x = s.queue x := (rfl)
@[simp] theorem State.setBank_prod (s : State) (b : Nat) (v : BankSt) (x : Nat) : (s.setBank b v).prod x = s.prod x := (rfl)
@[simp] theorem State.setBank_ring (s : State) (b : Nat) (v : BankSt) (x : Nat) : (s.setBank b v).ring x = s.ring x := (rfl)
@[simp] theorem State.setBank_chk (s : State) (b : Nat) (v : BankSt) (x : Nat) : (s.setBank b v).chk x = s.chk x := (rfl)
@[simp] theorem State.setBank_record (s : State) (b : Nat) (v : BankSt) (x y : Nat) : (s.setBank b v).record x y = s.record x y := (rfl)
@[simp] theorem State.setBank_hbmByte (s : State) (b : Nat) (v : BankSt) (x : Nat) : (s.setBank b v).hbmByte x = s.hbmByte x := (rfl)
@[simp] theorem State.setBank_now (s : State) (b : Nat) (v : BankSt) : (s.setBank b v).now = s.now := (rfl)

/-! ### State.setProd -/

@[simp] theorem State.setProd_pending (s : State) (p : Nat) (v : ProdSt) : (s.setProd p v).pending = s.pending := (rfl)
@[simp] theorem State.setProd_supply (s : State) (p : Nat) (v : ProdSt) : (s.setProd p v).supply = s.supply := (rfl)
@[simp] theorem State.setProd_regs (s : State) (p : Nat) (v : ProdSt) : (s.setProd p v).regs = s.regs := (rfl)
@[simp] theorem State.setProd_latches (s : State) (p : Nat) (v : ProdSt) : (s.setProd p v).latches = s.latches := (rfl)
@[simp] theorem State.setProd_cfg (s : State) (p : Nat) (v : ProdSt) : (s.setProd p v).cfg = s.cfg := (rfl)
@[simp] theorem State.setProd_time (s : State) (p : Nat) (v : ProdSt) : (s.setProd p v).time = s.time := (rfl)
@[simp] theorem State.setProd_gates (s : State) (p : Nat) (v : ProdSt) : (s.setProd p v).gates = s.gates := (rfl)
@[simp] theorem State.setProd_links (s : State) (p : Nat) (v : ProdSt) : (s.setProd p v).links = s.links := (rfl)
@[simp] theorem State.setProd_engines (s : State) (p : Nat) (v : ProdSt) : (s.setProd p v).engines = s.engines := (rfl)
@[simp] theorem State.setProd_cams (s : State) (p : Nat) (v : ProdSt) : (s.setProd p v).cams = s.cams := (rfl)
@[simp] theorem State.setProd_slices (s : State) (p : Nat) (v : ProdSt) : (s.setProd p v).slices = s.slices := (rfl)
@[simp] theorem State.setProd_seams (s : State) (p : Nat) (v : ProdSt) : (s.setProd p v).seams = s.seams := (rfl)
@[simp] theorem State.setProd_moulds (s : State) (p : Nat) (v : ProdSt) : (s.setProd p v).moulds = s.moulds := (rfl)
@[simp] theorem State.setProd_encs (s : State) (p : Nat) (v : ProdSt) : (s.setProd p v).encs = s.encs := (rfl)
@[simp] theorem State.setProd_timers (s : State) (p : Nat) (v : ProdSt) : (s.setProd p v).timers = s.timers := (rfl)
@[simp] theorem State.setProd_strobes (s : State) (p : Nat) (v : ProdSt) : (s.setProd p v).strobes = s.strobes := (rfl)
@[simp] theorem State.setProd_records (s : State) (p : Nat) (v : ProdSt) : (s.setProd p v).records = s.records := (rfl)
@[simp] theorem State.setProd_queues (s : State) (p : Nat) (v : ProdSt) : (s.setProd p v).queues = s.queues := (rfl)
@[simp] theorem State.setProd_banks (s : State) (p : Nat) (v : ProdSt) : (s.setProd p v).banks = s.banks := (rfl)
@[simp] theorem State.setProd_badLinks (s : State) (p : Nat) (v : ProdSt) : (s.setProd p v).badLinks = s.badLinks := (rfl)
@[simp] theorem State.setProd_rings (s : State) (p : Nat) (v : ProdSt) : (s.setProd p v).rings = s.rings := (rfl)
@[simp] theorem State.setProd_loads (s : State) (p : Nat) (v : ProdSt) : (s.setProd p v).loads = s.loads := (rfl)
@[simp] theorem State.setProd_chks (s : State) (p : Nat) (v : ProdSt) : (s.setProd p v).chks = s.chks := (rfl)
@[simp] theorem State.setProd_faults (s : State) (p : Nat) (v : ProdSt) : (s.setProd p v).faults = s.faults := (rfl)
@[simp] theorem State.setProd_smb (s : State) (p : Nat) (v : ProdSt) : (s.setProd p v).smb = s.smb := (rfl)
@[simp] theorem State.setProd_jtag (s : State) (p : Nat) (v : ProdSt) : (s.setProd p v).jtag = s.jtag := (rfl)
@[simp] theorem State.setProd_hbm (s : State) (p : Nat) (v : ProdSt) : (s.setProd p v).hbm = s.hbm := (rfl)
@[simp] theorem State.setProd_fresh (s : State) (p : Nat) (v : ProdSt) : (s.setProd p v).fresh = s.fresh := (rfl)
@[simp] theorem State.setProd_out (s : State) (p : Nat) (v : ProdSt) : (s.setProd p v).out = s.out := (rfl)
@[simp] theorem State.setProd_word (s : State) (p : Nat) (v : ProdSt) (x : Nat) : (s.setProd p v).word x = s.word x := (rfl)
@[simp] theorem State.setProd_get (s : State) (p : Nat) (v : ProdSt) (x : Fld) : (s.setProd p v).get x = s.get x := (rfl)
@[simp] theorem State.setProd_on (s : State) (p : Nat) (v : ProdSt) (x : Fld) : (s.setProd p v).on x = s.on x := (rfl)
@[simp] theorem State.setProd_bitAt (s : State) (p : Nat) (v : ProdSt) (x : Fld) (i : Nat) : (s.setProd p v).bitAt x i = s.bitAt x i := (rfl)
@[simp] theorem State.setProd_gate (s : State) (p : Nat) (v : ProdSt) (x : Nat) : (s.setProd p v).gate x = s.gate x := (rfl)
@[simp] theorem State.setProd_link (s : State) (p : Nat) (v : ProdSt) (x : Nat) : (s.setProd p v).link x = s.link x := (rfl)
@[simp] theorem State.setProd_engine (s : State) (p : Nat) (v : ProdSt) (x : Nat) : (s.setProd p v).engine x = s.engine x := (rfl)
@[simp] theorem State.setProd_cam (s : State) (p : Nat) (v : ProdSt) (x : Nat) : (s.setProd p v).cam x = s.cam x := (rfl)
@[simp] theorem State.setProd_slice (s : State) (p : Nat) (v : ProdSt) (x : Nat) : (s.setProd p v).slice x = s.slice x := (rfl)
@[simp] theorem State.setProd_seam (s : State) (p : Nat) (v : ProdSt) (x : Nat) : (s.setProd p v).seam x = s.seam x := (rfl)
@[simp] theorem State.setProd_mould (s : State) (p : Nat) (v : ProdSt) (x : Nat) : (s.setProd p v).mould x = s.mould x := (rfl)
@[simp] theorem State.setProd_enc (s : State) (p : Nat) (v : ProdSt) (x : Nat) : (s.setProd p v).enc x = s.enc x := (rfl)
@[simp] theorem State.setProd_timer (s : State) (p : Nat) (v : ProdSt) (x : Nat) : (s.setProd p v).timer x = s.timer x := (rfl)
@[simp] theorem State.setProd_queue (s : State) (p : Nat) (v : ProdSt) (x : Nat) : (s.setProd p v).queue x = s.queue x := (rfl)
@[simp] theorem State.setProd_bank (s : State) (p : Nat) (v : ProdSt) (x : Nat) : (s.setProd p v).bank x = s.bank x := (rfl)
@[simp] theorem State.setProd_ring (s : State) (p : Nat) (v : ProdSt) (x : Nat) : (s.setProd p v).ring x = s.ring x := (rfl)
@[simp] theorem State.setProd_chk (s : State) (p : Nat) (v : ProdSt) (x : Nat) : (s.setProd p v).chk x = s.chk x := (rfl)
@[simp] theorem State.setProd_record (s : State) (p : Nat) (v : ProdSt) (x y : Nat) : (s.setProd p v).record x y = s.record x y := (rfl)
@[simp] theorem State.setProd_hbmByte (s : State) (p : Nat) (v : ProdSt) (x : Nat) : (s.setProd p v).hbmByte x = s.hbmByte x := (rfl)
@[simp] theorem State.setProd_now (s : State) (p : Nat) (v : ProdSt) : (s.setProd p v).now = s.now := (rfl)

/-! ### State.setRing -/

@[simp] theorem State.setRing_pending (s : State) (q : Nat) (v : RingSt) : (s.setRing q v).pending = s.pending := (rfl)
@[simp] theorem State.setRing_supply (s : State) (q : Nat) (v : RingSt) : (s.setRing q v).supply = s.supply := (rfl)
@[simp] theorem State.setRing_regs (s : State) (q : Nat) (v : RingSt) : (s.setRing q v).regs = s.regs := (rfl)
@[simp] theorem State.setRing_latches (s : State) (q : Nat) (v : RingSt) : (s.setRing q v).latches = s.latches := (rfl)
@[simp] theorem State.setRing_cfg (s : State) (q : Nat) (v : RingSt) : (s.setRing q v).cfg = s.cfg := (rfl)
@[simp] theorem State.setRing_time (s : State) (q : Nat) (v : RingSt) : (s.setRing q v).time = s.time := (rfl)
@[simp] theorem State.setRing_gates (s : State) (q : Nat) (v : RingSt) : (s.setRing q v).gates = s.gates := (rfl)
@[simp] theorem State.setRing_links (s : State) (q : Nat) (v : RingSt) : (s.setRing q v).links = s.links := (rfl)
@[simp] theorem State.setRing_engines (s : State) (q : Nat) (v : RingSt) : (s.setRing q v).engines = s.engines := (rfl)
@[simp] theorem State.setRing_cams (s : State) (q : Nat) (v : RingSt) : (s.setRing q v).cams = s.cams := (rfl)
@[simp] theorem State.setRing_slices (s : State) (q : Nat) (v : RingSt) : (s.setRing q v).slices = s.slices := (rfl)
@[simp] theorem State.setRing_seams (s : State) (q : Nat) (v : RingSt) : (s.setRing q v).seams = s.seams := (rfl)
@[simp] theorem State.setRing_moulds (s : State) (q : Nat) (v : RingSt) : (s.setRing q v).moulds = s.moulds := (rfl)
@[simp] theorem State.setRing_encs (s : State) (q : Nat) (v : RingSt) : (s.setRing q v).encs = s.encs := (rfl)
@[simp] theorem State.setRing_timers (s : State) (q : Nat) (v : RingSt) : (s.setRing q v).timers = s.timers := (rfl)
@[simp] theorem State.setRing_strobes (s : State) (q : Nat) (v : RingSt) : (s.setRing q v).strobes = s.strobes := (rfl)
@[simp] theorem State.setRing_records (s : State) (q : Nat) (v : RingSt) : (s.setRing q v).records = s.records := (rfl)
@[simp] theorem State.setRing_queues (s : State) (q : Nat) (v : RingSt) : (s.setRing q v).queues = s.queues := (rfl)
@[simp] theorem State.setRing_banks (s : State) (q : Nat) (v : RingSt) : (s.setRing q v).banks = s.banks := (rfl)
@[simp] theorem State.setRing_prods (s : State) (q : Nat) (v : RingSt) : (s.setRing q v).prods = s.prods := (rfl)
@[simp] theorem State.setRing_badLinks (s : State) (q : Nat) (v : RingSt) : (s.setRing q v).badLinks = s.badLinks := (rfl)
@[simp] theorem State.setRing_loads (s : State) (q : Nat) (v : RingSt) : (s.setRing q v).loads = s.loads := (rfl)
@[simp] theorem State.setRing_chks (s : State) (q : Nat) (v : RingSt) : (s.setRing q v).chks = s.chks := (rfl)
@[simp] theorem State.setRing_faults (s : State) (q : Nat) (v : RingSt) : (s.setRing q v).faults = s.faults := (rfl)
@[simp] theorem State.setRing_smb (s : State) (q : Nat) (v : RingSt) : (s.setRing q v).smb = s.smb := (rfl)
@[simp] theorem State.setRing_jtag (s : State) (q : Nat) (v : RingSt) : (s.setRing q v).jtag = s.jtag := (rfl)
@[simp] theorem State.setRing_hbm (s : State) (q : Nat) (v : RingSt) : (s.setRing q v).hbm = s.hbm := (rfl)
@[simp] theorem State.setRing_fresh (s : State) (q : Nat) (v : RingSt) : (s.setRing q v).fresh = s.fresh := (rfl)
@[simp] theorem State.setRing_out (s : State) (q : Nat) (v : RingSt) : (s.setRing q v).out = s.out := (rfl)
@[simp] theorem State.setRing_word (s : State) (q : Nat) (v : RingSt) (x : Nat) : (s.setRing q v).word x = s.word x := (rfl)
@[simp] theorem State.setRing_get (s : State) (q : Nat) (v : RingSt) (x : Fld) : (s.setRing q v).get x = s.get x := (rfl)
@[simp] theorem State.setRing_on (s : State) (q : Nat) (v : RingSt) (x : Fld) : (s.setRing q v).on x = s.on x := (rfl)
@[simp] theorem State.setRing_bitAt (s : State) (q : Nat) (v : RingSt) (x : Fld) (i : Nat) : (s.setRing q v).bitAt x i = s.bitAt x i := (rfl)
@[simp] theorem State.setRing_gate (s : State) (q : Nat) (v : RingSt) (x : Nat) : (s.setRing q v).gate x = s.gate x := (rfl)
@[simp] theorem State.setRing_link (s : State) (q : Nat) (v : RingSt) (x : Nat) : (s.setRing q v).link x = s.link x := (rfl)
@[simp] theorem State.setRing_engine (s : State) (q : Nat) (v : RingSt) (x : Nat) : (s.setRing q v).engine x = s.engine x := (rfl)
@[simp] theorem State.setRing_cam (s : State) (q : Nat) (v : RingSt) (x : Nat) : (s.setRing q v).cam x = s.cam x := (rfl)
@[simp] theorem State.setRing_slice (s : State) (q : Nat) (v : RingSt) (x : Nat) : (s.setRing q v).slice x = s.slice x := (rfl)
@[simp] theorem State.setRing_seam (s : State) (q : Nat) (v : RingSt) (x : Nat) : (s.setRing q v).seam x = s.seam x := (rfl)
@[simp] theorem State.setRing_mould (s : State) (q : Nat) (v : RingSt) (x : Nat) : (s.setRing q v).mould x = s.mould x := (rfl)
@[simp] theorem State.setRing_enc (s : State) (q : Nat) (v : RingSt) (x : Nat) : (s.setRing q v).enc x = s.enc x := (rfl)
@[simp] theorem State.setRing_timer (s : State) (q : Nat) (v : RingSt) (x : Nat) : (s.setRing q v).timer x = s.timer x := (rfl)
@[simp] theorem State.setRing_queue (s : State) (q : Nat) (v : RingSt) (x : Nat) : (s.setRing q v).queue x = s.queue x := (rfl)
@[simp] theorem State.setRing_bank (s : State) (q : Nat) (v : RingSt) (x : Nat) : (s.setRing q v).bank x = s.bank x := (rfl)
@[simp] theorem State.setRing_prod (s : State) (q : Nat) (v : RingSt) (x : Nat) : (s.setRing q v).prod x = s.prod x := (rfl)
@[simp] theorem State.setRing_chk (s : State) (q : Nat) (v : RingSt) (x : Nat) : (s.setRing q v).chk x = s.chk x := (rfl)
@[simp] theorem State.setRing_record (s : State) (q : Nat) (v : RingSt) (x y : Nat) : (s.setRing q v).record x y = s.record x y := (rfl)
@[simp] theorem State.setRing_hbmByte (s : State) (q : Nat) (v : RingSt) (x : Nat) : (s.setRing q v).hbmByte x = s.hbmByte x := (rfl)
@[simp] theorem State.setRing_now (s : State) (q : Nat) (v : RingSt) : (s.setRing q v).now = s.now := (rfl)

/-! ### State.setChk -/

@[simp] theorem State.setChk_pending (s : State) (n : Nat) (v : ChkSt) : (s.setChk n v).pending = s.pending := (rfl)
@[simp] theorem State.setChk_supply (s : State) (n : Nat) (v : ChkSt) : (s.setChk n v).supply = s.supply := (rfl)
@[simp] theorem State.setChk_regs (s : State) (n : Nat) (v : ChkSt) : (s.setChk n v).regs = s.regs := (rfl)
@[simp] theorem State.setChk_latches (s : State) (n : Nat) (v : ChkSt) : (s.setChk n v).latches = s.latches := (rfl)
@[simp] theorem State.setChk_cfg (s : State) (n : Nat) (v : ChkSt) : (s.setChk n v).cfg = s.cfg := (rfl)
@[simp] theorem State.setChk_time (s : State) (n : Nat) (v : ChkSt) : (s.setChk n v).time = s.time := (rfl)
@[simp] theorem State.setChk_gates (s : State) (n : Nat) (v : ChkSt) : (s.setChk n v).gates = s.gates := (rfl)
@[simp] theorem State.setChk_links (s : State) (n : Nat) (v : ChkSt) : (s.setChk n v).links = s.links := (rfl)
@[simp] theorem State.setChk_engines (s : State) (n : Nat) (v : ChkSt) : (s.setChk n v).engines = s.engines := (rfl)
@[simp] theorem State.setChk_cams (s : State) (n : Nat) (v : ChkSt) : (s.setChk n v).cams = s.cams := (rfl)
@[simp] theorem State.setChk_slices (s : State) (n : Nat) (v : ChkSt) : (s.setChk n v).slices = s.slices := (rfl)
@[simp] theorem State.setChk_seams (s : State) (n : Nat) (v : ChkSt) : (s.setChk n v).seams = s.seams := (rfl)
@[simp] theorem State.setChk_moulds (s : State) (n : Nat) (v : ChkSt) : (s.setChk n v).moulds = s.moulds := (rfl)
@[simp] theorem State.setChk_encs (s : State) (n : Nat) (v : ChkSt) : (s.setChk n v).encs = s.encs := (rfl)
@[simp] theorem State.setChk_timers (s : State) (n : Nat) (v : ChkSt) : (s.setChk n v).timers = s.timers := (rfl)
@[simp] theorem State.setChk_strobes (s : State) (n : Nat) (v : ChkSt) : (s.setChk n v).strobes = s.strobes := (rfl)
@[simp] theorem State.setChk_records (s : State) (n : Nat) (v : ChkSt) : (s.setChk n v).records = s.records := (rfl)
@[simp] theorem State.setChk_queues (s : State) (n : Nat) (v : ChkSt) : (s.setChk n v).queues = s.queues := (rfl)
@[simp] theorem State.setChk_banks (s : State) (n : Nat) (v : ChkSt) : (s.setChk n v).banks = s.banks := (rfl)
@[simp] theorem State.setChk_prods (s : State) (n : Nat) (v : ChkSt) : (s.setChk n v).prods = s.prods := (rfl)
@[simp] theorem State.setChk_badLinks (s : State) (n : Nat) (v : ChkSt) : (s.setChk n v).badLinks = s.badLinks := (rfl)
@[simp] theorem State.setChk_rings (s : State) (n : Nat) (v : ChkSt) : (s.setChk n v).rings = s.rings := (rfl)
@[simp] theorem State.setChk_loads (s : State) (n : Nat) (v : ChkSt) : (s.setChk n v).loads = s.loads := (rfl)
@[simp] theorem State.setChk_faults (s : State) (n : Nat) (v : ChkSt) : (s.setChk n v).faults = s.faults := (rfl)
@[simp] theorem State.setChk_smb (s : State) (n : Nat) (v : ChkSt) : (s.setChk n v).smb = s.smb := (rfl)
@[simp] theorem State.setChk_jtag (s : State) (n : Nat) (v : ChkSt) : (s.setChk n v).jtag = s.jtag := (rfl)
@[simp] theorem State.setChk_hbm (s : State) (n : Nat) (v : ChkSt) : (s.setChk n v).hbm = s.hbm := (rfl)
@[simp] theorem State.setChk_fresh (s : State) (n : Nat) (v : ChkSt) : (s.setChk n v).fresh = s.fresh := (rfl)
@[simp] theorem State.setChk_out (s : State) (n : Nat) (v : ChkSt) : (s.setChk n v).out = s.out := (rfl)
@[simp] theorem State.setChk_word (s : State) (n : Nat) (v : ChkSt) (x : Nat) : (s.setChk n v).word x = s.word x := (rfl)
@[simp] theorem State.setChk_get (s : State) (n : Nat) (v : ChkSt) (x : Fld) : (s.setChk n v).get x = s.get x := (rfl)
@[simp] theorem State.setChk_on (s : State) (n : Nat) (v : ChkSt) (x : Fld) : (s.setChk n v).on x = s.on x := (rfl)
@[simp] theorem State.setChk_bitAt (s : State) (n : Nat) (v : ChkSt) (x : Fld) (i : Nat) : (s.setChk n v).bitAt x i = s.bitAt x i := (rfl)
@[simp] theorem State.setChk_gate (s : State) (n : Nat) (v : ChkSt) (x : Nat) : (s.setChk n v).gate x = s.gate x := (rfl)
@[simp] theorem State.setChk_link (s : State) (n : Nat) (v : ChkSt) (x : Nat) : (s.setChk n v).link x = s.link x := (rfl)
@[simp] theorem State.setChk_engine (s : State) (n : Nat) (v : ChkSt) (x : Nat) : (s.setChk n v).engine x = s.engine x := (rfl)
@[simp] theorem State.setChk_cam (s : State) (n : Nat) (v : ChkSt) (x : Nat) : (s.setChk n v).cam x = s.cam x := (rfl)
@[simp] theorem State.setChk_slice (s : State) (n : Nat) (v : ChkSt) (x : Nat) : (s.setChk n v).slice x = s.slice x := (rfl)
@[simp] theorem State.setChk_seam (s : State) (n : Nat) (v : ChkSt) (x : Nat) : (s.setChk n v).seam x = s.seam x := (rfl)
@[simp] theorem State.setChk_mould (s : State) (n : Nat) (v : ChkSt) (x : Nat) : (s.setChk n v).mould x = s.mould x := (rfl)
@[simp] theorem State.setChk_enc (s : State) (n : Nat) (v : ChkSt) (x : Nat) : (s.setChk n v).enc x = s.enc x := (rfl)
@[simp] theorem State.setChk_timer (s : State) (n : Nat) (v : ChkSt) (x : Nat) : (s.setChk n v).timer x = s.timer x := (rfl)
@[simp] theorem State.setChk_queue (s : State) (n : Nat) (v : ChkSt) (x : Nat) : (s.setChk n v).queue x = s.queue x := (rfl)
@[simp] theorem State.setChk_bank (s : State) (n : Nat) (v : ChkSt) (x : Nat) : (s.setChk n v).bank x = s.bank x := (rfl)
@[simp] theorem State.setChk_prod (s : State) (n : Nat) (v : ChkSt) (x : Nat) : (s.setChk n v).prod x = s.prod x := (rfl)
@[simp] theorem State.setChk_ring (s : State) (n : Nat) (v : ChkSt) (x : Nat) : (s.setChk n v).ring x = s.ring x := (rfl)
@[simp] theorem State.setChk_record (s : State) (n : Nat) (v : ChkSt) (x y : Nat) : (s.setChk n v).record x y = s.record x y := (rfl)
@[simp] theorem State.setChk_hbmByte (s : State) (n : Nat) (v : ChkSt) (x : Nat) : (s.setChk n v).hbmByte x = s.hbmByte x := (rfl)
@[simp] theorem State.setChk_now (s : State) (n : Nat) (v : ChkSt) : (s.setChk n v).now = s.now := (rfl)

/-! ### State.setRecord -/

@[simp] theorem State.setRecord_pending (s : State) (c n : Nat) (v : Rec) : (s.setRecord c n v).pending = s.pending := (rfl)
@[simp] theorem State.setRecord_supply (s : State) (c n : Nat) (v : Rec) : (s.setRecord c n v).supply = s.supply := (rfl)
@[simp] theorem State.setRecord_regs (s : State) (c n : Nat) (v : Rec) : (s.setRecord c n v).regs = s.regs := (rfl)
@[simp] theorem State.setRecord_latches (s : State) (c n : Nat) (v : Rec) : (s.setRecord c n v).latches = s.latches := (rfl)
@[simp] theorem State.setRecord_cfg (s : State) (c n : Nat) (v : Rec) : (s.setRecord c n v).cfg = s.cfg := (rfl)
@[simp] theorem State.setRecord_time (s : State) (c n : Nat) (v : Rec) : (s.setRecord c n v).time = s.time := (rfl)
@[simp] theorem State.setRecord_gates (s : State) (c n : Nat) (v : Rec) : (s.setRecord c n v).gates = s.gates := (rfl)
@[simp] theorem State.setRecord_links (s : State) (c n : Nat) (v : Rec) : (s.setRecord c n v).links = s.links := (rfl)
@[simp] theorem State.setRecord_engines (s : State) (c n : Nat) (v : Rec) : (s.setRecord c n v).engines = s.engines := (rfl)
@[simp] theorem State.setRecord_cams (s : State) (c n : Nat) (v : Rec) : (s.setRecord c n v).cams = s.cams := (rfl)
@[simp] theorem State.setRecord_slices (s : State) (c n : Nat) (v : Rec) : (s.setRecord c n v).slices = s.slices := (rfl)
@[simp] theorem State.setRecord_seams (s : State) (c n : Nat) (v : Rec) : (s.setRecord c n v).seams = s.seams := (rfl)
@[simp] theorem State.setRecord_moulds (s : State) (c n : Nat) (v : Rec) : (s.setRecord c n v).moulds = s.moulds := (rfl)
@[simp] theorem State.setRecord_encs (s : State) (c n : Nat) (v : Rec) : (s.setRecord c n v).encs = s.encs := (rfl)
@[simp] theorem State.setRecord_timers (s : State) (c n : Nat) (v : Rec) : (s.setRecord c n v).timers = s.timers := (rfl)
@[simp] theorem State.setRecord_strobes (s : State) (c n : Nat) (v : Rec) : (s.setRecord c n v).strobes = s.strobes := (rfl)
@[simp] theorem State.setRecord_queues (s : State) (c n : Nat) (v : Rec) : (s.setRecord c n v).queues = s.queues := (rfl)
@[simp] theorem State.setRecord_banks (s : State) (c n : Nat) (v : Rec) : (s.setRecord c n v).banks = s.banks := (rfl)
@[simp] theorem State.setRecord_prods (s : State) (c n : Nat) (v : Rec) : (s.setRecord c n v).prods = s.prods := (rfl)
@[simp] theorem State.setRecord_badLinks (s : State) (c n : Nat) (v : Rec) : (s.setRecord c n v).badLinks = s.badLinks := (rfl)
@[simp] theorem State.setRecord_rings (s : State) (c n : Nat) (v : Rec) : (s.setRecord c n v).rings = s.rings := (rfl)
@[simp] theorem State.setRecord_loads (s : State) (c n : Nat) (v : Rec) : (s.setRecord c n v).loads = s.loads := (rfl)
@[simp] theorem State.setRecord_chks (s : State) (c n : Nat) (v : Rec) : (s.setRecord c n v).chks = s.chks := (rfl)
@[simp] theorem State.setRecord_faults (s : State) (c n : Nat) (v : Rec) : (s.setRecord c n v).faults = s.faults := (rfl)
@[simp] theorem State.setRecord_smb (s : State) (c n : Nat) (v : Rec) : (s.setRecord c n v).smb = s.smb := (rfl)
@[simp] theorem State.setRecord_jtag (s : State) (c n : Nat) (v : Rec) : (s.setRecord c n v).jtag = s.jtag := (rfl)
@[simp] theorem State.setRecord_hbm (s : State) (c n : Nat) (v : Rec) : (s.setRecord c n v).hbm = s.hbm := (rfl)
@[simp] theorem State.setRecord_fresh (s : State) (c n : Nat) (v : Rec) : (s.setRecord c n v).fresh = s.fresh := (rfl)
@[simp] theorem State.setRecord_out (s : State) (c n : Nat) (v : Rec) : (s.setRecord c n v).out = s.out := (rfl)
@[simp] theorem State.setRecord_word (s : State) (c n : Nat) (v : Rec) (x : Nat) : (s.setRecord c n v).word x = s.word x := (rfl)
@[simp] theorem State.setRecord_get (s : State) (c n : Nat) (v : Rec) (x : Fld) : (s.setRecord c n v).get x = s.get x := (rfl)
@[simp] theorem State.setRecord_on (s : State) (c n : Nat) (v : Rec) (x : Fld) : (s.setRecord c n v).on x = s.on x := (rfl)
@[simp] theorem State.setRecord_bitAt (s : State) (c n : Nat) (v : Rec) (x : Fld) (i : Nat) : (s.setRecord c n v).bitAt x i = s.bitAt x i := (rfl)
@[simp] theorem State.setRecord_gate (s : State) (c n : Nat) (v : Rec) (x : Nat) : (s.setRecord c n v).gate x = s.gate x := (rfl)
@[simp] theorem State.setRecord_link (s : State) (c n : Nat) (v : Rec) (x : Nat) : (s.setRecord c n v).link x = s.link x := (rfl)
@[simp] theorem State.setRecord_engine (s : State) (c n : Nat) (v : Rec) (x : Nat) : (s.setRecord c n v).engine x = s.engine x := (rfl)
@[simp] theorem State.setRecord_cam (s : State) (c n : Nat) (v : Rec) (x : Nat) : (s.setRecord c n v).cam x = s.cam x := (rfl)
@[simp] theorem State.setRecord_slice (s : State) (c n : Nat) (v : Rec) (x : Nat) : (s.setRecord c n v).slice x = s.slice x := (rfl)
@[simp] theorem State.setRecord_seam (s : State) (c n : Nat) (v : Rec) (x : Nat) : (s.setRecord c n v).seam x = s.seam x := (rfl)
@[simp] theorem State.setRecord_mould (s : State) (c n : Nat) (v : Rec) (x : Nat) : (s.setRecord c n v).mould x = s.mould x := (rfl)
@[simp] theorem State.setRecord_enc (s : State) (c n : Nat) (v : Rec) (x : Nat) : (s.setRecord c n v).enc x = s.enc x := (rfl)
@[simp] theorem State.setRecord_timer (s : State) (c n : Nat) (v : Rec) (x : Nat) : (s.setRecord c n v).timer x = s.timer x := (rfl)
@[simp] theorem State.setRecord_queue (s : State) (c n : Nat) (v : Rec) (x : Nat) : (s.setRecord c n v).queue x = s.queue x := (rfl)
@[simp] theorem State.setRecord_bank (s : State) (c n : Nat) (v : Rec) (x : Nat) : (s.setRecord c n v).bank x = s.bank x := (rfl)
@[simp] theorem State.setRecord_prod (s : State) (c n : Nat) (v : Rec) (x : Nat) : (s.setRecord c n v).prod x = s.prod x := (rfl)
@[simp] theorem State.setRecord_ring (s : State) (c n : Nat) (v : Rec) (x : Nat) : (s.setRecord c n v).ring x = s.ring x := (rfl)
@[simp] theorem State.setRecord_chk (s : State) (c n : Nat) (v : Rec) (x : Nat) : (s.setRecord c n v).chk x = s.chk x := (rfl)
@[simp] theorem State.setRecord_hbmByte (s : State) (c n : Nat) (v : Rec) (x : Nat) : (s.setRecord c n v).hbmByte x = s.hbmByte x := (rfl)
@[simp] theorem State.setRecord_now (s : State) (c n : Nat) (v : Rec) : (s.setRecord c n v).now = s.now := (rfl)

end Sys2Proof.Machine
end

