-- ==== Sys2Proof/Laws/Tables.lean ====
section
/-!
SUPPORT. The sparse tables: reading after writing, and the canonical form that every operation keeps.
-/

namespace Sys2Proof.Machine

variable {α : Type}

@[simp] theorem tget_tdel_same (l : List (Nat × α)) (k : Nat) (d : α) : tget (tdel l k) k d = d := by
  induction l with
  | nil => simp [tdel, tget]
  | cons p t ih =>
    by_cases h : p.1 = k
    · simp [tdel, h, ih]
    · simp [tdel, h, tget, ih]

theorem tget_tdel_ne (l : List (Nat × α)) (k x : Nat) (d : α) (hx : x ≠ k) : tget (tdel l k) x d = tget l x d := by
  induction l with
  | nil => rfl
  | cons p t ih =>
    by_cases h : p.1 = k
    · have hk : k ≠ x := Ne.symm hx
      simp [tdel, h, tget, ih, hk]
    · by_cases h2 : p.1 = x
      · simp [tdel, tget, h2, hx]
      · simp [tdel, h, tget, h2, ih]

theorem tget_tins_same (l : List (Nat × α)) (k : Nat) (v d : α) (h : ∀ p ∈ l, p.1 ≠ k) : tget (tins l k v) k d = v := by
  induction l with
  | nil => simp [tins, tget]
  | cons p t ih =>
    by_cases hk : k < p.1
    · simp [tins, hk, tget]
    · have h1 : p.1 ≠ k := h p (by simp)
      have h2 : ∀ q ∈ t, q.1 ≠ k := fun q hq => h q (by simp [hq])
      simp [tins, hk, tget, h1, ih h2]

theorem tget_tins_ne (l : List (Nat × α)) (k x : Nat) (v d : α) (hx : x ≠ k) : tget (tins l k v) x d = tget l x d := by
  induction l with
  | nil => simp [tins, tget, Ne.symm hx]
  | cons p t ih =>
    by_cases hk : k < p.1
    · simp [tins, hk, tget, Ne.symm hx]
    · simp [tins, hk, tget, ih]

theorem mem_tdel_ne (l : List (Nat × α)) (k : Nat) : ∀ p ∈ tdel l k, p.1 ≠ k := by
  induction l with
  | nil => simp [tdel]
  | cons p t ih =>
    by_cases h : p.1 = k
    · simpa [tdel, h] using ih
    · intro q hq
      rcases List.mem_cons.mp (by simpa [tdel, h] using hq) with e | e
      · rw [e]; exact h
      · exact ih q e

/-- A table read at the key just written gives the value written. -/
@[simp] theorem tget_tput_same [DecidableEq α] (l : List (Nat × α)) (k : Nat) (v d : α) :
    tget (tput l k v d) k d = v := by
  unfold tput
  split
  · rename_i h; rw [tget_tdel_same, h]
  · exact tget_tins_same _ _ _ _ (mem_tdel_ne l k)

/-- A write leaves every other key alone. -/
theorem tget_tput_ne [DecidableEq α] (l : List (Nat × α)) (k x : Nat) (v d e : α) (hx : x ≠ k) :
    tget (tput l k v d) x e = tget l x e := by
  unfold tput
  split
  · exact tget_tdel_ne l k x e hx
  · rw [tget_tins_ne _ _ _ _ _ hx, tget_tdel_ne l k x e hx]

/-! ### The canonical form -/

/-- Every key of the table is more than k. -/
def keysAbove (k : Nat) (l : List (Nat × α)) : Prop := ∀ p ∈ l, k < p.1

theorem tableOk_cons [DecidableEq α] (d : Nat → α) (p : Nat × α) (t : List (Nat × α)) :
    tableOk d (p :: t) = true ↔ p.2 ≠ d p.1 ∧ keysAbove p.1 t ∧ tableOk d t = true := by
  induction t generalizing p with
  | nil => simp [tableOk, keysAbove]
  | cons q t ih =>
    constructor
    · intro h
      have h' : p.2 ≠ d p.1 ∧ p.1 < q.1 ∧ tableOk d (q :: t) = true := by
        simpa [tableOk, and_assoc] using h
      refine ⟨h'.1, ?_, h'.2.2⟩
      have hq := (ih q).mp h'.2.2
      intro r hr
      rcases List.mem_cons.mp hr with e | e
      · rw [e]; exact h'.2.1
      · exact lt_trans h'.2.1 (hq.2.1 r e)
    · rintro ⟨h1, h2, h3⟩
      have h4 : p.1 < q.1 := h2 q (by simp)
      have : tableOk d (p :: q :: t) = (decide (p.2 ≠ d p.1) && decide (p.1 < q.1) && tableOk d (q :: t)) := rfl
      simp [this, h1, h4, h3]

theorem keysAbove_tdel (l : List (Nat × α)) (k n : Nat) (h : keysAbove n l) : keysAbove n (tdel l k) := by
  induction l with
  | nil => simpa [tdel] using h
  | cons p t ih =>
    have ht : keysAbove n t := fun q hq => h q (by simp [hq])
    by_cases e : p.1 = k
    · simpa [tdel, e] using ih ht
    · intro q hq
      rcases List.mem_cons.mp (by simpa [tdel, e] using hq) with r | r
      · rw [r]; exact h p (by simp)
      · exact ih ht q r

theorem tableOk_tdel [DecidableEq α] (d : Nat → α) (l : List (Nat × α)) (k : Nat) (h : tableOk d l = true) :
    tableOk d (tdel l k) = true := by
  induction l with
  | nil => simpa [tdel] using h
  | cons p t ih =>
    obtain ⟨h1, h2, h3⟩ := (tableOk_cons d p t).mp h
    by_cases e : p.1 = k
    · simpa [tdel, e] using ih h3
    · simp only [tdel, e, if_false]
      exact (tableOk_cons d p _).mpr ⟨h1, keysAbove_tdel t k p.1 h2, ih h3⟩

theorem keysAbove_tins (l : List (Nat × α)) (k n : Nat) (v : α) (h : keysAbove n l) (hk : n < k) :
    keysAbove n (tins l k v) := by
  induction l with
  | nil => simpa [tins, keysAbove] using hk
  | cons p t ih =>
    have ht : keysAbove n t := fun q hq => h q (by simp [hq])
    have hp := h p (by simp)
    by_cases e : k < p.1
    · simp only [tins, e, if_true]
      intro q hq
      rcases List.mem_cons.mp hq with r | r
      · rw [r]; exact hk
      · exact h q r
    · simp only [tins, e, if_false]
      intro q hq
      rcases List.mem_cons.mp hq with r | r
      · rw [r]; exact hp
      · exact ih ht q r

theorem tableOk_tins [DecidableEq α] (d : Nat → α) (l : List (Nat × α)) (k : Nat) (v : α) (h : tableOk d l = true)
    (hk : ∀ p ∈ l, p.1 ≠ k) (hv : v ≠ d k) : tableOk d (tins l k v) = true := by
  induction l with
  | nil => simpa [tins, tableOk] using hv
  | cons p t ih =>
    obtain ⟨h1, h2, h3⟩ := (tableOk_cons d p t).mp h
    have hp : p.1 ≠ k := hk p (by simp)
    by_cases e : k < p.1
    · simp only [tins, e, if_true]
      refine (tableOk_cons d (k, v) _).mpr ⟨hv, ?_, h⟩
      intro q hq
      rcases List.mem_cons.mp hq with r | r
      · rw [r]; exact e
      · exact lt_trans e (h2 q r)
    · simp only [tins, e, if_false]
      have hlt : p.1 < k := by omega
      exact (tableOk_cons d p _).mpr
        ⟨h1, keysAbove_tins t k p.1 v h2 hlt, ih h3 (fun q hq => hk q (by simp [hq]))⟩

/-- Every table operation keeps the canonical form. -/
theorem tableOk_tput [DecidableEq α] (d : Nat → α) (l : List (Nat × α)) (k : Nat) (v : α) (h : tableOk d l = true) :
    tableOk d (tput l k v (d k)) = true := by
  unfold tput
  split
  · exact tableOk_tdel d l k h
  · rename_i hv
    exact tableOk_tins d _ k v (tableOk_tdel d l k h) (mem_tdel_ne l k) hv

end Sys2Proof.Machine
end

