-- ==== Sys2Proof/Laws/Memory.lean ====
section
/-!
SUPPORT. The memory operations: the canonical form, and what a store changes.
-/

namespace Sys2Proof.Machine

/-- What every round of a loop keeps, the loop keeps. -/
theorem State.each_keeps {α β : Type} (s : State) (l : List α) (f : State → α → State) (p : State → β)
    (h : ∀ t x, p (f t x) = p t) : p (s.each l f) = p s := by
  unfold State.each
  induction l generalizing s with
  | nil => rfl
  | cons x xs ih => rw [List.foldl_cons, ih, h]

/-- The memory at reset has the canonical form. -/
theorem reset_hbm_wf : Memory.wf State.reset.hbm := by decide

theorem hbmStore_wf (m : List Host.Cell) (a : Nat) (l : List Byte) (h : Memory.wf m) : Memory.wf (hbmStore m a l) := by
  induction l generalizing m a with
  | nil => exact h
  | cons b t ih => exact ih _ _ (tableOk_tput (fun _ => (0 : BitVec 8)) m a b h)

/-- A store leaves every byte outside its range as it was. -/
theorem hbmStore_out (m : List Host.Cell) (a : Nat) (l : List Byte) (x : Nat) (h : x < a ∨ a + l.length ≤ x) :
    tget (hbmStore m a l) x 0 = tget m x 0 := by
  induction l generalizing m a with
  | nil => rfl
  | cons b t ih =>
    have hl : (b :: t).length = t.length + 1 := rfl
    rw [hl] at h
    have h1 : x < a + 1 ∨ a + 1 + t.length ≤ x := by omega
    have h2 : x ≠ a := by omega
    show tget (hbmStore (tput m a b 0) (a + 1) t) x 0 = _
    rw [ih _ _ h1, tget_tput_ne _ _ _ _ _ _ h2]

/-- A byte stored reads back. -/
theorem hbmStore_in (m : List Host.Cell) (a : Nat) (l : List Byte) (i : Nat) (h : i < l.length) :
    tget (hbmStore m a l) (a + i) 0 = l[i] := by
  induction l generalizing m a i with
  | nil => simp at h
  | cons b t ih =>
    cases i with
    | zero =>
      show tget (hbmStore (tput m a b 0) (a + 1) t) a 0 = b
      rw [hbmStore_out _ _ _ _ (by omega), tget_tput_same]
    | succ i =>
      have hi : i < t.length := by simpa using h
      show tget (hbmStore (tput m a b 0) (a + 1) t) (a + (i + 1)) 0 = t[i]
      rw [← ih (tput m a b 0) (a + 1) i hi]
      congr 1
      omega

@[simp] theorem State.wakeChannel_hbm (s : State) (c : Nat) : (s.wakeChannel c).hbm = s.hbm := by
  have h : ∀ (t : State) (x : SupplySt), ({ t with supply := x } : State).hbm = t.hbm := fun _ _ => rfl
  unfold State.wakeChannel
  rw [h, State.putBit_hbm]

@[simp] theorem State.touch_hbm (s : State) (a n : Nat) : (s.touch a n).hbm = s.hbm := by
  unfold State.touch
  split
  · exact State.each_keeps s _ _ State.hbm (fun t i => State.wakeChannel_hbm t _)
  · rfl

@[simp] theorem State.wroteWord_hbm (s : State) (page : Nat) (x : Armed) (w : Nat) : (s.wroteWord page x w).hbm = s.hbm := by
  have h : ∀ (t : State) (x : FaultSt), ({ t with faults := x } : State).hbm = t.hbm := fun _ _ => rfl
  unfold State.wroteWord
  split
  · rw [h]
  · split
    · simp only [State.disarm, State.put_hbm]
    · rfl

@[simp] theorem State.wroteHbm_hbm (s : State) (a n : Nat) : (s.wroteHbm a n).hbm = s.hbm := by
  unfold State.wroteHbm
  split
  · rfl
  · refine State.each_keeps s _ _ State.hbm (fun t h => ?_)
    (repeat' split) <;> first | rfl | exact State.wroteWord_hbm ..

@[simp] theorem State.hbmWrite_hbm (s : State) (a : Nat) (l : List Byte) : (s.hbmWrite a l).hbm = hbmStore s.hbm a l := by
  unfold State.hbmWrite
  simp

/-- The store of the device keeps the canonical form. -/
theorem State.hbmWrite_wf (s : State) (a : Nat) (l : List Byte) (h : Memory.wf s.hbm) : Memory.wf (s.hbmWrite a l).hbm := by
  rw [State.hbmWrite_hbm]
  exact hbmStore_wf _ _ _ h

/-- What the device stores reads back. -/
theorem State.hbmWrite_read (s : State) (a : Nat) (l : List Byte) : (s.hbmWrite a l).hbmRead a l.length = l := by
  apply List.ext_getElem
  · simp [State.hbmRead]
  · intro i h1 h2
    simp only [State.hbmRead, List.getElem_map, List.getElem_range, State.hbmByte, State.hbmWrite_hbm]
    exact hbmStore_in _ _ _ _ h2

/-- A store of the device leaves every other byte alone. -/
theorem State.hbmWrite_out (s : State) (a : Nat) (l : List Byte) (x : Nat) (h : x < a ∨ a + l.length ≤ x) :
    (s.hbmWrite a l).hbmByte x = s.hbmByte x := by
  simp only [State.hbmByte, State.hbmWrite_hbm]
  exact hbmStore_out _ _ _ _ h

end Sys2Proof.Machine
end

