-- ==== Sys2Proof/Laws/Keeps.lean ====
section
/-!
SUPPORT. What each operation on the state leaves alone: one lemma for each, saying that anything read from the state
  that does
not depend on the parts listed is the same after it.
-/

namespace Sys2Proof.Machine

/-- A function of the state that depends on none of the parts listed. -/
def Ignores {β : Type} (p : State → β) (l : List Part) : Prop :=
  ∀ s t : State, (∀ q, q ∉ l → samePart q s t) → p t = p s

theorem Ignores.mono {β : Type} {p : State → β} {l m : List Part} (h : Ignores p l) (hs : m.all (fun q => l.contains
    q) = true) :
    Ignores p m := by
  intro s t k
  refine h s t (fun q hq => k q (fun hm => hq ?_))
  have := List.all_eq_true.mp hs q hm
  simpa using this

theorem State.each_p {α β : Type} (p : State → β) {s : State} {l : List α} {f : State → α → State}
    (h : ∀ t x, p (f t x) = p t) : p (s.each l f) = p s := State.each_keeps s l f p h

theorem ite_p {β : Type} (p : State → β) {c : Prop} [Decidable c] {s t : State} {x : β} (h1 : p s = x) (h2 : p t = x) :
    p (if c then s else t) = x := by
  split
  · exact h1
  · exact h2

theorem State.when_p {β : Type} (p : State → β) {s : State} {c : Bool} {f : State → State} (h : ∀ t, p (f t) = p t) :
    p (s.when c f) = p s := by
  unfold State.when
  split
  · exact h s
  · rfl

theorem Ignores.pending {β : Type} {p : State → β} {l : List Part} (h : Ignores p l) (hm : l.contains .pending =
    true) (s : State)
    (v) : p { s with pending := v } = p s := by
  refine h s _ (fun q hq => ?_)
  cases q <;> first | exact rfl | exact absurd (by simpa using hm) hq

theorem Ignores.supply {β : Type} {p : State → β} {l : List Part} (h : Ignores p l) (hm : l.contains .supply = true)
    (s : State)
    (v) : p { s with supply := v } = p s := by
  refine h s _ (fun q hq => ?_)
  cases q <;> first | exact rfl | exact absurd (by simpa using hm) hq

theorem Ignores.regs {β : Type} {p : State → β} {l : List Part} (h : Ignores p l) (hm : l.contains .regs = true) (s
    : State)
    (v) : p { s with regs := v } = p s := by
  refine h s _ (fun q hq => ?_)
  cases q <;> first | exact rfl | exact absurd (by simpa using hm) hq

theorem Ignores.latches {β : Type} {p : State → β} {l : List Part} (h : Ignores p l) (hm : l.contains .latches =
    true) (s : State)
    (v) : p { s with latches := v } = p s := by
  refine h s _ (fun q hq => ?_)
  cases q <;> first | exact rfl | exact absurd (by simpa using hm) hq

theorem Ignores.cfg {β : Type} {p : State → β} {l : List Part} (h : Ignores p l) (hm : l.contains .cfg = true) (s :
    State)
    (v) : p { s with cfg := v } = p s := by
  refine h s _ (fun q hq => ?_)
  cases q <;> first | exact rfl | exact absurd (by simpa using hm) hq

theorem Ignores.time {β : Type} {p : State → β} {l : List Part} (h : Ignores p l) (hm : l.contains .time = true) (s
    : State)
    (v) : p { s with time := v } = p s := by
  refine h s _ (fun q hq => ?_)
  cases q <;> first | exact rfl | exact absurd (by simpa using hm) hq

theorem Ignores.gates {β : Type} {p : State → β} {l : List Part} (h : Ignores p l) (hm : l.contains .gates = true)
    (s : State)
    (v) : p { s with gates := v } = p s := by
  refine h s _ (fun q hq => ?_)
  cases q <;> first | exact rfl | exact absurd (by simpa using hm) hq

theorem Ignores.links {β : Type} {p : State → β} {l : List Part} (h : Ignores p l) (hm : l.contains .links = true)
    (s : State)
    (v) : p { s with links := v } = p s := by
  refine h s _ (fun q hq => ?_)
  cases q <;> first | exact rfl | exact absurd (by simpa using hm) hq

theorem Ignores.engines {β : Type} {p : State → β} {l : List Part} (h : Ignores p l) (hm : l.contains .engines =
    true) (s : State)
    (v) : p { s with engines := v } = p s := by
  refine h s _ (fun q hq => ?_)
  cases q <;> first | exact rfl | exact absurd (by simpa using hm) hq

theorem Ignores.cams {β : Type} {p : State → β} {l : List Part} (h : Ignores p l) (hm : l.contains .cams = true) (s
    : State)
    (v) : p { s with cams := v } = p s := by
  refine h s _ (fun q hq => ?_)
  cases q <;> first | exact rfl | exact absurd (by simpa using hm) hq

theorem Ignores.slices {β : Type} {p : State → β} {l : List Part} (h : Ignores p l) (hm : l.contains .slices = true)
    (s : State)
    (v) : p { s with slices := v } = p s := by
  refine h s _ (fun q hq => ?_)
  cases q <;> first | exact rfl | exact absurd (by simpa using hm) hq

theorem Ignores.seams {β : Type} {p : State → β} {l : List Part} (h : Ignores p l) (hm : l.contains .seams = true)
    (s : State)
    (v) : p { s with seams := v } = p s := by
  refine h s _ (fun q hq => ?_)
  cases q <;> first | exact rfl | exact absurd (by simpa using hm) hq

theorem Ignores.moulds {β : Type} {p : State → β} {l : List Part} (h : Ignores p l) (hm : l.contains .moulds = true)
    (s : State)
    (v) : p { s with moulds := v } = p s := by
  refine h s _ (fun q hq => ?_)
  cases q <;> first | exact rfl | exact absurd (by simpa using hm) hq

theorem Ignores.encs {β : Type} {p : State → β} {l : List Part} (h : Ignores p l) (hm : l.contains .encs = true) (s
    : State)
    (v) : p { s with encs := v } = p s := by
  refine h s _ (fun q hq => ?_)
  cases q <;> first | exact rfl | exact absurd (by simpa using hm) hq

theorem Ignores.timers {β : Type} {p : State → β} {l : List Part} (h : Ignores p l) (hm : l.contains .timers = true)
    (s : State)
    (v) : p { s with timers := v } = p s := by
  refine h s _ (fun q hq => ?_)
  cases q <;> first | exact rfl | exact absurd (by simpa using hm) hq

theorem Ignores.strobes {β : Type} {p : State → β} {l : List Part} (h : Ignores p l) (hm : l.contains .strobes =
    true) (s : State)
    (v) : p { s with strobes := v } = p s := by
  refine h s _ (fun q hq => ?_)
  cases q <;> first | exact rfl | exact absurd (by simpa using hm) hq

theorem Ignores.records {β : Type} {p : State → β} {l : List Part} (h : Ignores p l) (hm : l.contains .records =
    true) (s : State)
    (v) : p { s with records := v } = p s := by
  refine h s _ (fun q hq => ?_)
  cases q <;> first | exact rfl | exact absurd (by simpa using hm) hq

theorem Ignores.queues {β : Type} {p : State → β} {l : List Part} (h : Ignores p l) (hm : l.contains .queues = true)
    (s : State)
    (v) : p { s with queues := v } = p s := by
  refine h s _ (fun q hq => ?_)
  cases q <;> first | exact rfl | exact absurd (by simpa using hm) hq

theorem Ignores.banks {β : Type} {p : State → β} {l : List Part} (h : Ignores p l) (hm : l.contains .banks = true)
    (s : State)
    (v) : p { s with banks := v } = p s := by
  refine h s _ (fun q hq => ?_)
  cases q <;> first | exact rfl | exact absurd (by simpa using hm) hq

theorem Ignores.prods {β : Type} {p : State → β} {l : List Part} (h : Ignores p l) (hm : l.contains .prods = true)
    (s : State)
    (v) : p { s with prods := v } = p s := by
  refine h s _ (fun q hq => ?_)
  cases q <;> first | exact rfl | exact absurd (by simpa using hm) hq

theorem Ignores.badLinks {β : Type} {p : State → β} {l : List Part} (h : Ignores p l) (hm : l.contains .badLinks =
    true) (s : State)
    (v) : p { s with badLinks := v } = p s := by
  refine h s _ (fun q hq => ?_)
  cases q <;> first | exact rfl | exact absurd (by simpa using hm) hq

theorem Ignores.rings {β : Type} {p : State → β} {l : List Part} (h : Ignores p l) (hm : l.contains .rings = true)
    (s : State)
    (v) : p { s with rings := v } = p s := by
  refine h s _ (fun q hq => ?_)
  cases q <;> first | exact rfl | exact absurd (by simpa using hm) hq

theorem Ignores.loads {β : Type} {p : State → β} {l : List Part} (h : Ignores p l) (hm : l.contains .loads = true)
    (s : State)
    (v) : p { s with loads := v } = p s := by
  refine h s _ (fun q hq => ?_)
  cases q <;> first | exact rfl | exact absurd (by simpa using hm) hq

theorem Ignores.chks {β : Type} {p : State → β} {l : List Part} (h : Ignores p l) (hm : l.contains .chks = true) (s
    : State)
    (v) : p { s with chks := v } = p s := by
  refine h s _ (fun q hq => ?_)
  cases q <;> first | exact rfl | exact absurd (by simpa using hm) hq

theorem Ignores.faults {β : Type} {p : State → β} {l : List Part} (h : Ignores p l) (hm : l.contains .faults = true)
    (s : State)
    (v) : p { s with faults := v } = p s := by
  refine h s _ (fun q hq => ?_)
  cases q <;> first | exact rfl | exact absurd (by simpa using hm) hq

theorem Ignores.smb {β : Type} {p : State → β} {l : List Part} (h : Ignores p l) (hm : l.contains .smb = true) (s :
    State)
    (v) : p { s with smb := v } = p s := by
  refine h s _ (fun q hq => ?_)
  cases q <;> first | exact rfl | exact absurd (by simpa using hm) hq

theorem Ignores.jtag {β : Type} {p : State → β} {l : List Part} (h : Ignores p l) (hm : l.contains .jtag = true) (s
    : State)
    (v) : p { s with jtag := v } = p s := by
  refine h s _ (fun q hq => ?_)
  cases q <;> first | exact rfl | exact absurd (by simpa using hm) hq

theorem Ignores.hbm {β : Type} {p : State → β} {l : List Part} (h : Ignores p l) (hm : l.contains .hbm = true) (s :
    State)
    (v) : p { s with hbm := v } = p s := by
  refine h s _ (fun q hq => ?_)
  cases q <;> first | exact rfl | exact absurd (by simpa using hm) hq

theorem Ignores.fresh {β : Type} {p : State → β} {l : List Part} (h : Ignores p l) (hm : l.contains .fresh = true)
    (s : State)
    (v) : p { s with fresh := v } = p s := by
  refine h s _ (fun q hq => ?_)
  cases q <;> first | exact rfl | exact absurd (by simpa using hm) hq

theorem Ignores.out {β : Type} {p : State → β} {l : List Part} (h : Ignores p l) (hm : l.contains .out = true) (s :
    State)
    (v) : p { s with out := v } = p s := by
  refine h s _ (fun q hq => ?_)
  cases q <;> first | exact rfl | exact absurd (by simpa using hm) hq

theorem State.setWord_keeps {β : Type} {p : State → β} (h : Ignores p [.regs]) (s : State) (a : Nat) (w : Word) :
    p (State.setWord s a w) = p s := by
  simp only [State.setWord, h.regs (by decide), -Nat.reducePow]

theorem State.put_keeps {β : Type} {p : State → β} (h : Ignores p [.regs]) (s : State) (f : Fld) (v : Nat) :
    p (State.put s f v) = p s := by
  simp only [State.put, State.setWord_keeps (h.mono (by decide)), -Nat.reducePow]

theorem State.putB_keeps {β : Type} {p : State → β} (h : Ignores p [.regs]) (s : State) (f : Fld) (b : Bool) :
    p (State.putB s f b) = p s := by
  simp only [State.putB, State.put_keeps (h.mono (by decide)), -Nat.reducePow]

theorem State.add_keeps {β : Type} {p : State → β} (h : Ignores p [.regs]) (s : State) (f : Fld) (n : Nat) :
    p (State.add s f n) = p s := by
  simp only [State.add, State.put_keeps (h.mono (by decide)), -Nat.reducePow]

theorem State.inc_keeps {β : Type} {p : State → β} (h : Ignores p [.regs]) (s : State) (f : Fld) :
    p (State.inc s f) = p s := by
  simp only [State.inc, State.add_keeps (h.mono (by decide)), -Nat.reducePow]

theorem State.addSat_keeps {β : Type} {p : State → β} (h : Ignores p [.regs]) (s : State) (f : Fld) (n : Nat) :
    p (State.addSat s f n) = p s := by
  simp only [State.addSat, State.put_keeps (h.mono (by decide)), -Nat.reducePow]

theorem State.sub_keeps {β : Type} {p : State → β} (h : Ignores p [.regs]) (s : State) (f : Fld) (n : Nat) :
    p (State.sub s f n) = p s := by
  simp only [State.sub, State.put_keeps (h.mono (by decide)), -Nat.reducePow]

theorem State.putBit_keeps {β : Type} {p : State → β} (h : Ignores p [.regs]) (s : State) (f : Fld) (n : Nat) (b :
    Bool) :
    p (State.putBit s f n b) = p s := by
  simp only [State.putBit, State.put_keeps (h.mono (by decide)), -Nat.reducePow]

theorem State.put64_keeps {β : Type} {p : State → β} (h : Ignores p [.regs]) (s : State) (lo hi : Fld) (v : Nat) :
    p (State.put64 s lo hi v) = p s := by
  simp only [State.put64, State.put_keeps (h.mono (by decide)), -Nat.reducePow]

theorem State.draw_keeps {β : Type} {p : State → β} (h : Ignores p [.fresh]) (s : State) :
    p (State.draw s).2 = p s := by
  simp only [State.draw, h.fresh (by decide), -Nat.reducePow]

theorem State.drawBytes_keeps {β : Type} {p : State → β} (h : Ignores p [.fresh]) (s : State) (n : Nat) :
    p (State.drawBytes s n).2 = p s := by
  simp only [State.drawBytes, h.fresh (by decide), -Nat.reducePow]

theorem State.emit_keeps {β : Type} {p : State → β} (h : Ignores p [.out]) (s : State) (e : Emission) :
    p (State.emit s e) = p s := by
  simp only [State.emit, h.out (by decide), -Nat.reducePow]

theorem State.reach_keeps {β : Type} {p : State → β} (h : Ignores p [.time]) (s : State) (t : Nat) :
    p (State.reach s t) = p s := by
  simp only [State.reach, h.time (by decide), -Nat.reducePow]

theorem State.requestVector_keeps {β : Type} {p : State → β} (h : Ignores p [.regs]) (s : State) (v : Nat) :
    p (State.requestVector s v) = p s := by
  simp only [State.requestVector, State.put_keeps (h.mono (by decide)), -Nat.reducePow]

theorem State.raise_keeps {β : Type} {p : State → β} (h : Ignores p [.regs]) (s : State) (page n : Nat) :
    p (State.raise s page n) = p s := by
  simp only [State.raise, apply_ite p, ite_self, State.put_keeps (h.mono (by decide)), State.requestVector_keeps
    (h.mono (by decide)), -Nat.reducePow]

theorem State.setXing_keeps {β : Type} {p : State → β} (h : Ignores p [.faults]) (s : State) (n : Nat) (x : Xing) :
    p (State.setXing s n x) = p s := by
  simp only [State.setXing, h.faults (by decide), -Nat.reducePow]

theorem State.pulse_keeps {β : Type} {p : State → β} (h : Ignores p [.regs, .faults]) (s : State) (page : Nat)
    (fault acked : Bool) :
    p (State.pulse s page fault acked) = p s := by
  simp only [State.pulse, apply_ite p, ite_self, State.setXing_keeps (h.mono (by decide)), State.inc_keeps (h.mono
    (by decide)), State.put_keeps (h.mono (by decide)), State.raise_keeps (h.mono (by decide)), -Nat.reducePow]

theorem State.refuse_keeps {β : Type} {p : State → β} (h : Ignores p [.regs]) (s : State) (page code : Nat) :
    p (State.refuse s page code) = p s := by
  simp only [State.refuse, State.put_keeps (h.mono (by decide)), State.addSat_keeps (h.mono (by decide)),
    -Nat.reducePow]

theorem State.accept_keeps {β : Type} {p : State → β} (h : Ignores p [.regs]) (s : State) (page op : Nat) :
    p (State.accept s page op) = p s := by
  simp only [State.accept, State.put_keeps (h.mono (by decide)), -Nat.reducePow]

theorem State.peerReset_keeps {β : Type} {p : State → β} (h : Ignores p [.regs, .faults]) (s : State) (pages : List
    Nat) :
    p (State.peerReset s pages) = p s := by
  simp only [State.peerReset, implies_true, State.each_p p, State.setXing_keeps (h.mono (by decide)),
    State.inc_keeps (h.mono (by decide)), -Nat.reducePow]

theorem State.disarm_keeps {β : Type} {p : State → β} (h : Ignores p [.regs, .faults]) (s : State) (page : Nat) :
    p (State.disarm s page) = p s := by
  simp only [State.disarm, State.put_keeps (h.mono (by decide)), h.faults (by decide), -Nat.reducePow]

theorem State.wroteWord_keeps {β : Type} {p : State → β} (h : Ignores p [.regs, .faults]) (s : State) (page : Nat)
    (x : Armed) (word : Nat) :
    p (State.wroteWord s page x word) = p s := by
  simp only [State.wroteWord, -Nat.reducePow]; (repeat' split) <;> simp only [State.disarm_keeps (h.mono (by
    decide)), h.faults (by decide), -Nat.reducePow]

theorem State.setGate_keeps {β : Type} {p : State → β} (h : Ignores p [.gates]) (s : State) (g : Nat) (v : GateSt) :
    p (State.setGate s g v) = p s := by
  simp only [State.setGate, h.gates (by decide), -Nat.reducePow]

theorem State.setLink_keeps {β : Type} {p : State → β} (h : Ignores p [.links]) (s : State) (c : Nat) (v : LinkSt) :
    p (State.setLink s c v) = p s := by
  simp only [State.setLink, h.links (by decide), -Nat.reducePow]

theorem State.setEngine_keeps {β : Type} {p : State → β} (h : Ignores p [.engines]) (s : State) (g : Nat) (v :
    EngineSt) :
    p (State.setEngine s g v) = p s := by
  simp only [State.setEngine, h.engines (by decide), -Nat.reducePow]

theorem State.setCam_keeps {β : Type} {p : State → β} (h : Ignores p [.cams]) (s : State) (c : Nat) (v : CamSt) :
    p (State.setCam s c v) = p s := by
  simp only [State.setCam, h.cams (by decide), -Nat.reducePow]

theorem State.setSlice_keeps {β : Type} {p : State → β} (h : Ignores p [.slices]) (s : State) (k : Nat) (v : SliceSt) :
    p (State.setSlice s k v) = p s := by
  simp only [State.setSlice, h.slices (by decide), -Nat.reducePow]

theorem State.setSeam_keeps {β : Type} {p : State → β} (h : Ignores p [.seams]) (s : State) (u : Nat) (v : SeamSt) :
    p (State.setSeam s u v) = p s := by
  simp only [State.setSeam, h.seams (by decide), -Nat.reducePow]

theorem State.setMould_keeps {β : Type} {p : State → β} (h : Ignores p [.moulds]) (s : State) (m : Nat) (v : MouldSt) :
    p (State.setMould s m v) = p s := by
  simp only [State.setMould, h.moulds (by decide), -Nat.reducePow]

theorem State.setEnc_keeps {β : Type} {p : State → β} (h : Ignores p [.encs]) (s : State) (e : Nat) (v : EncSt) :
    p (State.setEnc s e v) = p s := by
  simp only [State.setEnc, h.encs (by decide), -Nat.reducePow]

theorem State.setTimer_keeps {β : Type} {p : State → β} (h : Ignores p [.timers]) (s : State) (t : Nat) (v : TimerSt) :
    p (State.setTimer s t v) = p s := by
  simp only [State.setTimer, h.timers (by decide), -Nat.reducePow]

theorem State.setQueue_keeps {β : Type} {p : State → β} (h : Ignores p [.queues]) (s : State) (q : Nat) (v : QueueSt) :
    p (State.setQueue s q v) = p s := by
  simp only [State.setQueue, h.queues (by decide), -Nat.reducePow]

theorem State.setBank_keeps {β : Type} {p : State → β} (h : Ignores p [.banks]) (s : State) (b : Nat) (v : BankSt) :
    p (State.setBank s b v) = p s := by
  simp only [State.setBank, h.banks (by decide), -Nat.reducePow]

theorem State.setProd_keeps {β : Type} {p : State → β} (h : Ignores p [.prods]) (s : State) (p1 : Nat) (v : ProdSt) :
    p (State.setProd s p1 v) = p s := by
  simp only [State.setProd, h.prods (by decide), -Nat.reducePow]

theorem State.setRing_keeps {β : Type} {p : State → β} (h : Ignores p [.rings]) (s : State) (q : Nat) (v : RingSt) :
    p (State.setRing s q v) = p s := by
  simp only [State.setRing, h.rings (by decide), -Nat.reducePow]

theorem State.setChk_keeps {β : Type} {p : State → β} (h : Ignores p [.chks]) (s : State) (n : Nat) (v : ChkSt) :
    p (State.setChk s n v) = p s := by
  simp only [State.setChk, h.chks (by decide), -Nat.reducePow]

theorem State.setRecord_keeps {β : Type} {p : State → β} (h : Ignores p [.records]) (s : State) (c n : Nat) (v : Rec) :
    p (State.setRecord s c n v) = p s := by
  simp only [State.setRecord, h.records (by decide), -Nat.reducePow]

theorem State.setSched_keeps {β : Type} {p : State → β} (h : Ignores p [.cams]) (s : State) (c : Nat) (v : SchedSt) :
    p (State.setSched s c v) = p s := by
  simp only [State.setSched, State.setCam_keeps (h.mono (by decide)), -Nat.reducePow]

theorem State.wakeChannel_keeps {β : Type} {p : State → β} (h : Ignores p [.supply, .regs]) (s : State) (c : Nat) :
    p (State.wakeChannel s c) = p s := by
  simp only [State.wakeChannel, State.putBit_keeps (h.mono (by decide)), h.supply (by decide), -Nat.reducePow]

theorem State.touch_keeps {β : Type} {p : State → β} (h : Ignores p [.supply, .regs]) (s : State) (a n : Nat) :
    p (State.touch s a n) = p s := by
  simp only [State.touch, apply_ite p, ite_self, implies_true, State.each_p p, State.wakeChannel_keeps (h.mono (by
    decide)), -Nat.reducePow]

theorem State.wroteHbm_keeps {β : Type} {p : State → β} (h : Ignores p [.regs, .faults]) (s : State) (a n : Nat) :
    p (s.wroteHbm a n) = p s := by
  unfold State.wroteHbm
  split
  · rfl
  · refine State.each_keeps _ _ _ p (fun t x => ?_)
    (repeat' split) <;> first | rfl | exact State.wroteWord_keeps (h.mono (by decide)) _ _ _ _

theorem State.hbmWrite_keeps {β : Type} {p : State → β} (h : Ignores p [.supply, .regs, .faults, .hbm]) (s : State)
    (a : Nat) (l : List Byte) :
    p (State.hbmWrite s a l) = p s := by
  simp only [State.hbmWrite, State.touch_keeps (h.mono (by decide)), State.wroteHbm_keeps (h.mono (by decide)),
    h.hbm (by decide), -Nat.reducePow]

theorem State.setAvail_keeps {β : Type} {p : State → β} (h : Ignores p [.regs]) (s : State) (b v : Nat) :
    p (State.setAvail s b v) = p s := by
  simp only [State.setAvail, apply_ite p, ite_self, State.put_keeps (h.mono (by decide)), State.raise_keeps (h.mono
    (by decide)), -Nat.reducePow]

theorem State.takeCell_keeps {β : Type} {p : State → β} (h : Ignores p [.supply, .regs, .banks]) (s : State) (b n :
    Nat) (t : State)
    (k : s.takeCell b = some (n, t)) : p t = p s := by
  unfold State.takeCell at k
  dsimp only at k
  split at k
  · injection k with k; injection k with _ k
    rw [← k, State.setBank_keeps (h.mono (by decide)), State.touch_keeps (h.mono (by decide))]
  · split at k
    · cases k
    · injection k with k; injection k with _ k
      rw [← k, State.setBank_keeps (h.mono (by decide)), State.touch_keeps (h.mono (by decide))]

theorem State.returnCell_keeps {β : Type} {p : State → β} (h : Ignores p [.supply, .regs, .banks, .faults]) (s :
    State) (n : Nat) :
    p (State.returnCell s n) = p s := by
  simp only [State.returnCell, -Nat.reducePow]; (repeat' split) <;> simp only [State.setBank_keeps (h.mono (by
    decide)), State.inc_keeps (h.mono (by decide)), State.touch_keeps (h.mono (by decide)), State.wroteHbm_keeps
    (h.mono (by decide)), State.wroteWord_keeps (h.mono (by decide)), State.setAvail_keeps (h.mono (by decide)),
    -Nat.reducePow]

theorem State.returnCells_keeps {β : Type} {p : State → β} (h : Ignores p [.supply, .regs, .banks, .faults]) (s :
    State) (l : List Nat) :
    p (State.returnCells s l) = p s := by
  simp only [State.returnCells, implies_true, State.each_p p, State.returnCell_keeps (h.mono (by decide)),
    -Nat.reducePow]

theorem State.strayCells_keeps {β : Type} {p : State → β} (h : Ignores p [.banks]) (s : State) (b : Nat) (l : List
    Nat) :
    p (State.strayCells s b l) = p s := by
  simp only [State.strayCells, State.setBank_keeps (h.mono (by decide)), -Nat.reducePow]

theorem State.putHead_keeps {β : Type} {p : State → β} (h : Ignores p [.regs, .fresh]) (s : State) (q : Nat) :
    p (State.putHead s q) = p s := by
  simp only [State.putHead, -Nat.reducePow]; (repeat' split) <;> simp only [State.put_keeps (h.mono (by decide)),
    State.draw_keeps (h.mono (by decide)), -Nat.reducePow]

theorem State.addOcc_keeps {β : Type} {p : State → β} (h : Ignores p [.regs]) (s : State) (q n : Nat) :
    p (State.addOcc s q n) = p s := by
  simp only [State.addOcc, State.put_keeps (h.mono (by decide)), -Nat.reducePow]

theorem State.takeSeq_keeps {β : Type} {p : State → β} (h : Ignores p [.regs]) (s : State) (q : Nat) :
    p (State.takeSeq s q) = p s := by
  simp only [State.takeSeq, State.inc_keeps (h.mono (by decide)), -Nat.reducePow]

theorem State.overrun_keeps {β : Type} {p : State → β} (h : Ignores p [.regs, .queues]) (s : State) (q : Nat) :
    p (State.overrun s q) = p s := by
  simp only [State.overrun, State.inc_keeps (h.mono (by decide)), State.put_keeps (h.mono (by decide)),
    State.setQueue_keeps (h.mono (by decide)), State.raise_keeps (h.mono (by decide)), -Nat.reducePow]

theorem State.noQueue_keeps {β : Type} {p : State → β} (h : Ignores p [.regs]) (s : State) (q : Nat) :
    p (State.noQueue s q) = p s := by
  simp only [State.noQueue, State.inc_keeps (h.mono (by decide)), State.put_keeps (h.mono (by decide)),
    State.raise_keeps (h.mono (by decide)), -Nat.reducePow]

theorem State.reserve_keeps {β : Type} {p : State → β} (h : Ignores p [.regs, .queues, .prods]) (s : State) (p1 :
    Nat) (k : Packet) :
    p (State.reserve s p1 k).1 = p s := by
  simp only [State.reserve, -Nat.reducePow]; (repeat' split) <;> simp only [State.noQueue_keeps (h.mono (by
    decide)), State.takeSeq_keeps (h.mono (by decide)), State.inc_keeps (h.mono (by decide)), State.overrun_keeps
    (h.mono (by decide)), State.addOcc_keeps (h.mono (by decide)), State.setAvail_keeps (h.mono (by decide)),
    State.setProd_keeps (h.mono (by decide)), -Nat.reducePow]

theorem State.abandonOpen_keeps {β : Type} {p : State → β} (h : Ignores p [.supply, .regs, .banks, .prods, .faults])
    (s : State) (p1 : Nat) :
    p (State.abandonOpen s p1) = p s := by
  simp only [State.abandonOpen, -Nat.reducePow]; (repeat' split) <;> simp only [State.setProd_keeps (h.mono (by
    decide)), State.inc_keeps (h.mono (by decide)), State.sub_keeps (h.mono (by decide)), State.setAvail_keeps (h.mono
    (by decide)), State.returnCells_keeps (h.mono (by decide)), -Nat.reducePow]

theorem State.linkWritten_keeps {β : Type} {p : State → β} (h : Ignores p [.supply, .regs, .badLinks, .faults]) (s :
    State) (q : Nat) (n : Option Nat) :
    p (State.linkWritten s q n) = p s := by
  simp only [State.linkWritten, -Nat.reducePow]; (repeat' split) <;> simp only [State.touch_keeps (h.mono (by
    decide)), State.wroteHbm_keeps (h.mono (by decide)), State.wroteWord_keeps (h.mono (by decide)), h.badLinks (by
    decide), -Nat.reducePow]

theorem State.flushCheck_keeps {β : Type} {p : State → β} (h : Ignores p [.queues]) (s : State) (q : Nat) :
    p (State.flushCheck s q) = p s := by
  simp only [State.flushCheck, apply_ite p, ite_self, State.setQueue_keeps (h.mono (by decide)), -Nat.reducePow]

theorem State.commitOpen_keeps {β : Type} {p : State → β} (h : Ignores p [.supply, .regs, .queues, .banks, .prods,
    .faults, .fresh]) (s : State) (p1 : Nat) (hdr : PktHdr) :
    p (State.commitOpen s p1 hdr) = p s := by
  simp only [State.commitOpen, -Nat.reducePow]; (repeat' split) <;> simp only [implies_true, State.setProd_keeps
    (h.mono (by decide)), State.strayCells_keeps (h.mono (by decide)), State.sub_keeps (h.mono (by decide)),
    State.setQueue_keeps (h.mono (by decide)), State.each_p p, State.touch_keeps (h.mono (by decide)),
    State.wroteHbm_keeps (h.mono (by decide)), State.inc_keeps (h.mono (by decide)), State.putHead_keeps (h.mono (by
    decide)), State.put_keeps (h.mono (by decide)), -Nat.reducePow]

theorem State.claim_keeps {β : Type} {p : State → β} (h : Ignores p [.regs, .queues, .fresh]) (s : State) (q : Nat) :
    p (State.claim s q) = p s := by
  simp only [State.claim, -Nat.reducePow]; (repeat' split) <;> simp only [State.setQueue_keeps (h.mono (by decide)),
    State.sub_keeps (h.mono (by decide)), State.inc_keeps (h.mono (by decide)), State.putHead_keeps (h.mono (by
    decide)), -Nat.reducePow]

theorem State.readUpTo_keeps {β : Type} {p : State → β} (h : Ignores p [.supply, .regs, .queues]) (s : State) (q n :
    Nat) :
    p (State.readUpTo s q n) = p s := by
  simp only [State.readUpTo, -Nat.reducePow]; (repeat' split) <;> simp only [implies_true, State.each_p p,
    State.touch_keeps (h.mono (by decide)), State.setQueue_keeps (h.mono (by decide)), -Nat.reducePow]

theorem State.endClaim_keeps {β : Type} {p : State → β} (h : Ignores p [.supply, .regs, .queues]) (s : State) (q :
    Nat) :
    p (State.endClaim s q) = p s := by
  simp only [State.endClaim, -Nat.reducePow]; (repeat' split) <;> simp only [State.readUpTo_keeps (h.mono (by
    decide)), State.setQueue_keeps (h.mono (by decide)), -Nat.reducePow]

theorem State.dropClaim_keeps {β : Type} {p : State → β} (h : Ignores p [.queues]) (s : State) (q : Nat) :
    p (State.dropClaim s q) = p s := by
  simp only [State.dropClaim, -Nat.reducePow]; (repeat' split) <;> simp only [State.setQueue_keeps (h.mono (by
    decide)), -Nat.reducePow]

theorem State.cutClaim_keeps {β : Type} {p : State → β} (h : Ignores p [.supply, .regs, .queues, .banks]) (s :
    State) (q n : Nat) :
    p (State.cutClaim s q n) = p s := by
  simp only [State.cutClaim, -Nat.reducePow]; (repeat' split) <;> simp only [State.readUpTo_keeps (h.mono (by
    decide)), State.strayCells_keeps (h.mono (by decide)), State.setQueue_keeps (h.mono (by decide)), -Nat.reducePow]

theorem State.resetQueue_keeps {β : Type} {p : State → β} (h : Ignores p [.regs, .queues, .banks, .prods]) (s :
    State) (q : Nat) :
    p (State.resetQueue s q) = p s := by
  simp only [State.resetQueue, implies_true, State.addSat_keeps (h.mono (by decide)), State.put_keeps (h.mono (by
    decide)), State.add_keeps (h.mono (by decide)), State.strayCells_keeps (h.mono (by decide)), State.setQueue_keeps
    (h.mono (by decide)), State.each_p p, State.setProd_keeps (h.mono (by decide)), State.flushCheck_keeps (h.mono (by
    decide)), -Nat.reducePow]

theorem State.queueFault_keeps {β : Type} {p : State → β} (h : Ignores p [.regs, .queues, .banks, .prods]) (s :
    State) (q : Nat) :
    p (State.queueFault s q) = p s := by
  simp only [State.queueFault, State.resetQueue_keeps (h.mono (by decide)), State.put_keeps (h.mono (by decide)),
    State.raise_keeps (h.mono (by decide)), -Nat.reducePow]

theorem State.flushQueue_keeps {β : Type} {p : State → β} (h : Ignores p [.regs, .queues, .prods, .fresh]) (s :
    State) (q : Nat) :
    p (State.flushQueue s q) = p s := by
  simp only [State.flushQueue, implies_true, State.sub_keeps (h.mono (by decide)), State.add_keeps (h.mono (by
    decide)), State.setQueue_keeps (h.mono (by decide)), State.each_p p, State.setProd_keeps (h.mono (by decide)),
    State.putHead_keeps (h.mono (by decide)), -Nat.reducePow]

theorem State.startSweep_keeps {β : Type} {p : State → β} (h : Ignores p [.regs, .banks]) (s : State) (b : Nat) :
    p (State.startSweep s b) = p s := by
  simp only [State.startSweep, State.setBank_keeps (h.mono (by decide)), State.put_keeps (h.mono (by decide)),
    -Nat.reducePow]

theorem State.wantSweep_keeps {β : Type} {p : State → β} (h : Ignores p [.regs, .banks]) (s : State) (b : Nat) :
    p (State.wantSweep s b) = p s := by
  simp only [State.wantSweep, apply_ite p, ite_self, State.setBank_keeps (h.mono (by decide)),
    State.startSweep_keeps (h.mono (by decide)), -Nat.reducePow]

theorem State.autoSweep_keeps {β : Type} {p : State → β} (h : Ignores p [.regs, .banks]) (s : State) (before : Nat)
    (b : Nat) :
    p (State.autoSweep s before b) = p s := by
  simp only [State.autoSweep, apply_ite p, ite_self, State.wantSweep_keeps (h.mono (by decide)), -Nat.reducePow]

theorem State.endSweep_keeps {β : Type} {p : State → β} (h : Ignores p [.supply, .regs, .banks, .faults]) (s :
    State) (b : Nat) :
    p (State.endSweep s b).1 = p s := by
  simp only [State.endSweep, -Nat.reducePow]; (repeat' split) <;> simp only [State.setBank_keeps (h.mono (by
    decide)), State.returnCells_keeps (h.mono (by decide)), State.put_keeps (h.mono (by decide)), State.sub_keeps
    (h.mono (by decide)), State.inc_keeps (h.mono (by decide)), State.raise_keeps (h.mono (by decide)),
    State.setAvail_keeps (h.mono (by decide)), -Nat.reducePow]

theorem State.cutStack_keeps {β : Type} {p : State → β} (h : Ignores p [.banks]) (s : State) (b i : Nat) :
    p (State.cutStack s b i) = p s := by
  simp only [State.cutStack, apply_ite p, ite_self, State.setBank_keeps (h.mono (by decide)), -Nat.reducePow]

theorem State.loseFree_keeps {β : Type} {p : State → β} (h : Ignores p [.regs, .banks]) (s : State) (b i : Nat) :
    p (s.loseFree b i) = p s := by
  unfold State.loseFree
  dsimp only
  split
  · rfl
  · rw [State.autoSweep_keeps (h.mono (by decide))]
    split <;> simp only [State.setAvail_keeps (h.mono (by decide)), State.setBank_keeps (h.mono (by decide)),
      State.addSat_keeps (h.mono (by decide)), State.strayCells_keeps (h.mono (by decide)),
      State.cutStack_keeps (h.mono (by decide))]

theorem State.pushPacket_keeps {β : Type} {p : State → β} (h : Ignores p [.prods]) (s : State) (p1 : Nat) (k : Packet) :
    p (State.pushPacket s p1 k) = p s := by
  simp only [State.pushPacket, State.setProd_keeps (h.mono (by decide)), -Nat.reducePow]

theorem State.onRecord_keeps {β : Type} {p : State → β} (h : Ignores p [.records]) (s : State) (c n : Nat) (f : Rec
    → Rec) :
    p (State.onRecord s c n f) = p s := by
  simp only [State.onRecord, apply_ite p, ite_self, State.setRecord_keeps (h.mono (by decide)), -Nat.reducePow]

theorem State.flagRecord_keeps {β : Type} {p : State → β} (h : Ignores p [.records]) (s : State) (c n bit : Nat) :
    p (State.flagRecord s c n bit) = p s := by
  simp only [State.flagRecord, State.onRecord_keeps (h.mono (by decide)), -Nat.reducePow]

theorem State.markMissing_keeps {β : Type} {p : State → β} (h : Ignores p [.regs, .cams, .records, .prods]) (s :
    State) (c n : Nat) :
    p (State.markMissing s c n) = p s := by
  simp only [State.markMissing, apply_ite p, ite_self, State.setSched_keeps (h.mono (by decide)),
    State.flagRecord_keeps (h.mono (by decide)), State.inc_keeps (h.mono (by decide)), State.raise_keeps (h.mono (by
    decide)), State.pushPacket_keeps (h.mono (by decide)), -Nat.reducePow]

theorem State.schedClear_keeps {β : Type} {p : State → β} (h : Ignores p [.regs, .cams]) (s : State) (c : Nat) :
    p (State.schedClear s c) = p s := by
  simp only [State.schedClear, State.put_keeps (h.mono (by decide)), State.setSched_keeps (h.mono (by decide)),
    -Nat.reducePow]

theorem State.schedSync_keeps {β : Type} {p : State → β} (h : Ignores p [.regs, .cams]) (s : State) (c : Nat) :
    p (State.schedSync s c) = p s := by
  simp only [State.schedSync, State.put_keeps (h.mono (by decide)), State.setSched_keeps (h.mono (by decide)),
    -Nat.reducePow]

theorem State.schedEvent_keeps {β : Type} {p : State → β} (h : Ignores p [.regs, .cams]) (s : State) (c e8 : Nat)
    (soft : Bool) :
    p (State.schedEvent s c e8 soft) = p s := by
  simp only [State.schedEvent, apply_ite p, ite_self, State.setSched_keeps (h.mono (by decide)), State.inc_keeps
    (h.mono (by decide)), State.raise_keeps (h.mono (by decide)), -Nat.reducePow]

theorem State.sourceEvent_keeps {β : Type} {p : State → β} (h : Ignores p [.regs, .cams]) (s : State) (kind index e8
    : Nat) :
    p (State.sourceEvent s kind index e8) = p s := by
  simp only [State.sourceEvent, apply_ite p, ite_self, implies_true, State.each_p p, State.schedEvent_keeps (h.mono
    (by decide)), -Nat.reducePow]

theorem State.putPin_keeps {β : Type} {p : State → β} (h : Ignores p [.regs]) (s : State) (n : Nat) (v : Bool) :
    p (State.putPin s n v) = p s := by
  simp only [State.putPin, State.putBit_keeps (h.mono (by decide)), -Nat.reducePow]

theorem State.drivePin_keeps {β : Type} {p : State → β} (h : Ignores p [.out]) (s : State) (n t8 : Nat) :
    p (State.drivePin s n t8) = p s := by
  simp only [State.drivePin, apply_ite p, ite_self, State.emit_keeps (h.mono (by decide)), -Nat.reducePow]

theorem State.endStrobes_keeps {β : Type} {p : State → β} (h : Ignores p [.strobes, .out]) (s : State) :
    p (State.endStrobes s) = p s := by
  simp only [State.endStrobes, implies_true, State.each_p p, State.drivePin_keeps (h.mono (by decide)), h.strobes
    (by decide), -Nat.reducePow]

theorem State.stopFabric_keeps {β : Type} {p : State → β} (h : Ignores p [.cams, .strobes, .out]) (s : State) :
    p (State.stopFabric s) = p s := by
  simp only [State.stopFabric, implies_true, State.endStrobes_keeps (h.mono (by decide)), State.each_p p,
    State.setSched_keeps (h.mono (by decide)), -Nat.reducePow]

theorem State.restartFabric_keeps {β : Type} {p : State → β} (h : Ignores p [.cams]) (s : State) :
    p (State.restartFabric s) = p s := by
  simp only [State.restartFabric, implies_true, State.each_p p, State.setSched_keeps (h.mono (by decide)),
    -Nat.reducePow]

theorem State.putPos_keeps {β : Type} {p : State → β} (h : Ignores p [.regs]) (s : State) (e v : Nat) :
    p (State.putPos s e v) = p s := by
  simp only [State.putPos, State.put64_keeps (h.mono (by decide)), -Nat.reducePow]

theorem State.compare_keeps {β : Type} {p : State → β} (h : Ignores p [.regs, .cams]) (s : State) (k e : Nat) (up :
    Bool) (t : Nat) :
    p (State.compare s k e up t) = p s := by
  simp only [State.compare, apply_ite p, ite_self, State.put64_keeps (h.mono (by decide)), State.inc_keeps (h.mono
    (by decide)), State.sourceEvent_keeps (h.mono (by decide)), -Nat.reducePow]

theorem State.encCount_keeps {β : Type} {p : State → β} (h : Ignores p [.regs, .cams]) (s : State) (e : Nat) (up :
    Bool) (t : Nat) :
    p (State.encCount s e up t) = p s := by
  simp only [State.encCount, implies_true, State.putPos_keeps (h.mono (by decide)), State.each_p p,
    State.compare_keeps (h.mono (by decide)), -Nat.reducePow]

theorem State.realignTimers_keeps {β : Type} {p : State → β} (h : Ignores p [.timers]) (s : State) :
    p (State.realignTimers s) = p s := by
  simp only [State.realignTimers, apply_ite p, ite_self, implies_true, State.each_p p, State.setTimer_keeps (h.mono
    (by decide)), -Nat.reducePow]

theorem State.putSlotState_keeps {β : Type} {p : State → β} (h : Ignores p [.regs]) (s : State) (c k v : Nat) :
    p (State.putSlotState s c k v) = p s := by
  simp only [State.putSlotState, State.put_keeps (h.mono (by decide)), -Nat.reducePow]

theorem State.onCommit_keeps {β : Type} {p : State → β} (h : Ignores p [.cams]) (s : State) (c k : Nat) (f : Commit
    → Commit) :
    p (State.onCommit s c k f) = p s := by
  simp only [State.onCommit, State.setSched_keeps (h.mono (by decide)), -Nat.reducePow]

theorem State.endFailed_keeps {β : Type} {p : State → β} (h : Ignores p [.regs, .cams]) (s : State) (c k : Nat) :
    p (State.endFailed s c k) = p s := by
  simp only [State.endFailed, -Nat.reducePow]; (repeat' split) <;> simp only [State.setSched_keeps (h.mono (by
    decide)), State.putSlotState_keeps (h.mono (by decide)), State.put_keeps (h.mono (by decide)), -Nat.reducePow]

theorem State.commitAck_keeps {β : Type} {p : State → β} (h : Ignores p [.regs, .cams]) (s : State) (c k : Nat) :
    p (State.commitAck s c k) = p s := by
  simp only [State.commitAck, -Nat.reducePow]; (repeat' split) <;> simp only [State.onCommit_keeps (h.mono (by
    decide)), State.putSlotState_keeps (h.mono (by decide)), State.endFailed_keeps (h.mono (by decide)),
    -Nat.reducePow]

theorem State.commitFail_keeps {β : Type} {p : State → β} (h : Ignores p [.regs, .cams]) (s : State) (c k withdrawn
    : Nat) :
    p (State.commitFail s c k withdrawn) = p s := by
  simp only [State.commitFail, -Nat.reducePow]; (repeat' split) <;> simp only [State.onCommit_keeps (h.mono (by
    decide)), State.raise_keeps (h.mono (by decide)), State.endFailed_keeps (h.mono (by decide)), -Nat.reducePow]

theorem State.onLane_keeps {β : Type} {p : State → β} (h : Ignores p [.gates]) (s : State) (g lane : Nat) (f :
    LaneSt → LaneSt) :
    p (State.onLane s g lane f) = p s := by
  simp only [State.onLane, State.setGate_keeps (h.mono (by decide)), -Nat.reducePow]

theorem State.setLinkState_keeps {β : Type} {p : State → β} (h : Ignores p [.regs]) (s : State) (c v : Nat) :
    p (State.setLinkState s c v) = p s := by
  simp only [State.setLinkState, apply_ite p, ite_self, State.put_keeps (h.mono (by decide)), -Nat.reducePow]

theorem State.huntLanes_keeps {β : Type} {p : State → β} (h : Ignores p [.regs, .gates]) (s : State) (c : Nat) :
    p (State.huntLanes s c) = p s := by
  simp only [State.huntLanes, implies_true, State.each_p p, State.put_keeps (h.mono (by decide)), State.onLane_keeps
    (h.mono (by decide)), -Nat.reducePow]

theorem State.toDown_keeps {β : Type} {p : State → β} (h : Ignores p [.regs, .gates, .links]) (s : State) (c : Nat) :
    p (State.toDown s c) = p s := by
  simp only [State.toDown, State.setLinkState_keeps (h.mono (by decide)), State.put_keeps (h.mono (by decide)),
    State.huntLanes_keeps (h.mono (by decide)), State.setLink_keeps (h.mono (by decide)), -Nat.reducePow]

theorem State.toClock_keeps {β : Type} {p : State → β} (h : Ignores p [.regs, .links]) (s : State) (c : Nat) :
    p (State.toClock s c) = p s := by
  simp only [State.toClock, State.setLinkState_keeps (h.mono (by decide)), State.setLink_keeps (h.mono (by decide)),
    -Nat.reducePow]

theorem State.toAlign_keeps {β : Type} {p : State → β} (h : Ignores p [.regs, .gates]) (s : State) (c : Nat) :
    p (State.toAlign s c) = p s := by
  simp only [State.toAlign, State.setLinkState_keeps (h.mono (by decide)), State.put_keeps (h.mono (by decide)),
    State.huntLanes_keeps (h.mono (by decide)), -Nat.reducePow]

theorem State.assignLanes_keeps {β : Type} {p : State → β} (h : Ignores p [.regs]) (s : State) (g : Nat) :
    p (State.assignLanes s g) = p s := by
  simp only [State.assignLanes, implies_true, State.each_p p, State.put_keeps (h.mono (by decide)), -Nat.reducePow]

theorem State.emptyRiser_keeps {β : Type} {p : State → β} (h : Ignores p [.links]) (s : State) (c : Nat) :
    p (State.emptyRiser s c) = p s := by
  simp only [State.emptyRiser, State.setLink_keeps (h.mono (by decide)), -Nat.reducePow]

theorem State.slag_keeps {β : Type} {p : State → β} (h : Ignores p [.regs]) (s : State) (c n : Nat) :
    p (State.slag s c n) = p s := by
  simp only [State.slag, State.add_keeps (h.mono (by decide)), -Nat.reducePow]

theorem State.gateWake_keeps {β : Type} {p : State → β} (h : Ignores p [.regs, .gates]) (s : State) (g : Nat) :
    p (State.gateWake s g) = p s := by
  simp only [State.gateWake, apply_ite p, ite_self, State.setGate_keeps (h.mono (by decide)), State.put_keeps
    (h.mono (by decide)), -Nat.reducePow]

theorem State.sliceWake_keeps {β : Type} {p : State → β} (h : Ignores p [.regs, .slices]) (s : State) (k : Nat) :
    p (State.sliceWake s k) = p s := by
  simp only [State.sliceWake, apply_ite p, ite_self, State.setSlice_keeps (h.mono (by decide)), State.put_keeps
    (h.mono (by decide)), -Nat.reducePow]

theorem State.gateCommand_keeps {β : Type} {p : State → β} (h : Ignores p [.regs, .gates]) (s : State) (g : Nat) :
    p (State.gateCommand s g) = p s := by
  simp only [State.gateCommand, State.gateWake_keeps (h.mono (by decide)), -Nat.reducePow]

theorem State.putFrame_keeps {β : Type} {p : State → β} (h : Ignores p [.cams]) (s : State) (fr : Frame) :
    p (State.putFrame s fr) = p s := by
  simp only [State.putFrame, State.setCam_keeps (h.mono (by decide)), -Nat.reducePow]

theorem State.retireFrames_keeps {β : Type} {p : State → β} (h : Ignores p [.cams]) (s : State) (c : Nat) :
    p (State.retireFrames s c) = p s := by
  simp only [State.retireFrames, State.setCam_keeps (h.mono (by decide)), -Nat.reducePow]

theorem State.setRefBuf_keeps {β : Type} {p : State → β} (h : Ignores p [.cams]) (s : State) (c b : Nat) (v : RefBuf) :
    p (State.setRefBuf s c b v) = p s := by
  simp only [State.setRefBuf, State.setCam_keeps (h.mono (by decide)), -Nat.reducePow]

theorem State.sealCheck_keeps {β : Type} {p : State → β} (h : Ignores p [.cams]) (s : State) (c b : Nat) :
    p (State.sealCheck s c b) = p s := by
  simp only [State.sealCheck, apply_ite p, ite_self, State.setRefBuf_keeps (h.mono (by decide)), -Nat.reducePow]

theorem State.sealBoth_keeps {β : Type} {p : State → β} (h : Ignores p [.cams]) (s : State) (c : Nat) :
    p (State.sealBoth s c) = p s := by
  simp only [State.sealBoth, State.sealCheck_keeps (h.mono (by decide)), -Nat.reducePow]

theorem State.endHold_keeps {β : Type} {p : State → β} (h : Ignores p [.regs, .cams]) (s : State) (c : Nat) :
    p (State.endHold s c) = p s := by
  simp only [State.endHold, State.put_keeps (h.mono (by decide)), State.setCam_keeps (h.mono (by decide)),
    -Nat.reducePow]

theorem State.closeFrame_keeps {β : Type} {p : State → β} (h : Ignores p [.regs, .cams, .records]) (s : State) (c :
    Nat) (bits : List Nat) (cut : Bool) :
    p (State.closeFrame s c bits cut) = p s := by
  simp only [State.closeFrame, -Nat.reducePow]; (repeat' split) <;> simp only [State.putFrame_keeps (h.mono (by
    decide)), State.onRecord_keeps (h.mono (by decide)), State.raise_keeps (h.mono (by decide)), State.sealBoth_keeps
    (h.mono (by decide)), -Nat.reducePow]

theorem State.intakeClosed_keeps {β : Type} {p : State → β} (h : Ignores p [.links]) (s : State) (c : Nat) :
    p (State.intakeClosed s c) = p s := by
  simp only [State.intakeClosed, State.setLink_keeps (h.mono (by decide)), -Nat.reducePow]

theorem State.cutFrame_keeps {β : Type} {p : State → β} (h : Ignores p [.regs, .links, .cams, .records]) (s : State)
    (c : Nat) :
    p (State.cutFrame s c) = p s := by
  simp only [State.cutFrame, State.closeFrame_keeps (h.mono (by decide)), State.intakeClosed_keeps (h.mono (by
    decide)), State.endHold_keeps (h.mono (by decide)), -Nat.reducePow]

theorem State.dropRiser_keeps {β : Type} {p : State → β} (h : Ignores p [.regs, .links]) (s : State) (c : Nat) :
    p (State.dropRiser s c) = p s := by
  simp only [State.dropRiser, State.slag_keeps (h.mono (by decide)), State.setLink_keeps (h.mono (by decide)),
    -Nat.reducePow]

theorem State.freeBank_keeps {β : Type} {p : State → β} (h : Ignores p [.cams]) (s : State) (c b : Nat) :
    p (State.freeBank s c b) = p s := by
  simp only [State.freeBank, State.setCam_keeps (h.mono (by decide)), -Nat.reducePow]

theorem State.loseFrames_keeps {β : Type} {p : State → β} (h : Ignores p [.regs, .links, .cams, .records]) (s :
    State) (c : Nat) :
    p (State.loseFrames s c) = p s := by
  simp only [State.loseFrames, apply_ite p, ite_self, implies_true, State.cutFrame_keeps (h.mono (by decide)),
    State.each_p p, State.flagRecord_keeps (h.mono (by decide)), State.setCam_keeps (h.mono (by decide)),
    -Nat.reducePow]

theorem State.loseProducer_keeps {β : Type} {p : State → β} (h : Ignores p [.supply, .regs, .records, .banks,
    .prods, .faults]) (s : State) (k : Nat) :
    p (State.loseProducer s k) = p s := by
  simp only [State.loseProducer, apply_ite p, ite_self, implies_true, State.abandonOpen_keeps (h.mono (by decide)),
    State.setProd_keeps (h.mono (by decide)), State.each_p p, State.flagRecord_keeps (h.mono (by decide)),
    -Nat.reducePow]

theorem State.haltSlice_keeps {β : Type} {p : State → β} (h : Ignores p [.supply, .regs, .links, .cams, .slices,
    .records, .banks, .prods, .faults]) (s : State) (k : Nat) :
    p (State.haltSlice s k) = p s := by
  simp only [State.haltSlice, implies_true, State.each_p p, State.loseFrames_keeps (h.mono (by decide)),
    State.loseProducer_keeps (h.mono (by decide)), State.setSlice_keeps (h.mono (by decide)), -Nat.reducePow]

theorem State.fencePort_keeps {β : Type} {p : State → β} (h : Ignores p [.regs, .links, .cams, .records]) (s :
    State) (c : Nat) :
    p (State.fencePort s c) = p s := by
  simp only [State.fencePort, apply_ite p, ite_self, State.cutFrame_keeps (h.mono (by decide)), State.put_keeps
    (h.mono (by decide)), State.putB_keeps (h.mono (by decide)), State.setLink_keeps (h.mono (by decide)),
    State.raise_keeps (h.mono (by decide)), -Nat.reducePow]

theorem State.fenceLink_keeps {β : Type} {p : State → β} (h : Ignores p [.regs, .links, .cams, .records]) (s :
    State) (c : Nat) :
    p (State.fenceLink s c) = p s := by
  simp only [State.fenceLink, apply_ite p, ite_self, State.fencePort_keeps (h.mono (by decide)), State.raise_keeps
    (h.mono (by decide)), -Nat.reducePow]

theorem State.releasePort_keeps {β : Type} {p : State → β} (h : Ignores p [.regs, .gates, .links]) (s : State) (c :
    Nat) :
    p (State.releasePort s c) = p s := by
  simp only [State.releasePort, State.putB_keeps (h.mono (by decide)), State.toDown_keeps (h.mono (by decide)),
    -Nat.reducePow]

theorem State.fencePorts_keeps {β : Type} {p : State → β} (h : Ignores p [.regs, .links, .cams, .records]) (s :
    State) (k : Nat) :
    p (State.fencePorts s k) = p s := by
  simp only [State.fencePorts, apply_ite p, ite_self, implies_true, State.each_p p, State.fencePort_keeps (h.mono
    (by decide)), -Nat.reducePow]

theorem State.takeTag_keeps {β : Type} {p : State → β} (h : Ignores p [.regs]) (s : State) (c : Nat) :
    p (State.takeTag s c).2 = p s := by
  simp only [State.takeTag, State.put_keeps (h.mono (by decide)), -Nat.reducePow]

theorem State.logEntry_keeps {β : Type} {p : State → β} (h : Ignores p [.regs]) (s : State) (c addr : Nat) (data :
    List Byte) (tag cause source cstatus len : Nat) :
    p (State.logEntry s c addr data tag cause source cstatus len) = p s := by
  simp only [State.logEntry, implies_true, State.each_p p, State.put_keeps (h.mono (by decide)), State.inc_keeps
    (h.mono (by decide)), -Nat.reducePow]

theorem State.onRead_keeps {β : Type} {p : State → β} (h : Ignores p [.engines]) (s : State) (g key : Nat) (f :
    HostRead → HostRead) :
    p (State.onRead s g key f) = p s := by
  simp only [State.onRead, State.setEngine_keeps (h.mono (by decide)), -Nat.reducePow]

theorem State.setSlot_keeps {β : Type} {p : State → β} (h : Ignores p [.engines]) (s : State) (c : Nat) (x : Option
    Slot) :
    p (State.setSlot s c x) = p s := by
  simp only [State.setSlot, apply_ite p, ite_self, State.setEngine_keeps (h.mono (by decide)), -Nat.reducePow]

theorem State.dropPrefetch_keeps {β : Type} {p : State → β} (h : Ignores p [.engines]) (s : State) (c : Nat) :
    p (State.dropPrefetch s c) = p s := by
  simp only [State.dropPrefetch, -Nat.reducePow]; (repeat' split) <;> simp only [State.setSlot_keeps (h.mono (by
    decide)), -Nat.reducePow]

theorem State.enqueue_keeps {β : Type} {p : State → β} (h : Ignores p [.regs, .engines]) (s : State) (c op cls addr
    : Nat) (data : List Byte) (len want : Nat) (p1 : Purpose) :
    p (State.enqueue s c op cls addr data len want p1) = p s := by
  simp only [State.enqueue, apply_ite p, ite_self, State.takeTag_keeps (h.mono (by decide)), State.setEngine_keeps
    (h.mono (by decide)), State.put_keeps (h.mono (by decide)), State.dropPrefetch_keeps (h.mono (by decide)),
    -Nat.reducePow]

theorem State.admitReads_keeps {β : Type} {p : State → β} (h : Ignores p [.regs, .engines]) (s : State) (c : Nat) :
    p (s.admitReads c) = p s := by
  rw [State.admitReads]
  refine State.each_keeps _ _ _ p (fun t i => ?_)
  split
  · rfl
  · split
    · rw [State.each_keeps _ _ _ p (fun t x => State.enqueue_keeps (h.mono (by decide)) _ _ _ _ _ _ _ _ _),
        State.onRead_keeps (h.mono (by decide))]
    · rfl

theorem State.failRead_keeps {β : Type} {p : State → β} (h : Ignores p [.regs, .engines, .out]) (s : State) (g key :
    Nat) :
    p (State.failRead s g key) = p s := by
  simp only [State.failRead, -Nat.reducePow]; (repeat' split) <;> simp only [State.setEngine_keeps (h.mono (by
    decide)), State.emit_keeps (h.mono (by decide)), State.admitReads_keeps (h.mono (by decide)), -Nat.reducePow]

theorem State.settleReads_keeps {β : Type} {p : State → β} (h : Ignores p [.regs, .engines, .out]) (s : State) (g :
    Nat) :
    p (State.settleReads s g) = p s := by
  simp only [State.settleReads, implies_true, State.setEngine_keeps (h.mono (by decide)), State.each_p p,
    State.emit_keeps (h.mono (by decide)), State.admitReads_keeps (h.mono (by decide)), -Nat.reducePow]

theorem State.writeEnded_keeps {β : Type} {p : State → β} (h : Ignores p [.regs, .engines, .out]) (s : State) (c tag
    : Nat) :
    p (State.writeEnded s c tag) = p s := by
  simp only [State.writeEnded, State.setEngine_keeps (h.mono (by decide)), State.settleReads_keeps (h.mono (by
    decide)), -Nat.reducePow]

theorem State.dropReq_keeps {β : Type} {p : State → β} (h : Ignores p [.engines]) (s : State) (r : Req) :
    p (State.dropReq s r) = p s := by
  simp only [State.dropReq, State.setEngine_keeps (h.mono (by decide)), -Nat.reducePow]

theorem State.withdraw_keeps {β : Type} {p : State → β} (h : Ignores p [.regs, .engines, .out]) (s : State) (c slot
    : Nat) :
    p (State.withdraw s c slot).2 = p s := by
  simp only [State.withdraw, implies_true, State.setEngine_keeps (h.mono (by decide)), State.each_p p,
    State.writeEnded_keeps (h.mono (by decide)), -Nat.reducePow]

theorem State.failOutcome_keeps {β : Type} {p : State → β} (h : Ignores p [.regs, .links, .engines, .cams, .records,
    .out]) (s : State) (r : Req) :
    p (State.failOutcome s r) = p s := by
  simp only [State.failOutcome, -Nat.reducePow]; (repeat' split) <;> simp only [State.failRead_keeps (h.mono (by
    decide)), State.put_keeps (h.mono (by decide)), State.withdraw_keeps (h.mono (by decide)), State.commitFail_keeps
    (h.mono (by decide)), State.setLink_keeps (h.mono (by decide)), State.fenceLink_keeps (h.mono (by decide)),
    State.raise_keeps (h.mono (by decide)), State.schedClear_keeps (h.mono (by decide)), State.setEngine_keeps (h.mono
    (by decide)), -Nat.reducePow]

theorem State.reportFail_keeps {β : Type} {p : State → β} (h : Ignores p [.regs]) (s : State) (c tag op : Nat) :
    p (State.reportFail s c tag op) = p s := by
  simp only [State.reportFail, apply_ite p, ite_self, State.put_keeps (h.mono (by decide)), State.raise_keeps
    (h.mono (by decide)), -Nat.reducePow]

theorem State.failReq_keeps {β : Type} {p : State → β} (h : Ignores p [.regs, .links, .engines, .cams, .records,
    .out]) (s : State) (r : Req) (cause cstatus : Nat) :
    p (State.failReq s r cause cstatus) = p s := by
  simp only [State.failReq, apply_ite p, ite_self, State.dropReq_keeps (h.mono (by decide)), State.inc_keeps (h.mono
    (by decide)), State.setEngine_keeps (h.mono (by decide)), State.logEntry_keeps (h.mono (by decide)),
    State.reportFail_keeps (h.mono (by decide)), State.failOutcome_keeps (h.mono (by decide)), State.writeEnded_keeps
    (h.mono (by decide)), -Nat.reducePow]

theorem State.failAll_keeps {β : Type} {p : State → β} (h : Ignores p [.regs, .links, .engines, .cams, .records,
    .out]) (s : State) (c n : Nat) :
    p (s.failAll c n) = p s := by
  induction n generalizing s with
  | zero => rw [State.failAll]
  | succ n ih =>
    rw [State.failAll]
    split
    · rfl
    · rw [ih, State.failReq_keeps (h.mono (by decide))]

theorem State.failWhole_keeps {β : Type} {p : State → β} (h : Ignores p [.regs, .fresh]) (s : State) (c addr cause :
    Nat) :
    p (State.failWhole s c addr cause) = p s := by
  simp only [State.failWhole, State.draw_keeps (h.mono (by decide)), State.logEntry_keeps (h.mono (by decide)),
    State.raise_keeps (h.mono (by decide)), -Nat.reducePow]

theorem State.failWaiting_keeps {β : Type} {p : State → β} (h : Ignores p [.regs, .engines, .fresh, .out]) (s :
    State) (c : Nat) :
    p (State.failWaiting s c) = p s := by
  simp only [State.failWaiting, apply_ite p, ite_self, implies_true, State.each_p p, State.failWhole_keeps (h.mono
    (by decide)), State.failRead_keeps (h.mono (by decide)), -Nat.reducePow]

theorem State.downCheck_keeps {β : Type} {p : State → β} (h : Ignores p [.regs, .links, .engines, .cams, .records,
    .fresh, .out]) (s : State) (c : Nat) :
    p (State.downCheck s c) = p s := by
  simp only [State.downCheck, apply_ite p, ite_self, State.failWaiting_keeps (h.mono (by decide)),
    State.failAll_keeps (h.mono (by decide)), -Nat.reducePow]

theorem State.deviceWrite_keeps {β : Type} {p : State → β} (h : Ignores p [.regs, .links, .engines, .cams, .records,
    .fresh, .out]) (s : State) (c : Nat) (p1 : Purpose) (addr : Nat) (data : List Byte) :
    p (State.deviceWrite s c p1 addr data) = p s := by
  simp only [State.deviceWrite, State.enqueue_keeps (h.mono (by decide)), State.downCheck_keeps (h.mono (by
    decide)), -Nat.reducePow]

theorem State.deviceWord_keeps {β : Type} {p : State → β} (h : Ignores p [.regs, .links, .engines, .cams, .records,
    .fresh, .out]) (s : State) (c : Nat) (p1 : Purpose) (addr v : Nat) :
    p (State.deviceWord s c p1 addr v) = p s := by
  simp only [State.deviceWord, State.deviceWrite_keeps (h.mono (by decide)), -Nat.reducePow]

theorem State.writeEcho_keeps {β : Type} {p : State → β} (h : Ignores p [.regs, .links, .engines, .cams, .records,
    .fresh, .out]) (s : State) (c : Nat) :
    p (State.writeEcho s c) = p s := by
  simp only [State.writeEcho, apply_ite p, ite_self, State.deviceWrite_keeps (h.mono (by decide)), -Nat.reducePow]

theorem State.discoveryRead_keeps {β : Type} {p : State → β} (h : Ignores p [.regs, .links, .engines, .cams,
    .records, .fresh, .out]) (s : State) (c : Nat) (p1 : Purpose) (addr : Nat) :
    p (State.discoveryRead s c p1 addr) = p s := by
  simp only [State.discoveryRead, State.enqueue_keeps (h.mono (by decide)), State.downCheck_keeps (h.mono (by
    decide)), -Nat.reducePow]

theorem State.startDiscovery_keeps {β : Type} {p : State → β} (h : Ignores p [.regs, .links, .engines, .cams,
    .records, .fresh, .out]) (s : State) (c : Nat) :
    p (State.startDiscovery s c) = p s := by
  simp only [State.startDiscovery, State.put_keeps (h.mono (by decide)), State.discoveryRead_keeps (h.mono (by
    decide)), -Nat.reducePow]

theorem State.enterClock_keeps {β : Type} {p : State → β} (h : Ignores p [.regs, .links, .engines, .cams, .records,
    .fresh, .out]) (s : State) (c : Nat) :
    p (State.enterClock s c) = p s := by
  simp only [State.enterClock, apply_ite p, ite_self, State.toClock_keeps (h.mono (by decide)), State.setLink_keeps
    (h.mono (by decide)), State.startDiscovery_keeps (h.mono (by decide)), -Nat.reducePow]

theorem State.leaveDown_keeps {β : Type} {p : State → β} (h : Ignores p [.regs, .links, .engines, .cams, .records,
    .fresh, .out]) (s : State) (c : Nat) :
    p (State.leaveDown s c) = p s := by
  simp only [State.leaveDown, apply_ite p, ite_self, State.enterClock_keeps (h.mono (by decide)), -Nat.reducePow]

theorem State.ackOutcome_keeps {β : Type} {p : State → β} (h : Ignores p [.regs, .gates, .links, .cams]) (s : State)
    (r : Req) :
    p (State.ackOutcome s r) = p s := by
  simp only [State.ackOutcome, -Nat.reducePow]; (repeat' split) <;> simp only [State.put_keeps (h.mono (by decide)),
    State.raise_keeps (h.mono (by decide)), State.commitAck_keeps (h.mono (by decide)), State.setLink_keeps (h.mono
    (by decide)), State.schedSync_keeps (h.mono (by decide)), State.toDown_keeps (h.mono (by decide)), -Nat.reducePow]

theorem State.completeWrite_keeps {β : Type} {p : State → β} (h : Ignores p [.regs, .gates, .links, .engines, .cams,
    .out]) (s : State) (r : Req) :
    p (State.completeWrite s r) = p s := by
  simp only [State.completeWrite, apply_ite p, ite_self, State.dropReq_keeps (h.mono (by decide)),
    State.ackOutcome_keeps (h.mono (by decide)), State.writeEnded_keeps (h.mono (by decide)), -Nat.reducePow]

theorem State.stopEngine_keeps {β : Type} {p : State → β} (h : Ignores p [.regs, .links, .engines, .cams, .records,
    .fresh, .out]) (s : State) (g : Nat) :
    p (State.stopEngine s g) = p s := by
  simp only [State.stopEngine, State.downCheck_keeps (h.mono (by decide)), -Nat.reducePow]

theorem State.emitStrip_keeps {β : Type} {p : State → β} (h : Ignores p [.supply, .regs, .prods, .fresh]) (s :
    State) (u : Nat) (bad : List (Nat × Nat)) :
    p (State.emitStrip s u bad) = p s := by
  simp only [State.emitStrip, apply_ite p, ite_self, implies_true, State.draw_keeps (h.mono (by decide)),
    State.each_p p, State.touch_keeps (h.mono (by decide)), State.pushPacket_keeps (h.mono (by decide)),
    -Nat.reducePow]

theorem State.nextStrip_keeps {β : Type} {p : State → β} (h : Ignores p [.regs, .seams]) (s : State) (u : Nat) :
    p (State.nextStrip s u) = p s := by
  simp only [State.nextStrip, State.inc_keeps (h.mono (by decide)), State.setSeam_keeps (h.mono (by decide)),
    -Nat.reducePow]

theorem State.forceStrip_keeps {β : Type} {p : State → β} (h : Ignores p [.supply, .regs, .seams, .prods, .fresh])
    (s : State) (u : Nat) (bad : List (Nat × Nat)) :
    p (State.forceStrip s u bad) = p s := by
  simp only [State.forceStrip, apply_ite p, ite_self, State.inc_keeps (h.mono (by decide)), State.add_keeps (h.mono
    (by decide)), State.put_keeps (h.mono (by decide)), State.raise_keeps (h.mono (by decide)), State.emitStrip_keeps
    (h.mono (by decide)), State.nextStrip_keeps (h.mono (by decide)), -Nat.reducePow]

theorem State.badMember_keeps {β : Type} {p : State → β} (h : Ignores p [.regs, .seams]) (s : State) (u i : Nat) (p1
    : Packet) :
    p (State.badMember s u i p1) = p s := by
  simp only [State.badMember, State.inc_keeps (h.mono (by decide)), State.raise_keeps (h.mono (by decide)),
    State.setSeam_keeps (h.mono (by decide)), -Nat.reducePow]

theorem State.storeMember_keeps {β : Type} {p : State → β} (h : Ignores p [.supply, .regs, .seams, .faults, .hbm])
    (s : State) (u i k : Nat) (p1 : Packet) :
    p (State.storeMember s u i k p1) = p s := by
  simp only [State.storeMember, State.hbmWrite_keeps (h.mono (by decide)), State.setSeam_keeps (h.mono (by decide)),
    -Nat.reducePow]

theorem State.seamStart_keeps {β : Type} {p : State → β} (h : Ignores p [.regs, .seams]) (s : State) (u : Nat) :
    p (State.seamStart s u) = p s := by
  simp only [State.seamStart, State.put_keeps (h.mono (by decide)), State.setSeam_keeps (h.mono (by decide)),
    -Nat.reducePow]

theorem State.seamStop_keeps {β : Type} {p : State → β} (h : Ignores p [.queues, .prods]) (s : State) (u : Nat) :
    p (State.seamStop s u) = p s := by
  simp only [State.seamStop, apply_ite p, ite_self, implies_true, State.setProd_keeps (h.mono (by decide)),
    State.each_p p, State.dropClaim_keeps (h.mono (by decide)), -Nat.reducePow]

theorem State.setStale_keeps {β : Type} {p : State → β} (h : Ignores p [.regs]) (s : State) (m t : Nat) (v : Bool) :
    p (State.setStale s m t v) = p s := by
  simp only [State.setStale, State.putBit_keeps (h.mono (by decide)), -Nat.reducePow]

theorem State.setTile_keeps {β : Type} {p : State → β} (h : Ignores p [.moulds]) (s : State) (m t : Nat) (v : TileSt) :
    p (State.setTile s m t v) = p s := by
  simp only [State.setTile, State.setMould_keeps (h.mono (by decide)), -Nat.reducePow]

theorem State.writeRow_keeps {β : Type} {p : State → β} (h : Ignores p [.supply, .regs, .moulds, .faults, .hbm]) (s
    : State) (m t at_ : Nat) (px : List (Option Chan)) :
    p (State.writeRow s m t at_ px) = p s := by
  simp only [State.writeRow, -Nat.reducePow]; (repeat' split) <;> simp only [State.hbmWrite_keeps (h.mono (by
    decide)), State.setTile_keeps (h.mono (by decide)), -Nat.reducePow]

theorem State.endTileFrame_keeps {β : Type} {p : State → β} (h : Ignores p [.supply, .regs, .moulds, .faults, .hbm])
    (s : State) (m t : Nat) (x : TileSource) :
    p (State.endTileFrame s m t x) = p s := by
  simp only [State.endTileFrame, -Nat.reducePow]; (repeat' split) <;> simp only [apply_ite p, ite_self,
    implies_true, State.setTile_keeps (h.mono (by decide)), State.each_p p, State.writeRow_keeps (h.mono (by decide)),
    State.setStale_keeps (h.mono (by decide)), -Nat.reducePow]

theorem State.startTileFrame_keeps {β : Type} {p : State → β} (h : Ignores p [.regs, .moulds]) (s : State) (m t : Nat) :
    p (State.startTileFrame s m t) = p s := by
  simp only [State.startTileFrame, apply_ite p, ite_self, State.setTile_keeps (h.mono (by decide)), State.inc_keeps
    (h.mono (by decide)), -Nat.reducePow]

theorem State.scrollLine_keeps {β : Type} {p : State → β} (h : Ignores p [.supply, .regs, .moulds, .faults, .hbm])
    (s : State) (m t : Nat) (x : TileSource) (num : Nat) (l : SrcLine) :
    p (State.scrollLine s m t x num l) = p s := by
  simp only [State.scrollLine, apply_ite p, ite_self, State.setTile_keeps (h.mono (by decide)), State.inc_keeps
    (h.mono (by decide)), State.writeRow_keeps (h.mono (by decide)), State.setStale_keeps (h.mono (by decide)),
    -Nat.reducePow]

theorem State.tileLine_keeps {β : Type} {p : State → β} (h : Ignores p [.supply, .regs, .moulds, .faults, .hbm]) (s
    : State) (m t : Nat) (x : TileSource) (num : Nat) (first last : Bool) (l : SrcLine) :
    p (State.tileLine s m t x num first last l) = p s := by
  simp only [State.tileLine, -Nat.reducePow]; (repeat' split) <;> simp only [State.scrollLine_keeps (h.mono (by
    decide)), State.endTileFrame_keeps (h.mono (by decide)), State.startTileFrame_keeps (h.mono (by decide)),
    State.setTile_keeps (h.mono (by decide)), -Nat.reducePow]

theorem State.endPart_keeps {β : Type} {p : State → β} (h : Ignores p [.supply, .regs, .moulds, .faults, .hbm]) (s :
    State) (m t : Nat) (x : TileSource) :
    p (State.endPart s m t x) = p s := by
  simp only [State.endPart, -Nat.reducePow]; (repeat' split) <;> simp only [State.setTile_keeps (h.mono (by
    decide)), State.tileLine_keeps (h.mono (by decide)), -Nat.reducePow]

theorem State.tileSegment_keeps {β : Type} {p : State → β} (h : Ignores p [.supply, .regs, .moulds, .faults, .hbm])
    (s : State) (m t : Nat) (x : TileSource) (k : Packet) (px : List Nat) :
    p (State.tileSegment s m t x k px) = p s := by
  simp only [State.tileSegment, apply_ite p, ite_self, State.endPart_keeps (h.mono (by decide)), State.setTile_keeps
    (h.mono (by decide)), -Nat.reducePow]

theorem State.takeTile_keeps {β : Type} {p : State → β} (h : Ignores p [.supply, .regs, .moulds, .faults, .hbm]) (s
    : State) (m t : Nat) (k : Packet) :
    p (State.takeTile s m t k) = p s := by
  simp only [State.takeTile, -Nat.reducePow]; (repeat' split) <;> simp only [State.inc_keeps (h.mono (by decide)),
    State.raise_keeps (h.mono (by decide)), State.tileSegment_keeps (h.mono (by decide)), State.tileLine_keeps (h.mono
    (by decide)), -Nat.reducePow]

theorem State.allocTiles_keeps {β : Type} {p : State → β} (h : Ignores p [.regs, .moulds]) (s : State) (m : Nat) (l
    : List Nat) (off : Nat) :
    p (s.allocTiles m l off) = p s := by
  induction l generalizing s off with
  | nil => rw [State.allocTiles]
  | cons t rest ih =>
    simp only [State.allocTiles]
    (repeat' split) <;> simp only [ih, State.putBit_keeps (h.mono (by decide)), State.raise_keeps (h.mono (by decide)),
      State.setTile_keeps (h.mono (by decide))]

theorem State.mouldStart_keeps {β : Type} {p : State → β} (h : Ignores p [.regs, .moulds]) (s : State) (m : Nat) :
    p (State.mouldStart s m) = p s := by
  simp only [State.mouldStart, State.put_keeps (h.mono (by decide)), State.setMould_keeps (h.mono (by decide)),
    State.allocTiles_keeps (h.mono (by decide)), -Nat.reducePow]

theorem State.mouldRestart_keeps {β : Type} {p : State → β} (h : Ignores p [.moulds]) (s : State) (m : Nat) :
    p (State.mouldRestart s m) = p s := by
  simp only [State.mouldRestart, State.setMould_keeps (h.mono (by decide)), -Nat.reducePow]

theorem State.mouldStop_keeps {β : Type} {p : State → β} (h : Ignores p [.moulds, .queues, .prods]) (s : State) (m :
    Nat) :
    p (State.mouldStop s m) = p s := by
  simp only [State.mouldStop, apply_ite p, ite_self, implies_true, State.setProd_keeps (h.mono (by decide)),
    State.setMould_keeps (h.mono (by decide)), State.each_p p, State.dropClaim_keeps (h.mono (by decide)),
    -Nat.reducePow]

theorem State.spendTokens_keeps {β : Type} {p : State → β} (h : Ignores p [.rings]) (s : State) (q n : Nat) :
    p (State.spendTokens s q n) = p s := by
  simp only [State.spendTokens, apply_ite p, ite_self, State.setRing_keeps (h.mono (by decide)), -Nat.reducePow]

theorem State.ringStart_keeps {β : Type} {p : State → β} (h : Ignores p [.regs, .rings]) (s : State) (q : Nat) :
    p (State.ringStart s q) = p s := by
  simp only [State.ringStart, State.setRing_keeps (h.mono (by decide)), State.put_keeps (h.mono (by decide)),
    -Nat.reducePow]

theorem State.setDelivery_keeps {β : Type} {p : State → β} (h : Ignores p [.regs, .rings]) (s : State) (q : Nat) (d
    : Option Delivery) :
    p (State.setDelivery s q d) = p s := by
  simp only [State.setDelivery, State.setRing_keeps (h.mono (by decide)), State.putB_keeps (h.mono (by decide)),
    -Nat.reducePow]

theorem State.pourStart_keeps {β : Type} {p : State → β} (h : Ignores p [.regs, .queues, .rings, .fresh]) (s :
    State) (q : Nat) :
    p (State.pourStart s q) = p s := by
  simp only [State.pourStart, -Nat.reducePow]; (repeat' split) <;> simp only [State.claim_keeps (h.mono (by
    decide)), State.setDelivery_keeps (h.mono (by decide)), -Nat.reducePow]

theorem State.endDelivery_keeps {β : Type} {p : State → β} (h : Ignores p [.regs, .queues, .rings]) (s : State) (q
    code : Nat) :
    p (State.endDelivery s q code) = p s := by
  simp only [State.endDelivery, -Nat.reducePow]; (repeat' split) <;> simp only [State.add_keeps (h.mono (by
    decide)), State.dropClaim_keeps (h.mono (by decide)), State.setDelivery_keeps (h.mono (by decide)),
    State.put_keeps (h.mono (by decide)), State.raise_keeps (h.mono (by decide)), -Nat.reducePow]

theorem State.chainErr_keeps {β : Type} {p : State → β} (h : Ignores p [.supply, .regs, .queues, .banks, .rings]) (s
    : State) (q : Nat) :
    p (State.chainErr s q) = p s := by
  simp only [State.chainErr, -Nat.reducePow]; (repeat' split) <;> simp only [State.cutClaim_keeps (h.mono (by
    decide)), State.setDelivery_keeps (h.mono (by decide)), -Nat.reducePow]

theorem State.settleDelivery_keeps {β : Type} {p : State → β} (h : Ignores p [.regs, .queues, .rings]) (s : State)
    (q : Nat) :
    p (State.settleDelivery s q) = p s := by
  simp only [State.settleDelivery, -Nat.reducePow]; (repeat' split) <;> simp only [State.endDelivery_keeps (h.mono
    (by decide)), -Nat.reducePow]

theorem State.stopDeliveries_keeps {β : Type} {p : State → β} (h : Ignores p [.regs, .queues, .rings]) (s : State) :
    p (s.stopDeliveries) = p s := by
  rw [State.stopDeliveries]
  refine State.each_keeps _ _ _ p (fun t x => ?_)
  split
  · split
    · rfl
    · rw [State.endDelivery_keeps (h.mono (by decide))]
  · rfl

theorem State.abandonDeliveries_keeps {β : Type} {p : State → β} (h : Ignores p [.regs, .queues, .rings]) (s : State) :
    p (s.abandonDeliveries) = p s := by
  rw [State.abandonDeliveries]
  refine State.each_keeps _ _ _ p (fun t x => ?_)
  split
  · rw [State.setDelivery_keeps (h.mono (by decide)), State.dropClaim_keeps (h.mono (by decide))]
  · rfl

theorem State.ringRequest_keeps {β : Type} {p : State → β} (h : Ignores p [.regs, .rings]) (s : State) (q : Nat) :
    p (State.ringRequest s q) = p s := by
  simp only [State.ringRequest, State.requestVector_keeps (h.mono (by decide)), State.setRing_keeps (h.mono (by
    decide)), State.put_keeps (h.mono (by decide)), -Nat.reducePow]

theorem State.ringCheck_keeps {β : Type} {p : State → β} (h : Ignores p [.regs, .rings]) (s : State) (q : Nat) :
    p (State.ringCheck s q) = p s := by
  simp only [State.ringCheck, apply_ite p, ite_self, State.ringRequest_keeps (h.mono (by decide)), -Nat.reducePow]

theorem State.complete_keeps {β : Type} {p : State → β} (h : Ignores p [.supply, .regs, .queues, .rings, .fresh,
    .out]) (s : State) (q : Nat) (d : Delivery) (code : Nat) :
    p (State.complete s q d code) = p s := by
  simp only [State.complete, -Nat.reducePow]; (repeat' split) <;> simp only [State.draw_keeps (h.mono (by decide)),
    State.emit_keeps (h.mono (by decide)), State.put_keeps (h.mono (by decide)), State.setRing_keeps (h.mono (by
    decide)), State.endClaim_keeps (h.mono (by decide)), State.setDelivery_keeps (h.mono (by decide)), State.inc_keeps
    (h.mono (by decide)), State.raise_keeps (h.mono (by decide)), State.ringCheck_keeps (h.mono (by decide)),
    State.ringStart_keeps (h.mono (by decide)), -Nat.reducePow]

theorem State.latchAlerts_keeps {β : Type} {p : State → β} (h : Ignores p [.smb]) (s : State) (before : Nat) :
    p (State.latchAlerts s before) = p s := by
  simp only [State.latchAlerts, h.smb (by decide), -Nat.reducePow]

theorem State.smbReply_keeps {β : Type} {p : State → β} (h : Ignores p [.out]) (s : State) (code : Nat) (data : List
    Byte) (pec : Bool) :
    p (State.smbReply s code data pec) = p s := by
  simp only [State.smbReply, State.emit_keeps (h.mono (by decide)), -Nat.reducePow]

theorem State.smbRead_keeps {β : Type} {p : State → β} (h : Ignores p [.out]) (s : State) (code : Nat) (data : List
    Byte) (pec : Bool) :
    p (State.smbRead s code data pec) = p s := by
  simp only [State.smbRead, -Nat.reducePow]; (repeat' split) <;> simp only [State.emit_keeps (h.mono (by decide)),
    State.smbReply_keeps (h.mono (by decide)), -Nat.reducePow]

theorem State.smbBlock_keeps {β : Type} {p : State → β} (h : Ignores p [.out]) (s : State) (code : Nat) (data : List
    Byte) (pec : Bool) :
    p (State.smbBlock s code data pec) = p s := by
  simp only [State.smbBlock, State.smbRead_keeps (h.mono (by decide)), -Nat.reducePow]

theorem State.smbWrite_keeps {β : Type} {p : State → β} (h : Ignores p [.out]) (s : State) (code : Nat) (data : List
    Byte) (pec : Option Byte) (ok : Bool) (f : State → State) (hf : ∀ t, p (f t) = p t) :
    p (State.smbWrite s code data pec ok f) = p s := by
  simp only [State.smbWrite, -Nat.reducePow]; (repeat' split) <;> simp only [State.emit_keeps (h.mono (by decide)),
    hf, -Nat.reducePow]

theorem State.loadInstr_keeps {β : Type} {p : State → β} (h : Ignores p [.jtag]) (s : State) (code : Nat) :
    p (State.loadInstr s code) = p s := by
  simp only [State.loadInstr, h.jtag (by decide), -Nat.reducePow]

theorem State.scanBoundary_keeps {β : Type} {p : State → β} (h : Ignores p [.jtag, .out]) (s : State) (balls shift :
    List Bool) :
    p (State.scanBoundary s balls shift) = p s := by
  simp only [State.scanBoundary, State.emit_keeps (h.mono (by decide)), h.jtag (by decide), -Nat.reducePow]

theorem State.jtagScan_keeps {β : Type} {p : State → β} (h : Ignores p [.jtag, .out]) (s : State) (code : Nat)
    (balls shift : List Bool) :
    p (State.jtagScan s code balls shift) = p s := by
  simp only [State.jtagScan, implies_true, State.when_p p, State.loadInstr_keeps (h.mono (by decide)),
    State.scanBoundary_keeps (h.mono (by decide)), -Nat.reducePow]

theorem State.jtagHold_keeps {β : Type} {p : State → β} (h : Ignores p [.jtag, .out]) (s : State) (code : Nat)
    (balls shift : List Bool) :
    p (State.jtagHold s code balls shift) = p s := by
  simp only [State.jtagHold, apply_ite p, ite_self, implies_true, State.when_p p, State.loadInstr_keeps (h.mono (by
    decide)), State.emit_keeps (h.mono (by decide)), State.jtagScan_keeps (h.mono (by decide)), -Nat.reducePow]

theorem State.chkRestart_keeps {β : Type} {p : State → β} (h : Ignores p [.regs]) (s : State) (n : Nat) :
    p (State.chkRestart s n) = p s := by
  simp only [State.chkRestart, State.put_keeps (h.mono (by decide)), -Nat.reducePow]

theorem State.chkFeed_keeps {β : Type} {p : State → β} (h : Ignores p [.regs, .chks]) (s : State) (n : Nat) (l :
    List Byte) :
    p (State.chkFeed s n l) = p s := by
  simp only [State.chkFeed, apply_ite p, ite_self, State.refuse_keeps (h.mono (by decide)), State.put_keeps (h.mono
    (by decide)), State.setChk_keeps (h.mono (by decide)), -Nat.reducePow]

theorem State.chkStart_keeps {β : Type} {p : State → β} (h : Ignores p [.regs]) (s : State) (n : Nat) :
    p (State.chkStart s n) = p s := by
  simp only [State.chkStart, apply_ite p, ite_self, State.refuse_keeps (h.mono (by decide)), State.chkRestart_keeps
    (h.mono (by decide)), State.accept_keeps (h.mono (by decide)), -Nat.reducePow]

theorem State.chkPreset_keeps {β : Type} {p : State → β} (h : Ignores p [.regs]) (s : State) (n alg : Nat) :
    p (State.chkPreset s n alg) = p s := by
  simp only [State.chkPreset, apply_ite p, ite_self, State.refuse_keeps (h.mono (by decide)), State.put_keeps
    (h.mono (by decide)), State.putB_keeps (h.mono (by decide)), State.accept_keeps (h.mono (by decide)),
    -Nat.reducePow]

theorem State.chkFinal_keeps {β : Type} {p : State → β} (h : Ignores p [.regs]) (s : State) (n : Nat) :
    p (State.chkFinal s n) = p s := by
  simp only [State.chkFinal, apply_ite p, ite_self, State.refuse_keeps (h.mono (by decide)), State.put_keeps (h.mono
    (by decide)), State.raise_keeps (h.mono (by decide)), -Nat.reducePow]

theorem State.laneLoss_keeps {β : Type} {p : State → β} (h : Ignores p [.regs, .links, .engines, .cams, .records,
    .fresh, .out]) (s : State) (c lane : Nat) :
    p (State.laneLoss s c lane) = p s := by
  simp only [State.laneLoss, -Nat.reducePow]; (repeat' split) <;> simp only [State.fenceLink_keeps (h.mono (by
    decide)), State.cutFrame_keeps (h.mono (by decide)), State.setLink_keeps (h.mono (by decide)),
    State.deviceWord_keeps (h.mono (by decide)), -Nat.reducePow]

theorem State.markFenced_keeps {β : Type} {p : State → β} (h : Ignores p [.regs]) (s : State) (page : Nat) :
    p (State.markFenced s page) = p s := by
  simp only [State.markFenced, State.put_keeps (h.mono (by decide)), State.raise_keeps (h.mono (by decide)),
    -Nat.reducePow]

theorem State.sliceOff_keeps {β : Type} {p : State → β} (h : Ignores p [.regs, .slices, .faults]) (s : State) (k :
    Nat) :
    p (State.sliceOff s k) = p s := by
  simp only [State.sliceOff, apply_ite p, ite_self, State.peerReset_keeps (h.mono (by decide)), State.put_keeps
    (h.mono (by decide)), State.setSlice_keeps (h.mono (by decide)), -Nat.reducePow]

theorem State.freeSpare_keeps {β : Type} {p : State → β} (h : Ignores p [.regs, .faults]) (s : State) :
    p (State.freeSpare s) = p s := by
  simp only [State.freeSpare, State.put_keeps (h.mono (by decide)), h.faults (by decide), -Nat.reducePow]

theorem State.startRemap_keeps {β : Type} {p : State → β} (h : Ignores p [.regs, .slices, .faults]) (s : State) (k :
    Nat) (back : Bool) :
    p (State.startRemap s k back) = p s := by
  simp only [State.startRemap, State.put_keeps (h.mono (by decide)), State.sliceWake_keeps (h.mono (by decide)),
    h.faults (by decide), -Nat.reducePow]

theorem State.fenceSpare_keeps {β : Type} {p : State → β} (h : Ignores p [.supply, .regs, .links, .cams, .slices,
    .records, .banks, .prods, .faults]) (s : State) :
    p (State.fenceSpare s) = p s := by
  simp only [State.fenceSpare, -Nat.reducePow]; (repeat' split) <;> simp only [State.haltSlice_keeps (h.mono (by
    decide)), State.freeSpare_keeps (h.mono (by decide)), State.markFenced_keeps (h.mono (by decide)),
    State.sliceOff_keeps (h.mono (by decide)), State.fencePorts_keeps (h.mono (by decide)), -Nat.reducePow]

theorem State.fenceActive_keeps {β : Type} {p : State → β} (h : Ignores p [.supply, .regs, .links, .cams, .slices,
    .records, .banks, .prods, .faults]) (s : State) (k : Nat) :
    p (State.fenceActive s k) = p s := by
  simp only [State.fenceActive, apply_ite p, ite_self, State.haltSlice_keeps (h.mono (by decide)),
    State.freeSpare_keeps (h.mono (by decide)), State.markFenced_keeps (h.mono (by decide)), State.sliceOff_keeps
    (h.mono (by decide)), State.fencePorts_keeps (h.mono (by decide)), State.startRemap_keeps (h.mono (by decide)),
    -Nat.reducePow]

theorem State.breakClaim_keeps {β : Type} {p : State → β} (h : Ignores p [.supply, .regs, .seams, .queues, .banks,
    .rings]) (s : State) (q : Nat) :
    p (State.breakClaim s q) = p s := by
  simp only [State.breakClaim, -Nat.reducePow]; (repeat' split) <;> simp only [State.chainErr_keeps (h.mono (by
    decide)), State.cutClaim_keeps (h.mono (by decide)), State.badMember_keeps (h.mono (by decide)), State.inc_keeps
    (h.mono (by decide)), State.raise_keeps (h.mono (by decide)), -Nat.reducePow]

theorem State.fenceQueue_keeps {β : Type} {p : State → β} (h : Ignores p [.supply, .regs, .seams, .queues, .banks,
    .prods, .rings]) (s : State) (q : Nat) :
    p (State.fenceQueue s q) = p s := by
  simp only [State.fenceQueue, State.breakClaim_keeps (h.mono (by decide)), State.queueFault_keeps (h.mono (by
    decide)), State.raise_keeps (h.mono (by decide)), State.autoSweep_keeps (h.mono (by decide)), -Nat.reducePow]

theorem State.fenceBank_keeps {β : Type} {p : State → β} (h : Ignores p [.regs, .banks]) (s : State) (b : Nat) :
    p (State.fenceBank s b) = p s := by
  simp only [State.fenceBank, apply_ite p, ite_self, State.markFenced_keeps (h.mono (by decide)), State.put_keeps
    (h.mono (by decide)), State.setBank_keeps (h.mono (by decide)), -Nat.reducePow]

theorem State.fenceChannel_keeps {β : Type} {p : State → β} (h : Ignores p [.regs, .banks]) (s : State) (h1 i : Nat) :
    p (State.fenceChannel s h1 i) = p s := by
  simp only [State.fenceChannel, implies_true, State.putBit_keeps (h.mono (by decide)), State.markFenced_keeps
    (h.mono (by decide)), State.each_p p, State.fenceBank_keeps (h.mono (by decide)), -Nat.reducePow]

theorem State.dropRecords_keeps {β : Type} {p : State → β} (h : Ignores p [.cams, .records]) (s : State) (k : Nat) :
    p (State.dropRecords s k) = p s := by
  simp only [State.dropRecords, implies_true, State.each_p p, State.setSched_keeps (h.mono (by decide)), h.records
    (by decide), -Nat.reducePow]

theorem State.fenceUnit_keeps {β : Type} {p : State → β} (h : Ignores p [.supply, .regs, .links, .engines, .cams,
    .slices, .seams, .moulds, .strobes, .records, .queues, .banks, .prods, .rings, .faults, .fresh, .out]) (s : State)
    (u : FUnit) :
    p (State.fenceUnit s u) = p s := by
  simp only [State.fenceUnit, -Nat.reducePow]; (repeat' split) <;> simp only [implies_true, State.fencePort_keeps
    (h.mono (by decide)), State.each_p p, State.dropRiser_keeps (h.mono (by decide)), State.emptyRiser_keeps (h.mono
    (by decide)), State.fenceSpare_keeps (h.mono (by decide)), State.fenceActive_keeps (h.mono (by decide)),
    State.fenceQueue_keeps (h.mono (by decide)), State.fenceBank_keeps (h.mono (by decide)), State.fenceChannel_keeps
    (h.mono (by decide)), State.markFenced_keeps (h.mono (by decide)), State.seamStop_keeps (h.mono (by decide)),
    State.mouldStop_keeps (h.mono (by decide)), State.stopEngine_keeps (h.mono (by decide)), State.put_keeps (h.mono
    (by decide)), State.setEngine_keeps (h.mono (by decide)), State.stopFabric_keeps (h.mono (by decide)),
    State.putBit_keeps (h.mono (by decide)), State.dropRecords_keeps (h.mono (by decide)), State.stopDeliveries_keeps
    (h.mono (by decide)), -Nat.reducePow]

theorem State.clearFenced_keeps {β : Type} {p : State → β} (h : Ignores p [.regs]) (s : State) (page : Nat) :
    p (State.clearFenced s page) = p s := by
  simp only [State.clearFenced, State.put_keeps (h.mono (by decide)), -Nat.reducePow]

theorem State.releaseChannel_keeps {β : Type} {p : State → β} (h : Ignores p [.regs, .banks]) (s : State) (h1 i : Nat) :
    p (State.releaseChannel s h1 i) = p s := by
  simp only [State.releaseChannel, apply_ite p, ite_self, implies_true, State.putBit_keeps (h.mono (by decide)),
    State.clearFenced_keeps (h.mono (by decide)), State.each_p p, State.setBank_keeps (h.mono (by decide)),
    State.sub_keeps (h.mono (by decide)), State.wantSweep_keeps (h.mono (by decide)), -Nat.reducePow]

theorem State.releaseSlice_keeps {β : Type} {p : State → β} (h : Ignores p [.supply, .regs, .links, .cams, .slices,
    .records, .banks, .prods, .faults]) (s : State) (k : Nat) :
    p (State.releaseSlice s k) = p s := by
  simp only [State.releaseSlice, apply_ite p, ite_self, State.clearFenced_keeps (h.mono (by decide)),
    State.haltSlice_keeps (h.mono (by decide)), State.startRemap_keeps (h.mono (by decide)), State.sliceWake_keeps
    (h.mono (by decide)), -Nat.reducePow]

theorem State.releaseUnit_keeps {β : Type} {p : State → β} (h : Ignores p [.supply, .regs, .gates, .links, .engines,
    .cams, .slices, .seams, .moulds, .records, .queues, .banks, .prods, .chks, .faults, .fresh, .out]) (s : State) (u :
    FUnit) :
    p (State.releaseUnit s u) = p s := by
  simp only [State.releaseUnit, -Nat.reducePow]; (repeat' split) <;> simp only [apply_ite p, ite_self, implies_true,
    State.releasePort_keeps (h.mono (by decide)), State.clearFenced_keeps (h.mono (by decide)), State.leaveDown_keeps
    (h.mono (by decide)), State.each_p p, State.releaseSlice_keeps (h.mono (by decide)), State.put_keeps (h.mono (by
    decide)), State.resetQueue_keeps (h.mono (by decide)), State.draw_keeps (h.mono (by decide)), State.raise_keeps
    (h.mono (by decide)), State.startSweep_keeps (h.mono (by decide)), State.releaseChannel_keeps (h.mono (by
    decide)), State.seamStart_keeps (h.mono (by decide)), State.mouldRestart_keeps (h.mono (by decide)),
    State.restartFabric_keeps (h.mono (by decide)), State.putBit_keeps (h.mono (by decide)), State.chkRestart_keeps
    (h.mono (by decide)), State.setChk_keeps (h.mono (by decide)), -Nat.reducePow]

theorem State.quench_keeps {β : Type} {p : State → β} (h : Ignores p [.regs, .cfg, .engines, .strobes, .smb, .fresh,
    .out]) (s : State) (cause page bit detail : Nat) (injected : Bool) :
    p (s.quench cause page bit detail injected) = p s := by
  unfold State.quench
  split
  · rfl
  · extract_lets before t1 held t2 t3 t4 t5 t6 t7 t8 d d1 d2 d3 cf0 cf t9 t10
    have h1 : p t1 = p s := State.endStrobes_keeps (h.mono (by decide)) s
    clear_value t1
    have h2 : p t2 = p t1 := State.each_keeps _ _ _ p (fun t r => State.emit_keeps (h.mono (by decide)) _ _)
    clear_value t2
    have h3 : p t3 = p t2 := h.engines (by decide) _ _
    clear_value t3
    have h4 : p t4 = p t3 := by
      show p (State.putB _ _ _) = _
      rw [State.putB_keeps (h.mono (by decide)), State.put_keeps (h.mono (by decide))]
    clear_value t4
    have h5 : p t5 = p t4 := by
      show p (State.put _ _ _) = _
      rw [State.put_keeps (h.mono (by decide)), State.put_keeps (h.mono (by decide))]
    clear_value t5
    have h6 : p t6 = p t5 := by
      show p (State.put64 _ _ _ _) = _
      rw [State.put64_keeps (h.mono (by decide)), State.put_keeps (h.mono (by decide))]
    clear_value t6
    have h7 : p t7 = p t6 := by
      show p (State.put _ _ _) = _
      rw [State.put_keeps (h.mono (by decide)), State.put_keeps (h.mono (by decide))]
    clear_value t7
    have h8 : p t8 = p t7 := State.each_keeps _ _ _ p (fun t r => State.put_keeps (h.mono (by decide)) _ _ _)
    clear_value t8
    have hd : p d.2 = p t8 := State.draw_keeps (h.mono (by decide)) t8
    clear_value d
    have hd1 : p d1.2 = p d.2 := State.draw_keeps (h.mono (by decide)) d.2
    clear_value d1
    have hd2 : p d2.2 = p d1.2 := State.draw_keeps (h.mono (by decide)) d1.2
    clear_value d2
    have hd3 : p d3.2 = p d2.2 := State.draw_keeps (h.mono (by decide)) d2.2
    clear_value d3
    have h9 : p t9 = p d3.2 := h.cfg (by decide) _ _
    clear_value t9
    have h10 : p t10 = p t9 := by
      show p (if _ then _ else _) = _
      split
      · rw [State.emit_keeps (h.mono (by decide))]
      · rfl
    rw [State.latchAlerts_keeps (h.mono (by decide)), h10, h9, hd3, hd2, hd1, hd, h8, h7, h6, h5, h4, h3, h2, h1]

theorem State.stopEsc_keeps {β : Type} {p : State → β} (h : Ignores p [.regs, .faults]) (s : State) (page : Nat) :
    p (State.stopEsc s page) = p s := by
  simp only [State.stopEsc, State.put_keeps (h.mono (by decide)), h.faults (by decide), -Nat.reducePow]

theorem State.expire_keeps {β : Type} {p : State → β} (h : Ignores p [.supply, .regs, .cfg, .links, .engines, .cams,
    .slices, .seams, .moulds, .strobes, .records, .queues, .banks, .prods, .rings, .faults, .smb, .fresh, .out]) (s :
    State) (page : Nat) (occs : List PendOcc) :
    p (State.expire s page occs) = p s := by
  simp only [State.expire, -Nat.reducePow]; (repeat' split) <;> simp only [apply_ite p, ite_self, implies_true,
    State.stopEsc_keeps (h.mono (by decide)), State.put_keeps (h.mono (by decide)), State.quench_keeps (h.mono (by
    decide)), State.each_p p, State.fenceUnit_keeps (h.mono (by decide)), -Nat.reducePow]

theorem State.pendOcc_keeps {β : Type} {p : State → β} (h : Ignores p [.supply, .regs, .cfg, .links, .engines,
    .cams, .slices, .seams, .moulds, .strobes, .records, .queues, .banks, .prods, .rings, .faults, .smb, .fresh, .out])
    (s : State) (page : Nat) (o : PendOcc) :
    p (State.pendOcc s page o) = p s := by
  simp only [State.pendOcc, apply_ite p, ite_self, State.expire_keeps (h.mono (by decide)), State.put_keeps (h.mono
    (by decide)), h.faults (by decide), -Nat.reducePow]

theorem State.unpend_keeps {β : Type} {p : State → β} (h : Ignores p [.regs, .faults]) (s : State) (u : FUnit) :
    p (State.unpend s u) = p s := by
  simp only [State.unpend, apply_ite p, ite_self, implies_true, State.each_p p, State.stopEsc_keeps (h.mono (by
    decide)), h.faults (by decide), -Nat.reducePow]

theorem State.occurRecord_keeps {β : Type} {p : State → β} (h : Ignores p [.regs, .cfg, .out]) (s : State) (page bit
    detail : Nat) (real : Bool) :
    p (State.occurRecord s page bit detail real) = p s := by
  simp only [State.occurRecord, apply_ite p, ite_self, State.putBit_keeps (h.mono (by decide)), State.put_keeps
    (h.mono (by decide)), State.putB_keeps (h.mono (by decide)), State.put64_keeps (h.mono (by decide)),
    State.raise_keeps (h.mono (by decide)), State.emit_keeps (h.mono (by decide)), h.cfg (by decide), -Nat.reducePow]

theorem State.reactUnit_keeps {β : Type} {p : State → β} (h : Ignores p [.supply, .regs, .cfg, .links, .engines,
    .cams, .slices, .seams, .moulds, .strobes, .records, .queues, .banks, .prods, .rings, .faults, .smb, .fresh, .out])
    (s : State) (page bit detail : Nat) (real : Bool) (u : FUnit) :
    p (State.reactUnit s page bit detail real u) = p s := by
  simp only [State.reactUnit, apply_ite p, ite_self, State.pendOcc_keeps (h.mono (by decide)), State.fenceUnit_keeps
    (h.mono (by decide)), -Nat.reducePow]

theorem State.occurReact_keeps {β : Type} {p : State → β} (h : Ignores p [.supply, .regs, .cfg, .links, .engines,
    .cams, .slices, .seams, .moulds, .strobes, .records, .queues, .banks, .prods, .rings, .faults, .smb, .fresh, .out])
    (s : State) (p1 : Page) (n bit detail : Nat) (real : Bool) :
    p (State.occurReact s p1 n bit detail real) = p s := by
  simp only [State.occurReact, apply_ite p, ite_self, implies_true, State.quench_keeps (h.mono (by decide)),
    State.fenceLink_keeps (h.mono (by decide)), State.laneLoss_keeps (h.mono (by decide)), State.each_p p,
    State.reactUnit_keeps (h.mono (by decide)), -Nat.reducePow]

theorem State.setLive_keeps {β : Type} {p : State → β} (h : Ignores p [.faults]) (s : State) (page bit detail : Nat)
    (v : Bool) :
    p (State.setLive s page bit detail v) = p s := by
  simp only [State.setLive, h.faults (by decide), -Nat.reducePow]

theorem State.noteEvent_keeps {β : Type} {p : State → β} (h : Ignores p [.faults]) (s : State) (page bit detail : Nat) :
    p (State.noteEvent s page bit detail) = p s := by
  simp only [State.noteEvent, h.faults (by decide), -Nat.reducePow]

theorem State.occur_keeps {β : Type} {p : State → β} (h : Ignores p [.supply, .regs, .cfg, .links, .engines, .cams,
    .slices, .seams, .moulds, .strobes, .records, .queues, .banks, .prods, .rings, .faults, .smb, .fresh, .out]) (s :
    State) (p1 : Page) (n bit detail : Nat) (real : Bool) :
    p (State.occur s p1 n bit detail real) = p s := by
  simp only [State.occur, apply_ite p, ite_self, State.setLive_keeps (h.mono (by decide)), State.noteEvent_keeps
    (h.mono (by decide)), State.occurRecord_keeps (h.mono (by decide)), State.occurReact_keeps (h.mono (by decide)),
    -Nat.reducePow]

theorem State.claimInjection_keeps {β : Type} {p : State → β} (h : Ignores p [.regs, .faults]) (s : State) (page bit
    detail : Nat) (word : Option Nat) :
    p (State.claimInjection s page bit detail word).2 = p s := by
  simp only [State.claimInjection, -Nat.reducePow]; (repeat' split) <;> simp only [State.disarm_keeps (h.mono (by
    decide)), -Nat.reducePow]

theorem State.occurAuto_keeps {β : Type} {p : State → β} (h : Ignores p [.supply, .regs, .cfg, .links, .engines,
    .cams, .slices, .seams, .moulds, .strobes, .records, .queues, .banks, .prods, .rings, .faults, .smb, .fresh, .out])
    (s : State) (p1 : Page) (n bit detail : Nat) (word : Option Nat) :
    p (State.occurAuto s p1 n bit detail word) = p s := by
  simp only [State.occurAuto, State.claimInjection_keeps (h.mono (by decide)), State.occur_keeps (h.mono (by
    decide)), -Nat.reducePow]

theorem State.occurWord_keeps {β : Type} {p : State → β} (h : Ignores p [.supply, .regs, .cfg, .links, .engines,
    .cams, .slices, .seams, .moulds, .strobes, .records, .queues, .banks, .prods, .rings, .faults, .smb, .fresh, .out])
    (s : State) (p1 : Page) (n bit detail : Nat) :
    p (State.occurWord s p1 n bit detail) = p s := by
  simp only [State.occurWord, -Nat.reducePow]; (repeat' split) <;> simp only [State.occurAuto_keeps (h.mono (by
    decide)), State.occur_keeps (h.mono (by decide)), -Nat.reducePow]

theorem State.recordAuto_keeps {β : Type} {p : State → β} (h : Ignores p [.regs, .cfg, .faults, .out]) (s : State)
    (p1 : Page) (n bit detail : Nat) (word : Option Nat) :
    p (State.recordAuto s p1 n bit detail word) = p s := by
  simp only [State.recordAuto, State.claimInjection_keeps (h.mono (by decide)), State.noteEvent_keeps (h.mono (by
    decide)), State.occurRecord_keeps (h.mono (by decide)), -Nat.reducePow]

theorem State.hbmUe_keeps {β : Type} {p : State → β} (h : Ignores p [.supply, .regs, .cfg, .links, .engines, .cams,
    .slices, .seams, .moulds, .strobes, .records, .queues, .banks, .prods, .rings, .faults, .smb, .fresh, .out]) (s :
    State) (a : Nat) :
    p (State.hbmUe s a) = p s := by
  simp only [State.hbmUe, State.inc_keeps (h.mono (by decide)), State.put64_keeps (h.mono (by decide)),
    State.occurAuto_keeps (h.mono (by decide)), -Nat.reducePow]

theorem State.hbmCe_keeps {β : Type} {p : State → β} (h : Ignores p [.supply, .regs, .cfg, .links, .engines, .cams,
    .slices, .seams, .moulds, .strobes, .records, .queues, .banks, .prods, .rings, .faults, .smb, .fresh, .out]) (s :
    State) (a : Nat) :
    p (State.hbmCe s a) = p s := by
  simp only [State.hbmCe, State.inc_keeps (h.mono (by decide)), State.occurAuto_keeps (h.mono (by decide)),
    -Nat.reducePow]

theorem State.containQueue_keeps {β : Type} {p : State → β} (h : Ignores p [.supply, .regs, .seams, .queues, .banks,
    .prods, .rings]) (s : State) (q : Nat) :
    p (State.containQueue s q) = p s := by
  simp only [State.containQueue, apply_ite p, ite_self, State.fenceQueue_keeps (h.mono (by decide)), -Nat.reducePow]

theorem State.dupMismatch_keeps {β : Type} {p : State → β} (h : Ignores p [.supply, .regs, .cfg, .links, .engines,
    .cams, .slices, .seams, .moulds, .strobes, .records, .queues, .banks, .prods, .rings, .faults, .smb, .fresh, .out])
    (s : State) (q : Nat) :
    p (State.dupMismatch s q) = p s := by
  simp only [State.dupMismatch, State.inc_keeps (h.mono (by decide)), State.occurAuto_keeps (h.mono (by decide)),
    State.containQueue_keeps (h.mono (by decide)), -Nat.reducePow]

theorem State.linkCe_keeps {β : Type} {p : State → β} (h : Ignores p [.supply, .regs, .cfg, .links, .engines, .cams,
    .slices, .seams, .moulds, .strobes, .records, .queues, .banks, .prods, .rings, .faults, .smb, .fresh, .out]) (s :
    State) (q cell : Nat) :
    p (State.linkCe s q cell) = p s := by
  simp only [State.linkCe, State.inc_keeps (h.mono (by decide)), State.occurAuto_keeps (h.mono (by decide)),
    -Nat.reducePow]

theorem State.linkUe_keeps {β : Type} {p : State → β} (h : Ignores p [.supply, .regs, .cfg, .links, .engines, .cams,
    .slices, .seams, .moulds, .strobes, .records, .queues, .banks, .prods, .rings, .faults, .smb, .fresh, .out]) (s :
    State) (q cell : Nat) :
    p (State.linkUe s q cell) = p s := by
  simp only [State.linkUe, State.inc_keeps (h.mono (by decide)), State.put_keeps (h.mono (by decide)),
    State.occurAuto_keeps (h.mono (by decide)), State.containQueue_keeps (h.mono (by decide)), -Nat.reducePow]

theorem State.freeUe_keeps {β : Type} {p : State → β} (h : Ignores p [.supply, .regs, .cfg, .links, .engines, .cams,
    .slices, .seams, .moulds, .strobes, .records, .queues, .banks, .prods, .rings, .faults, .smb, .fresh, .out]) (s :
    State) (b i : Nat) :
    p (State.freeUe s b i) = p s := by
  simp only [State.freeUe, State.loseFree_keeps (h.mono (by decide)), State.occurAuto_keeps (h.mono (by decide)),
    -Nat.reducePow]

theorem State.showTest_keeps {β : Type} {p : State → β} (h : Ignores p [.regs]) (s : State) (g mode : Nat) :
    p (State.showTest s g mode) = p s := by
  simp only [State.showTest, State.put_keeps (h.mono (by decide)), -Nat.reducePow]

theorem State.endTest_keeps {β : Type} {p : State → β} (h : Ignores p [.regs, .links]) (s : State) (c : Nat) :
    p (State.endTest s c) = p s := by
  simp only [State.endTest, -Nat.reducePow]; (repeat' split) <;> simp only [State.setLink_keeps (h.mono (by
    decide)), State.showTest_keeps (h.mono (by decide)), -Nat.reducePow]

theorem State.drivePattern_keeps {β : Type} {p : State → β} (h : Ignores p [.fresh, .out]) (s : State) (g n mode
    pattern : Nat) :
    p (State.drivePattern s g n mode pattern) = p s := by
  simp only [State.drivePattern, apply_ite p, ite_self, State.draw_keeps (h.mono (by decide)), State.emit_keeps
    (h.mono (by decide)), -Nat.reducePow]

theorem State.startTest_keeps {β : Type} {p : State → β} (h : Ignores p [.regs, .gates, .links, .fresh, .out]) (s :
    State) (c mode pattern : Nat) :
    p (State.startTest s c mode pattern) = p s := by
  simp only [State.startTest, apply_ite p, ite_self, implies_true, State.setLinkState_keeps (h.mono (by decide)),
    State.setLink_keeps (h.mono (by decide)), State.each_p p, State.put_keeps (h.mono (by decide)), State.onLane_keeps
    (h.mono (by decide)), State.drivePattern_keeps (h.mono (by decide)), State.showTest_keeps (h.mono (by decide)),
    -Nat.reducePow]

theorem State.testDone_keeps {β : Type} {p : State → β} (h : Ignores p [.regs, .links]) (s : State) (c : Nat) (all :
    Bool) :
    p (State.testDone s c all) = p s := by
  simp only [State.testDone, -Nat.reducePow]; (repeat' split) <;> simp only [State.setLink_keeps (h.mono (by
    decide)), State.raise_keeps (h.mono (by decide)), -Nat.reducePow]

theorem State.adapt_keeps {β : Type} {p : State → β} (h : Ignores p [.regs, .fresh]) (s : State) (g n : Nat) :
    p (State.adapt s g n) = p s := by
  simp only [State.adapt, State.draw_keeps (h.mono (by decide)), State.put_keeps (h.mono (by decide)), -Nat.reducePow]

theorem State.adaptAll_keeps {β : Type} {p : State → β} (h : Ignores p [.regs, .fresh]) (s : State) (c n : Nat) :
    p (State.adaptAll s c n) = p s := by
  simp only [State.adaptAll, apply_ite p, ite_self, State.adapt_keeps (h.mono (by decide)), -Nat.reducePow]

theorem State.prbsBlock_keeps {β : Type} {p : State → β} (h : Ignores p [.regs, .gates, .links, .fresh]) (s : State)
    (g lane : Nat) (bits : List Bool) :
    p (State.prbsBlock s g lane bits) = p s := by
  simp only [State.prbsBlock, -Nat.reducePow]; (repeat' split) <;> simp only [State.adaptAll_keeps (h.mono (by
    decide)), State.onLane_keeps (h.mono (by decide)), State.addSat_keeps (h.mono (by decide)), State.putB_keeps
    (h.mono (by decide)), State.testDone_keeps (h.mono (by decide)), -Nat.reducePow]

theorem State.farBlock_keeps {β : Type} {p : State → β} (h : Ignores p [.regs, .gates, .links, .fresh]) (s : State)
    (g lane : Nat) (block : List Byte) :
    p (State.farBlock s g lane block) = p s := by
  simp only [State.farBlock, -Nat.reducePow]; (repeat' split) <;> simp only [State.adaptAll_keeps (h.mono (by
    decide)), State.addSat_keeps (h.mono (by decide)), State.onLane_keeps (h.mono (by decide)), State.put_keeps
    (h.mono (by decide)), State.testDone_keeps (h.mono (by decide)), -Nat.reducePow]

theorem State.clockLoss_keeps {β : Type} {p : State → β} (h : Ignores p [.supply, .regs, .cfg, .gates, .links,
    .engines, .cams, .slices, .seams, .moulds, .strobes, .records, .queues, .banks, .prods, .rings, .faults, .smb,
    .fresh, .out]) (s : State) (c : Nat) :
    p (State.clockLoss s c) = p s := by
  simp only [State.clockLoss, apply_ite p, ite_self, State.put_keeps (h.mono (by decide)), State.raise_keeps (h.mono
    (by decide)), State.endTest_keeps (h.mono (by decide)), State.toDown_keeps (h.mono (by decide)),
    State.dropRiser_keeps (h.mono (by decide)), State.peerReset_keeps (h.mono (by decide)), State.occur_keeps (h.mono
    (by decide)), -Nat.reducePow]

theorem State.clockWindow_keeps {β : Type} {p : State → β} (h : Ignores p [.supply, .regs, .cfg, .gates, .links,
    .engines, .cams, .slices, .seams, .moulds, .strobes, .records, .queues, .banks, .prods, .rings, .faults, .smb,
    .fresh, .out]) (s : State) (c count : Nat) :
    p (State.clockWindow s c count) = p s := by
  simp only [State.clockWindow, apply_ite p, ite_self, State.put_keeps (h.mono (by decide)), State.setLive_keeps
    (h.mono (by decide)), State.leaveDown_keeps (h.mono (by decide)), State.clockLoss_keeps (h.mono (by decide)),
    -Nat.reducePow]

theorem State.dllLocked_keeps {β : Type} {p : State → β} (h : Ignores p [.regs, .gates]) (s : State) (c : Nat) :
    p (State.dllLocked s c) = p s := by
  simp only [State.dllLocked, apply_ite p, ite_self, State.put_keeps (h.mono (by decide)), State.toAlign_keeps
    (h.mono (by decide)), -Nat.reducePow]

theorem State.alignLoss_keeps {β : Type} {p : State → β} (h : Ignores p [.supply, .regs, .cfg, .gates, .links,
    .engines, .cams, .slices, .seams, .moulds, .strobes, .records, .queues, .banks, .prods, .rings, .faults, .smb,
    .fresh, .out]) (s : State) (c n : Nat) :
    p (State.alignLoss s c n) = p s := by
  simp only [State.alignLoss, apply_ite p, ite_self, State.put_keeps (h.mono (by decide)), State.onLane_keeps
    (h.mono (by decide)), State.addSat_keeps (h.mono (by decide)), State.raise_keeps (h.mono (by decide)),
    State.occur_keeps (h.mono (by decide)), State.toAlign_keeps (h.mono (by decide)), -Nat.reducePow]

theorem State.alignDone_keeps {β : Type} {p : State → β} (h : Ignores p [.regs, .gates]) (s : State) (c : Nat) :
    p (State.alignDone s c) = p s := by
  simp only [State.alignDone, apply_ite p, ite_self, implies_true, State.setLinkState_keeps (h.mono (by decide)),
    State.each_p p, State.onLane_keeps (h.mono (by decide)), -Nat.reducePow]

theorem State.strayWord_keeps {β : Type} {p : State → β} (h : Ignores p [.regs]) (s : State) (c : Nat) (w :
    WordReport) :
    p (State.strayWord s c w) = p s := by
  simp only [State.strayWord, apply_ite p, ite_self, State.slag_keeps (h.mono (by decide)), State.add_keeps (h.mono
    (by decide)), State.raise_keeps (h.mono (by decide)), -Nat.reducePow]

theorem State.alignWord_keeps {β : Type} {p : State → β} (h : Ignores p [.supply, .regs, .cfg, .gates, .links,
    .engines, .cams, .slices, .seams, .moulds, .strobes, .records, .queues, .banks, .prods, .rings, .faults, .smb,
    .fresh, .out]) (s : State) (c n : Nat) (w : WordReport) (rd : Nat → Bool) :
    p (State.alignWord s c n w rd) = p s := by
  simp only [State.alignWord, -Nat.reducePow]; (repeat' split) <;> simp only [State.put_keeps (h.mono (by decide)),
    State.onLane_keeps (h.mono (by decide)), State.alignDone_keeps (h.mono (by decide)), State.addSat_keeps (h.mono
    (by decide)), State.adaptAll_keeps (h.mono (by decide)), State.strayWord_keeps (h.mono (by decide)),
    State.alignLoss_keeps (h.mono (by decide)), -Nat.reducePow]

theorem State.takeWord_keeps {β : Type} {p : State → β} (h : Ignores p [.supply, .regs, .cfg, .gates, .links,
    .engines, .cams, .slices, .seams, .moulds, .strobes, .records, .queues, .banks, .prods, .rings, .faults, .smb,
    .fresh, .out]) (s : State) (c n : Nat) (w next : BitVec 40) (inside : Bool) :
    p (State.takeWord s c n w next inside) = p s := by
  simp only [State.takeWord, apply_ite p, ite_self, State.adaptAll_keeps (h.mono (by decide)), State.alignWord_keeps
    (h.mono (by decide)), -Nat.reducePow]

theorem State.checkTimeout_keeps {β : Type} {p : State → β} (h : Ignores p [.regs, .gates]) (s : State) (c n : Nat) :
    p (State.checkTimeout s c n) = p s := by
  simp only [State.checkTimeout, apply_ite p, ite_self, State.put_keeps (h.mono (by decide)), State.onLane_keeps
    (h.mono (by decide)), -Nat.reducePow]

theorem State.skewHolds_keeps {β : Type} {p : State → β} (h : Ignores p [.gates]) (s : State) (c : Nat) :
    p (State.skewHolds s c) = p s := by
  simp only [State.skewHolds, implies_true, State.each_p p, State.onLane_keeps (h.mono (by decide)), -Nat.reducePow]

theorem State.deskew_keeps {β : Type} {p : State → β} (h : Ignores p [.regs, .gates, .links]) (s : State) (c : Nat)
    (arrivals : List Nat) :
    p (State.deskew s c arrivals) = p s := by
  simp only [State.deskew, apply_ite p, ite_self, implies_true, State.addSat_keeps (h.mono (by decide)),
    State.raise_keeps (h.mono (by decide)), State.setLink_keeps (h.mono (by decide)), State.each_p p, State.put_keeps
    (h.mono (by decide)), State.onLane_keeps (h.mono (by decide)), State.skewHolds_keeps (h.mono (by decide)),
    -Nat.reducePow]

theorem State.toReady_keeps {β : Type} {p : State → β} (h : Ignores p [.regs, .links, .engines, .cams, .records,
    .fresh, .out]) (s : State) (c : Nat) :
    p (State.toReady s c) = p s := by
  simp only [State.toReady, apply_ite p, ite_self, State.setLinkState_keeps (h.mono (by decide)), State.raise_keeps
    (h.mono (by decide)), State.setLink_keeps (h.mono (by decide)), State.deviceWord_keeps (h.mono (by decide)),
    -Nat.reducePow]

theorem State.trainDone_keeps {β : Type} {p : State → β} (h : Ignores p [.regs, .links, .engines, .cams, .records,
    .fresh, .out]) (s : State) (c : Nat) :
    p (State.trainDone s c) = p s := by
  simp only [State.trainDone, apply_ite p, ite_self, State.toReady_keeps (h.mono (by decide)), -Nat.reducePow]

theorem State.burstTimer_keeps {β : Type} {p : State → β} (h : Ignores p [.regs, .gates]) (s : State) (c n : Nat) :
    p (State.burstTimer s c n) = p s := by
  simp only [State.burstTimer, apply_ite p, ite_self, implies_true, State.onLane_keeps (h.mono (by decide)),
    State.each_p p, State.put_keeps (h.mono (by decide)), -Nat.reducePow]

theorem State.burst_keeps {β : Type} {p : State → β} (h : Ignores p [.regs, .gates, .links, .engines, .cams,
    .records, .fresh, .out]) (s : State) (c n : Nat) (bytes : List Byte) :
    p (State.burst s c n bytes) = p s := by
  simp only [State.burst, apply_ite p, ite_self, State.addSat_keeps (h.mono (by decide)), State.adapt_keeps (h.mono
    (by decide)), State.onLane_keeps (h.mono (by decide)), State.burstTimer_keeps (h.mono (by decide)),
    State.trainDone_keeps (h.mono (by decide)), -Nat.reducePow]

theorem State.linkTrainCmd_keeps {β : Type} {p : State → β} (h : Ignores p [.regs, .gates, .links, .engines, .cams,
    .records, .fresh, .out]) (s : State) (c : Nat) :
    p (State.linkTrainCmd s c) = p s := by
  simp only [State.linkTrainCmd, -Nat.reducePow]; (repeat' split) <;> simp only [State.refuse_keeps (h.mono (by
    decide)), State.gateCommand_keeps (h.mono (by decide)), State.accept_keeps (h.mono (by decide)),
    State.setLink_keeps (h.mono (by decide)), State.toAlign_keeps (h.mono (by decide)), State.deviceWord_keeps (h.mono
    (by decide)), -Nat.reducePow]

theorem State.setRateCmd_keeps {β : Type} {p : State → β} (h : Ignores p [.regs, .gates, .links, .engines, .cams,
    .records, .fresh, .out]) (s : State) (c code : Nat) :
    p (State.setRateCmd s c code) = p s := by
  simp only [State.setRateCmd, -Nat.reducePow]; (repeat' split) <;> simp only [State.refuse_keeps (h.mono (by
    decide)), State.gateCommand_keeps (h.mono (by decide)), State.accept_keeps (h.mono (by decide)),
    State.setLink_keeps (h.mono (by decide)), State.deviceWord_keeps (h.mono (by decide)), -Nat.reducePow]

theorem State.linkDownCmd_keeps {β : Type} {p : State → β} (h : Ignores p [.regs, .gates, .links]) (s : State) (c :
    Nat) :
    p (State.linkDownCmd s c) = p s := by
  simp only [State.linkDownCmd, apply_ite p, ite_self, State.refuse_keeps (h.mono (by decide)),
    State.gateCommand_keeps (h.mono (by decide)), State.accept_keeps (h.mono (by decide)), State.endTest_keeps (h.mono
    (by decide)), State.toDown_keeps (h.mono (by decide)), State.setLink_keeps (h.mono (by decide)), -Nat.reducePow]

theorem State.linkUpCmd_keeps {β : Type} {p : State → β} (h : Ignores p [.regs, .gates, .links, .engines, .cams,
    .records, .fresh, .out]) (s : State) (c : Nat) :
    p (State.linkUpCmd s c) = p s := by
  simp only [State.linkUpCmd, apply_ite p, ite_self, State.refuse_keeps (h.mono (by decide)),
    State.gateCommand_keeps (h.mono (by decide)), State.accept_keeps (h.mono (by decide)), State.setLink_keeps (h.mono
    (by decide)), State.leaveDown_keeps (h.mono (by decide)), -Nat.reducePow]

theorem State.clearCountersCmd_keeps {β : Type} {p : State → β} (h : Ignores p [.regs, .gates]) (s : State) (g : Nat) :
    p (State.clearCountersCmd s g) = p s := by
  simp only [State.clearCountersCmd, implies_true, State.gateCommand_keeps (h.mono (by decide)), State.accept_keeps
    (h.mono (by decide)), State.each_p p, State.put_keeps (h.mono (by decide)), -Nat.reducePow]

theorem State.loopNearCmd_keeps {β : Type} {p : State → β} (h : Ignores p [.regs, .gates, .links, .fresh, .out]) (s
    : State) (c mode pat : Nat) :
    p (State.loopNearCmd s c mode pat) = p s := by
  simp only [State.loopNearCmd, -Nat.reducePow]; (repeat' split) <;> simp only [State.refuse_keeps (h.mono (by
    decide)), State.gateCommand_keeps (h.mono (by decide)), State.accept_keeps (h.mono (by decide)),
    State.startTest_keeps (h.mono (by decide)), -Nat.reducePow]

theorem State.loopFarCmd_keeps {β : Type} {p : State → β} (h : Ignores p [.regs, .gates, .links, .engines, .cams,
    .records, .fresh, .out]) (s : State) (c : Nat) :
    p (State.loopFarCmd s c) = p s := by
  simp only [State.loopFarCmd, -Nat.reducePow]; (repeat' split) <;> simp only [State.refuse_keeps (h.mono (by
    decide)), State.gateCommand_keeps (h.mono (by decide)), State.accept_keeps (h.mono (by decide)),
    State.startTest_keeps (h.mono (by decide)), State.deviceWrite_keeps (h.mono (by decide)), State.deviceWord_keeps
    (h.mono (by decide)), -Nat.reducePow]

theorem State.camPrbsCmd_keeps {β : Type} {p : State → β} (h : Ignores p [.regs, .gates, .links, .engines, .cams,
    .records, .fresh, .out]) (s : State) (c pat : Nat) :
    p (State.camPrbsCmd s c pat) = p s := by
  simp only [State.camPrbsCmd, -Nat.reducePow]; (repeat' split) <;> simp only [State.refuse_keeps (h.mono (by
    decide)), State.gateCommand_keeps (h.mono (by decide)), State.accept_keeps (h.mono (by decide)),
    State.startTest_keeps (h.mono (by decide)), State.deviceWord_keeps (h.mono (by decide)), -Nat.reducePow]

theorem State.testStopCmd_keeps {β : Type} {p : State → β} (h : Ignores p [.regs, .gates, .links, .engines, .cams,
    .records, .fresh, .out]) (s : State) (c : Nat) :
    p (State.testStopCmd s c) = p s := by
  simp only [State.testStopCmd, apply_ite p, ite_self, State.refuse_keeps (h.mono (by decide)),
    State.gateCommand_keeps (h.mono (by decide)), State.accept_keeps (h.mono (by decide)), State.endTest_keeps (h.mono
    (by decide)), State.put_keeps (h.mono (by decide)), State.huntLanes_keeps (h.mono (by decide)),
    State.enterClock_keeps (h.mono (by decide)), State.deviceWord_keeps (h.mono (by decide)), -Nat.reducePow]

theorem State.onDataLane_keeps {β : Type} {p : State → β} (h : Ignores p []) (s : State) (g n : Nat) (f : State →
    Nat → State) (hf : ∀ t n, p (f t n) = p t) :
    p (State.onDataLane s g n f) = p s := by
  simp only [State.onDataLane, -Nat.reducePow]; (repeat' split) <;> simp only [hf, -Nat.reducePow]

theorem State.noteReal_keeps {β : Type} {p : State → β} (h : Ignores p [.regs]) (s : State) (g : Nat) (altered :
    Bool) (ks : List Check) :
    p (State.noteReal s g altered ks) = p s := by
  simp only [State.noteReal, apply_ite p, ite_self, State.put_keeps (h.mono (by decide)), -Nat.reducePow]

theorem State.riserOvf_keeps {β : Type} {p : State → β} (h : Ignores p [.regs]) (s : State) (c : Nat) :
    p (State.riserOvf s c) = p s := by
  simp only [State.riserOvf, State.inc_keeps (h.mono (by decide)), State.raise_keeps (h.mono (by decide)),
    -Nat.reducePow]

theorem State.protoErr_keeps {β : Type} {p : State → β} (h : Ignores p [.regs]) (s : State) (c : Nat) :
    p (State.protoErr s c) = p s := by
  simp only [State.protoErr, State.inc_keeps (h.mono (by decide)), State.raise_keeps (h.mono (by decide)),
    -Nat.reducePow]

theorem State.countChecks_keeps {β : Type} {p : State → β} (h : Ignores p [.regs]) (s : State) (c : Nat) (p1 : Parsed) :
    p (State.countChecks s c p1) = p s := by
  simp only [State.countChecks, apply_ite p, ite_self, State.protoErr_keeps (h.mono (by decide)), State.inc_keeps
    (h.mono (by decide)), State.raise_keeps (h.mono (by decide)), -Nat.reducePow]

theorem State.holdEnds_keeps {β : Type} {p : State → β} (h : Ignores p [.regs, .cams]) (s : State) (c : Nat) :
    p (State.holdEnds s c) = p s := by
  simp only [State.holdEnds, State.setCam_keeps (h.mono (by decide)), State.put_keeps (h.mono (by decide)),
    State.inc_keeps (h.mono (by decide)), State.raise_keeps (h.mono (by decide)), -Nat.reducePow]

theorem State.holdCheck_keeps {β : Type} {p : State → β} (h : Ignores p [.regs, .cams]) (s : State) (c : Nat) :
    p (State.holdCheck s c) = p s := by
  simp only [State.holdCheck, apply_ite p, ite_self, State.inc_keeps (h.mono (by decide)), State.put_keeps (h.mono
    (by decide)), State.holdEnds_keeps (h.mono (by decide)), -Nat.reducePow]

theorem State.land_keeps {β : Type} {p : State → β} (h : Ignores p [.links]) (s : State) (c : Nat) (i : RItem) :
    p (State.land s c i) = p s := by
  simp only [State.land, State.setLink_keeps (h.mono (by decide)), -Nat.reducePow]

theorem State.countLine_keeps {β : Type} {p : State → β} (h : Ignores p [.links]) (s : State) (c : Nat) (p1 q :
    Parsed) :
    p (State.countLine s c p1 q) = p s := by
  simp only [State.countLine, State.setLink_keeps (h.mono (by decide)), -Nat.reducePow]

theorem State.landLine_keeps {β : Type} {p : State → β} (h : Ignores p [.regs, .links, .cams, .slices]) (s : State)
    (c : Nat) (p1 q : Parsed) (rest : Nat) (altered : Bool) :
    p (State.landLine s c p1 q rest altered) = p s := by
  simp only [State.landLine, apply_ite p, ite_self, State.noteReal_keeps (h.mono (by decide)), State.slag_keeps
    (h.mono (by decide)), State.riserOvf_keeps (h.mono (by decide)), State.countLine_keeps (h.mono (by decide)),
    State.inc_keeps (h.mono (by decide)), State.raise_keeps (h.mono (by decide)), State.land_keeps (h.mono (by
    decide)), State.setLink_keeps (h.mono (by decide)), State.put_keeps (h.mono (by decide)), State.holdCheck_keeps
    (h.mono (by decide)), State.sliceWake_keeps (h.mono (by decide)), -Nat.reducePow]

theorem State.reserveBriefly_keeps {β : Type} {p : State → β} (h : Ignores p [.regs, .links, .cams]) (s : State) (c
    : Nat) :
    p (State.reserveBriefly s c) = p s := by
  simp only [State.reserveBriefly, apply_ite p, ite_self, State.riserOvf_keeps (h.mono (by decide)),
    State.setLink_keeps (h.mono (by decide)), State.put_keeps (h.mono (by decide)), State.holdCheck_keeps (h.mono (by
    decide)), -Nat.reducePow]

theorem State.landMarker_keeps {β : Type} {p : State → β} (h : Ignores p [.regs, .links]) (s : State) (c : Nat) (p1
    q : Parsed) (body : List Byte) (rest : Nat) (altered : Bool) :
    p (State.landMarker s c p1 q body rest altered) = p s := by
  simp only [State.landMarker, apply_ite p, ite_self, State.noteReal_keeps (h.mono (by decide)), State.slag_keeps
    (h.mono (by decide)), State.riserOvf_keeps (h.mono (by decide)), State.setLink_keeps (h.mono (by decide)),
    State.land_keeps (h.mono (by decide)), -Nat.reducePow]

theorem State.arrive_keeps {β : Type} {p : State → β} (h : Ignores p [.regs, .links, .cams, .slices]) (s : State) (c
    : Nat) (body clean : List Byte) :
    p (State.arrive s c body clean) = p s := by
  simp only [State.arrive, apply_ite p, ite_self, State.countChecks_keeps (h.mono (by decide)), State.noteReal_keeps
    (h.mono (by decide)), State.slag_keeps (h.mono (by decide)), State.landLine_keeps (h.mono (by decide)),
    State.landMarker_keeps (h.mono (by decide)), -Nat.reducePow]

theorem State.injectCmd_keeps {β : Type} {p : State → β} (h : Ignores p [.regs, .gates]) (s : State) (g : Nat) :
    p (State.injectCmd s g) = p s := by
  simp only [State.injectCmd, -Nat.reducePow]; (repeat' split) <;> simp only [State.refuse_keeps (h.mono (by
    decide)), State.gateCommand_keeps (h.mono (by decide)), State.accept_keeps (h.mono (by decide)), State.put_keeps
    (h.mono (by decide)), State.setGate_keeps (h.mono (by decide)), -Nat.reducePow]

theorem State.injCancelCmd_keeps {β : Type} {p : State → β} (h : Ignores p [.regs, .gates]) (s : State) (g : Nat) :
    p (State.injCancelCmd s g) = p s := by
  simp only [State.injCancelCmd, apply_ite p, ite_self, State.refuse_keeps (h.mono (by decide)),
    State.gateCommand_keeps (h.mono (by decide)), State.accept_keeps (h.mono (by decide)), State.put_keeps (h.mono (by
    decide)), State.setGate_keeps (h.mono (by decide)), -Nat.reducePow]

theorem State.injActs_keeps {β : Type} {p : State → β} (h : Ignores p [.regs, .gates]) (s : State) (g : Nat) :
    p (State.injActs s g) = p s := by
  simp only [State.injActs, apply_ite p, ite_self, State.put_keeps (h.mono (by decide)), State.raise_keeps (h.mono
    (by decide)), State.onLane_keeps (h.mono (by decide)), State.setGate_keeps (h.mono (by decide)), -Nat.reducePow]

theorem State.displace_keeps {β : Type} {p : State → β} (h : Ignores p [.fresh]) (s : State) (c : Nat) (body : List
    Byte) :
    p (State.displace s c body).2 = p s := by
  simp only [State.displace, -Nat.reducePow]; (repeat' split) <;> simp only [State.drawBytes_keeps (h.mono (by
    decide)), -Nat.reducePow]

theorem State.corrupt_keeps {β : Type} {p : State → β} (h : Ignores p [.regs, .fresh]) (s : State) (c : Nat) (body :
    List Byte) :
    p (State.corrupt s c body).2.2 = p s := by
  simp only [State.corrupt, -Nat.reducePow]; (repeat' split) <;> simp only [State.draw_keeps (h.mono (by decide)),
    State.drawBytes_keeps (h.mono (by decide)), State.addSat_keeps (h.mono (by decide)), -Nat.reducePow]

theorem State.noteGap_keeps {β : Type} {p : State → β} (h : Ignores p [.links]) (s : State) (c : Nat) (body : List
    Byte) :
    p (State.noteGap s c body) = p s := by
  simp only [State.noteGap, apply_ite p, ite_self, State.setLink_keeps (h.mono (by decide)), -Nat.reducePow]

theorem State.voidPacket_keeps {β : Type} {p : State → β} (h : Ignores p [.regs, .links, .cams]) (s : State) (c :
    Nat) (body : List Byte) :
    p (State.voidPacket s c body) = p s := by
  simp only [State.voidPacket, apply_ite p, ite_self, State.slag_keeps (h.mono (by decide)), State.protoErr_keeps
    (h.mono (by decide)), State.reserveBriefly_keeps (h.mono (by decide)), -Nat.reducePow]

theorem State.injected_keeps {β : Type} {p : State → β} (h : Ignores p [.regs, .gates, .links, .cams, .slices,
    .fresh]) (s : State) (c : Nat) (body : List Byte) :
    p (State.injected s c body) = p s := by
  simp only [State.injected, -Nat.reducePow]; (repeat' split) <;> simp only [State.injActs_keeps (h.mono (by
    decide)), State.setGate_keeps (h.mono (by decide)), State.arrive_keeps (h.mono (by decide)), State.noteGap_keeps
    (h.mono (by decide)), State.setLink_keeps (h.mono (by decide)), State.corrupt_keeps (h.mono (by decide)),
    State.voidPacket_keeps (h.mono (by decide)), State.displace_keeps (h.mono (by decide)), -Nat.reducePow]

theorem State.packetSymbols_keeps {β : Type} {p : State → β} (h : Ignores p [.regs, .gates, .fresh]) (s : State) (c
    : Nat) :
    p (State.packetSymbols s c) = p s := by
  simp only [State.packetSymbols, implies_true, State.each_p p, State.adaptAll_keeps (h.mono (by decide)),
    State.onLane_keeps (h.mono (by decide)), -Nat.reducePow]

theorem State.receive_keeps {β : Type} {p : State → β} (h : Ignores p [.regs, .gates, .links, .cams, .slices,
    .fresh]) (s : State) (c : Nat) (body : List Byte) :
    p (State.receive s c body) = p s := by
  simp only [State.receive, apply_ite p, ite_self, State.packetSymbols_keeps (h.mono (by decide)),
    State.setLink_keeps (h.mono (by decide)), State.slag_keeps (h.mono (by decide)), State.injected_keeps (h.mono (by
    decide)), -Nat.reducePow]

theorem State.injectVoid_keeps {β : Type} {p : State → β} (h : Ignores p [.regs, .gates, .fresh]) (s : State) (c :
    Nat) (body : List Byte) :
    p (State.injectVoid s c body) = p s := by
  simp only [State.injectVoid, apply_ite p, ite_self, State.injActs_keeps (h.mono (by decide)), State.setGate_keeps
    (h.mono (by decide)), State.corrupt_keeps (h.mono (by decide)), -Nat.reducePow]

theorem State.abortPacket_keeps {β : Type} {p : State → β} (h : Ignores p [.regs, .gates, .links, .cams, .slices,
    .fresh]) (s : State) (c : Nat) (body : List Byte) :
    p (State.abortPacket s c body) = p s := by
  simp only [State.abortPacket, apply_ite p, ite_self, State.receive_keeps (h.mono (by decide)), State.setLink_keeps
    (h.mono (by decide)), State.slag_keeps (h.mono (by decide)), State.protoErr_keeps (h.mono (by decide)),
    State.packetSymbols_keeps (h.mono (by decide)), State.injectVoid_keeps (h.mono (by decide)),
    State.voidPacket_keeps (h.mono (by decide)), -Nat.reducePow]

theorem State.frameTimeout_keeps {β : Type} {p : State → β} (h : Ignores p [.links]) (s : State) (c : Nat) :
    p (State.frameTimeout s c) = p s := by
  simp only [State.frameTimeout, apply_ite p, ite_self, State.land_keeps (h.mono (by decide)), -Nat.reducePow]

theorem State.missingFrame_keeps {β : Type} {p : State → β} (h : Ignores p [.regs, .cams, .records, .prods]) (s :
    State) (c shot : Nat) :
    p (State.missingFrame s c shot) = p s := by
  simp only [State.missingFrame, apply_ite p, ite_self, State.markMissing_keeps (h.mono (by decide)), -Nat.reducePow]

theorem State.heard_keeps {β : Type} {p : State → β} (h : Ignores p [.regs]) (s : State) (c : Nat) (body : List
    Byte) (f : State → State) (hf : ∀ t, p (f t) = p t) :
    p (State.heard s c body f) = p s := by
  simp only [State.heard, apply_ite p, ite_self, implies_true, State.when_p p, State.slag_keeps (h.mono (by
    decide)), hf, -Nat.reducePow]

theorem State.packetOf_keeps {β : Type} {p : State → β} (h : Ignores p [.regs, .gates, .links, .cams, .slices,
    .fresh]) (s : State) (g p1 : Nat) (type : Nat → Bool) (body : List Byte) :
    p (State.packetOf s g p1 type body) = p s := by
  simp only [State.packetOf, implies_true, State.heard_keeps (h.mono (by decide)), State.when_p p,
    State.gateWake_keeps (h.mono (by decide)), State.receive_keeps (h.mono (by decide)), -Nat.reducePow]

theorem State.injectOp_keeps {β : Type} {p : State → β} (h : Ignores p [.regs, .gates]) (s : State) (g op : Nat) :
    p (State.injectOp s g op) = p s := by
  simp only [State.injectOp, implies_true, State.when_p p, State.injectCmd_keeps (h.mono (by decide)), -Nat.reducePow]

theorem State.toCheck_keeps {β : Type} {p : State → β} (h : Ignores p [.slices]) (s : State) (k : Nat) (i : FcItem) :
    p (State.toCheck s k i) = p s := by
  simp only [State.toCheck, State.setSlice_keeps (h.mono (by decide)), -Nat.reducePow]

theorem State.carry_keeps {β : Type} {p : State → β} (h : Ignores p [.regs, .cams, .slices]) (s : State) (k c num :
    Nat) (x : Landed) :
    p (State.carry s k c num x) = p s := by
  simp only [State.carry, State.toCheck_keeps (h.mono (by decide)), State.setCam_keeps (h.mono (by decide)),
    State.put_keeps (h.mono (by decide)), -Nat.reducePow]

theorem State.takePad_keeps {β : Type} {p : State → β} (h : Ignores p [.regs, .links, .cams, .slices]) (s : State)
    (k c : Nat) :
    p (State.takePad s k c) = p s := by
  simp only [State.takePad, State.carry_keeps (h.mono (by decide)), State.setLink_keeps (h.mono (by decide)),
    -Nat.reducePow]

theorem State.popRiser_keeps {β : Type} {p : State → β} (h : Ignores p [.links]) (s : State) (c : Nat) :
    p (State.popRiser s c) = p s := by
  simp only [State.popRiser, -Nat.reducePow]; (repeat' split) <;> simp only [State.setLink_keeps (h.mono (by
    decide)), -Nat.reducePow]

theorem State.takeFe_keeps {β : Type} {p : State → β} (h : Ignores p [.regs, .links, .slices]) (s : State) (k c :
    Nat) (m : Marker) :
    p (State.takeFe s k c m) = p s := by
  simp only [State.takeFe, apply_ite p, ite_self, State.popRiser_keeps (h.mono (by decide)), State.setLink_keeps
    (h.mono (by decide)), State.slag_keeps (h.mono (by decide)), State.toCheck_keeps (h.mono (by decide)),
    -Nat.reducePow]

theorem State.feBehind_keeps {β : Type} {p : State → β} (h : Ignores p [.regs, .links, .slices]) (s : State) (k c :
    Nat) :
    p (State.feBehind s k c) = p s := by
  simp only [State.feBehind, -Nat.reducePow]; (repeat' split) <;> simp only [State.takeFe_keeps (h.mono (by
    decide)), -Nat.reducePow]

theorem State.dropLine_keeps {β : Type} {p : State → β} (h : Ignores p [.regs, .links, .slices]) (s : State) (k c :
    Nat) (f : Fld) (i : FcItem) (x : Landed) :
    p (State.dropLine s k c f i x) = p s := by
  simp only [State.dropLine, State.popRiser_keeps (h.mono (by decide)), State.slag_keeps (h.mono (by decide)),
    State.inc_keeps (h.mono (by decide)), State.raise_keeps (h.mono (by decide)), State.toCheck_keeps (h.mono (by
    decide)), -Nat.reducePow]

theorem State.noteGapReal_keeps {β : Type} {p : State → β} (h : Ignores p [.regs]) (s : State) (c : Nat) (p1 : Bool
    × Bool) :
    p (State.noteGapReal s c p1) = p s := by
  simp only [State.noteGapReal, apply_ite p, ite_self, State.put_keeps (h.mono (by decide)), -Nat.reducePow]

theorem State.takeLine_keeps {β : Type} {p : State → β} (h : Ignores p [.regs, .links, .cams, .slices]) (s : State)
    (k c : Nat) (x : Landed) :
    p (State.takeLine s k c x) = p s := by
  simp only [State.takeLine, apply_ite p, ite_self, State.popRiser_keeps (h.mono (by decide)), State.slag_keeps
    (h.mono (by decide)), State.toCheck_keeps (h.mono (by decide)), State.feBehind_keeps (h.mono (by decide)),
    State.dropLine_keeps (h.mono (by decide)), State.carry_keeps (h.mono (by decide)), State.setLink_keeps (h.mono (by
    decide)), State.add_keeps (h.mono (by decide)), State.takePad_keeps (h.mono (by decide)), State.noteGapReal_keeps
    (h.mono (by decide)), State.endHold_keeps (h.mono (by decide)), -Nat.reducePow]

theorem State.lineBehind_keeps {β : Type} {p : State → β} (h : Ignores p [.regs, .links, .cams, .slices]) (s :
    State) (k c : Nat) :
    p (State.lineBehind s k c) = p s := by
  simp only [State.lineBehind, -Nat.reducePow]; (repeat' split) <;> simp only [State.takeLine_keeps (h.mono (by
    decide)), -Nat.reducePow]

theorem State.openFs_keeps {β : Type} {p : State → β} (h : Ignores p [.regs, .links, .cams, .slices]) (s : State) (k
    c : Nat) (m : Marker) :
    p (State.openFs s k c m) = p s := by
  simp only [State.openFs, apply_ite p, ite_self, State.popRiser_keeps (h.mono (by decide)), State.setLink_keeps
    (h.mono (by decide)), State.toCheck_keeps (h.mono (by decide)), State.lineBehind_keeps (h.mono (by decide)),
    -Nat.reducePow]

theorem State.takeFs_keeps {β : Type} {p : State → β} (h : Ignores p [.regs, .links, .cams, .slices]) (s : State) (k
    c : Nat) (m : Marker) :
    p (State.takeFs s k c m) = p s := by
  simp only [State.takeFs, apply_ite p, ite_self, State.openFs_keeps (h.mono (by decide)), State.toCheck_keeps
    (h.mono (by decide)), State.setLink_keeps (h.mono (by decide)), -Nat.reducePow]

theorem State.turnOf_keeps {β : Type} {p : State → β} (h : Ignores p [.regs, .links, .cams, .slices]) (s : State) (k
    c : Nat) :
    p (State.turnOf s k c) = p s := by
  simp only [State.turnOf, -Nat.reducePow]; (repeat' split) <;> simp only [State.takePad_keeps (h.mono (by decide)),
    State.takeLine_keeps (h.mono (by decide)), State.takeFs_keeps (h.mono (by decide)), State.takeFe_keeps (h.mono (by
    decide)), -Nat.reducePow]

theorem State.intake_keeps {β : Type} {p : State → β} (h : Ignores p [.regs, .links, .cams, .slices]) (s : State) (k
    : Nat) :
    p (State.intake s k) = p s := by
  simp only [State.intake, -Nat.reducePow]; (repeat' split) <;> simp only [implies_true, State.each_p p,
    State.holdCheck_keeps (h.mono (by decide)), State.setSlice_keeps (h.mono (by decide)), State.turnOf_keeps (h.mono
    (by decide)), -Nat.reducePow]

theorem State.bindFrame_keeps {β : Type} {p : State → β} (h : Ignores p [.cams, .records]) (s : State) (fr : Frame)
    (n : Nat) (mismatch : Bool) (landed : Nat) :
    p (State.bindFrame s fr n mismatch landed).1 = p s := by
  simp only [State.bindFrame, State.setSched_keeps (h.mono (by decide)), State.onRecord_keeps (h.mono (by decide)),
    -Nat.reducePow]

theorem State.bindAtFs_keeps {β : Type} {p : State → β} (h : Ignores p [.regs, .cams, .records, .prods]) (s : State)
    (fr : Frame) (m : Marker) :
    p (State.bindAtFs s fr m).1 = p s := by
  simp only [State.bindAtFs, -Nat.reducePow]; (repeat' split) <;> simp only [implies_true, State.each_p p,
    State.markMissing_keeps (h.mono (by decide)), State.bindFrame_keeps (h.mono (by decide)), -Nat.reducePow]

theorem State.noRef_keeps {β : Type} {p : State → β} (h : Ignores p [.regs]) (s : State) (fr : Frame) (cause : Nat) :
    p (State.noRef s fr cause).1 = p s := by
  simp only [State.noRef, State.put_keeps (h.mono (by decide)), State.inc_keeps (h.mono (by decide)),
    State.raise_keeps (h.mono (by decide)), -Nat.reducePow]

theorem State.refAtFs_keeps {β : Type} {p : State → β} (h : Ignores p [.regs, .cams]) (s : State) (fr : Frame) :
    p (State.refAtFs s fr).1 = p s := by
  simp only [State.refAtFs, -Nat.reducePow]; (repeat' split) <;> simp only [State.setCam_keeps (h.mono (by decide)),
    State.put_keeps (h.mono (by decide)), State.noRef_keeps (h.mono (by decide)), -Nat.reducePow]

theorem State.bankAtFs_keeps {β : Type} {p : State → β} (h : Ignores p [.regs, .cams, .records]) (s : State) (fr :
    Frame) :
    p (State.bankAtFs s fr).1 = p s := by
  simp only [State.bankAtFs, -Nat.reducePow]; (repeat' split) <;> simp only [State.setCam_keeps (h.mono (by
    decide)), State.inc_keeps (h.mono (by decide)), State.raise_keeps (h.mono (by decide)), State.flagRecord_keeps
    (h.mono (by decide)), -Nat.reducePow]

theorem State.applyWindows_keeps {β : Type} {p : State → β} (h : Ignores p [.regs, .cams]) (s : State) (c : Nat) :
    p (State.applyWindows s c) = p s := by
  simp only [State.applyWindows, -Nat.reducePow]; (repeat' split) <;> simp only [State.setCam_keeps (h.mono (by
    decide)), State.put_keeps (h.mono (by decide)), State.raise_keeps (h.mono (by decide)), -Nat.reducePow]

theorem State.windowsAtFs_keeps {β : Type} {p : State → β} (h : Ignores p [.regs, .cams]) (s : State) (fr : Frame) :
    p (State.windowsAtFs s fr).1 = p s := by
  simp only [State.windowsAtFs, State.applyWindows_keeps (h.mono (by decide)), State.put_keeps (h.mono (by decide)),
    -Nat.reducePow]

theorem State.columnsAtFs_keeps {β : Type} {p : State → β} (h : Ignores p [.regs, .cams]) (s : State) (fr : Frame) :
    p (State.columnsAtFs s fr).1 = p s := by
  simp only [State.columnsAtFs, -Nat.reducePow]; (repeat' split) <;> simp only [State.setCam_keeps (h.mono (by
    decide)), State.put_keeps (h.mono (by decide)), -Nat.reducePow]

theorem State.openAtFs_keeps {β : Type} {p : State → β} (h : Ignores p [.regs, .cams, .records, .prods]) (s : State)
    (c id : Nat) (m : Marker) :
    p (State.openAtFs s c id m) = p s := by
  simp only [State.openAtFs, State.bindAtFs_keeps (h.mono (by decide)), State.refAtFs_keeps (h.mono (by decide)),
    State.bankAtFs_keeps (h.mono (by decide)), State.windowsAtFs_keeps (h.mono (by decide)), State.columnsAtFs_keeps
    (h.mono (by decide)), State.setCam_keeps (h.mono (by decide)), -Nat.reducePow]

theorem State.popFc_keeps {β : Type} {p : State → β} (h : Ignores p [.slices]) (s : State) (k : Nat) :
    p (State.popFc s k) = p s := by
  simp only [State.popFc, State.setSlice_keeps (h.mono (by decide)), -Nat.reducePow]

theorem State.fsCheck_keeps {β : Type} {p : State → β} (h : Ignores p [.regs, .cams, .slices, .records, .prods]) (s
    : State) (k : Nat) :
    p (State.fsCheck s k) = p s := by
  simp only [State.fsCheck, -Nat.reducePow]; (repeat' split) <;> simp only [State.popFc_keeps (h.mono (by decide)),
    State.slag_keeps (h.mono (by decide)), State.openAtFs_keeps (h.mono (by decide)), -Nat.reducePow]

theorem State.noteFe_keeps {β : Type} {p : State → β} (h : Ignores p [.regs]) (s : State) (c : Nat) (m : Marker) :
    p (State.noteFe s c m) = p s := by
  simp only [State.noteFe, apply_ite p, ite_self, State.noteReal_keeps (h.mono (by decide)), -Nat.reducePow]

theorem State.closeByFe_keeps {β : Type} {p : State → β} (h : Ignores p [.regs, .links, .cams, .records]) (s :
    State) (c : Nat) (fr : Frame) :
    p (State.closeByFe s c fr) = p s := by
  simp only [State.closeByFe, apply_ite p, ite_self, State.setCam_keeps (h.mono (by decide)),
    State.noteGapReal_keeps (h.mono (by decide)), State.putFrame_keeps (h.mono (by decide)), State.setLink_keeps
    (h.mono (by decide)), State.inc_keeps (h.mono (by decide)), State.closeFrame_keeps (h.mono (by decide)),
    State.intakeClosed_keeps (h.mono (by decide)), -Nat.reducePow]

theorem State.feCheck_keeps {β : Type} {p : State → β} (h : Ignores p [.regs, .links, .cams, .slices, .records]) (s
    : State) (k : Nat) :
    p (State.feCheck s k) = p s := by
  simp only [State.feCheck, -Nat.reducePow]; (repeat' split) <;> simp only [State.popFc_keeps (h.mono (by decide)),
    State.setLink_keeps (h.mono (by decide)), State.slag_keeps (h.mono (by decide)), State.inc_keeps (h.mono (by
    decide)), State.raise_keeps (h.mono (by decide)), State.noteFe_keeps (h.mono (by decide)), State.closeByFe_keeps
    (h.mono (by decide)), -Nat.reducePow]

theorem State.enterLine_keeps {β : Type} {p : State → β} (h : Ignores p [.regs, .cams, .records]) (s : State) (c :
    Nat) (fr : Frame) (x : Landed) (cnt : Nat) :
    p (State.enterLine s c fr x cnt) = p s := by
  simp only [State.enterLine, apply_ite p, ite_self, State.putFrame_keeps (h.mono (by decide)),
    State.closeFrame_keeps (h.mono (by decide)), -Nat.reducePow]

theorem State.lineCheck_keeps {β : Type} {p : State → β} (h : Ignores p [.regs, .cams, .slices, .records]) (s :
    State) (k : Nat) :
    p (State.lineCheck s k) = p s := by
  simp only [State.lineCheck, -Nat.reducePow]; (repeat' split) <;> simp only [State.popFc_keeps (h.mono (by
    decide)), State.enterLine_keeps (h.mono (by decide)), State.slag_keeps (h.mono (by decide)), State.inc_keeps
    (h.mono (by decide)), State.raise_keeps (h.mono (by decide)), State.putFrame_keeps (h.mono (by decide)),
    State.closeFrame_keeps (h.mono (by decide)), -Nat.reducePow]

theorem State.displaceFrame_keeps {β : Type} {p : State → β} (h : Ignores p [.regs, .cams]) (s : State) (c : Nat) :
    p (s.displaceFrame c) = p s := by
  unfold State.displaceFrame
  split
  · rfl
  · extract_lets r t fr u
    have h0 : p t = p s := State.put_keeps (h.mono (by decide)) _ _ _
    clear_value r t fr
    have h1 : p u.1 = p t := by
      show p (if _ then _ else _ : State × Frame).1 = _
      split
      · rw [State.noRef_keeps (h.mono (by decide))]
      · rfl
    rw [State.holdCheck_keeps (h.mono (by decide)), State.putFrame_keeps (h.mono (by decide)), h1, h0]

theorem State.holdTimeout_keeps {β : Type} {p : State → β} (h : Ignores p [.regs, .cams]) (s : State) (c : Nat) :
    p (State.holdTimeout s c) = p s := by
  simp only [State.holdTimeout, apply_ite p, ite_self, State.holdEnds_keeps (h.mono (by decide)), -Nat.reducePow]

theorem State.firstWrite_keeps {β : Type} {p : State → β} (h : Ignores p [.regs, .cams]) (s : State) (fr : Frame) :
    p (State.firstWrite s fr) = p s := by
  simp only [State.firstWrite, State.put_keeps (h.mono (by decide)), State.setRefBuf_keeps (h.mono (by decide)),
    State.putB_keeps (h.mono (by decide)), -Nat.reducePow]

theorem State.writeRef_keeps {β : Type} {p : State → β} (h : Ignores p [.supply, .regs, .cams, .faults, .hbm]) (s :
    State) (fr : Frame) (y : Nat) (l : List Nat) :
    p (State.writeRef s fr y l) = p s := by
  simp only [State.writeRef, apply_ite p, ite_self, State.firstWrite_keeps (h.mono (by decide)),
    State.setRefBuf_keeps (h.mono (by decide)), State.hbmWrite_keeps (h.mono (by decide)), -Nat.reducePow]

theorem State.nrEmit_keeps {β : Type} {p : State → β} (h : Ignores p [.supply, .regs, .cams, .faults, .hbm]) (s :
    State) (c : Nat) :
    p (State.nrEmit s c) = p s := by
  simp only [State.nrEmit, -Nat.reducePow]; (repeat' split) <;> simp only [State.writeRef_keeps (h.mono (by
    decide)), State.putFrame_keeps (h.mono (by decide)), State.sealBoth_keeps (h.mono (by decide)),
    State.holdCheck_keeps (h.mono (by decide)), -Nat.reducePow]

theorem State.refWriteEnd_keeps {β : Type} {p : State → β} (h : Ignores p [.regs, .cams]) (s : State) (c b y : Nat)
    (ok : Bool) :
    p (State.refWriteEnd s c b y ok) = p s := by
  simp only [State.refWriteEnd, apply_ite p, ite_self, State.setRefBuf_keeps (h.mono (by decide)), State.put_keeps
    (h.mono (by decide)), State.sealCheck_keeps (h.mono (by decide)), State.holdCheck_keeps (h.mono (by decide)),
    -Nat.reducePow]

theorem State.refRead_keeps {β : Type} {p : State → β} (h : Ignores p [.supply, .regs, .cfg, .links, .engines,
    .cams, .slices, .seams, .moulds, .strobes, .records, .queues, .banks, .prods, .rings, .faults, .smb, .fresh, .out])
    (s : State) (c y : Nat) (ecc : Ecc) :
    p (State.refRead s c y ecc) = p s := by
  simp only [State.refRead, -Nat.reducePow]; (repeat' split) <;> simp only [State.touch_keeps (h.mono (by decide)),
    State.putFrame_keeps (h.mono (by decide)), State.raise_keeps (h.mono (by decide)), State.hbmUe_keeps (h.mono (by
    decide)), State.hbmCe_keeps (h.mono (by decide)), -Nat.reducePow]

theorem State.tblLoad_keeps {β : Type} {p : State → β} (h : Ignores p [.regs, .loads]) (s : State) (c sel bank : Nat) :
    p (State.tblLoad s c sel bank) = p s := by
  simp only [State.tblLoad, -Nat.reducePow]; (repeat' split) <;> simp only [State.refuse_keeps (h.mono (by decide)),
    State.put_keeps (h.mono (by decide)), State.putBit_keeps (h.mono (by decide)), h.loads (by decide),
    -Nat.reducePow]

theorem State.loadResult_keeps {β : Type} {p : State → β} (h : Ignores p [.supply, .regs, .faults, .hbm]) (s :
    State) (x : TableLoad) (r : LoadEnd) :
    p (State.loadResult s x r).1 = p s := by
  simp only [State.loadResult, -Nat.reducePow]; (repeat' split) <;> simp only [State.hbmWrite_keeps (h.mono (by
    decide)), -Nat.reducePow]

theorem State.tblLoadDone_fin_keeps {β : Type} {p : State → β} (h : Ignores p [.supply, .regs, .loads, .faults,
    .hbm]) (s : State) (c : Nat) (r : LoadEnd)
    (x : TableLoad) : p (State.tblLoadDone.fin s c r x) = p s := by
  unfold State.tblLoadDone.fin
  extract_lets k l t u v w
  have h0 : p k.1 = p s := State.loadResult_keeps (h.mono (by decide)) _ _ _
  clear_value k
  have h1 : p t = p s := (h.loads (by decide) _ _).trans h0
  clear_value t
  have h2 : p u = p s := by
    show p (State.put _ _ _) = _
    rw [State.put_keeps (h.mono (by decide)), State.put_keeps (h.mono (by decide)), h1]
  clear_value u
  have h3 : p v = p s := by
    show p (if _ then _ else _ : State) = _
    split
    · rw [State.put_keeps (h.mono (by decide)), State.putBit_keeps (h.mono (by decide)), h2]
    · exact h2
  clear_value v
  have h4 : p w = p s := (State.raise_keeps (h.mono (by decide)) _ _ _).trans h3
  clear_value w
  split
  · exact h4
  · rw [State.raise_keeps (h.mono (by decide)), h4]

theorem State.tblLoadDone_keeps {β : Type} {p : State → β} (h : Ignores p [.supply, .regs, .loads, .faults, .hbm])
    (s : State) (c : Nat) (r : LoadEnd) :
    p (s.tblLoadDone c r) = p s := by
  unfold State.tblLoadDone
  split
  · rfl
  · split
    · split
      · rw [State.tblLoadDone_fin_keeps h]
      · rfl
    · rw [State.tblLoadDone_fin_keeps h]
    · rw [State.tblLoadDone_fin_keeps h]

theorem State.writeFtCtrl_keeps {β : Type} {p : State → β} (h : Ignores p [.regs]) (s : State) (c : Nat) (w : Word) :
    p (State.writeFtCtrl s c w) = p s := by
  simp only [State.writeFtCtrl, apply_ite p, ite_self, State.refuse_keeps (h.mono (by decide)), State.put_keeps
    (h.mono (by decide)), -Nat.reducePow]

theorem State.writeFfCtrl_keeps {β : Type} {p : State → β} (h : Ignores p [.regs, .cams, .slices]) (s : State) (c :
    Nat) (w : Word) :
    p (State.writeFfCtrl s c w) = p s := by
  simp only [State.writeFfCtrl, apply_ite p, ite_self, State.refuse_keeps (h.mono (by decide)), State.put_keeps
    (h.mono (by decide)), State.setCam_keeps (h.mono (by decide)), State.sliceWake_keeps (h.mono (by decide)),
    -Nat.reducePow]

theorem State.colCopyDone_keeps {β : Type} {p : State → β} (h : Ignores p [.supply, .regs, .cfg, .links, .engines,
    .cams, .slices, .seams, .moulds, .strobes, .records, .queues, .banks, .prods, .rings, .faults, .smb, .fresh, .out])
    (s : State) (c : Nat) (ecc : Ecc) :
    p (State.colCopyDone s c ecc) = p s := by
  simp only [State.colCopyDone, -Nat.reducePow]; (repeat' split) <;> simp only [State.touch_keeps (h.mono (by
    decide)), State.put_keeps (h.mono (by decide)), State.setCam_keeps (h.mono (by decide)), State.raise_keeps (h.mono
    (by decide)), State.hbmUe_keeps (h.mono (by decide)), State.hbmCe_keeps (h.mono (by decide)), -Nat.reducePow]

theorem State.reloadColumns_keeps {β : Type} {p : State → β} (h : Ignores p [.supply, .regs, .cams]) (s : State) (c
    : Nat) :
    p (State.reloadColumns s c) = p s := by
  simp only [State.reloadColumns, apply_ite p, ite_self, implies_true, State.each_p p, State.setCam_keeps (h.mono
    (by decide)), State.raise_keeps (h.mono (by decide)), State.touch_keeps (h.mono (by decide)), -Nat.reducePow]

theorem State.writeGrid_keeps {β : Type} {p : State → β} (h : Ignores p [.regs]) (s : State) (c n : Nat) (w : Word) :
    p (State.writeGrid s c n w) = p s := by
  simp only [State.writeGrid, apply_ite p, ite_self, State.refuse_keeps (h.mono (by decide)), State.put_keeps
    (h.mono (by decide)), State.putBit_keeps (h.mono (by decide)), -Nat.reducePow]

theorem State.readTables_keeps {β : Type} {p : State → β} (h : Ignores p [.supply, .regs, .cfg, .links, .engines,
    .cams, .slices, .seams, .moulds, .strobes, .records, .queues, .banks, .prods, .rings, .faults, .smb, .fresh, .out])
    (s : State) (fr : Frame) (bad : List Nat) (y : Nat) :
    p (State.readTables s fr bad y) = p s := by
  simp only [State.readTables, implies_true, State.each_p p, State.touch_keeps (h.mono (by decide)),
    State.hbmUe_keeps (h.mono (by decide)), -Nat.reducePow]

theorem State.fettleEmit_keeps {β : Type} {p : State → β} (h : Ignores p [.supply, .regs, .cfg, .links, .engines,
    .cams, .slices, .seams, .moulds, .strobes, .records, .queues, .banks, .prods, .rings, .faults, .smb, .fresh, .out])
    (s : State) (c : Nat) (bad : List Nat) :
    p (State.fettleEmit s c bad) = p s := by
  simp only [State.fettleEmit, -Nat.reducePow]; (repeat' split) <;> simp only [State.putFrame_keeps (h.mono (by
    decide)), State.retireFrames_keeps (h.mono (by decide)), State.add_keeps (h.mono (by decide)), State.raise_keeps
    (h.mono (by decide)), State.readTables_keeps (h.mono (by decide)), -Nat.reducePow]

theorem State.windowEmit_keeps {β : Type} {p : State → β} (h : Ignores p [.cams, .prods]) (s : State) (c : Nat) :
    p (State.windowEmit s c) = p s := by
  simp only [State.windowEmit, -Nat.reducePow]; (repeat' split) <;> simp only [State.pushPacket_keeps (h.mono (by
    decide)), State.putFrame_keeps (h.mono (by decide)), -Nat.reducePow]

theorem State.statClose_keeps {β : Type} {p : State → β} (h : Ignores p [.cams, .prods]) (s : State) (c : Nat) :
    p (State.statClose s c) = p s := by
  simp only [State.statClose, -Nat.reducePow]; (repeat' split) <;> simp only [State.pushPacket_keeps (h.mono (by
    decide)), State.putFrame_keeps (h.mono (by decide)), -Nat.reducePow]

theorem State.book_keeps {β : Type} {p : State → β} (h : Ignores p [.regs]) (s : State) (d : Demand) (c : Nat) :
    p (State.book s d c) = p s := by
  simp only [State.book, implies_true, State.put_keeps (h.mono (by decide)), State.each_p p, -Nat.reducePow]

theorem State.camEnable_keeps {β : Type} {p : State → β} (h : Ignores p [.regs, .links, .cams]) (s : State) (c : Nat) :
    p (State.camEnable s c) = p s := by
  simp only [State.camEnable, -Nat.reducePow]; (repeat' split) <;> simp only [State.refuse_keeps (h.mono (by
    decide)), State.book_keeps (h.mono (by decide)), State.put_keeps (h.mono (by decide)), State.putB_keeps (h.mono
    (by decide)), State.emptyRiser_keeps (h.mono (by decide)), State.setCam_keeps (h.mono (by decide)),
    -Nat.reducePow]

theorem State.camDisable_keeps {β : Type} {p : State → β} (h : Ignores p [.regs, .links, .cams, .records]) (s :
    State) (c : Nat) :
    p (State.camDisable s c) = p s := by
  simp only [State.camDisable, apply_ite p, ite_self, State.cutFrame_keeps (h.mono (by decide)),
    State.dropRiser_keeps (h.mono (by decide)), State.emptyRiser_keeps (h.mono (by decide)), State.applyWindows_keeps
    (h.mono (by decide)), State.schedClear_keeps (h.mono (by decide)), State.book_keeps (h.mono (by decide)),
    State.put_keeps (h.mono (by decide)), -Nat.reducePow]

theorem State.winCommit_keeps {β : Type} {p : State → β} (h : Ignores p [.regs, .cams]) (s : State) (c : Nat) :
    p (State.winCommit s c) = p s := by
  simp only [State.winCommit, -Nat.reducePow]; (repeat' split) <;> simp only [State.refuse_keeps (h.mono (by
    decide)), State.book_keeps (h.mono (by decide)), State.setCam_keeps (h.mono (by decide)), State.put_keeps (h.mono
    (by decide)), -Nat.reducePow]

theorem State.writeGateCfg_keeps {β : Type} {p : State → β} (h : Ignores p [.regs, .gates, .links, .engines, .cams,
    .records, .fresh, .out]) (s : State) (g mode split : Nat) :
    p (State.writeGateCfg s g mode split) = p s := by
  simp only [State.writeGateCfg, apply_ite p, ite_self, State.refuse_keeps (h.mono (by decide)), State.put_keeps
    (h.mono (by decide)), State.toDown_keeps (h.mono (by decide)), State.assignLanes_keeps (h.mono (by decide)),
    State.emptyRiser_keeps (h.mono (by decide)), State.downCheck_keeps (h.mono (by decide)), -Nat.reducePow]

theorem State.gateEnable_keeps {β : Type} {p : State → β} (h : Ignores p [.regs, .links, .engines, .cams, .records,
    .fresh, .out]) (s : State) (g : Nat) :
    p (State.gateEnable s g) = p s := by
  simp only [State.gateEnable, apply_ite p, ite_self, implies_true, State.refuse_keeps (h.mono (by decide)),
    State.put_keeps (h.mono (by decide)), State.each_p p, State.setLink_keeps (h.mono (by decide)),
    State.leaveDown_keeps (h.mono (by decide)), -Nat.reducePow]

theorem State.gateDisable_keeps {β : Type} {p : State → β} (h : Ignores p [.regs, .gates, .links, .engines, .cams,
    .records, .fresh, .out]) (s : State) (g : Nat) :
    p (State.gateDisable s g) = p s := by
  simp only [State.gateDisable, apply_ite p, ite_self, implies_true, State.refuse_keeps (h.mono (by decide)),
    State.put_keeps (h.mono (by decide)), State.each_p p, State.endTest_keeps (h.mono (by decide)), State.toDown_keeps
    (h.mono (by decide)), State.emptyRiser_keeps (h.mono (by decide)), State.downCheck_keeps (h.mono (by decide)),
    State.setGate_keeps (h.mono (by decide)), -Nat.reducePow]

theorem State.writeHbmLimit_keeps {β : Type} {p : State → β} (h : Ignores p [.regs]) (s : State) (v : Nat) :
    p (State.writeHbmLimit s v) = p s := by
  simp only [State.writeHbmLimit, apply_ite p, ite_self, State.refuse_keeps (h.mono (by decide)), State.put_keeps
    (h.mono (by decide)), -Nat.reducePow]

theorem State.seamEnable_keeps {β : Type} {p : State → β} (h : Ignores p [.regs, .seams]) (s : State) (u : Nat) :
    p (State.seamEnable s u) = p s := by
  simp only [State.seamEnable, -Nat.reducePow]; (repeat' split) <;> simp only [State.refuse_keeps (h.mono (by
    decide)), State.put_keeps (h.mono (by decide)), State.seamStart_keeps (h.mono (by decide)), -Nat.reducePow]

theorem State.seamDisable_keeps {β : Type} {p : State → β} (h : Ignores p [.regs, .queues, .prods]) (s : State) (u :
    Nat) :
    p (State.seamDisable s u) = p s := by
  simp only [State.seamDisable, apply_ite p, ite_self, State.seamStop_keeps (h.mono (by decide)), State.put_keeps
    (h.mono (by decide)), -Nat.reducePow]

theorem State.mouldEnable_keeps {β : Type} {p : State → β} (h : Ignores p [.regs, .moulds]) (s : State) (m : Nat) :
    p (State.mouldEnable s m) = p s := by
  simp only [State.mouldEnable, -Nat.reducePow]; (repeat' split) <;> simp only [State.refuse_keeps (h.mono (by
    decide)), State.put_keeps (h.mono (by decide)), State.mouldStart_keeps (h.mono (by decide)), -Nat.reducePow]

theorem State.mouldDisable_keeps {β : Type} {p : State → β} (h : Ignores p [.regs, .moulds, .queues, .prods]) (s :
    State) (m : Nat) :
    p (State.mouldDisable s m) = p s := by
  simp only [State.mouldDisable, apply_ite p, ite_self, State.mouldStop_keeps (h.mono (by decide)), State.put_keeps
    (h.mono (by decide)), -Nat.reducePow]

theorem State.bar2Write_keeps {β : Type} {p : State → β} (h : Ignores p [.regs, .links, .engines, .cams, .records,
    .fresh, .out]) (s : State) (c off : Nat) (data : List (Option Byte)) :
    p (s.bar2Write c off data) = p s := by
  unfold State.bar2Write
  extract_lets pieces
  split
  · refine State.each_keeps _ _ _ p (fun t x => ?_)
    extract_lets u
    have h0 : p u = p t := State.enqueue_keeps (h.mono (by decide)) _ _ _ _ _ _ _ _ _
    clear_value u
    split
    · rw [State.failReq_keeps (h.mono (by decide)), h0]
    · exact h0
  · rw [State.downCheck_keeps (h.mono (by decide))]
    exact State.each_keeps _ _ _ p (fun t x => State.enqueue_keeps (h.mono (by decide)) _ _ _ _ _ _ _ _ _)

theorem State.addRead_keeps {β : Type} {p : State → β} (h : Ignores p [.regs, .engines, .out]) (s : State) (c : Nat)
    (r : HostRead) :
    p (State.addRead s c r) = p s := by
  simp only [State.addRead, State.setEngine_keeps (h.mono (by decide)), State.admitReads_keeps (h.mono (by decide)),
    State.settleReads_keeps (h.mono (by decide)), -Nat.reducePow]

theorem State.freshRead_keeps {β : Type} {p : State → β} (h : Ignores p [.regs, .links, .engines, .cams, .records,
    .fresh, .out]) (s : State) (c : Nat) (r : HostRead) (want : List Nat) (extend : Bool) :
    p (State.freshRead s c r want extend) = p s := by
  simp only [State.freshRead, State.addRead_keeps (h.mono (by decide)), State.downCheck_keeps (h.mono (by decide)),
    -Nat.reducePow]

theorem State.heldRead_keeps {β : Type} {p : State → β} (h : Ignores p [.regs, .links, .engines, .cams, .records,
    .fresh, .out]) (s : State) (c : Nat) (k : Slot) (r : HostRead) (want : List Nat) :
    p (State.heldRead s c k r want) = p s := by
  simp only [State.heldRead, State.setSlot_keeps (h.mono (by decide)), State.freshRead_keeps (h.mono (by decide)),
    -Nat.reducePow]

theorem State.bar2Read_keeps {β : Type} {p : State → β} (h : Ignores p [.regs, .links, .engines, .cams, .records,
    .fresh, .out]) (s : State) (c off : Nat) (enables : List Bool) (id : Nat) :
    p (State.bar2Read s c off enables id) = p s := by
  simp only [State.bar2Read, -Nat.reducePow]; (repeat' split) <;> simp only [State.emit_keeps (h.mono (by decide)),
    State.failWhole_keeps (h.mono (by decide)), State.freshRead_keeps (h.mono (by decide)), State.addRead_keeps
    (h.mono (by decide)), State.heldRead_keeps (h.mono (by decide)), -Nat.reducePow]

theorem State.readLimit_keeps {β : Type} {p : State → β} (h : Ignores p [.regs, .engines, .fresh, .out]) (s : State)
    (c id : Nat) :
    p (State.readLimit s c id) = p s := by
  simp only [State.readLimit, -Nat.reducePow]; (repeat' split) <;> simp only [State.logEntry_keeps (h.mono (by
    decide)), State.raise_keeps (h.mono (by decide)), State.failWhole_keeps (h.mono (by decide)), State.failRead_keeps
    (h.mono (by decide)), -Nat.reducePow]

theorem State.onReq_keeps {β : Type} {p : State → β} (h : Ignores p [.engines]) (s : State) (r : Req) (f : Req → Req) :
    p (State.onReq s r f) = p s := by
  simp only [State.onReq, State.setEngine_keeps (h.mono (by decide)), -Nat.reducePow]

theorem State.endLock_keeps {β : Type} {p : State → β} (h : Ignores p [.regs, .engines]) (s : State) (c : Nat) :
    p (State.endLock s c) = p s := by
  simp only [State.endLock, apply_ite p, ite_self, State.put_keeps (h.mono (by decide)), State.setEngine_keeps
    (h.mono (by decide)), -Nat.reducePow]

theorem State.sendReq_keeps {β : Type} {p : State → β} (h : Ignores p [.regs, .engines, .out]) (s : State) (r : Req) :
    p (State.sendReq s r) = p s := by
  simp only [State.sendReq, apply_ite p, ite_self, State.onReq_keeps (h.mono (by decide)), State.emit_keeps (h.mono
    (by decide)), State.endLock_keeps (h.mono (by decide)), -Nat.reducePow]

theorem State.sendPair_keeps {β : Type} {p : State → β} (h : Ignores p [.regs, .time, .engines, .records, .out]) (s
    : State) (g : Nat) :
    p (State.sendPair s g) = p s := by
  simp only [State.sendPair, -Nat.reducePow]; (repeat' split) <;> simp only [State.setEngine_keeps (h.mono (by
    decide)), State.reach_keeps (h.mono (by decide)), State.emit_keeps (h.mono (by decide)), State.inc_keeps (h.mono
    (by decide)), State.onRecord_keeps (h.mono (by decide)), -Nat.reducePow]

theorem State.sendNext_keeps {β : Type} {p : State → β} (h : Ignores p [.regs, .engines, .out]) (s : State) (g : Nat) :
    p (State.sendNext s g) = p s := by
  simp only [State.sendNext, -Nat.reducePow]; (repeat' split) <;> simp only [State.sendReq_keeps (h.mono (by
    decide)), State.setEngine_keeps (h.mono (by decide)), -Nat.reducePow]

theorem State.boundary_keeps {β : Type} {p : State → β} (h : Ignores p [.regs, .time, .engines, .records, .out]) (s
    : State) (g : Nat) :
    p (State.boundary s g) = p s := by
  simp only [State.boundary, -Nat.reducePow]; (repeat' split) <;> simp only [State.sendPair_keeps (h.mono (by
    decide)), State.sendNext_keeps (h.mono (by decide)), -Nat.reducePow]

theorem State.issueGrant_keeps {β : Type} {p : State → β} (h : Ignores p [.engines, .out]) (s : State) (g : Nat)
    (laneTime : Bool) :
    p (State.issueGrant s g laneTime) = p s := by
  simp only [State.issueGrant, apply_ite p, ite_self, State.setEngine_keeps (h.mono (by decide)), State.emit_keeps
    (h.mono (by decide)), -Nat.reducePow]

theorem State.endGrant_keeps {β : Type} {p : State → β} (h : Ignores p [.engines]) (s : State) (g : Nat) :
    p (State.endGrant s g) = p s := by
  simp only [State.endGrant, State.setEngine_keeps (h.mono (by decide)), -Nat.reducePow]

theorem State.grantOverrun_keeps {β : Type} {p : State → β} (h : Ignores p [.regs, .engines]) (s : State) (g : Nat) :
    p (State.grantOverrun s g) = p s := by
  simp only [State.grantOverrun, State.endGrant_keeps (h.mono (by decide)), State.inc_keeps (h.mono (by decide)),
    State.raise_keeps (h.mono (by decide)), -Nat.reducePow]

theorem State.badResponse_keeps {β : Type} {p : State → β} (h : Ignores p [.regs]) (s : State) (g : Nat) :
    p (State.badResponse s g) = p s := by
  simp only [State.badResponse, State.inc_keeps (h.mono (by decide)), State.raise_keeps (h.mono (by decide)),
    -Nat.reducePow]

theorem State.unexpected_keeps {β : Type} {p : State → β} (h : Ignores p [.regs]) (s : State) (g : Nat) :
    p (State.unexpected s g) = p s := by
  simp only [State.unexpected, State.inc_keeps (h.mono (by decide)), -Nat.reducePow]

theorem State.writeDone_keeps {β : Type} {p : State → β} (h : Ignores p [.regs, .gates, .links, .engines, .cams,
    .out]) (s : State) (g c tag : Nat) (crcOk : Bool) :
    p (State.writeDone s g c tag crcOk) = p s := by
  simp only [State.writeDone, -Nat.reducePow]; (repeat' split) <;> simp only [State.badResponse_keeps (h.mono (by
    decide)), State.unexpected_keeps (h.mono (by decide)), State.completeWrite_keeps (h.mono (by decide)),
    -Nat.reducePow]

theorem State.logSeLost_keeps {β : Type} {p : State → β} (h : Ignores p [.regs]) (s : State) (c addr tag len : Nat)
    (data : List Byte) :
    p (State.logSeLost s c addr tag len data) = p s := by
  simp only [State.logSeLost, State.logEntry_keeps (h.mono (by decide)), State.raise_keeps (h.mono (by decide)),
    -Nat.reducePow]

theorem State.gather_keeps {β : Type} {p : State → β} (h : Ignores p [.regs, .engines, .out]) (s : State) (r : Req)
    (key : Nat) (se : Bool) (data : List Byte) :
    p (State.gather s r key se data) = p s := by
  simp only [State.gather, -Nat.reducePow]; (repeat' split) <;> simp only [State.onRead_keeps (h.mono (by decide)),
    State.inc_keeps (h.mono (by decide)), State.setSlot_keeps (h.mono (by decide)), State.settleReads_keeps (h.mono
    (by decide)), -Nat.reducePow]

theorem State.polled_keeps {β : Type} {p : State → β} (h : Ignores p [.regs, .engines]) (s : State) (c : Nat) (data
    : List Byte) :
    p (State.polled s c data) = p s := by
  simp only [State.polled, apply_ite p, ite_self, State.put_keeps (h.mono (by decide)), State.setEngine_keeps
    (h.mono (by decide)), State.raise_keeps (h.mono (by decide)), -Nat.reducePow]

theorem State.discovered_keeps {β : Type} {p : State → β} (h : Ignores p [.regs, .links, .engines, .cams, .records,
    .fresh, .out]) (s : State) (c : Nat) (step : Purpose) (data : List Byte) :
    p (State.discovered s c step data) = p s := by
  simp only [State.discovered, apply_ite p, ite_self, State.putB_keeps (h.mono (by decide)),
    State.discoveryRead_keeps (h.mono (by decide)), State.put_keeps (h.mono (by decide)), State.raise_keeps (h.mono
    (by decide)), -Nat.reducePow]

theorem State.readDone_keeps {β : Type} {p : State → β} (h : Ignores p [.regs, .links, .engines, .cams, .records,
    .fresh, .out]) (s : State) (r : Req) (se : Bool) (data : List Byte) :
    p (State.readDone s r se data) = p s := by
  simp only [State.readDone, -Nat.reducePow]; (repeat' split) <;> simp only [State.dropReq_keeps (h.mono (by
    decide)), State.gather_keeps (h.mono (by decide)), State.inc_keeps (h.mono (by decide)), State.polled_keeps
    (h.mono (by decide)), State.discovered_keeps (h.mono (by decide)), -Nat.reducePow]

theorem State.readData_keeps {β : Type} {p : State → β} (h : Ignores p [.regs, .links, .engines, .cams, .records,
    .fresh, .out]) (s : State) (g c tag : Nat) (se : Bool) (data : List Byte) (crcOk : Bool) :
    p (State.readData s g c tag se data crcOk) = p s := by
  simp only [State.readData, -Nat.reducePow]; (repeat' split) <;> simp only [State.badResponse_keeps (h.mono (by
    decide)), State.unexpected_keeps (h.mono (by decide)), State.dropReq_keeps (h.mono (by decide)),
    State.logSeLost_keeps (h.mono (by decide)), State.readDone_keeps (h.mono (by decide)), State.failReq_keeps (h.mono
    (by decide)), -Nat.reducePow]

theorem State.nak_keeps {β : Type} {p : State → β} (h : Ignores p [.regs, .links, .engines, .cams, .records, .out])
    (s : State) (g c tag status : Nat) (crcOk : Bool) :
    p (State.nak s g c tag status crcOk) = p s := by
  simp only [State.nak, -Nat.reducePow]; (repeat' split) <;> simp only [State.badResponse_keeps (h.mono (by
    decide)), State.unexpected_keeps (h.mono (by decide)), State.inc_keeps (h.mono (by decide)), State.dropReq_keeps
    (h.mono (by decide)), State.onReq_keeps (h.mono (by decide)), State.failReq_keeps (h.mono (by decide)),
    -Nat.reducePow]

theorem State.busyRetry_keeps {β : Type} {p : State → β} (h : Ignores p [.engines]) (s : State) (c tag : Nat) :
    p (State.busyRetry s c tag) = p s := by
  simp only [State.busyRetry, -Nat.reducePow]; (repeat' split) <;> simp only [State.onReq_keeps (h.mono (by
    decide)), -Nat.reducePow]

theorem State.responseTimeout_keeps {β : Type} {p : State → β} (h : Ignores p [.regs, .links, .engines, .cams,
    .records, .out]) (s : State) (c tag : Nat) :
    p (State.responseTimeout s c tag) = p s := by
  simp only [State.responseTimeout, -Nat.reducePow]; (repeat' split) <;> simp only [State.failReq_keeps (h.mono (by
    decide)), -Nat.reducePow]

theorem State.prefetchExpiry_keeps {β : Type} {p : State → β} (h : Ignores p [.engines]) (s : State) (c : Nat) :
    p (State.prefetchExpiry s c) = p s := by
  simp only [State.prefetchExpiry, -Nat.reducePow]; (repeat' split) <;> simp only [State.setSlot_keeps (h.mono (by
    decide)), -Nat.reducePow]

theorem State.seExpiry_keeps {β : Type} {p : State → β} (h : Ignores p [.regs, .engines]) (s : State) (c : Nat) :
    p (State.seExpiry s c) = p s := by
  simp only [State.seExpiry, -Nat.reducePow]; (repeat' split) <;> simp only [State.logSeLost_keeps (h.mono (by
    decide)), State.setSlot_keeps (h.mono (by decide)), -Nat.reducePow]

theorem State.brgCommand_keeps {β : Type} {p : State → β} (h : Ignores p [.regs]) (s : State) (g p1 : Nat) (f :
    State → State) (hf : ∀ t, p (f t) = p t) :
    p (State.brgCommand s g p1 f) = p s := by
  simp only [State.brgCommand, apply_ite p, ite_self, State.refuse_keeps (h.mono (by decide)), hf, -Nat.reducePow]

theorem State.cmdDiscover_keeps {β : Type} {p : State → β} (h : Ignores p [.regs, .links, .engines, .cams, .records,
    .fresh, .out]) (s : State) (g p1 : Nat) :
    p (State.cmdDiscover s g p1) = p s := by
  simp only [State.cmdDiscover, implies_true, State.brgCommand_keeps (h.mono (by decide)), State.accept_keeps
    (h.mono (by decide)), State.startDiscovery_keeps (h.mono (by decide)), -Nat.reducePow]

theorem State.lockRequest_keeps {β : Type} {p : State → β} (h : Ignores p [.regs, .links, .engines, .cams, .records,
    .fresh, .out]) (s : State) (c op : Nat) (p1 : Purpose) :
    p (State.lockRequest s c op p1) = p s := by
  simp only [State.lockRequest, State.draw_keeps (h.mono (by decide)), State.enqueue_keeps (h.mono (by decide)),
    State.downCheck_keeps (h.mono (by decide)), -Nat.reducePow]

theorem State.cmdLock_keeps {β : Type} {p : State → β} (h : Ignores p [.regs, .links, .engines, .cams, .records,
    .fresh, .out]) (s : State) (g p1 : Nat) :
    p (State.cmdLock s g p1) = p s := by
  simp only [State.cmdLock, apply_ite p, ite_self, implies_true, State.brgCommand_keeps (h.mono (by decide)),
    State.refuse_keeps (h.mono (by decide)), State.accept_keeps (h.mono (by decide)), State.put_keeps (h.mono (by
    decide)), State.setEngine_keeps (h.mono (by decide)), State.lockRequest_keeps (h.mono (by decide)),
    -Nat.reducePow]

theorem State.cmdUnlock_keeps {β : Type} {p : State → β} (h : Ignores p [.regs, .links, .engines, .cams, .records,
    .fresh, .out]) (s : State) (g p1 : Nat) :
    p (State.cmdUnlock s g p1) = p s := by
  simp only [State.cmdUnlock, apply_ite p, ite_self, State.refuse_keeps (h.mono (by decide)), State.accept_keeps
    (h.mono (by decide)), State.lockRequest_keeps (h.mono (by decide)), -Nat.reducePow]

theorem State.cmdPcWrite_keeps {β : Type} {p : State → β} (h : Ignores p [.regs, .links, .engines, .cams, .records,
    .fresh, .out]) (s : State) (g p1 : Nat) :
    p (State.cmdPcWrite s g p1) = p s := by
  simp only [State.cmdPcWrite, apply_ite p, ite_self, implies_true, State.brgCommand_keeps (h.mono (by decide)),
    State.refuse_keeps (h.mono (by decide)), State.accept_keeps (h.mono (by decide)), State.put_keeps (h.mono (by
    decide)), State.deviceWord_keeps (h.mono (by decide)), -Nat.reducePow]

theorem State.cmdClearFail_keeps {β : Type} {p : State → β} (h : Ignores p [.regs]) (s : State) (g p1 : Nat) :
    p (State.cmdClearFail s g p1) = p s := by
  simp only [State.cmdClearFail, State.accept_keeps (h.mono (by decide)), State.put_keeps (h.mono (by decide)),
    -Nat.reducePow]

theorem State.lockExpired_keeps {β : Type} {p : State → β} (h : Ignores p [.regs, .links, .engines, .cams, .records,
    .fresh, .out]) (s : State) (g p1 : Nat) :
    p (State.lockExpired s g p1) = p s := by
  simp only [State.lockExpired, apply_ite p, ite_self, State.draw_keeps (h.mono (by decide)), State.logEntry_keeps
    (h.mono (by decide)), State.raise_keeps (h.mono (by decide)), State.lockRequest_keeps (h.mono (by decide)),
    -Nat.reducePow]

theorem State.pollTick_keeps {β : Type} {p : State → β} (h : Ignores p [.regs, .links, .engines, .cams, .records,
    .fresh, .out]) (s : State) (g p1 : Nat) :
    p (State.pollTick s g p1) = p s := by
  simp only [State.pollTick, apply_ite p, ite_self, State.inc_keeps (h.mono (by decide)), State.setEngine_keeps
    (h.mono (by decide)), State.enqueue_keeps (h.mono (by decide)), State.downCheck_keeps (h.mono (by decide)),
    -Nat.reducePow]

theorem State.writePollCfg_keeps {β : Type} {p : State → β} (h : Ignores p [.regs, .engines]) (s : State) (g p1 :
    Nat) (w : Word) :
    p (State.writePollCfg s g p1 w) = p s := by
  simp only [State.writePollCfg, apply_ite p, ite_self, State.refuse_keeps (h.mono (by decide)),
    State.setEngine_keeps (h.mono (by decide)), State.put_keeps (h.mono (by decide)), -Nat.reducePow]

theorem State.endStats_keeps {β : Type} {p : State → β} (h : Ignores p [.cams, .records]) (s : State) (k : Packet)
    (done : Bool) :
    p (State.endStats s k done) = p s := by
  simp only [State.endStats, -Nat.reducePow]; (repeat' split) <;> simp only [State.freeBank_keeps (h.mono (by
    decide)), State.flagRecord_keeps (h.mono (by decide)), -Nat.reducePow]

theorem State.endPacket_keeps {β : Type} {p : State → β} (h : Ignores p [.cams, .records]) (s : State) (k : Packet)
    (done : Bool) :
    p (State.endPacket s k done) = p s := by
  simp only [State.endPacket, -Nat.reducePow]; (repeat' split) <;> simp only [State.endStats_keeps (h.mono (by
    decide)), State.retireFrames_keeps (h.mono (by decide)), -Nat.reducePow]

theorem State.reserveNext_keeps {β : Type} {p : State → β} (h : Ignores p [.regs, .cams, .records, .queues, .prods])
    (s : State) (p1 : Nat) :
    p (State.reserveNext s p1) = p s := by
  simp only [State.reserveNext, -Nat.reducePow]; (repeat' split) <;> simp only [State.setProd_keeps (h.mono (by
    decide)), State.reserve_keeps (h.mono (by decide)), State.endPacket_keeps (h.mono (by decide)), -Nat.reducePow]

theorem State.takeReserved_keeps {β : Type} {p : State → β} (h : Ignores p [.supply, .regs, .cams, .records, .banks,
    .prods, .badLinks, .faults]) (s : State) (p1 : Nat) (k : Packet) :
    p (s.takeReserved p1 k) = p s := by
  unfold State.takeReserved
  split
  · rw [State.endPacket_keeps (h.mono (by decide)), State.abandonOpen_keeps (h.mono (by decide))]
  · rename_i n t e
    have h1 := State.takeCell_keeps (h.mono (by decide)) s _ n t e
    rw [State.setProd_keeps (h.mono (by decide)), State.linkWritten_keeps (h.mono (by decide)), h1]

theorem State.cellTake_keeps {β : Type} {p : State → β} (h : Ignores p [.supply, .regs, .cfg, .links, .engines,
    .cams, .slices, .seams, .moulds, .strobes, .records, .queues, .banks, .prods, .badLinks, .rings, .faults, .smb,
    .fresh, .out]) (s : State) (p1 : Nat) (stack : Ecc) :
    p (State.cellTake s p1 stack) = p s := by
  simp only [State.cellTake, -Nat.reducePow]; (repeat' split) <;> simp only [State.freeUe_keeps (h.mono (by
    decide)), State.takeReserved_keeps (h.mono (by decide)), -Nat.reducePow]

theorem State.commit_keeps {β : Type} {p : State → β} (h : Ignores p [.supply, .regs, .cams, .records, .queues,
    .banks, .prods, .badLinks, .faults, .fresh]) (s : State) (p1 : Nat) :
    p (State.commit s p1) = p s := by
  simp only [State.commit, -Nat.reducePow]; (repeat' split) <;> simp only [State.linkWritten_keeps (h.mono (by
    decide)), State.commitOpen_keeps (h.mono (by decide)), State.endPacket_keeps (h.mono (by decide)),
    State.flushCheck_keeps (h.mono (by decide)), -Nat.reducePow]

theorem State.popQueue_keeps {β : Type} {p : State → β} (h : Ignores p [.supply, .regs, .cfg, .links, .engines,
    .cams, .slices, .seams, .moulds, .strobes, .records, .queues, .banks, .prods, .rings, .faults, .smb, .fresh, .out])
    (s : State) (q : Nat) (copiesDiffer : Bool) :
    p (State.popQueue s q copiesDiffer) = p s := by
  simp only [State.popQueue, apply_ite p, ite_self, State.dupMismatch_keeps (h.mono (by decide)),
    State.pourStart_keeps (h.mono (by decide)), State.claim_keeps (h.mono (by decide)), -Nat.reducePow]

theorem State.walkCell_keeps {β : Type} {p : State → β} (h : Ignores p [.supply, .regs, .cfg, .links, .engines,
    .cams, .slices, .seams, .moulds, .strobes, .records, .queues, .banks, .prods, .rings, .faults, .smb, .fresh, .out])
    (s : State) (q n : Nat) (left : List Nat) (link : Ecc) :
    p (State.walkCell s q n left link) = p s := by
  simp only [State.walkCell, -Nat.reducePow]; (repeat' split) <;> simp only [State.returnCell_keeps (h.mono (by
    decide)), State.touch_keeps (h.mono (by decide)), State.linkCe_keeps (h.mono (by decide)), State.setQueue_keeps
    (h.mono (by decide)), State.strayCells_keeps (h.mono (by decide)), State.linkUe_keeps (h.mono (by decide)),
    -Nat.reducePow]

theorem State.returnMarked_keeps {β : Type} {p : State → β} (h : Ignores p [.supply, .regs, .cfg, .links, .engines,
    .cams, .slices, .seams, .moulds, .strobes, .records, .queues, .banks, .prods, .rings, .faults, .smb, .fresh, .out])
    (s : State) (q : Nat) (link : Ecc) :
    p (State.returnMarked s q link) = p s := by
  simp only [State.returnMarked, -Nat.reducePow]; (repeat' split) <;> simp only [State.flushCheck_keeps (h.mono (by
    decide)), State.setQueue_keeps (h.mono (by decide)), State.walkCell_keeps (h.mono (by decide)), -Nat.reducePow]

theorem State.cellReturn_keeps {β : Type} {p : State → β} (h : Ignores p [.supply, .regs, .cfg, .links, .engines,
    .cams, .slices, .seams, .moulds, .strobes, .records, .queues, .banks, .prods, .rings, .faults, .smb, .fresh, .out])
    (s : State) (q : Nat) (link : Ecc) :
    p (State.cellReturn s q link) = p s := by
  simp only [State.cellReturn, -Nat.reducePow]; (repeat' split) <;> simp only [State.setQueue_keeps (h.mono (by
    decide)), State.returnCell_keeps (h.mono (by decide)), State.touch_keeps (h.mono (by decide)),
    State.walkCell_keeps (h.mono (by decide)), State.returnMarked_keeps (h.mono (by decide)), -Nat.reducePow]

theorem State.flushCmd_keeps {β : Type} {p : State → β} (h : Ignores p [.regs, .queues, .prods, .fresh]) (s : State)
    (q : Nat) :
    p (State.flushCmd s q) = p s := by
  simp only [State.flushCmd, apply_ite p, ite_self, State.refuse_keeps (h.mono (by decide)), State.flushQueue_keeps
    (h.mono (by decide)), State.flushCheck_keeps (h.mono (by decide)), -Nat.reducePow]

theorem State.flushWalk_keeps {β : Type} {p : State → β} (h : Ignores p [.supply, .regs, .cfg, .links, .engines,
    .cams, .slices, .seams, .moulds, .strobes, .records, .queues, .banks, .prods, .rings, .faults, .smb, .fresh, .out])
    (s : State) (q : Nat) (links : List Ecc) (n : Nat) :
    p (s.flushWalk q links n) = p s := by
  induction n generalizing s links with
  | zero => rw [State.flushWalk]
  | succ n ih => rw [State.flushWalk, ih, State.returnMarked_keeps (h.mono (by decide))]

theorem State.flushEnd_keeps {β : Type} {p : State → β} (h : Ignores p [.supply, .regs, .cfg, .links, .engines,
    .cams, .slices, .seams, .moulds, .strobes, .records, .queues, .banks, .prods, .rings, .faults, .smb, .fresh, .out])
    (s : State) (q : Nat) (links : List Ecc) :
    p (State.flushEnd s q links) = p s := by
  simp only [State.flushEnd, apply_ite p, ite_self, State.flushWalk_keeps (h.mono (by decide)),
    State.flushCheck_keeps (h.mono (by decide)), -Nat.reducePow]

theorem State.releaseQueue_keeps {β : Type} {p : State → β} (h : Ignores p [.regs]) (s : State) (q : Nat) :
    p (State.releaseQueue s q) = p s := by
  simp only [State.releaseQueue, apply_ite p, ite_self, State.put_keeps (h.mono (by decide)), State.refuse_keeps
    (h.mono (by decide)), -Nat.reducePow]

theorem State.clrOvr_keeps {β : Type} {p : State → β} (h : Ignores p [.regs]) (s : State) (q : Nat) :
    p (State.clrOvr s q) = p s := by
  simp only [State.clrOvr, apply_ite p, ite_self, State.put_keeps (h.mono (by decide)), -Nat.reducePow]

theorem State.writeQCfg_keeps {β : Type} {p : State → β} (h : Ignores p [.regs]) (s : State) (q : Nat) (en ordered :
    Bool) (consumer unit : Nat) :
    p (State.writeQCfg s q en ordered consumer unit) = p s := by
  simp only [State.writeQCfg, apply_ite p, ite_self, State.refuse_keeps (h.mono (by decide)), State.putB_keeps
    (h.mono (by decide)), State.put_keeps (h.mono (by decide)), -Nat.reducePow]

theorem State.writeQLimit_keeps {β : Type} {p : State → β} (h : Ignores p [.regs]) (s : State) (q v : Nat) :
    p (State.writeQLimit s q v) = p s := by
  simp only [State.writeQLimit, apply_ite p, ite_self, State.refuse_keeps (h.mono (by decide)), State.put_keeps
    (h.mono (by decide)), -Nat.reducePow]

theorem State.writeOrderEn_keeps {β : Type} {p : State → β} (h : Ignores p [.regs]) (s : State) (v : Bool) :
    p (State.writeOrderEn s v) = p s := by
  simp only [State.writeOrderEn, apply_ite p, ite_self, State.refuse_keeps (h.mono (by decide)), State.putB_keeps
    (h.mono (by decide)), -Nat.reducePow]

theorem State.scrub_keeps {β : Type} {p : State → β} (h : Ignores p [.supply, .regs, .cfg, .links, .engines, .cams,
    .slices, .seams, .moulds, .strobes, .records, .queues, .banks, .prods, .badLinks, .rings, .faults, .smb, .fresh,
    .out]) (s : State) (f : ScrubFinding) :
    p (State.scrub s f) = p s := by
  simp only [State.scrub, -Nat.reducePow]; (repeat' split) <;> simp only [implies_true, State.dupMismatch_keeps
    (h.mono (by decide)), State.inc_keeps (h.mono (by decide)), State.occurAuto_keeps (h.mono (by decide)),
    State.put_keeps (h.mono (by decide)), State.recordAuto_keeps (h.mono (by decide)), State.when_p p,
    State.freeUe_keeps (h.mono (by decide)), State.occurWord_keeps (h.mono (by decide)), State.put64_keeps (h.mono (by
    decide)), State.each_p p, State.wakeChannel_keeps (h.mono (by decide)), h.badLinks (by decide), -Nat.reducePow]

theorem State.sweepCmd_keeps {β : Type} {p : State → β} (h : Ignores p [.regs, .banks]) (s : State) (b : Nat) :
    p (State.sweepCmd s b) = p s := by
  simp only [State.sweepCmd, apply_ite p, ite_self, State.refuse_keeps (h.mono (by decide)), State.startSweep_keeps
    (h.mono (by decide)), State.accept_keeps (h.mono (by decide)), -Nat.reducePow]

theorem State.sweepDone_keeps {β : Type} {p : State → β} (h : Ignores p [.supply, .regs, .cfg, .links, .engines,
    .cams, .slices, .seams, .moulds, .strobes, .records, .queues, .banks, .prods, .rings, .faults, .smb, .fresh, .out])
    (s : State) (b : Nat) :
    p (State.sweepDone s b) = p s := by
  simp only [State.sweepDone, apply_ite p, ite_self, State.endSweep_keeps (h.mono (by decide)), State.occur_keeps
    (h.mono (by decide)), State.disarm_keeps (h.mono (by decide)), State.inc_keeps (h.mono (by decide)),
    State.wantSweep_keeps (h.mono (by decide)), -Nat.reducePow]

theorem State.claimFor_keeps {β : Type} {p : State → β} (h : Ignores p [.regs, .queues, .fresh]) (s : State) (q : Nat) :
    p (State.claimFor s q) = p s := by
  simp only [State.claimFor, apply_ite p, ite_self, State.claim_keeps (h.mono (by decide)), -Nat.reducePow]

theorem State.readCells_keeps {β : Type} {p : State → β} (h : Ignores p [.fresh]) (s : State) (p1 : Packet) (dead :
    List Nat) :
    p (State.readCells s p1 dead).2 = p s := by
  simp only [State.readCells, -Nat.reducePow]; (repeat' split) <;> simp only [State.drawBytes_keeps (h.mono (by
    decide)), -Nat.reducePow]

theorem State.readOut_keeps {β : Type} {p : State → β} (h : Ignores p [.supply, .regs, .cfg, .links, .engines,
    .cams, .slices, .seams, .moulds, .strobes, .records, .queues, .banks, .prods, .rings, .faults, .smb, .fresh, .out])
    (s : State) (q : Nat) (links : List Ecc) :
    p (State.readOut s q links).2 = p s := by
  simp only [State.readOut, -Nat.reducePow]; (repeat' split) <;> simp only [implies_true, State.readUpTo_keeps
    (h.mono (by decide)), State.linkUe_keeps (h.mono (by decide)), State.each_p p, State.linkCe_keeps (h.mono (by
    decide)), State.endClaim_keeps (h.mono (by decide)), State.readCells_keeps (h.mono (by decide)), State.hbmUe_keeps
    (h.mono (by decide)), -Nat.reducePow]

theorem State.forceLine_keeps {β : Type} {p : State → β} (h : Ignores p [.supply, .regs, .cfg, .links, .engines,
    .cams, .slices, .seams, .moulds, .strobes, .records, .queues, .banks, .prods, .rings, .faults, .smb, .fresh, .out])
    (s : State) (u : Nat) (bad : List (Nat × Nat)) :
    p (State.forceLine s u bad) = p s := by
  simp only [State.forceLine, implies_true, State.forceStrip_keeps (h.mono (by decide)), State.each_p p,
    State.hbmUe_keeps (h.mono (by decide)), -Nat.reducePow]

theorem State.forceUntil_keeps {β : Type} {p : State → β} (h : Ignores p [.supply, .regs, .cfg, .links, .engines,
    .cams, .slices, .seams, .moulds, .strobes, .records, .queues, .banks, .prods, .rings, .faults, .smb, .fresh, .out])
    (s : State) (u i k : Nat) (bad : List (Nat × Nat)) (n : Nat) :
    p (s.forceUntil u i k bad n) = p s := by
  induction n generalizing s with
  | zero => rw [State.forceUntil]
  | succ n ih =>
    rw [State.forceUntil]
    split
    · rw [ih, State.forceLine_keeps (h.mono (by decide))]
    · rfl

theorem State.takeMember_keeps {β : Type} {p : State → β} (h : Ignores p [.supply, .regs, .cfg, .links, .engines,
    .cams, .slices, .seams, .moulds, .strobes, .records, .queues, .banks, .prods, .rings, .faults, .smb, .hbm, .fresh,
    .out]) (s : State) (u i : Nat) (p1 : Packet) (bad : List (Nat × Nat)) :
    p (State.takeMember s u i p1 bad) = p s := by
  simp only [State.takeMember, apply_ite p, ite_self, State.badMember_keeps (h.mono (by decide)), State.inc_keeps
    (h.mono (by decide)), State.raise_keeps (h.mono (by decide)), State.forceUntil_keeps (h.mono (by decide)),
    State.storeMember_keeps (h.mono (by decide)), -Nat.reducePow]

theorem State.seamPacket_keeps {β : Type} {p : State → β} (h : Ignores p [.supply, .regs, .cfg, .links, .engines,
    .cams, .slices, .seams, .moulds, .strobes, .records, .queues, .banks, .prods, .rings, .faults, .smb, .hbm, .fresh,
    .out]) (s : State) (u i : Nat) (links : List Ecc) (bad : List (Nat × Nat)) :
    p (s.seamPacket u i links bad) = p s := by
  unfold State.seamPacket
  split
  · rfl
  · extract_lets q
    have h1 : p ((s.claimFor q).readOut q links).2 = p s := by
      rw [State.readOut_keeps (h.mono (by decide)), State.claimFor_keeps (h.mono (by decide))]
    generalize (s.claimFor q).readOut q links = r at h1 ⊢
    obtain ⟨_ | k, t⟩ := r
    · exact h1
    · exact (State.takeMember_keeps (h.mono (by decide)) _ _ _ _ _).trans h1

theorem State.mouldPacket_keeps {β : Type} {p : State → β} (h : Ignores p [.supply, .regs, .cfg, .links, .engines,
    .cams, .slices, .seams, .moulds, .strobes, .records, .queues, .banks, .prods, .rings, .faults, .smb, .hbm, .fresh,
    .out]) (s : State) (m n : Nat) (links : List Ecc) :
    p (s.mouldPacket m n links) = p s := by
  unfold State.mouldPacket
  split
  · rfl
  · extract_lets q
    have h1 : p ((s.claimFor q).readOut q links).2 = p s := by
      rw [State.readOut_keeps (h.mono (by decide)), State.claimFor_keeps (h.mono (by decide))]
    generalize (s.claimFor q).readOut q links = r at h1 ⊢
    obtain ⟨_ | k, t⟩ := r
    · exact h1
    · exact (State.takeTile_keeps (h.mono (by decide)) _ _ _ _).trans h1

theorem State.seamForm_keeps {β : Type} {p : State → β} (h : Ignores p [.supply, .regs, .cfg, .links, .engines,
    .cams, .slices, .seams, .moulds, .strobes, .records, .queues, .banks, .prods, .rings, .faults, .smb, .fresh, .out])
    (s : State) (u : Nat) (bad : List (Nat × Nat)) :
    p (State.seamForm s u bad) = p s := by
  simp only [State.seamForm, apply_ite p, ite_self, implies_true, State.emitStrip_keeps (h.mono (by decide)),
    State.nextStrip_keeps (h.mono (by decide)), State.each_p p, State.hbmUe_keeps (h.mono (by decide)),
    -Nat.reducePow]

theorem State.seamTimeout_keeps {β : Type} {p : State → β} (h : Ignores p [.supply, .regs, .cfg, .links, .engines,
    .cams, .slices, .seams, .moulds, .strobes, .records, .queues, .banks, .prods, .rings, .faults, .smb, .fresh, .out])
    (s : State) (u : Nat) (bad : List (Nat × Nat)) :
    p (State.seamTimeout s u bad) = p s := by
  simp only [State.seamTimeout, apply_ite p, ite_self, State.seamForm_keeps (h.mono (by decide)),
    State.forceLine_keeps (h.mono (by decide)), -Nat.reducePow]

theorem State.tilePeriods_keeps {β : Type} {p : State → β} (h : Ignores p [.moulds]) (s : State) (m : Nat) (latch :
    Bool) :
    p (State.tilePeriods s m latch) = p s := by
  simp only [State.tilePeriods, apply_ite p, ite_self, implies_true, State.each_p p, State.setTile_keeps (h.mono (by
    decide)), -Nat.reducePow]

theorem State.mouldFrame_keeps {β : Type} {p : State → β} (h : Ignores p [.regs, .time, .moulds]) (s : State) (m :
    Nat) :
    p (State.mouldFrame s m) = p s := by
  simp only [State.mouldFrame, -Nat.reducePow]; (repeat' split) <;> simp only [State.reach_keeps (h.mono (by
    decide)), State.tilePeriods_keeps (h.mono (by decide)), State.setMould_keeps (h.mono (by decide)), State.inc_keeps
    (h.mono (by decide)), State.raise_keeps (h.mono (by decide)), -Nat.reducePow]

theorem State.readPanel_keeps {β : Type} {p : State → β} (h : Ignores p [.supply, .regs]) (s : State) (m y : Nat) :
    p (State.readPanel s m y) = p s := by
  simp only [State.readPanel, apply_ite p, ite_self, implies_true, State.each_p p, State.touch_keeps (h.mono (by
    decide)), -Nat.reducePow]

theorem State.mouldLine_keeps {β : Type} {p : State → β} (h : Ignores p [.supply, .regs, .cfg, .links, .engines,
    .cams, .slices, .seams, .moulds, .strobes, .records, .queues, .banks, .prods, .rings, .faults, .smb, .fresh, .out])
    (s : State) (m : Nat) (bad : List Nat) :
    p (State.mouldLine s m bad) = p s := by
  simp only [State.mouldLine, -Nat.reducePow]; (repeat' split) <;> simp only [implies_true, State.readPanel_keeps
    (h.mono (by decide)), State.pushPacket_keeps (h.mono (by decide)), State.setMould_keeps (h.mono (by decide)),
    State.each_p p, State.hbmUe_keeps (h.mono (by decide)), -Nat.reducePow]

theorem State.tileStale_keeps {β : Type} {p : State → β} (h : Ignores p [.regs]) (s : State) (m n : Nat) :
    p (State.tileStale s m n) = p s := by
  simp only [State.tileStale, apply_ite p, ite_self, State.setStale_keeps (h.mono (by decide)), State.raise_keeps
    (h.mono (by decide)), -Nat.reducePow]

theorem State.padHead_keeps {β : Type} {p : State → β} (h : Ignores p [.links]) (s : State) (c : Nat) :
    p (State.padHead s c) = p s := by
  simp only [State.padHead, -Nat.reducePow]; (repeat' split) <;> simp only [State.setLink_keeps (h.mono (by
    decide)), -Nat.reducePow]

theorem State.countSite_keeps {β : Type} {p : State → β} (h : Ignores p [.regs, .links, .banks]) (s : State) (p1 :
    Page) (n bit detail loc : Nat) :
    p (State.countSite s p1 n bit detail loc) = p s := by
  simp only [State.countSite, -Nat.reducePow]; (repeat' split) <;> simp only [State.inc_keeps (h.mono (by decide)),
    State.put_keeps (h.mono (by decide)), State.loseFree_keeps (h.mono (by decide)), State.put64_keeps (h.mono (by
    decide)), State.padHead_keeps (h.mono (by decide)), -Nat.reducePow]

theorem State.clockStatus_keeps {β : Type} {p : State → β} (h : Ignores p [.regs]) (s : State) (p1 : Page) (bit :
    Nat) (good : Bool) :
    p (State.clockStatus s p1 bit good) = p s := by
  simp only [State.clockStatus, apply_ite p, ite_self, State.putB_keeps (h.mono (by decide)), -Nat.reducePow]

theorem State.occurPulse_keeps {β : Type} {p : State → β} (h : Ignores p [.regs, .faults]) (s : State) (p1 : Page)
    (n bit : Nat) (acked : Bool) :
    p (State.occurPulse s p1 n bit acked) = p s := by
  simp only [State.occurPulse, apply_ite p, ite_self, State.pulse_keeps (h.mono (by decide)), -Nat.reducePow]

theorem State.shadowMismatch_keeps {β : Type} {p : State → β} (h : Ignores p [.regs, .cfg, .engines, .strobes,
    .faults, .smb, .fresh, .out]) (s : State) (loc : Nat) (real : Bool) :
    p (State.shadowMismatch s loc real) = p s := by
  simp only [State.shadowMismatch, State.noteEvent_keeps (h.mono (by decide)), State.occurRecord_keeps (h.mono (by
    decide)), State.quench_keeps (h.mono (by decide)), -Nat.reducePow]

theorem State.siteOccurs_keeps {β : Type} {p : State → β} (h : Ignores p [.supply, .regs, .cfg, .gates, .links,
    .engines, .cams, .slices, .seams, .moulds, .strobes, .records, .queues, .banks, .prods, .rings, .faults, .smb,
    .fresh, .out]) (s : State) (p1 : Page) (n bit detail : Nat) (real acked : Bool) (loc : Nat) :
    p (State.siteOccurs s p1 n bit detail real acked loc) = p s := by
  simp only [State.siteOccurs, apply_ite p, ite_self, State.disarm_keeps (h.mono (by decide)),
    State.occurPulse_keeps (h.mono (by decide)), State.shadowMismatch_keeps (h.mono (by decide)), State.occur_keeps
    (h.mono (by decide)), State.clockLoss_keeps (h.mono (by decide)), State.alignLoss_keeps (h.mono (by decide)),
    State.countSite_keeps (h.mono (by decide)), State.clockStatus_keeps (h.mono (by decide)), State.containQueue_keeps
    (h.mono (by decide)), -Nat.reducePow]

theorem State.siteClears_keeps {β : Type} {p : State → β} (h : Ignores p [.supply, .regs, .faults]) (s : State) (p1
    : Page) (n bit detail : Nat) :
    p (State.siteClears s p1 n bit detail) = p s := by
  simp only [State.siteClears, apply_ite p, ite_self, State.setLive_keeps (h.mono (by decide)),
    State.clockStatus_keeps (h.mono (by decide)), h.supply (by decide), -Nat.reducePow]

theorem State.clearSticky_keeps {β : Type} {p : State → β} (h : Ignores p [.regs]) (s : State) (page bits : Nat) :
    p (State.clearSticky s page bits) = p s := by
  simp only [State.clearSticky, apply_ite p, ite_self, State.put_keeps (h.mono (by decide)), -Nat.reducePow]

theorem State.escExpiry_keeps {β : Type} {p : State → β} (h : Ignores p [.supply, .regs, .cfg, .time, .links,
    .engines, .cams, .slices, .seams, .moulds, .strobes, .records, .queues, .banks, .prods, .rings, .faults, .smb,
    .fresh, .out]) (s : State) (page : Nat) :
    p (State.escExpiry s page) = p s := by
  simp only [State.escExpiry, apply_ite p, ite_self, State.reach_keeps (h.mono (by decide)), State.expire_keeps
    (h.mono (by decide)), -Nat.reducePow]

theorem State.ackEsc_keeps {β : Type} {p : State → β} (h : Ignores p [.supply, .regs, .cfg, .links, .engines, .cams,
    .slices, .seams, .moulds, .strobes, .records, .queues, .banks, .prods, .rings, .faults, .smb, .fresh, .out]) (s :
    State) (page : Nat) :
    p (State.ackEsc s page) = p s := by
  simp only [State.ackEsc, apply_ite p, ite_self, State.stopEsc_keeps (h.mono (by decide)), State.expire_keeps
    (h.mono (by decide)), State.put_keeps (h.mono (by decide)), -Nat.reducePow]

theorem State.cmdRelease_keeps {β : Type} {p : State → β} (h : Ignores p [.supply, .regs, .gates, .links, .engines,
    .cams, .slices, .seams, .moulds, .records, .queues, .banks, .prods, .chks, .faults, .fresh, .out]) (s : State) (p1 :
    Page) (n scope index port : Nat) :
    p (State.cmdRelease s p1 n scope index port) = p s := by
  simp only [State.cmdRelease, -Nat.reducePow]; (repeat' split) <;> simp only [State.refuse_keeps (h.mono (by
    decide)), State.accept_keeps (h.mono (by decide)), State.releaseUnit_keeps (h.mono (by decide)), -Nat.reducePow]

theorem State.cmdFence_keeps {β : Type} {p : State → β} (h : Ignores p [.supply, .regs, .links, .engines, .cams,
    .slices, .seams, .moulds, .strobes, .records, .queues, .banks, .prods, .rings, .faults, .fresh, .out]) (s : State)
    (p1 : Page) (n scope index port : Nat) :
    p (State.cmdFence s p1 n scope index port) = p s := by
  simp only [State.cmdFence, -Nat.reducePow]; (repeat' split) <;> simp only [State.refuse_keeps (h.mono (by
    decide)), State.accept_keeps (h.mono (by decide)), State.unpend_keeps (h.mono (by decide)), State.fenceUnit_keeps
    (h.mono (by decide)), -Nat.reducePow]

theorem State.armFault_keeps {β : Type} {p : State → β} (h : Ignores p [.regs, .faults]) (s : State) (p1 : Page) (n
    bit detail : Nat) :
    p (State.armFault s p1 n bit detail) = p s := by
  simp only [State.armFault, apply_ite p, ite_self, State.refuse_keeps (h.mono (by decide)), State.put_keeps (h.mono
    (by decide)), h.faults (by decide), -Nat.reducePow]

theorem State.remapDone_keeps {β : Type} {p : State → β} (h : Ignores p [.supply, .regs, .cams, .slices, .faults])
    (s : State) (ns : Nat) :
    p (State.remapDone s ns) = p s := by
  simp only [State.remapDone, -Nat.reducePow]; (repeat' split) <;> simp only [implies_true, State.put_keeps (h.mono
    (by decide)), State.inc_keeps (h.mono (by decide)), State.setSlice_keeps (h.mono (by decide)), State.each_p p,
    State.reloadColumns_keeps (h.mono (by decide)), h.faults (by decide), -Nat.reducePow]

theorem State.onPage_keeps {β : Type} {p : State → β} (h : Ignores p []) (s : State) (page : Nat) (f : State → Page
    → Nat → State) (hf : ∀ t a n, p (f t a n) = p t) :
    p (State.onPage s page f) = p s := by
  simp only [State.onPage, -Nat.reducePow]; (repeat' split) <;> simp only [hf, -Nat.reducePow]

theorem State.refclkSeen_keeps {β : Type} {p : State → β} (h : Ignores p [.supply]) (s : State) (page bit : Nat)
    (present : Bool) :
    p (State.refclkSeen s page bit present) = p s := by
  simp only [State.refclkSeen, apply_ite p, ite_self, h.supply (by decide), -Nat.reducePow]

theorem State.writeRingReg_keeps {β : Type} {p : State → β} (h : Ignores p [.regs]) (s : State) (q : Nat) (f : Fld)
    (v : Nat) :
    p (State.writeRingReg s q f v) = p s := by
  simp only [State.writeRingReg, apply_ite p, ite_self, State.refuse_keeps (h.mono (by decide)), State.put_keeps
    (h.mono (by decide)), -Nat.reducePow]

theorem State.writeRingCfg_keeps {β : Type} {p : State → β} (h : Ignores p [.regs, .queues, .rings]) (s : State) (q
    : Nat) (w : Word) :
    p (State.writeRingCfg s q w) = p s := by
  simp only [State.writeRingCfg, apply_ite p, ite_self, State.refuse_keeps (h.mono (by decide)), State.put_keeps
    (h.mono (by decide)), State.putB_keeps (h.mono (by decide)), State.setRing_keeps (h.mono (by decide)),
    State.ringStart_keeps (h.mono (by decide)), State.settleDelivery_keeps (h.mono (by decide)), -Nat.reducePow]

theorem State.badAccess_keeps {β : Type} {p : State → β} (h : Ignores p [.regs]) (s : State) :
    p (State.badAccess s) = p s := by
  simp only [State.badAccess, State.inc_keeps (h.mono (by decide)), State.raise_keeps (h.mono (by decide)),
    -Nat.reducePow]

theorem State.doorbell_keeps {β : Type} {p : State → β} (h : Ignores p [.regs, .out]) (s : State) (q enables : Nat)
    (read : Bool)
    (value : Nat) (write : State → State) (hw : ∀ t, p (write t) = p t) : p (s.doorbell q enables read value write)
      = p s := by
  unfold State.doorbell
  (repeat' split) <;> simp only [State.emit_keeps (h.mono (by decide)), State.badAccess_keeps (h.mono (by decide)), hw]

theorem State.descTail_keeps {β : Type} {p : State → β} (h : Ignores p [.rings]) (s : State) (q v : Nat) :
    p (State.descTail s q v) = p s := by
  simp only [State.descTail, apply_ite p, ite_self, State.setRing_keeps (h.mono (by decide)), -Nat.reducePow]

theorem State.cplHead_keeps {β : Type} {p : State → β} (h : Ignores p [.rings]) (s : State) (q v : Nat) :
    p (State.cplHead s q v) = p s := by
  simp only [State.cplHead, apply_ite p, ite_self, State.setRing_keeps (h.mono (by decide)), -Nat.reducePow]

theorem State.irqArm_keeps {β : Type} {p : State → β} (h : Ignores p [.regs, .rings]) (s : State) (q v : Nat) :
    p (State.irqArm s q v) = p s := by
  simp only [State.irqArm, apply_ite p, ite_self, State.put_keeps (h.mono (by decide)), State.ringCheck_keeps
    (h.mono (by decide)), -Nat.reducePow]

theorem State.descRead_keeps {β : Type} {p : State → β} (h : Ignores p [.regs, .queues, .rings, .out]) (s : State)
    (q : Nat) (data : List Byte) (ok : Bool) :
    p (State.descRead s q data ok) = p s := by
  simp only [State.descRead, apply_ite p, ite_self, State.emit_keeps (h.mono (by decide)), State.setRing_keeps
    (h.mono (by decide)), State.settleDelivery_keeps (h.mono (by decide)), -Nat.reducePow]

theorem State.openBuffer_keeps {β : Type} {p : State → β} (h : Ignores p [.rings]) (s : State) (q : Nat) :
    p (State.openBuffer s q) = p s := by
  simp only [State.openBuffer, -Nat.reducePow]; (repeat' split) <;> simp only [State.setRing_keeps (h.mono (by
    decide)), -Nat.reducePow]

theorem State.pourBytes_keeps {β : Type} {p : State → β} (h : Ignores p [.supply, .regs, .queues, .rings, .out]) (s
    : State) (q m : Nat) (d : Delivery) (k : Packet) (addr left : Nat) (bad : Bool) :
    p (State.pourBytes s q m d k addr left bad) = p s := by
  simp only [State.pourBytes, apply_ite p, ite_self, State.emit_keeps (h.mono (by decide)), State.put64_keeps
    (h.mono (by decide)), State.spendTokens_keeps (h.mono (by decide)), State.readUpTo_keeps (h.mono (by decide)),
    State.setDelivery_keeps (h.mono (by decide)), -Nat.reducePow]

theorem State.pourWrite_keeps {β : Type} {p : State → β} (h : Ignores p [.supply, .regs, .cfg, .links, .engines,
    .cams, .slices, .seams, .moulds, .strobes, .records, .queues, .banks, .prods, .rings, .faults, .smb, .fresh, .out])
    (s shut : State) (q n : Nat) (d : Delivery)
    (k : Packet) (addr left : Nat) (link data : Ecc) (hs : p shut = p s) :
    p (s.pourWrite shut q n d k addr left link data) = p s := by
  unfold State.pourWrite
  extract_lets cells prev ecc stop m fails bad a t1 t2 t3 t4
  have h1 : p t1 = p s := by
    show p (if _ then _ else _) = _
    split
    · exact hs
    · exact State.pourBytes_keeps (h.mono (by decide)) _ _ _ _ _ _ _ _
  clear_value t1
  have h2 : p t2 = p t1 := by
    show p (if _ then _ else if _ then _ else _) = _
    (repeat' split) <;> simp only [State.hbmUe_keeps (h.mono (by decide)), State.hbmCe_keeps (h.mono (by decide))]
  clear_value t2
  have h3 : p t3 = p t2 := by
    show p (if _ then _ else _) = _
    split
    · rfl
    · exact State.each_keeps _ _ _ p (fun t i => State.hbmUe_keeps (h.mono (by decide)) _ _)
  clear_value t3
  have h4 : p t4 = p t3 := State.each_keeps _ _ _ p (fun t i => State.linkCe_keeps (h.mono (by decide)) _ _ _)
  clear_value t4
  rw [← h1, ← h2, ← h3, ← h4]
  clear_value stop
  cases stop
  · rw [State.settleDelivery_keeps (h.mono (by decide))]
  · rw [State.linkUe_keeps (h.mono (by decide)), State.chainErr_keeps (h.mono (by decide))]

theorem State.pourData_keeps {β : Type} {p : State → β} (h : Ignores p [.supply, .regs, .cfg, .links, .engines,
    .cams, .slices, .seams, .moulds, .strobes, .records, .queues, .banks, .prods, .rings, .faults, .smb, .fresh, .out])
    (s : State) (q : Nat) (link data : Ecc) :
    p (s.pourData q link data) = p s := by
  unfold State.pourData
  extract_lets shut t
  have h1 : p shut = p s := State.settleDelivery_keeps (h.mono (by decide)) s q
  clear_value shut
  have h2 : p t = p shut := State.openBuffer_keeps (h.mono (by decide)) _ _
  clear_value t
  rw [← h1, ← h2]
  split
  · split
    · exact State.pourWrite_keeps (h.mono (by decide)) _ _ _ _ _ _ _ _ _ _ h2.symm
    · rfl
  · rfl

theorem State.completion_keeps {β : Type} {p : State → β} (h : Ignores p [.supply, .regs, .queues, .rings, .fresh,
    .out]) (s : State) (q : Nat) :
    p (State.completion s q) = p s := by
  simp only [State.completion, -Nat.reducePow]; (repeat' split) <;> simp only [State.complete_keeps (h.mono (by
    decide)), -Nat.reducePow]

theorem State.endTurn_keeps {β : Type} {p : State → β} (h : Ignores p [.cfg]) (s : State) (q : Nat) :
    p (State.endTurn s q) = p s := by
  simp only [State.endTurn, h.cfg (by decide), -Nat.reducePow]

theorem State.holdoffExpiry_keeps {β : Type} {p : State → β} (h : Ignores p [.regs, .rings]) (s : State) (q : Nat) :
    p (State.holdoffExpiry s q) = p s := by
  simp only [State.holdoffExpiry, apply_ite p, ite_self, State.ringRequest_keeps (h.mono (by decide)), -Nat.reducePow]

theorem State.tableRead_keeps {β : Type} {p : State → β} (h : Ignores p [.loads, .out]) (s : State) (c : Nat) :
    p (State.tableRead s c) = p s := by
  simp only [State.tableRead, -Nat.reducePow]; (repeat' split) <;> simp only [State.emit_keeps (h.mono (by decide)),
    h.loads (by decide), -Nat.reducePow]

theorem State.sendVector_keeps {β : Type} {p : State → β} (h : Ignores p [.regs, .out]) (s : State) (v : Nat) :
    p (State.sendVector s v) = p s := by
  simp only [State.sendVector, apply_ite p, ite_self, State.emit_keeps (h.mono (by decide)), State.put_keeps (h.mono
    (by decide)), -Nat.reducePow]

theorem State.linkChange_keeps {β : Type} {p : State → β} (h : Ignores p [.regs]) (s : State) (up : Bool) (speed
    width : Nat) (flit : Bool) :
    p (State.linkChange s up speed width flit) = p s := by
  simp only [State.linkChange, apply_ite p, ite_self, State.putB_keeps (h.mono (by decide)), State.put_keeps (h.mono
    (by decide)), State.inc_keeps (h.mono (by decide)), State.raise_keeps (h.mono (by decide)), -Nat.reducePow]

theorem State.d3hotEntry_keeps {β : Type} {p : State → β} (h : Ignores p [.regs, .cfg, .queues, .rings]) (s : State) :
    p (State.d3hotEntry s) = p s := by
  simp only [State.d3hotEntry, implies_true, State.each_p p, State.settleDelivery_keeps (h.mono (by decide)), h.cfg
    (by decide), -Nat.reducePow]

theorem State.shiftTokens_keeps {β : Type} {p : State → β} (h : Ignores p [.rings]) (s : State) (by_ : Int) :
    p (State.shiftTokens s by_) = p s := by
  simp only [State.shiftTokens, h.rings (by decide), -Nat.reducePow]

theorem State.stepTime_keeps {β : Type} {p : State → β} (h : Ignores p [.regs, .time, .timers, .rings]) (s : State)
    (ns : Nat) :
    p (State.stepTime s ns) = p s := by
  simp only [State.stepTime, State.shiftTokens_keeps (h.mono (by decide)), State.realignTimers_keeps (h.mono (by
    decide)), State.raise_keeps (h.mono (by decide)), h.time (by decide), -Nat.reducePow]

theorem State.ptmDone_keeps {β : Type} {p : State → β} (h : Ignores p [.regs, .time, .timers, .rings]) (s : State)
    (t1 t4 t2 t3 : Nat) :
    p (State.ptmDone s t1 t4 t2 t3) = p s := by
  simp only [State.ptmDone, apply_ite p, ite_self, State.put_keeps (h.mono (by decide)), State.inc_keeps (h.mono (by
    decide)), State.stepTime_keeps (h.mono (by decide)), h.time (by decide), -Nat.reducePow]

theorem State.writePtmEn_keeps {β : Type} {p : State → β} (h : Ignores p [.regs, .time]) (s : State) (v : Bool) :
    p (State.writePtmEn s v) = p s := by
  simp only [State.writePtmEn, apply_ite p, ite_self, State.putB_keeps (h.mono (by decide)), h.time (by decide),
    -Nat.reducePow]

theorem State.timeSet_keeps {β : Type} {p : State → β} (h : Ignores p [.regs, .time, .timers, .rings]) (s : State) :
    p (State.timeSet s) = p s := by
  simp only [State.timeSet, apply_ite p, ite_self, State.refuse_keeps (h.mono (by decide)), State.stepTime_keeps
    (h.mono (by decide)), -Nat.reducePow]

theorem State.pclk_keeps {β : Type} {p : State → β} (h : Ignores p [.time]) (s : State) :
    p (State.pclk s) = p s := by
  simp only [State.pclk, h.time (by decide), -Nat.reducePow]

theorem State.idle_keeps {β : Type} {p : State → β} (h : Ignores p [.time]) (s : State) :
    p (State.idle s) = p s := by
  simp only [State.idle, implies_true, State.when_p p, State.pclk_keeps (h.mono (by decide)), -Nat.reducePow]

theorem State.resetGate_keeps {β : Type} {p : State → β} (h : Ignores p [.regs, .gates, .links]) (s : State) (g : Nat) :
    p (State.resetGate s g) = p s := by
  simp only [State.resetGate, implies_true, State.each_p p, State.endTest_keeps (h.mono (by decide)),
    State.toDown_keeps (h.mono (by decide)), State.emptyRiser_keeps (h.mono (by decide)), State.put_keeps (h.mono (by
    decide)), State.setGate_keeps (h.mono (by decide)), -Nat.reducePow]

theorem State.resetReg_keeps {β : Type} {p : State → β} (h : Ignores p [.regs]) (s : State) (f : Fld) :
    p (State.resetReg s f) = p s := by
  simp only [State.resetReg, State.setWord_keeps (h.mono (by decide)), -Nat.reducePow]

theorem State.seamAfresh_keeps {β : Type} {p : State → β} (h : Ignores p [.regs, .seams]) (s : State) (u : Nat) :
    p (State.seamAfresh s u) = p s := by
  simp only [State.seamAfresh, implies_true, State.each_p p, State.resetReg_keeps (h.mono (by decide)),
    State.setSeam_keeps (h.mono (by decide)), -Nat.reducePow]

theorem State.mouldAfresh_keeps {β : Type} {p : State → β} (h : Ignores p [.regs, .moulds]) (s : State) (m : Nat) :
    p (State.mouldAfresh s m) = p s := by
  simp only [State.mouldAfresh, implies_true, State.each_p p, State.resetReg_keeps (h.mono (by decide)),
    State.setMould_keeps (h.mono (by decide)), -Nat.reducePow]

theorem State.softReset_keeps {β : Type} {p : State → β} (h : Ignores p [.regs, .gates, .links, .seams, .moulds,
    .faults]) (s : State) (p1 : Page) (n : Nat) :
    p (State.softReset s p1 n) = p s := by
  simp only [State.softReset, -Nat.reducePow]; (repeat' split) <;> simp only [State.resetGate_keeps (h.mono (by
    decide)), State.peerReset_keeps (h.mono (by decide)), State.seamAfresh_keeps (h.mono (by decide)),
    State.mouldAfresh_keeps (h.mono (by decide)), State.refuse_keeps (h.mono (by decide)), -Nat.reducePow]

theorem State.writeDomainOff_keeps {β : Type} {p : State → β} (h : Ignores p [.supply, .regs]) (s : State) (i : Nat)
    (w : Word) :
    p (State.writeDomainOff s i w) = p s := by
  simp only [State.writeDomainOff, apply_ite p, ite_self, implies_true, State.refuse_keeps (h.mono (by decide)),
    State.put_keeps (h.mono (by decide)), State.each_p p, h.supply (by decide), -Nat.reducePow]

theorem State.gateRestarts_keeps {β : Type} {p : State → β} (h : Ignores p [.regs]) (s : State) (g : Nat) :
    p (State.gateRestarts s g) = p s := by
  simp only [State.gateRestarts, apply_ite p, ite_self, implies_true, State.assignLanes_keeps (h.mono (by decide)),
    State.each_p p, State.put_keeps (h.mono (by decide)), -Nat.reducePow]

theorem State.domainOpened_keeps {β : Type} {p : State → β} (h : Ignores p [.regs, .gates, .links, .engines, .seams,
    .moulds, .banks]) (s : State) (d : Nat) :
    p (State.domainOpened s d) = p s := by
  simp only [State.domainOpened, apply_ite p, ite_self, implies_true, State.resetGate_keeps (h.mono (by decide)),
    State.each_p p, State.resetReg_keeps (h.mono (by decide)), State.setGate_keeps (h.mono (by decide)),
    State.setEngine_keeps (h.mono (by decide)), State.put_keeps (h.mono (by decide)), State.setBank_keeps (h.mono (by
    decide)), State.seamAfresh_keeps (h.mono (by decide)), State.mouldAfresh_keeps (h.mono (by decide)),
    -Nat.reducePow]

theorem State.switchDone_keeps {β : Type} {p : State → β} (h : Ignores p [.supply, .regs, .gates, .links, .engines,
    .seams, .moulds, .banks, .faults]) (s : State) (d : Nat) :
    p (State.switchDone s d) = p s := by
  simp only [State.switchDone, -Nat.reducePow]; (repeat' split) <;> simp only [State.putBit_keeps (h.mono (by
    decide)), State.gateRestarts_keeps (h.mono (by decide)), State.domainOpened_keeps (h.mono (by decide)),
    State.peerReset_keeps (h.mono (by decide)), State.raise_keeps (h.mono (by decide)), h.supply (by decide),
    -Nat.reducePow]

theorem State.switchTimeout_keeps {β : Type} {p : State → β} (h : Ignores p [.supply, .regs, .cfg, .links, .engines,
    .cams, .slices, .seams, .moulds, .strobes, .records, .queues, .banks, .prods, .rings, .faults, .smb, .fresh, .out])
    (s : State) (d : Nat) :
    p (State.switchTimeout s d) = p s := by
  simp only [State.switchTimeout, apply_ite p, ite_self, State.occur_keeps (h.mono (by decide)), -Nat.reducePow]

theorem State.budgetWake_keeps {β : Type} {p : State → β} (h : Ignores p [.regs, .slices]) (s : State) (k : Nat) :
    p (State.budgetWake s k) = p s := by
  simp only [State.budgetWake, apply_ite p, ite_self, State.sliceWake_keeps (h.mono (by decide)), -Nat.reducePow]

theorem State.writeBudget_keeps {β : Type} {p : State → β} (h : Ignores p [.regs, .gates, .slices]) (s : State) (p1
    : Page) (n us : Nat) :
    p (State.writeBudget s p1 n us) = p s := by
  simp only [State.writeBudget, -Nat.reducePow]; (repeat' split) <;> simp only [State.refuse_keeps (h.mono (by
    decide)), State.put_keeps (h.mono (by decide)), State.gateWake_keeps (h.mono (by decide)), State.budgetWake_keeps
    (h.mono (by decide)), -Nat.reducePow]

theorem State.gateEnter_keeps {β : Type} {p : State → β} (h : Ignores p [.regs, .gates]) (s : State) (g : Nat) :
    p (State.gateEnter s g) = p s := by
  simp only [State.gateEnter, apply_ite p, ite_self, State.put_keeps (h.mono (by decide)), State.setGate_keeps
    (h.mono (by decide)), -Nat.reducePow]

theorem State.gateStep_keeps {β : Type} {p : State → β} (h : Ignores p [.regs, .gates]) (s : State) (g : Nat) :
    p (State.gateStep s g) = p s := by
  simp only [State.gateStep, apply_ite p, ite_self, State.put_keeps (h.mono (by decide)), State.setGate_keeps
    (h.mono (by decide)), -Nat.reducePow]

theorem State.confirmLanes_keeps {β : Type} {p : State → β} (h : Ignores p [.supply, .regs, .cfg, .gates, .links,
    .engines, .cams, .slices, .seams, .moulds, .strobes, .records, .queues, .banks, .prods, .rings, .faults, .smb,
    .fresh, .out]) (s : State) (c : Nat) (offsets : List (Option (Fin 40))) :
    p (State.confirmLanes s c offsets) = p s := by
  simp only [State.confirmLanes, apply_ite p, ite_self, implies_true, State.each_p p, State.alignLoss_keeps (h.mono
    (by decide)), -Nat.reducePow]

theorem State.gateExit_keeps {β : Type} {p : State → β} (h : Ignores p [.supply, .regs, .cfg, .gates, .links,
    .engines, .cams, .slices, .seams, .moulds, .strobes, .records, .queues, .banks, .prods, .rings, .faults, .smb,
    .fresh, .out]) (s : State) (g : Nat) (offsets : List (Option (Fin 40))) :
    p (State.gateExit s g offsets) = p s := by
  simp only [State.gateExit, apply_ite p, ite_self, implies_true, State.put_keeps (h.mono (by decide)),
    State.setGate_keeps (h.mono (by decide)), State.inc_keeps (h.mono (by decide)), State.each_p p,
    State.confirmLanes_keeps (h.mono (by decide)), -Nat.reducePow]

theorem State.warmSymbol_keeps {β : Type} {p : State → β} (h : Ignores p [.regs, .gates]) (s : State) (g lane : Nat)
    (w next : BitVec 40) :
    p (State.warmSymbol s g lane w next) = p s := by
  simp only [State.warmSymbol, -Nat.reducePow]; (repeat' split) <;> simp only [State.slag_keeps (h.mono (by
    decide)), State.gateWake_keeps (h.mono (by decide)), -Nat.reducePow]

theorem State.sliceEnter_keeps {β : Type} {p : State → β} (h : Ignores p [.regs, .slices]) (s : State) (k : Nat) :
    p (State.sliceEnter s k) = p s := by
  simp only [State.sliceEnter, apply_ite p, ite_self, State.put_keeps (h.mono (by decide)), State.setSlice_keeps
    (h.mono (by decide)), -Nat.reducePow]

theorem State.sliceSwitch_keeps {β : Type} {p : State → β} (h : Ignores p [.regs]) (s : State) (k : Nat) (on : Bool) :
    p (State.sliceSwitch s k on) = p s := by
  simp only [State.sliceSwitch, State.putBit_keeps (h.mono (by decide)), -Nat.reducePow]

theorem State.sliceStep_keeps {β : Type} {p : State → β} (h : Ignores p [.regs, .slices, .faults]) (s : State) (k :
    Nat) :
    p (State.sliceStep s k) = p s := by
  simp only [State.sliceStep, apply_ite p, ite_self, State.put_keeps (h.mono (by decide)), State.sliceSwitch_keeps
    (h.mono (by decide)), State.peerReset_keeps (h.mono (by decide)), State.setSlice_keeps (h.mono (by decide)),
    -Nat.reducePow]

theorem State.sliceExit_keeps {β : Type} {p : State → β} (h : Ignores p [.supply, .regs, .cams, .slices]) (s :
    State) (k : Nat) :
    p (State.sliceExit s k) = p s := by
  simp only [State.sliceExit, apply_ite p, ite_self, implies_true, State.put_keeps (h.mono (by decide)),
    State.setSlice_keeps (h.mono (by decide)), State.inc_keeps (h.mono (by decide)), State.sliceSwitch_keeps (h.mono
    (by decide)), State.each_p p, State.reloadColumns_keeps (h.mono (by decide)), -Nat.reducePow]

theorem State.wakeAhead_keeps {β : Type} {p : State → β} (h : Ignores p [.regs, .time, .gates, .slices]) (s : State)
    (slice : Bool) (n : Nat) :
    p (State.wakeAhead s slice n) = p s := by
  simp only [State.wakeAhead, -Nat.reducePow]; (repeat' split) <;> simp only [State.reach_keeps (h.mono (by
    decide)), State.sliceWake_keeps (h.mono (by decide)), State.gateWake_keeps (h.mono (by decide)), -Nat.reducePow]

theorem State.hbmPowerDown_keeps {β : Type} {p : State → β} (h : Ignores p [.supply]) (s : State) (h1 i : Nat) :
    p (State.hbmPowerDown s h1 i) = p s := by
  simp only [State.hbmPowerDown, apply_ite p, ite_self, h.supply (by decide), -Nat.reducePow]

theorem State.hbmSelfRefresh_keeps {β : Type} {p : State → β} (h : Ignores p [.supply, .regs]) (s : State) (h1 i :
    Nat) :
    p (State.hbmSelfRefresh s h1 i) = p s := by
  simp only [State.hbmSelfRefresh, apply_ite p, ite_self, State.putBit_keeps (h.mono (by decide)), h.supply (by
    decide), -Nat.reducePow]

theorem State.convert_keeps {β : Type} {p : State → β} (h : Ignores p [.supply, .regs, .cfg, .links, .engines,
    .cams, .slices, .seams, .moulds, .strobes, .records, .queues, .banks, .prods, .rings, .faults, .smb, .fresh, .out])
    (s : State) (l : List Int) :
    p (s.convert l) = p s := by
  unfold State.convert
  split
  · rfl
  · extract_lets before top hot peak a1 a2 t u
    have h0 : p t = p s := h s t (fun q hq => by cases q <;> first | exact rfl | exact absurd (by decide) hq)
    have h1 : p u = p t := State.latchAlerts_keeps (h.mono (by decide)) _ _
    clear_value u
    rw [h0] at h1
    split
    · exact h1
    · split
      · rw [State.occur_keeps (h.mono (by decide)), h1]
      · rw [State.setLive_keeps (h.mono (by decide)), h1]

theorem State.readRails_keeps {β : Type} {p : State → β} (h : Ignores p [.supply, .faults, .smb, .out]) (s : State)
    (l : List Nat) :
    p (State.readRails s l) = p s := by
  simp only [State.readRails, apply_ite p, ite_self, State.latchAlerts_keeps (h.mono (by decide)),
    State.setLive_keeps (h.mono (by decide)), h.supply (by decide), h.smb (by decide), -Nat.reducePow]

theorem State.railOut_keeps {β : Type} {p : State → β} (h : Ignores p [.supply, .regs, .cfg, .links, .engines,
    .cams, .slices, .seams, .moulds, .strobes, .records, .queues, .banks, .prods, .rings, .faults, .smb, .fresh, .out])
    (s : State) (rail mv : Nat) :
    p (State.railOut s rail mv) = p s := by
  simp only [State.railOut, apply_ite p, ite_self, State.latchAlerts_keeps (h.mono (by decide)), State.occur_keeps
    (h.mono (by decide)), h.supply (by decide), h.smb (by decide), -Nat.reducePow]

theorem State.pinEdge_keeps {β : Type} {p : State → β} (h : Ignores p [.regs, .time, .cams]) (s : State) (n : Nat)
    (rising : Bool) (t8 : Nat) :
    p (State.pinEdge s n rising t8) = p s := by
  simp only [State.pinEdge, apply_ite p, ite_self, State.reach_keeps (h.mono (by decide)), State.putPin_keeps
    (h.mono (by decide)), State.sourceEvent_keeps (h.mono (by decide)), -Nat.reducePow]

theorem State.encoderEdge_keeps {β : Type} {p : State → β} (h : Ignores p [.regs, .time, .cams, .encs]) (s : State)
    (e : Nat) (a b : Bool) (at_ : Nat) :
    p (State.encoderEdge s e a b at_) = p s := by
  simp only [State.encoderEdge, -Nat.reducePow]; (repeat' split) <;> simp only [State.reach_keeps (h.mono (by
    decide)), State.setEnc_keeps (h.mono (by decide)), State.inc_keeps (h.mono (by decide)), State.raise_keeps (h.mono
    (by decide)), State.encCount_keeps (h.mono (by decide)), -Nat.reducePow]

theorem State.encoderIndex_keeps {β : Type} {p : State → β} (h : Ignores p [.regs]) (s : State) (e : Nat) :
    p (State.encoderIndex s e) = p s := by
  simp only [State.encoderIndex, apply_ite p, ite_self, State.put64_keeps (h.mono (by decide)), State.putPos_keeps
    (h.mono (by decide)), State.raise_keeps (h.mono (by decide)), -Nat.reducePow]

theorem State.encLoad_keeps {β : Type} {p : State → β} (h : Ignores p [.regs]) (s : State) (e : Nat) :
    p (State.encLoad s e) = p s := by
  simp only [State.encLoad, apply_ite p, ite_self, State.putPos_keeps (h.mono (by decide)), -Nat.reducePow]

theorem State.writeTmr_keeps {β : Type} {p : State → β} (h : Ignores p [.regs, .timers]) (s : State) (k : Nat) (en :
    Bool) :
    p (State.writeTmr s k en) = p s := by
  simp only [State.writeTmr, apply_ite p, ite_self, State.putB_keeps (h.mono (by decide)), State.setTimer_keeps
    (h.mono (by decide)), -Nat.reducePow]

theorem State.timerFire_keeps {β : Type} {p : State → β} (h : Ignores p [.regs, .time, .cams, .timers]) (s : State)
    (k : Nat) :
    p (State.timerFire s k) = p s := by
  simp only [State.timerFire, apply_ite p, ite_self, State.reach_keeps (h.mono (by decide)), State.inc_keeps (h.mono
    (by decide)), State.setTimer_keeps (h.mono (by decide)), State.sourceEvent_keeps (h.mono (by decide)),
    -Nat.reducePow]

theorem State.swTrig_keeps {β : Type} {p : State → β} (h : Ignores p [.regs, .cams]) (s : State) (groups : Nat) :
    p (State.swTrig s groups) = p s := by
  simp only [State.swTrig, implies_true, State.each_p p, State.sourceEvent_keeps (h.mono (by decide)), -Nat.reducePow]

theorem State.writeSched_keeps {β : Type} {p : State → β} (h : Ignores p [.regs, .links, .engines, .cams, .records,
    .fresh, .out]) (s : State) (c : Nat) (w : Word) :
    p (State.writeSched s c w) = p s := by
  simp only [State.writeSched, apply_ite p, ite_self, State.refuse_keeps (h.mono (by decide)),
    State.schedClear_keeps (h.mono (by decide)), State.setWord_keeps (h.mono (by decide)), State.setSched_keeps
    (h.mono (by decide)), State.writeEcho_keeps (h.mono (by decide)), State.schedSync_keeps (h.mono (by decide)),
    -Nat.reducePow]

theorem State.shotSet_keeps {β : Type} {p : State → β} (h : Ignores p [.regs]) (s : State) (c : Nat) (v : Word) :
    p (State.shotSet s c v) = p s := by
  simp only [State.shotSet, apply_ite p, ite_self, State.refuse_keeps (h.mono (by decide)), State.put_keeps (h.mono
    (by decide)), -Nat.reducePow]

theorem State.applySettings_keeps {β : Type} {p : State → β} (h : Ignores p [.regs, .cams]) (s : State) (c n t8 : Nat) :
    p (State.applySettings s c n t8).1 = p s := by
  simp only [State.applySettings, -Nat.reducePow]; (repeat' split) <;> simp only [implies_true, State.setSched_keeps
    (h.mono (by decide)), State.each_p p, State.putSlotState_keeps (h.mono (by decide)), State.put_keeps (h.mono (by
    decide)), State.raise_keeps (h.mono (by decide)), -Nat.reducePow]

theorem State.overwrite_keeps {β : Type} {p : State → β} (h : Ignores p [.regs, .cams, .records, .prods]) (s :
    State) (c n : Nat) :
    p (State.overwrite s c n) = p s := by
  simp only [State.overwrite, apply_ite p, ite_self, State.inc_keeps (h.mono (by decide)), State.markMissing_keeps
    (h.mono (by decide)), -Nat.reducePow]

theorem State.driveShot_keeps {β : Type} {p : State → β} (h : Ignores p [.engines, .strobes, .out]) (s : State) (c n
    t8 : Nat) :
    p (State.driveShot s c n t8) = p s := by
  simp only [State.driveShot, apply_ite p, ite_self, State.setEngine_keeps (h.mono (by decide)),
    State.drivePin_keeps (h.mono (by decide)), h.strobes (by decide), -Nat.reducePow]

theorem State.noteShot_keeps {β : Type} {p : State → β} (h : Ignores p [.cams]) (s : State) (c n windowEnd : Nat) :
    p (State.noteShot s c n windowEnd) = p s := by
  simp only [State.noteShot, State.setSched_keeps (h.mono (by decide)), -Nat.reducePow]

theorem State.shotIssue_keeps {β : Type} {p : State → β} (h : Ignores p [.regs, .time, .gates, .links, .engines,
    .cams, .slices, .strobes, .records, .prods, .out]) (s : State) (c : Nat) :
    p (State.shotIssue s c) = p s := by
  simp only [State.shotIssue, -Nat.reducePow]; (repeat' split) <;> simp only [State.reach_keeps (h.mono (by
    decide)), State.setSched_keeps (h.mono (by decide)), State.inc_keeps (h.mono (by decide)), State.overwrite_keeps
    (h.mono (by decide)), State.applySettings_keeps (h.mono (by decide)), State.setRecord_keeps (h.mono (by decide)),
    State.noteShot_keeps (h.mono (by decide)), State.setLink_keeps (h.mono (by decide)), State.driveShot_keeps (h.mono
    (by decide)), State.gateWake_keeps (h.mono (by decide)), State.sliceWake_keeps (h.mono (by decide)),
    -Nat.reducePow]

theorem State.strobeEnd_keeps {β : Type} {p : State → β} (h : Ignores p [.time, .strobes, .out]) (s : State) (c : Nat) :
    p (State.strobeEnd s c) = p s := by
  simp only [State.strobeEnd, -Nat.reducePow]; (repeat' split) <;> simp only [State.reach_keeps (h.mono (by
    decide)), State.drivePin_keeps (h.mono (by decide)), h.strobes (by decide), -Nat.reducePow]

theorem State.commitSlot_keeps {β : Type} {p : State → β} (h : Ignores p [.regs, .cams]) (s : State) (c k : Nat)
    (next : Bool) :
    p (State.commitSlot s c k next) = p s := by
  simp only [State.commitSlot, apply_ite p, ite_self, State.refuse_keeps (h.mono (by decide)), State.inc_keeps
    (h.mono (by decide)), State.setSched_keeps (h.mono (by decide)), State.putSlotState_keeps (h.mono (by decide)),
    -Nat.reducePow]

theorem State.startDelivery_keeps {β : Type} {p : State → β} (h : Ignores p [.regs, .time, .links, .engines, .cams,
    .records, .fresh, .out]) (s : State) (c : Nat) :
    p (State.startDelivery s c) = p s := by
  simp only [State.startDelivery, -Nat.reducePow]; (repeat' split) <;> simp only [implies_true, State.reach_keeps
    (h.mono (by decide)), State.onCommit_keeps (h.mono (by decide)), State.putSlotState_keeps (h.mono (by decide)),
    State.each_p p, State.enqueue_keeps (h.mono (by decide)), State.downCheck_keeps (h.mono (by decide)),
    -Nat.reducePow]

theorem State.ledgerLookup_keeps {β : Type} {p : State → β} (h : Ignores p [.regs]) (s : State) (k n : Nat) :
    p (State.ledgerLookup s k n) = p s := by
  simp only [State.ledgerLookup, implies_true, State.put_keeps (h.mono (by decide)), State.each_p p, -Nat.reducePow]

theorem State.writeFields_keeps {β : Type} {p : State → β} (h : Ignores p [.regs]) (s : State) (a : Nat) (w : Word) :
    p (State.writeFields s a w) = p s := by
  simp only [State.writeFields, State.setWord_keeps (h.mono (by decide)), -Nat.reducePow]

theorem State.writeUnless_keeps {β : Type} {p : State → β} (h : Ignores p [.regs]) (s : State) (a : Nat) (w : Word)
    (page : Nat) (bad : Bool) (code : Nat) :
    p (State.writeUnless s a w page bad code) = p s := by
  simp only [State.writeUnless, apply_ite p, ite_self, State.refuse_keeps (h.mono (by decide)),
    State.writeFields_keeps (h.mono (by decide)), -Nat.reducePow]

theorem State.requestIf_keeps {β : Type} {p : State → β} (h : Ignores p [.regs]) (s : State) (page before : Nat) :
    p (State.requestIf s page before) = p s := by
  simp only [State.requestIf, apply_ite p, ite_self, State.requestVector_keeps (h.mono (by decide)), -Nat.reducePow]

theorem State.clearRefused_keeps {β : Type} {p : State → β} (h : Ignores p [.regs]) (s : State) (page : Nat) :
    p (State.clearRefused s page) = p s := by
  simp only [State.clearRefused, State.put_keeps (h.mono (by decide)), -Nat.reducePow]

theorem State.clearIrq_keeps {β : Type} {p : State → β} (h : Ignores p [.regs]) (s : State) (page bits : Nat) :
    p (State.clearIrq s page bits) = p s := by
  simp only [State.clearIrq, State.put_keeps (h.mono (by decide)), -Nat.reducePow]

theorem State.writeIrqEn_keeps {β : Type} {p : State → β} (h : Ignores p [.regs]) (s : State) (page : Nat) (w : Word) :
    p (State.writeIrqEn s page w) = p s := by
  simp only [State.writeIrqEn, State.put_keeps (h.mono (by decide)), State.requestIf_keeps (h.mono (by decide)),
    -Nat.reducePow]

theorem State.setIrq_keeps {β : Type} {p : State → β} (h : Ignores p [.regs]) (s : State) (p1 : Page) (n bits : Nat) :
    p (State.setIrq s p1 n bits) = p s := by
  simp only [State.setIrq, State.put_keeps (h.mono (by decide)), State.requestVector_keeps (h.mono (by decide)),
    -Nat.reducePow]

theorem State.enablePage_keeps {β : Type} {p : State → β} (h : Ignores p [.regs, .links, .engines, .cams, .seams,
    .moulds, .records, .fresh, .out]) (s : State) (p1 : Page) (n : Nat) :
    p (State.enablePage s p1 n) = p s := by
  simp only [State.enablePage, -Nat.reducePow]; (repeat' split) <;> simp only [State.gateEnable_keeps (h.mono (by
    decide)), State.camEnable_keeps (h.mono (by decide)), State.seamEnable_keeps (h.mono (by decide)),
    State.mouldEnable_keeps (h.mono (by decide)), -Nat.reducePow]

theorem State.disablePage_keeps {β : Type} {p : State → β} (h : Ignores p [.regs, .gates, .links, .engines, .cams,
    .moulds, .records, .queues, .prods, .fresh, .out]) (s : State) (p1 : Page) (n : Nat) :
    p (State.disablePage s p1 n) = p s := by
  simp only [State.disablePage, -Nat.reducePow]; (repeat' split) <;> simp only [State.gateDisable_keeps (h.mono (by
    decide)), State.camDisable_keeps (h.mono (by decide)), State.seamDisable_keeps (h.mono (by decide)),
    State.mouldDisable_keeps (h.mono (by decide)), -Nat.reducePow]

theorem State.writeCtrl_keeps {β : Type} {p : State → β} (h : Ignores p [.regs, .gates, .links, .engines, .cams,
    .seams, .moulds, .records, .queues, .prods, .faults, .fresh, .out]) (s : State) (p1 : Page) (n : Nat) (w : Word) :
    p (State.writeCtrl s p1 n w) = p s := by
  simp only [State.writeCtrl, apply_ite p, ite_self, implies_true, State.softReset_keeps (h.mono (by decide)),
    State.disablePage_keeps (h.mono (by decide)), State.when_p p, State.enablePage_keeps (h.mono (by decide)),
    -Nat.reducePow]

theorem State.writeCmd_keeps {β : Type} {p : State → β} (h : Ignores p [.supply, .regs, .gates, .links, .engines,
    .cams, .slices, .seams, .moulds, .strobes, .records, .queues, .banks, .prods, .rings, .chks, .faults, .fresh, .out])
    (s : State) (p1 : Page) (n : Nat) (w : Word) :
    p (State.writeCmd s p1 n w) = p s := by
  simp only [State.writeCmd, -Nat.reducePow]; (repeat' split) <;> simp only [State.cmdRelease_keeps (h.mono (by
    decide)), State.cmdFence_keeps (h.mono (by decide)), State.linkTrainCmd_keeps (h.mono (by decide)),
    State.setRateCmd_keeps (h.mono (by decide)), State.linkDownCmd_keeps (h.mono (by decide)), State.linkUpCmd_keeps
    (h.mono (by decide)), State.clearCountersCmd_keeps (h.mono (by decide)), State.loopNearCmd_keeps (h.mono (by
    decide)), State.loopFarCmd_keeps (h.mono (by decide)), State.camPrbsCmd_keeps (h.mono (by decide)),
    State.testStopCmd_keeps (h.mono (by decide)), State.injectCmd_keeps (h.mono (by decide)), State.injCancelCmd_keeps
    (h.mono (by decide)), State.cmdDiscover_keeps (h.mono (by decide)), State.cmdLock_keeps (h.mono (by decide)),
    State.cmdUnlock_keeps (h.mono (by decide)), State.cmdPcWrite_keeps (h.mono (by decide)), State.cmdClearFail_keeps
    (h.mono (by decide)), State.sweepCmd_keeps (h.mono (by decide)), State.chkStart_keeps (h.mono (by decide)),
    State.chkPreset_keeps (h.mono (by decide)), State.refuse_keeps (h.mono (by decide)), -Nat.reducePow]

theorem State.writeClass_keeps {β : Type} {p : State → β} (h : Ignores p [.regs]) (s : State) (p1 : Page) (n half :
    Nat) (w : Word) :
    p (State.writeClass s p1 n half w) = p s := by
  simp only [State.writeClass, apply_ite p, ite_self, State.refuse_keeps (h.mono (by decide)), State.setWord_keeps
    (h.mono (by decide)), -Nat.reducePow]

theorem State.writeFaultReg_keeps {β : Type} {p : State → β} (h : Ignores p [.supply, .regs, .cfg, .links, .engines,
    .cams, .slices, .seams, .moulds, .strobes, .records, .queues, .banks, .prods, .rings, .faults, .smb, .fresh, .out])
    (s : State) (p1 : Page) (n o : Nat) (w : Word) :
    p (State.writeFaultReg s p1 n o w) = p s := by
  simp only [State.writeFaultReg, apply_ite p, ite_self, State.clearSticky_keeps (h.mono (by decide)),
    State.writeClass_keeps (h.mono (by decide)), State.armFault_keeps (h.mono (by decide)), State.writeFields_keeps
    (h.mono (by decide)), State.ackEsc_keeps (h.mono (by decide)), -Nat.reducePow]

theorem State.writeHeader_keeps {β : Type} {p : State → β} (h : Ignores p [.supply, .regs, .cfg, .gates, .links,
    .engines, .cams, .slices, .seams, .moulds, .strobes, .records, .queues, .banks, .prods, .rings, .chks, .faults,
    .smb, .fresh, .out]) (s : State) (p1 : Page) (n o : Nat) (w : Word) :
    p (State.writeHeader s p1 n o w) = p s := by
  simp only [State.writeHeader, apply_ite p, ite_self, State.writeCtrl_keeps (h.mono (by decide)),
    State.clearRefused_keeps (h.mono (by decide)), State.writeCmd_keeps (h.mono (by decide)), State.clearIrq_keeps
    (h.mono (by decide)), State.writeIrqEn_keeps (h.mono (by decide)), State.setIrq_keeps (h.mono (by decide)),
    State.writeFields_keeps (h.mono (by decide)), State.writeFaultReg_keeps (h.mono (by decide)), State.armFault_keeps
    (h.mono (by decide)), -Nat.reducePow]

theorem State.writeDev_keeps {β : Type} {p : State → β} (h : Ignores p [.regs]) (s : State) (o : Nat) (w : Word) :
    p (State.writeDev s o w) = p s := by
  simp only [State.writeDev, apply_ite p, ite_self, State.writeHbmLimit_keeps (h.mono (by decide)),
    State.writeFields_keeps (h.mono (by decide)), -Nat.reducePow]

theorem State.writePwr_keeps {β : Type} {p : State → β} (h : Ignores p [.supply, .regs]) (s : State) (o : Nat) (w :
    Word) :
    p (State.writePwr s o w) = p s := by
  simp only [State.writePwr, apply_ite p, ite_self, State.writeDomainOff_keeps (h.mono (by decide)),
    State.writeUnless_keeps (h.mono (by decide)), State.writeFields_keeps (h.mono (by decide)), -Nat.reducePow]

theorem State.writeTime_keeps {β : Type} {p : State → β} (h : Ignores p [.regs, .time, .timers, .rings]) (s : State)
    (o : Nat) (w : Word) :
    p (State.writeTime s o w) = p s := by
  simp only [State.writeTime, apply_ite p, ite_self, State.writePtmEn_keeps (h.mono (by decide)),
    State.writeUnless_keeps (h.mono (by decide)), State.timeSet_keeps (h.mono (by decide)), State.writeFields_keeps
    (h.mono (by decide)), -Nat.reducePow]

theorem State.writeChk_keeps {β : Type} {p : State → β} (h : Ignores p [.regs, .chks]) (s : State) (n o : Nat) (w :
    Word) :
    p (State.writeChk s n o w) = p s := by
  simp only [State.writeChk, -Nat.reducePow]; (repeat' split) <;> simp only [State.refuse_keeps (h.mono (by
    decide)), State.writeFields_keeps (h.mono (by decide)), State.writeUnless_keeps (h.mono (by decide)),
    State.chkFeed_keeps (h.mono (by decide)), State.chkFinal_keeps (h.mono (by decide)), -Nat.reducePow]

theorem State.writePin_keeps {β : Type} {p : State → β} (h : Ignores p [.regs, .out]) (s : State) (k : Nat) (w : Word) :
    p (State.writePin s k w) = p s := by
  simp only [State.writePin, apply_ite p, ite_self, State.refuse_keeps (h.mono (by decide)), State.writeFields_keeps
    (h.mono (by decide)), State.putPin_keeps (h.mono (by decide)), State.emit_keeps (h.mono (by decide)),
    State.drivePin_keeps (h.mono (by decide)), -Nat.reducePow]

theorem State.writeEnc_keeps {β : Type} {p : State → β} (h : Ignores p [.regs, .faults]) (s : State) (e o : Nat) (w
    : Word) :
    p (State.writeEnc s e o w) = p s := by
  simp only [State.writeEnc, apply_ite p, ite_self, State.writeUnless_keeps (h.mono (by decide)),
    State.setLive_keeps (h.mono (by decide)), State.encLoad_keeps (h.mono (by decide)), State.writeFields_keeps
    (h.mono (by decide)), -Nat.reducePow]

theorem State.writeCmp_keeps {β : Type} {p : State → β} (h : Ignores p [.regs]) (s : State) (k o : Nat) (w : Word) :
    p (State.writeCmp s k o w) = p s := by
  simp only [State.writeCmp, apply_ite p, ite_self, State.refuse_keeps (h.mono (by decide)), State.writeUnless_keeps
    (h.mono (by decide)), -Nat.reducePow]

theorem State.writeTimer_keeps {β : Type} {p : State → β} (h : Ignores p [.regs, .timers]) (s : State) (k o : Nat)
    (w : Word) :
    p (State.writeTimer s k o w) = p s := by
  simp only [State.writeTimer, apply_ite p, ite_self, State.writeTmr_keeps (h.mono (by decide)), State.refuse_keeps
    (h.mono (by decide)), State.writeUnless_keeps (h.mono (by decide)), -Nat.reducePow]

theorem State.writeTrg_keeps {β : Type} {p : State → β} (h : Ignores p [.regs, .cams, .timers, .faults, .out]) (s :
    State) (n o : Nat) (w : Word) :
    p (State.writeTrg s n o w) = p s := by
  simp only [State.writeTrg, apply_ite p, ite_self, State.writePin_keeps (h.mono (by decide)), State.swTrig_keeps
    (h.mono (by decide)), State.writeFields_keeps (h.mono (by decide)), State.writeEnc_keeps (h.mono (by decide)),
    State.writeCmp_keeps (h.mono (by decide)), State.writeTimer_keeps (h.mono (by decide)), -Nat.reducePow]

theorem State.writeShot_keeps {β : Type} {p : State → β} (h : Ignores p [.regs]) (s : State) (n o : Nat) (w : Word) :
    p (State.writeShot s n o w) = p s := by
  simp only [State.writeShot, apply_ite p, ite_self, State.ledgerLookup_keeps (h.mono (by decide)),
    State.writeFields_keeps (h.mono (by decide)), -Nat.reducePow]

theorem State.writeGate_keeps {β : Type} {p : State → β} (h : Ignores p [.regs, .gates, .links, .engines, .cams,
    .slices, .records, .fresh, .out]) (s : State) (g o : Nat) (w : Word) :
    p (State.writeGate s g o w) = p s := by
  simp only [State.writeGate, apply_ite p, ite_self, State.writeBudget_keeps (h.mono (by decide)),
    State.writeUnless_keeps (h.mono (by decide)), State.writeGateCfg_keeps (h.mono (by decide)),
    State.writeFields_keeps (h.mono (by decide)), -Nat.reducePow]

theorem State.writeBrgPort_keeps {β : Type} {p : State → β} (h : Ignores p [.regs, .engines]) (s : State) (g p1 o :
    Nat) (w : Word) :
    p (State.writeBrgPort s g p1 o w) = p s := by
  simp only [State.writeBrgPort, apply_ite p, ite_self, State.writeUnless_keeps (h.mono (by decide)),
    State.refuse_keeps (h.mono (by decide)), State.writePollCfg_keeps (h.mono (by decide)), State.writeFields_keeps
    (h.mono (by decide)), -Nat.reducePow]

theorem State.writeBrg_keeps {β : Type} {p : State → β} (h : Ignores p [.regs, .engines]) (s : State) (g o : Nat) (w
    : Word) :
    p (State.writeBrg s g o w) = p s := by
  simp only [State.writeBrg, apply_ite p, ite_self, State.writeUnless_keeps (h.mono (by decide)),
    State.writeBrgPort_keeps (h.mono (by decide)), -Nat.reducePow]

theorem State.writeQCmd_keeps {β : Type} {p : State → β} (h : Ignores p [.regs, .queues, .prods, .fresh]) (s :
    State) (q : Nat) (w : Word) :
    p (State.writeQCmd s q w) = p s := by
  simp only [State.writeQCmd, apply_ite p, ite_self, State.refuse_keeps (h.mono (by decide)), State.clrOvr_keeps
    (h.mono (by decide)), State.releaseQueue_keeps (h.mono (by decide)), State.flushCmd_keeps (h.mono (by decide)),
    -Nat.reducePow]

theorem State.writeQueue_keeps {β : Type} {p : State → β} (h : Ignores p [.regs, .queues, .prods, .fresh]) (s :
    State) (q o : Nat) (w : Word) :
    p (State.writeQueue s q o w) = p s := by
  simp only [State.writeQueue, apply_ite p, ite_self, State.writeQCfg_keeps (h.mono (by decide)),
    State.writeQLimit_keeps (h.mono (by decide)), State.writeQCmd_keeps (h.mono (by decide)), -Nat.reducePow]

theorem State.writeRing_keeps {β : Type} {p : State → β} (h : Ignores p [.regs, .queues, .rings]) (s : State) (q o :
    Nat) (w : Word) :
    p (State.writeRing s q o w) = p s := by
  simp only [State.writeRing, apply_ite p, ite_self, State.writeRingCfg_keeps (h.mono (by decide)),
    State.writeRingReg_keeps (h.mono (by decide)), -Nat.reducePow]

theorem State.writeLadle_keeps {β : Type} {p : State → β} (h : Ignores p [.regs]) (s : State) (b o : Nat) (w : Word) :
    p (State.writeLadle s b o w) = p s := by
  simp only [State.writeLadle, apply_ite p, ite_self, State.writeOrderEn_keeps (h.mono (by decide)),
    State.writeFields_keeps (h.mono (by decide)), -Nat.reducePow]

theorem State.writeMsix_keeps {β : Type} {p : State → β} (h : Ignores p [.regs, .out]) (s : State) (v o : Nat) (w :
    Word) :
    p (State.writeMsix s v o w) = p s := by
  simp only [State.writeMsix, apply_ite p, ite_self, State.writeFields_keeps (h.mono (by decide)),
    State.sendVector_keeps (h.mono (by decide)), -Nat.reducePow]

theorem State.writeSeam_keeps {β : Type} {p : State → β} (h : Ignores p [.regs]) (s : State) (u o : Nat) (w : Word) :
    p (State.writeSeam s u o w) = p s := by
  simp only [State.writeSeam, State.writeUnless_keeps (h.mono (by decide)), -Nat.reducePow]

theorem State.clearStale_keeps {β : Type} {p : State → β} (h : Ignores p [.regs]) (s : State) (m : Nat) :
    p (State.clearStale s m) = p s := by
  simp only [State.clearStale, apply_ite p, ite_self, State.put_keeps (h.mono (by decide)), -Nat.reducePow]

theorem State.writeMould_keeps {β : Type} {p : State → β} (h : Ignores p [.regs]) (s : State) (m o : Nat) (w : Word) :
    p (State.writeMould s m o w) = p s := by
  simp only [State.writeMould, apply_ite p, ite_self, State.writeUnless_keeps (h.mono (by decide)),
    State.clearStale_keeps (h.mono (by decide)), -Nat.reducePow]

theorem State.writeHbmReg_keeps {β : Type} {p : State → β} (h : Ignores p [.regs]) (s : State) (h1 o : Nat) (w : Word) :
    p (State.writeHbmReg s h1 o w) = p s := by
  simp only [State.writeHbmReg, State.writeUnless_keeps (h.mono (by decide)), -Nat.reducePow]

theorem State.writeSchedReg_keeps {β : Type} {p : State → β} (h : Ignores p [.regs]) (s : State) (c o : Nat) (w :
    Word) :
    p (State.writeSchedReg s c o w) = p s := by
  simp only [State.writeSchedReg, State.writeUnless_keeps (h.mono (by decide)), -Nat.reducePow]

theorem State.writeCam_keeps {β : Type} {p : State → β} (h : Ignores p [.regs, .links, .engines, .cams, .slices,
    .records, .loads, .fresh, .out]) (s : State) (c o : Nat) (w : Word) :
    p (s.writeCam c o w) = p s := by
  unfold State.writeCam
  extract_lets page a src
  repeat' with_reducible refine ite_p p ?_ ?_
  all_goals first
    | with_reducible exact State.writeUnless_keeps (h.mono (by decide)) ..
    | with_reducible exact State.setCam_keeps (h.mono (by decide)) ..
    | with_reducible exact State.writeFtCtrl_keeps (h.mono (by decide)) ..
    | with_reducible exact State.writeFfCtrl_keeps (h.mono (by decide)) ..
    | with_reducible exact State.writeGrid_keeps (h.mono (by decide)) ..
    | with_reducible exact State.tblLoad_keeps (h.mono (by decide)) ..
    | with_reducible exact State.winCommit_keeps (h.mono (by decide)) ..
    | with_reducible exact State.writeSched_keeps (h.mono (by decide)) ..
    | with_reducible exact State.writeSchedReg_keeps (h.mono (by decide)) ..
    | with_reducible exact State.shotSet_keeps (h.mono (by decide)) ..
    | with_reducible exact State.commitSlot_keeps (h.mono (by decide)) ..
    | with_reducible exact Eq.refl (p s)
    | skip
  split
  · refine ite_p p ?_ ?_
    · exact State.refuse_keeps (h.mono (by decide)) ..
    · exact State.writeUnless_keeps (h.mono (by decide)) ..
  · exact State.writeFields_keeps (h.mono (by decide)) ..

theorem State.writePage_keeps {β : Type} {p : State → β} (h : Ignores p [.supply, .regs, .time, .gates, .links,
    .engines, .cams, .slices, .timers, .records, .queues, .prods, .rings, .loads, .chks, .faults, .fresh, .out]) (s :
    State) (p1 : Page) (n o : Nat) (w : Word) :
    p (State.writePage s p1 n o w) = p s := by
  simp only [State.writePage, -Nat.reducePow]; (repeat' split) <;> simp only [State.writeDev_keeps (h.mono (by
    decide)), State.writePwr_keeps (h.mono (by decide)), State.writeTime_keeps (h.mono (by decide)),
    State.writeChk_keeps (h.mono (by decide)), State.writeTrg_keeps (h.mono (by decide)), State.writeShot_keeps
    (h.mono (by decide)), State.writeGate_keeps (h.mono (by decide)), State.writeBrg_keeps (h.mono (by decide)),
    State.writeBudget_keeps (h.mono (by decide)), State.writeLadle_keeps (h.mono (by decide)), State.writeQueue_keeps
    (h.mono (by decide)), State.writeFields_keeps (h.mono (by decide)), State.writeRing_keeps (h.mono (by decide)),
    State.writeSeam_keeps (h.mono (by decide)), State.writeMould_keeps (h.mono (by decide)), State.writeHbmReg_keeps
    (h.mono (by decide)), State.writeCam_keeps (h.mono (by decide)), State.writeMsix_keeps (h.mono (by decide)),
    -Nat.reducePow]

theorem State.hostWrite_keeps {β : Type} {p : State → β} (h : Ignores p [.supply, .regs, .cfg, .time, .gates,
    .links, .engines, .cams, .slices, .seams, .moulds, .timers, .strobes, .records, .queues, .banks, .prods, .rings,
    .loads, .chks, .faults, .smb, .fresh, .out]) (s : State) (a : Nat) (w : Word) :
    p (State.hostWrite s a w) = p s := by
  simp only [State.hostWrite, -Nat.reducePow]; (repeat' split) <;> simp only [State.writeHeader_keeps (h.mono (by
    decide)), State.refuse_keeps (h.mono (by decide)), State.writePage_keeps (h.mono (by decide)), -Nat.reducePow]

theorem State.cancelWrite_keeps {β : Type} {p : State → β} (h : Ignores p [.supply, .regs, .cfg, .time, .gates,
    .links, .engines, .cams, .slices, .seams, .moulds, .timers, .strobes, .records, .queues, .banks, .prods, .rings,
    .loads, .chks, .faults, .smb, .fresh, .out]) (s : State) (a : Nat) (w : Word) :
    p (State.cancelWrite s a w) = p s := by
  simp only [State.cancelWrite, -Nat.reducePow]; (repeat' split) <;> simp only [State.hostWrite_keeps (h.mono (by
    decide)), State.refuse_keeps (h.mono (by decide)), State.accept_keeps (h.mono (by decide)), State.put_keeps
    (h.mono (by decide)), -Nat.reducePow]

theorem State.busWrite_keeps {β : Type} {p : State → β} (h : Ignores p [.supply, .regs, .cfg, .time, .gates, .links,
    .engines, .cams, .slices, .seams, .moulds, .timers, .strobes, .records, .queues, .banks, .prods, .rings, .loads,
    .chks, .faults, .smb, .fresh, .out]) (s : State) (a : Nat) (w : Word) (enables : Nat) (ring : Transfer) :
    p (State.busWrite s a w enables ring) = p s := by
  simp only [State.busWrite, -Nat.reducePow]; (repeat' split) <;> simp only [State.inc_keeps (h.mono (by decide)),
    State.raise_keeps (h.mono (by decide)), State.hostWrite_keeps (h.mono (by decide)), State.cancelWrite_keeps
    (h.mono (by decide)), State.occur_keeps (h.mono (by decide)), -Nat.reducePow]

theorem State.loadLatch_keeps {β : Type} {p : State → β} (h : Ignores p [.latches]) (s : State) (a : Nat) :
    p (State.loadLatch s a) = p s := by
  simp only [State.loadLatch, apply_ite p, ite_self, h.latches (by decide), -Nat.reducePow]

theorem State.readLow_keeps {β : Type} {p : State → β} (h : Ignores p [.supply, .regs, .latches, .cfg, .links,
    .engines, .cams, .slices, .seams, .moulds, .strobes, .records, .queues, .banks, .prods, .rings, .faults, .smb,
    .fresh, .out]) (s : State) (a : Nat) (ring : Transfer) :
    p (State.readLow s a ring) = p s := by
  simp only [State.readLow, -Nat.reducePow]; (repeat' split) <;> simp only [State.loadLatch_keeps (h.mono (by
    decide)), State.occur_keeps (h.mono (by decide)), h.latches (by decide), -Nat.reducePow]

theorem State.afresh_keeps {β : Type} {p : State → β} (h : Ignores p [.supply, .regs, .latches, .cfg, .time, .gates,
    .links, .engines, .cams, .slices, .seams, .moulds, .timers, .strobes, .records, .queues, .banks, .prods, .badLinks,
    .rings, .loads, .chks, .faults, .smb, .jtag, .hbm]) (s : State) (supply : SupplySt) (smb : SmbSt) (jtag : JtagSt) :
    p (s.afresh supply smb jtag) = p s := by
  exact h s _ (fun q hq => by cases q <;> first | exact rfl | exact absurd (by decide) hq)

theorem State.powerUp_keeps {β : Type} {p : State → β} (h : Ignores p [.supply, .regs, .latches, .cfg, .time,
    .gates, .links, .engines, .cams, .slices, .seams, .moulds, .timers, .strobes, .records, .queues, .banks, .prods,
    .badLinks, .rings, .loads, .chks, .faults, .smb, .jtag, .hbm]) (s : State) (strap : Nat) :
    p (State.powerUp s strap) = p s := by
  simp only [State.powerUp, State.afresh_keeps (h.mono (by decide)), -Nat.reducePow]

theorem State.releasePins_keeps {β : Type} {p : State → β} (h : Ignores p [.out]) (s : State) :
    p (State.releasePins s) = p s := by
  simp only [State.releasePins, implies_true, State.each_p p, State.emit_keeps (h.mono (by decide)), -Nat.reducePow]

theorem State.powerLoss_keeps {β : Type} {p : State → β} (h : Ignores p [.supply, .regs, .latches, .cfg, .time,
    .gates, .links, .engines, .cams, .slices, .seams, .moulds, .timers, .strobes, .records, .queues, .banks, .prods,
    .badLinks, .rings, .loads, .chks, .faults, .smb, .jtag, .hbm, .out]) (s : State) :
    p (State.powerLoss s) = p s := by
  simp only [State.powerLoss, State.releasePins_keeps (h.mono (by decide)), State.afresh_keeps (h.mono (by decide)),
    -Nat.reducePow]

theorem State.poreset_keeps {β : Type} {p : State → β} (h : Ignores p [.supply, .regs, .latches, .cfg, .time,
    .gates, .links, .engines, .cams, .slices, .seams, .moulds, .timers, .strobes, .records, .queues, .banks, .prods,
    .badLinks, .rings, .loads, .chks, .faults, .smb, .jtag, .hbm, .out]) (s : State) :
    p (State.poreset s) = p s := by
  simp only [State.poreset, State.releasePins_keeps (h.mono (by decide)), State.afresh_keeps (h.mono (by decide)),
    -Nat.reducePow]

theorem State.poresetRelease_keeps {β : Type} {p : State → β} (h : Ignores p [.supply, .regs, .cfg, .links,
    .engines, .cams, .slices, .seams, .moulds, .strobes, .records, .queues, .banks, .prods, .rings, .faults, .smb,
    .fresh, .out]) (s : State) :
    p (State.poresetRelease s) = p s := by
  simp only [State.poresetRelease, apply_ite p, ite_self, State.occur_keeps (h.mono (by decide)), h.supply (by
    decide), -Nat.reducePow]

theorem State.pllLock_keeps {β : Type} {p : State → β} (h : Ignores p [.regs]) (s : State) (us : Nat) :
    p (State.pllLock s us) = p s := by
  simp only [State.pllLock, apply_ite p, ite_self, State.put_keeps (h.mono (by decide)), -Nat.reducePow]

theorem State.trainingDone_keeps {β : Type} {p : State → β} (h : Ignores p [.supply, .regs, .cfg, .links, .engines,
    .cams, .slices, .seams, .moulds, .strobes, .records, .queues, .banks, .prods, .rings, .faults, .smb, .fresh, .out])
    (s : State) (h1 us : Nat) (ok : Bool) :
    p (State.trainingDone s h1 us ok) = p s := by
  simp only [State.trainingDone, apply_ite p, ite_self, State.putB_keeps (h.mono (by decide)), State.put_keeps
    (h.mono (by decide)), State.occur_keeps (h.mono (by decide)), h.supply (by decide), -Nat.reducePow]

theorem State.perstStop_keeps {β : Type} {p : State → β} (h : Ignores p [.supply, .regs, .links, .moulds, .strobes,
    .records, .queues, .banks, .prods, .rings, .faults, .out]) (s : State) :
    p (State.perstStop s) = p s := by
  simp only [State.perstStop, implies_true, State.each_p p, State.dropRiser_keeps (h.mono (by decide)),
    State.endStrobes_keeps (h.mono (by decide)), State.releasePins_keeps (h.mono (by decide)), State.seamStop_keeps
    (h.mono (by decide)), State.mouldStop_keeps (h.mono (by decide)), State.loseProducer_keeps (h.mono (by decide)),
    State.abandonDeliveries_keeps (h.mono (by decide)), -Nat.reducePow]

theorem State.unfenceQueues_keeps {β : Type} {p : State → β} (h : Ignores p [.regs]) (s : State) :
    p (s.unfenceQueues) = p s := by
  unfold State.unfenceQueues
  refine State.each_keeps _ _ _ p (fun t x => ?_)
  split
  · split
    · rw [State.put_keeps (h.mono (by decide)), State.put_keeps (h.mono (by decide))]
    · rfl
  · rfl

theorem State.domainsOn_keeps {β : Type} {p : State → β} (h : Ignores p [.supply]) (s : State) :
    p (State.domainsOn s) = p s := by
  simp only [State.domainsOn, h.supply (by decide), -Nat.reducePow]

theorem State.slicesOn_keeps {β : Type} {p : State → β} (h : Ignores p [.regs, .slices, .faults]) (s : State) :
    p (State.slicesOn s) = p s := by
  simp only [State.slicesOn, apply_ite p, ite_self, implies_true, State.each_p p, State.sliceOff_keeps (h.mono (by
    decide)), State.sliceSwitch_keeps (h.mono (by decide)), -Nat.reducePow]

theorem State.perst_keeps {β : Type} {p : State → β} (h : Ignores p [.supply, .regs, .latches, .cfg, .time, .gates,
    .links, .engines, .cams, .slices, .seams, .moulds, .timers, .strobes, .records, .queues, .banks, .prods, .rings,
    .loads, .chks, .faults, .out]) (s : State) :
    p (s.perst) = p s := by
  have key : ∀ t u : State, u.pending = t.pending → u.encs = t.encs → u.badLinks = t.badLinks → u.smb = t.smb →
      u.jtag = t.jtag → u.hbm = t.hbm → u.fresh = t.fresh → u.queues = t.queues → u.banks = t.banks → u.out = t.out →
      p u = p t := by
    intro t u e1 e2 e3 e4 e5 e6 e7 e8 e9 e10
    refine h t u (fun q hq => ?_)
    cases q <;> first | assumption | exact absurd (by decide) hq
  unfold State.perst
  have h0 : p s.perstStop = p s := State.perstStop_keeps (h.mono (by decide)) s
  generalize s.perstStop = t0 at h0 ⊢
  refine (State.peerReset_keeps (h.mono (by decide)) _ _).trans ?_
  refine (State.slicesOn_keeps (h.mono (by decide)) _).trans ?_
  refine (State.domainsOn_keeps (h.mono (by decide)) _).trans ?_
  refine (State.unfenceQueues_keeps (h.mono (by decide)) _).trans ?_
  refine (key t0 _ ?_ ?_ ?_ ?_ ?_ ?_ ?_ ?_ ?_ ?_).trans h0 <;> rfl

theorem State.perstAssert_keeps {β : Type} {p : State → β} (h : Ignores p [.supply, .regs, .latches, .cfg, .time,
    .gates, .links, .engines, .cams, .slices, .seams, .moulds, .timers, .strobes, .records, .queues, .banks, .prods,
    .rings, .loads, .chks, .faults, .out]) (s : State) :
    p (State.perstAssert s) = p s := by
  simp only [State.perstAssert, apply_ite p, ite_self, State.perst_keeps (h.mono (by decide)), h.supply (by decide),
    -Nat.reducePow]

theorem State.perstRelease_keeps {β : Type} {p : State → β} (h : Ignores p [.supply, .regs, .links, .engines, .cams,
    .slices, .seams, .moulds, .strobes, .records, .queues, .banks, .prods, .rings, .faults, .fresh, .out]) (s : State) :
    p (s.perstRelease) = p s := by
  unfold State.perstRelease
  extract_lets sp t
  have h0 : p t = p s := h.supply (by decide) _ _
  clear_value t
  split
  · exact h0
  · refine (State.each_keeps _ _ _ p (fun t l => ?_)).trans h0
    split
    · split
      · exact State.each_keeps _ _ _ p (fun t u => State.fenceUnit_keeps (h.mono (by decide)) _ _)
      · rfl
    · rfl

end Sys2Proof.Machine
end

