-- ==== Sys2Proof/Laws/Regs.lean ====
section
/-!
SUPPORT. Registers and fields: what a read gives after a write of the same field, of another field of the same register,
and of another register.
-/

namespace Sys2Proof.Machine

/-! ### Bit fields of a word -/

theorem setBits_toNat (w : Word) (hi lo v : Nat) (h : lo ≤ hi) (hh : hi < 32) :
    (setBits w hi lo v).toNat =
      w.toNat % 2 ^ lo + v % 2 ^ (hi + 1 - lo) * 2 ^ lo + w.toNat / 2 ^ (hi + 1) * 2 ^ (hi + 1) := by
  have hw : w.toNat < 2 ^ 32 := w.isLt
  have e : 2 ^ (hi + 1 - lo) * 2 ^ lo = 2 ^ (hi + 1) := by rw [← pow_add]; congr 1; omega
  have e2 : 2 ^ (hi + 1) * 2 ^ (32 - (hi + 1)) = 2 ^ 32 := by rw [← pow_add]; congr 1; omega
  have h1 : w.toNat % 2 ^ lo < 2 ^ lo := Nat.mod_lt _ (by positivity)
  have h2 : v % 2 ^ (hi + 1 - lo) < 2 ^ (hi + 1 - lo) := Nat.mod_lt _ (by positivity)
  have h3 : w.toNat / 2 ^ (hi + 1) < 2 ^ (32 - (hi + 1)) := by
    rw [Nat.div_lt_iff_lt_mul (by positivity), Nat.mul_comm, e2]; exact hw
  have h4 : v % 2 ^ (hi + 1 - lo) * 2 ^ lo + 2 ^ lo ≤ 2 ^ (hi + 1) := by
    rw [← e]; nlinarith [Nat.pos_of_ne_zero (pow_ne_zero lo (two_ne_zero (α := Nat)))]
  have h5 : w.toNat / 2 ^ (hi + 1) * 2 ^ (hi + 1) + 2 ^ (hi + 1) ≤ 2 ^ 32 := by
    rw [← e2, Nat.mul_comm (2 ^ (hi + 1)) (2 ^ (32 - (hi + 1)))]
    nlinarith [Nat.pos_of_ne_zero (pow_ne_zero (hi + 1) (two_ne_zero (α := Nat)))]
  unfold setBits
  rw [BitVec.toNat_ofNat]
  apply Nat.mod_eq_of_lt
  omega

/-- A field reads what was written to it, modulo its width. -/
theorem getBits_setBits_same (w : Word) (hi lo v : Nat) (h : lo ≤ hi) (hh : hi < 32) :
    getBits (setBits w hi lo v) hi lo = v % 2 ^ (hi + 1 - lo) := by
  unfold getBits
  rw [setBits_toNat w hi lo v h hh]
  have e : 2 ^ (hi + 1) = 2 ^ lo * 2 ^ (hi + 1 - lo) := by rw [← pow_add]; congr 1; omega
  have h1 : w.toNat % 2 ^ lo < 2 ^ lo := Nat.mod_lt _ (by positivity)
  have h2 : v % 2 ^ (hi + 1 - lo) < 2 ^ (hi + 1 - lo) := Nat.mod_lt _ (by positivity)
  have e3 : w.toNat % 2 ^ lo + v % 2 ^ (hi + 1 - lo) * 2 ^ lo + w.toNat / 2 ^ (hi + 1) * 2 ^ (hi + 1)
      = w.toNat % 2 ^ lo + (v % 2 ^ (hi + 1 - lo) + w.toNat / 2 ^ (hi + 1) * 2 ^ (hi + 1 - lo)) * 2 ^ lo := by
    rw [e]; ring
  rw [e3, Nat.add_mul_div_right _ _ (by positivity), Nat.div_eq_of_lt h1, Nat.zero_add, Nat.add_mul_mod_self_right,
    Nat.mod_eq_of_lt h2]

/-- A field above the one written is unchanged. -/
theorem getBits_setBits_above (w : Word) (hi lo v i j : Nat) (h : lo ≤ hi) (hh : hi < 32) (hj : hi < j) :
    getBits (setBits w hi lo v) i j = getBits w i j := by
  unfold getBits
  congr 1
  rw [setBits_toNat w hi lo v h hh]
  have e : 2 ^ (hi + 1) = 2 ^ (hi + 1 - lo) * 2 ^ lo := by rw [← pow_add]; congr 1; omega
  have h1 : w.toNat % 2 ^ lo < 2 ^ lo := Nat.mod_lt _ (by positivity)
  have h2 : v % 2 ^ (hi + 1 - lo) < 2 ^ (hi + 1 - lo) := Nat.mod_lt _ (by positivity)
  have h4 : w.toNat % 2 ^ lo + v % 2 ^ (hi + 1 - lo) * 2 ^ lo < 2 ^ (hi + 1) := by
    rw [e]; nlinarith [Nat.pos_of_ne_zero (pow_ne_zero lo (two_ne_zero (α := Nat)))]
  have e2 : 2 ^ j = 2 ^ (hi + 1) * 2 ^ (j - (hi + 1)) := by rw [← pow_add]; congr 1; omega
  rw [e2, ← Nat.div_div_eq_div_mul, ← Nat.div_div_eq_div_mul]
  congr 1
  rw [Nat.add_mul_div_right _ _ (by positivity), Nat.div_eq_of_lt h4, Nat.zero_add]

/-- A field below the one written is unchanged. -/
theorem getBits_setBits_below (w : Word) (hi lo v i j : Nat) (h : lo ≤ hi) (hh : hi < 32) (hi' : i < lo) (hj : j ≤ i) :
    getBits (setBits w hi lo v) i j = getBits w i j := by
  have key : ∀ x y : Nat, x % 2 ^ (i + 1) = y % 2 ^ (i + 1) → x / 2 ^ j % 2 ^ (i + 1 - j) = y / 2 ^ j % 2 ^ (i + 1 - j) := by
    intro x y e
    have e2 : 2 ^ (i + 1) = 2 ^ j * 2 ^ (i + 1 - j) := by rw [← pow_add]; congr 1; omega
    rw [e2, Nat.mod_mul, Nat.mod_mul] at e
    have a := Nat.mod_lt x (show 0 < 2 ^ j by positivity)
    have b := Nat.mod_lt y (show 0 < 2 ^ j by positivity)
    have := congrArg (· / 2 ^ j) e
    simpa [Nat.add_mul_div_left, Nat.div_eq_of_lt a, Nat.div_eq_of_lt b, show 0 < 2 ^ j by positivity] using this
  unfold getBits
  apply key
  rw [setBits_toNat w hi lo v h hh]
  have e1 : 2 ^ lo = 2 ^ (i + 1) * 2 ^ (lo - (i + 1)) := by rw [← pow_add]; congr 1; omega
  have e2 : 2 ^ (hi + 1) = 2 ^ (i + 1) * 2 ^ (hi + 1 - (i + 1)) := by rw [← pow_add]; congr 1; omega
  have e3 : ∀ c : Nat, c * 2 ^ (hi + 1) = c * 2 ^ (hi + 1 - (i + 1)) * 2 ^ (i + 1) := by intro c; rw [e2]; ring
  have e4 : ∀ c : Nat, c * 2 ^ lo = c * 2 ^ (lo - (i + 1)) * 2 ^ (i + 1) := by intro c; rw [e1]; ring
  rw [e3, e4, Nat.add_mul_mod_self_right, Nat.add_mul_mod_self_right, e1, Nat.mod_mul_right_mod]

/-! ### Registers of the state -/

@[simp] theorem State.word_setWord_same (s : State) (a : Nat) (w : Word) : (s.setWord a w).word a = w := by
  simp [State.word, State.setWord]

theorem State.word_setWord_ne (s : State) (a x : Nat) (w : Word) (h : x ≠ a) : (s.setWord a w).word x = s.word x := by
  simp only [State.word, State.setWord]
  exact tget_tput_ne _ _ _ _ _ _ h

/-- A write of a field changes no other register. -/
theorem State.word_put_ne (s : State) (f : Fld) (v x : Nat) (h : x ≠ f.addr) : (s.put f v).word x = s.word x :=
  State.word_setWord_ne s f.addr x _ h

theorem State.word_put_same (s : State) (f : Fld) (v : Nat) :
    (s.put f v).word f.addr = setBits (s.word f.addr) f.hi f.lo v :=
  State.word_setWord_same s f.addr _

/-- A field of a register. -/
def Fld.ok (f : Fld) : Prop := f.lo ≤ f.hi ∧ f.hi < 32

/-- A field reads what was written to it, modulo its width. -/
theorem State.get_put_same (s : State) (f : Fld) (v : Nat) (h : f.ok) :
    (s.put f v).get f = v % 2 ^ (f.hi + 1 - f.lo) := by
  simp only [State.get, State.word_put_same]
  exact getBits_setBits_same _ _ _ _ h.1 h.2

/-- A write of a field changes no field of another register. -/
theorem State.get_put_addr (s : State) (f g : Fld) (v : Nat) (h : g.addr ≠ f.addr) : (s.put f v).get g = s.get g := by
  simp only [State.get, State.word_put_ne s f v g.addr h]

/-- A write of a field changes no field of its own register that it does not meet. -/
theorem State.get_put_disjoint (s : State) (f g : Fld) (v : Nat) (hf : f.ok) (hg : g.lo ≤ g.hi)
    (h : f.hi < g.lo ∨ g.hi < f.lo) : (s.put f v).get g = s.get g := by
  by_cases e : g.addr = f.addr
  · simp only [State.get, e, State.word_put_same]
    rcases h with h | h
    · exact getBits_setBits_above _ _ _ _ _ _ hf.1 hf.2 h
    · exact getBits_setBits_below _ _ _ _ _ _ hf.1 hf.2 h hg
  · exact State.get_put_addr s f g v e

/-- The value of a field is less than 2 to its width. -/
theorem State.get_lt (s : State) (f : Fld) : s.get f < 2 ^ (f.hi + 1 - f.lo) := Nat.mod_lt _ (by positivity)

end Sys2Proof.Machine
end

