-- ==== Sys2Proof/Laws/Stores.lean ====
section
/-!
SUPPORT. The operations that store in the HBM keep the canonical form of memory.
-/

namespace Sys2Proof.Machine

/-- An operation that leaves the HBM alone keeps its canonical form. -/
theorem memoryOk_of_eq {s t : State} (e : t.hbm = s.hbm) (h : s.memoryOk) : t.memoryOk := by
  unfold State.memoryOk at *
  rw [e]; exact h

/-- The HBM does not depend on the other parts. -/
theorem memory_ignores {l : List Part} (h : l.contains .hbm = false) : Ignores State.hbm l :=
  fun _ _ k => k .hbm (fun hm => by simp [hm] at h)

theorem State.hbmWrite_ok (s : State) (a : Nat) (l : List Byte) (h : s.memoryOk) : (s.hbmWrite a l).memoryOk :=
  State.hbmWrite_wf s a l h

theorem State.each_ok {α : Type} (s : State) (l : List α) (f : State → α → State)
    (h : ∀ t x, t.memoryOk → (f t x).memoryOk) (hs : s.memoryOk) : (s.each l f).memoryOk := by
  unfold State.each
  induction l generalizing s with
  | nil => exact hs
  | cons x xs ih => exact ih _ (h s x hs)

theorem State.when_ok (s : State) (c : Bool) (f : State → State) (h : s.memoryOk → (f s).memoryOk)
    (hs : s.memoryOk) : (s.when c f).memoryOk := by
  unfold State.when
  split
  · exact h hs
  · exact hs

theorem State.writeRow_ok (s : State) (m t n : Nat) (px : List (Option Chan)) (h : s.memoryOk) :
    (s.writeRow m t n px).memoryOk := by
  unfold State.writeRow
  extract_lets x th bm blank
  split
  · exact h
  · extract_lets addr bytes holes
    exact memoryOk_of_eq (State.setTile_keeps (memory_ignores (by decide)) _ _ _ _) (State.hbmWrite_ok _ _ _ h)

theorem State.endTileFrame_ok (s : State) (m t : Nat) (x : TileSource) (h : s.memoryOk) :
    (s.endTileFrame m t x).memoryOk := by
  unfold State.endTileFrame
  split
  · exact h
  · extract_lets src u
    have hu : u.memoryOk := memoryOk_of_eq (State.setTile_keeps (memory_ignores (by decide)) _ _ _ _) h
    clear_value u
    split
    · exact hu
    · extract_lets v src2
      have hv : v.memoryOk := by
        refine State.each_ok _ _ _ (fun t r ht => ?_) hu
        extract_lets y0 ys
        split
        · exact State.writeRow_ok _ _ _ _ _ ht
        · split
          · exact ht
          · exact State.writeRow_ok _ _ _ _ _ ht
      clear_value v
      exact memoryOk_of_eq ((State.setStale_keeps (memory_ignores (by decide)) _ _ _ _).trans (State.setTile_keeps (memory_ignores (by decide)) _ _ _ _)) hv

theorem State.scrollLine_ok (s : State) (m t : Nat) (x : TileSource) (num : Nat) (l : SrcLine) (h : s.memoryOk) :
    (s.scrollLine m t x num l).memoryOk := by
  unfold State.scrollLine
  extract_lets e group n th u near find ys v src
  split
  · exact memoryOk_of_eq (State.setTile_keeps (memory_ignores (by decide)) _ _ _ _) h
  · have hu : u.memoryOk := memoryOk_of_eq (State.setTile_keeps (memory_ignores (by decide)) _ _ _ _) h
    clear_value u
    split
    · exact memoryOk_of_eq (State.inc_keeps (memory_ignores (by decide)) _ _) hu
    · have hv : v.memoryOk := State.writeRow_ok _ _ _ _ _ hu
      clear_value v
      exact memoryOk_of_eq ((State.setStale_keeps (memory_ignores (by decide)) _ _ _ _).trans (State.setTile_keeps (memory_ignores (by decide)) _ _ _ _)) hv

theorem State.tileLine_ok (s : State) (m t : Nat) (x : TileSource) (num : Nat) (first last : Bool) (l : SrcLine)
    (h : s.memoryOk) : (s.tileLine m t x num first last l).memoryOk := by
  unfold State.tileLine
  split
  · exact State.scrollLine_ok _ _ _ _ _ _ h
  · extract_lets u src v
    have hu : u.memoryOk := by
      show (if _ then _ else _ : State).memoryOk
      split
      · exact memoryOk_of_eq (State.startTileFrame_keeps (memory_ignores (by decide)) _ _ _) (State.endTileFrame_ok _ _ _ _ h)
      · exact h
    clear_value u
    have hv : v.memoryOk := by
      show (State.memoryOk (match u.tile m t |>.cur with | some _ => _ | none => _))
      split
      · exact memoryOk_of_eq (State.setTile_keeps (memory_ignores (by decide)) _ _ _ _) hu
      · exact hu
    clear_value v
    split
    · exact State.endTileFrame_ok _ _ _ _ hv
    · exact hv

theorem State.endPart_ok (s : State) (m t : Nat) (x : TileSource) (h : s.memoryOk) :
    (s.endPart m t x).memoryOk := by
  unfold State.endPart
  split
  · exact h
  · refine State.tileLine_ok _ _ _ _ _ _ _ _ ?_
    exact memoryOk_of_eq (by rw [State.setTile_keeps (memory_ignores (by decide))]) h

theorem State.tileSegment_ok (s : State) (m t : Nat) (x : TileSource) (k : Packet) (px : List Nat) (h : s.memoryOk) :
    (s.tileSegment m t x k px).memoryOk := by
  unfold State.tileSegment
  extract_lets sub same u p q src v
  have hu : u.memoryOk := by
    show (if _ then _ else _ : State).memoryOk
    split
    · exact h
    · exact State.endPart_ok _ _ _ _ h
  clear_value u
  have hv : v.memoryOk := memoryOk_of_eq (State.setTile_keeps (memory_ignores (by decide)) _ _ _ _) hu
  clear_value v
  split
  · exact State.endPart_ok _ _ _ _ hv
  · exact hv

theorem State.takeTile_carries (P : State → Prop) (h1 : ∀ (t : State) a b, P t → P (t.raise a b))
    (h2 : ∀ (t : State) f, P t → P (t.inc f)) (h3 : ∀ (t : State) m n x k px, P t → P (t.tileSegment m n x k px))
    (h4 : ∀ (t : State) m n x a b c d, P t → P (t.tileLine m n x a b c d)) (s : State) (m t : Nat) (k : Packet) (h : P s) :
    P (s.takeTile m t k) := by
  unfold State.takeTile
  split
  · exact h
  · extract_lets bad
    have hb : P bad := h1 _ _ _ (h2 _ _ h)
    clear_value bad
    split
    · exact hb
    · split
      · exact hb
      · extract_lets px
        split
        · exact h3 _ _ _ _ _ _ h
        · exact h4 _ _ _ _ _ _ _ _ h

theorem State.takeTile_ok (s : State) (m t : Nat) (k : Packet) (h : s.memoryOk) : (s.takeTile m t k).memoryOk :=
  State.takeTile_carries State.memoryOk (fun _ _ _ => memoryOk_of_eq (State.raise_keeps (memory_ignores (by decide)) _ _ _))
    (fun _ _ => memoryOk_of_eq (State.inc_keeps (memory_ignores (by decide)) _ _)) State.tileSegment_ok State.tileLine_ok s m t k h

/-- Taking a packet out of the ladle leaves the HBM alone. -/
theorem State.readOut_hbm (s : State) (q : Nat) (links : List Ecc) : ((s.claimFor q).readOut q links).2.hbm = s.hbm :=
  (State.readOut_keeps (memory_ignores (by decide)) _ _ _).trans (State.claimFor_keeps (memory_ignores (by decide)) _ _)

theorem State.mouldPacket_ok (s : State) (m n : Nat) (links : List Ecc) (h : s.memoryOk) :
    (s.mouldPacket m n links).memoryOk := by
  unfold State.mouldPacket
  split
  · exact h
  · extract_lets q
    have ht := memoryOk_of_eq (State.readOut_hbm s q links) h
    generalize (s.claimFor q).readOut q links = r at ht ⊢
    obtain ⟨_ | k, t⟩ := r
    · exact ht
    · exact State.takeTile_ok _ _ _ _ ht

theorem State.storeMember_ok (s : State) (u i k : Nat) (p : Packet) (h : s.memoryOk) :
    (s.storeMember u i k p).memoryOk := by
  unfold State.storeMember
  extract_lets vals t
  exact memoryOk_of_eq (State.setSeam_keeps (memory_ignores (by decide)) _ _ _) (State.hbmWrite_ok _ _ _ h)

theorem State.takeMember_ok (s : State) (u i : Nat) (p : Packet) (bad : List (Nat × Nat)) (h : s.memoryOk) :
    (s.takeMember u i p bad).memoryOk := by
  unfold State.takeMember
  split
  · exact memoryOk_of_eq (by rw [State.badMember_keeps (memory_ignores (by decide))]) h
  · extract_lets k
    split
    · exact memoryOk_of_eq (by rw [State.raise_keeps (memory_ignores (by decide)), State.inc_keeps (memory_ignores (by decide))]) h
    · refine State.storeMember_ok _ _ _ _ _ ?_
      exact memoryOk_of_eq (by rw [State.forceUntil_keeps (memory_ignores (by decide))]) h

theorem State.seamPacket_ok (s : State) (u i : Nat) (links : List Ecc) (bad : List (Nat × Nat)) (h : s.memoryOk) :
    (s.seamPacket u i links bad).memoryOk := by
  unfold State.seamPacket
  split
  · exact h
  · extract_lets q
    have ht := memoryOk_of_eq (State.readOut_hbm s q links) h
    generalize (s.claimFor q).readOut q links = r at ht ⊢
    obtain ⟨_ | k, t⟩ := r
    · exact ht
    · exact State.takeMember_ok _ _ _ _ _ ht

theorem State.writeRef_ok (s : State) (fr : Frame) (y : Nat) (l : List Nat) (h : s.memoryOk) :
    (s.writeRef fr y l).memoryOk := by
  unfold State.writeRef
  extract_lets t b r
  have ht : t.memoryOk := by
    show (if _ then _ else _ : State).memoryOk
    split
    · exact h
    · exact memoryOk_of_eq (by rw [State.firstWrite_keeps (memory_ignores (by decide))]) h
  clear_value t
  refine State.hbmWrite_ok _ _ _ ?_
  exact memoryOk_of_eq (by rw [State.setRefBuf_keeps (memory_ignores (by decide))]) ht

theorem State.nrEmit_ok (s : State) (c : Nat) (h : s.memoryOk) : (s.nrEmit c).memoryOk := by
  unfold State.nrEmit
  split
  · exact h
  · extract_lets y
    split
    · exact h
    · split
      · exact h
      · extract_lets px bad t u
        have ht : t.memoryOk := by
          show (if _ then _ else _ : State).memoryOk
          split
          · exact State.writeRef_ok _ _ _ _ h
          · exact h
        clear_value t
        have hu : u.hbm = t.hbm := State.putFrame_keeps (memory_ignores (by decide)) _ _
        clear_value u
        refine memoryOk_of_eq ?_ (memoryOk_of_eq hu ht)
        rw [State.holdCheck_keeps (memory_ignores (by decide)), State.sealBoth_keeps (memory_ignores (by decide))]

theorem State.loadResult_ok (s : State) (x : TableLoad) (r : LoadEnd) (h : s.memoryOk) :
    (s.loadResult x r).1.memoryOk := by
  unfold State.loadResult
  split
  · exact h
  · exact h
  · exact State.hbmWrite_ok _ _ _ h

theorem State.tblLoadDone_fin_ok (s : State) (c : Nat) (r : LoadEnd) (x : TableLoad) (h : s.memoryOk) :
    (State.tblLoadDone.fin s c r x).memoryOk := by
  unfold State.tblLoadDone.fin
  extract_lets k l t u v w
  have h0 : k.1.memoryOk := State.loadResult_ok _ _ _ h
  clear_value k
  have h1 : t.hbm = k.1.hbm := rfl
  clear_value t
  have h2 : u.hbm = t.hbm := (State.put_keeps (memory_ignores (by decide)) _ _ _).trans (State.put_keeps (memory_ignores (by decide)) _ _ _)
  clear_value u
  have h3 : v.hbm = u.hbm := by
    show (if _ then _ else _ : State).hbm = _
    split
    · rw [State.put_keeps (memory_ignores (by decide)), State.putBit_keeps (memory_ignores (by decide))]
    · rfl
  clear_value v
  have h4 : w.hbm = v.hbm := State.raise_keeps (memory_ignores (by decide)) _ _ _
  clear_value w
  have h0 := memoryOk_of_eq h4 (memoryOk_of_eq h3 (memoryOk_of_eq h2 (memoryOk_of_eq h1 h0)))
  split
  · exact h0
  · exact memoryOk_of_eq (by rw [State.raise_keeps (memory_ignores (by decide))]) h0

theorem State.tblLoadDone_ok (s : State) (c : Nat) (r : LoadEnd) (h : s.memoryOk) :
    (s.tblLoadDone c r).memoryOk := by
  unfold State.tblLoadDone
  split
  · exact h
  · split
    · split
      · exact State.tblLoadDone_fin_ok _ _ _ _ h
      · exact h
    · exact State.tblLoadDone_fin_ok _ _ _ _ h
    · exact State.tblLoadDone_fin_ok _ _ _ _ h

/-- The device at its Reset values has empty memory. -/
theorem State.afresh_hbm (s : State) (k : SupplySt) (b : SmbSt) (j : JtagSt) : (s.afresh k b j).hbm = [] := rfl

theorem State.afresh_ok (s : State) (k : SupplySt) (b : SmbSt) (j : JtagSt) : (s.afresh k b j).memoryOk := by
  unfold State.memoryOk; rw [State.afresh_hbm]; decide

end Sys2Proof.Machine
end

