-- ==== Sys2Proof/Tests/Slice0.lean ====
section
/-!
SUPPORT. Tests: results that the specification works out or that follow from it by hand, one ill-formed command for each check of
WellFormed, and for each statement with hypotheses a concrete state that meets them, clause by clause.
-/

namespace Sys2Proof.Tests

set_option Elab.async false

open Sys2Proof Sys2Proof.Machine

/-! ### Small states -/

/-- The device with every supply good, out of reset, its PLLs locked, its stacks trained and PERST_N high. -/
def up : State :=
  { State.reset with
    supply := { State.reset.supply with poresetLow := false, perstLow := false, trained := [0, 1, 2, 3] }, regs := [(0x1100, 7)] }

/-- The stacks are not trained yet. -/
def training : State := { up with supply := { up.supply with trained := [] } }

/-- A state with fields set. -/
def set (s : State) (l : List (Fld × Nat)) : State := l.foldl (fun t p => t.put p.1 p.2) s

/-- VDD_AON is off. -/
def off : State := { State.reset with supply := { State.reset.supply with aon := false } }

/-- Out of reset, and the PLLs not locked yet. -/
def dark : State := { State.reset with supply := { State.reset.supply with poresetLow := false } }

/-- In quench. -/
def cold : State := set up [(DEV.QUENCH_STATUS_QUENCHED, 1)]

/-- Gate 0 enabled in mode 1 with its lanes 1, 2 and 4 aligned; ports 0 and 1 in link state st. -/
def gate (st : Nat) : State := set up [(GATE.GATE_CFG_GATE_MODE 0, 1), (GATE.GATE_CFG_RISER_SPLIT_A 0, 128),
  (HDR.CTRL_ENABLE (gatePage 0), 1), (GATE.LANE_MASK_MASK_A 0, 3), (GATE.LANE_MASK_MASK_B 0, 1),
  (LNK.STATE 0, st), (LNK.STATE 1, st), (LNK.CLOCK_OK 0, 1), (LNK.DLL_LOCK 0, 1), (LNK.CLOCK_OK 1, 1), (LNK.DLL_LOCK 1, 1),
  (GATE.LANE_STATUS_ALIGN_STATE 0 1, 2), (GATE.LANE_STATUS_ALIGN_STATE 0 2, 2), (GATE.LANE_STATUS_ALIGN_STATE 0 4, 2)]

/-- Port 0 of that gate enabled in READY, with lines of 4 pixels of MONO8 and frames of 3 lines. -/
def port : State := set (gate 4) [(CAM.FMT_WIDTH 0, 4), (CAM.FMT_HEIGHT 0, 3), (CAM.FMT_CFG_PIXEL_FORMAT 0, 1),
  (CAM.LINE_RATE 0, 1000), (HDR.CTRL_ENABLE (camPage 0), 1)]

/-- A window over all of port 0's frames, for queue 2. -/
def win : Win :=
  { j := 0, x0 := 0, width := 4, y0 := 0, height := 3, code := 0, outFmt := 0, decY := 0, decX := 0, mean := false,
    binY := 0, binX := 0, prio := 0, queue := 2 }

/-- A frame of port 0, with the settings of s. -/
def frame (s : State) : Frame := { c := 0, id := 1, shot := 1, latch := s.latchRegs 0, wins := [win] }

/-- A line of that frame. -/
def line : SLine := ⟨[1, 2, 3, 4], 0, 0⟩

/-- port with one frame. -/
def withFrame (fr : Frame) : State := port.setCam 0 { port.cam 0 with frames := [fr], wins := [win] }

/-! ### Results that the specification works out -/

/-- Run one command; the state given where it does not answer a next state. -/
def run (c : Instr) (s : State) : State := match exec c s with | .next t => t | .fault _ => s | .refused _ => s

/-- "Check units", example: CRC-32 IEEE and CRC-16-CCITT of "123456789". -/
theorem test_crc_example :
    crcOf 0 [0x31, 0x32, 0x33, 0x34, 0x35, 0x36, 0x37, 0x38, 0x39] = 0xCBF43926 ∧
    crcOf 2 [0x31, 0x32, 0x33, 0x34, 0x35, 0x36, 0x37, 0x38, 0x39] = 0x29B1 := by decide +kernel

/-- The same example as commands of CHK1: the writes of its table leave RESULT, DONE and no MISMATCH. -/
theorem test_check_unit_example :
    let s := run (.registerWrite 0x510C 0xCBF43926 15) up
    let t := run (.chkFinal 1) (run (.chkData8 1 0x39) (run (.chkData32 1 0x38373635) (run (.chkData32 1 0x34333231)
      (run (.chkStart 1) s))))
    t.get (CHK.CHK_RESULT 1) = 0xCBF43926 ∧ t.on (CHK.CHK_CFG_DONE 1) = true ∧ t.on (CHK.CHK_CFG_MISMATCH 1) = false := by
  decide +kernel

/-- R84: the first two bytes of a training burst. -/
theorem test_burst_bytes : (burstBytes 254 0x7F).take 2 = [0x7F, 0x20] ∧ (burstBytes 254 0x7F).length = 254 := by decide +kernel

/-- "Ahnesh Link", example of R81: MONO12 pixels 0x123 and 0xABC are the bytes 0x23, 0xC1, 0xAB. -/
theorem test_pixels_example : packPixels 12 [0x123, 0xABC] = [0x23, 0xC1, 0xAB] ∧
    unpackPixels 2 12 [0x23, 0xC1, 0xAB] = [0x123, 0xABC] ∧ expectedBytes 6 10 = 8 := by decide

/-- "The receive lanes", examples: a count of 26,222 against 26,214 is in tolerance, one of 26,240 is not; a lane whose K27.7
comes 10 symbols before the other's has SKEW 10. -/
theorem test_clock_and_skew : windowOk 4 26222 = true ∧ windowOk 4 26240 = false ∧ skewsOf [4 * 102 + 3, 4 * 100 + 1] = [0, 10] := by
  decide

/-- The noise table of the examples: NR_NOISE[6] = 112, [7] = 120, [8] = 128. -/
def noise : List Nat := List.replicate 6 0 ++ [112, 120, 128]

/-- "Noise reduction", example of R147: σ16 = 127, and the hot neighbour moves the pixel by one code. -/
theorem test_spatial_example :
    sigma16 noise 12 1000 = 127 ∧
    spatialPixel false 12 noise [8, 4, 2, 1, 0] 7 48
      [some [1000, 1000, 1000, 1000, 1000], some [1000, 1008, 4095, 992, 1000], some [1000, 990, 1000, 1004, 1000],
       some [1000, 1012, 996, 1000, 1000], some [1000, 1000, 1000, 1000, 1000]] 2 = 1001 := by decide +kernel

/-- "The temporal filter", example of R150 to R152. -/
theorem test_temporal_example :
    displacement 655360 1024 1234 0 = some (12340, true) ∧ refPoints false 12340 2000 = (1228, some 1229) ∧
    refBlend false 12340 800 820 = 815 ∧ sigma16 noise 12 830 = 116 ∧ blendWeight ⟨12, noise, 16, 32, 64, false⟩ 830 815 = 17 ∧
    temporalPixel ⟨12, noise, 16, 32, 64, false⟩ 0 2000 830 (some 815) = 819 := by decide +kernel

/-- "References in HBM", example of R159, and the registration of the interlock's example: D16 = -4,072 needs lines 254 and 255
for line 0. -/
theorem test_reference_example : scaleRef 10 0x2000 64 300 = 536 ∧ refLines false true (-4072) 0 = [254, 255] ∧
    refLines false true (-4072) 1 = [255, 256] := by decide

/-- "Corrections", example of R179 and R180: the listed pixel takes 999, the hot pixel is flagged. -/
theorem test_fettle_example :
    let rows : List (List Nat) := [[1000, 1004, 1000], [1001, 4000, 990], [1000, 996, 1000]]
    let f : FettleIn := ⟨false, 3, fun y => rows[y]?, fun _ => false, [⟨1, 1, .pixel, 1⟩], true, 200, 0⟩
    let hot : List (List Nat) := [[1000, 1012, 1000], [1001, 3980, 990], [1000, 996, 1000]]
    let g : FettleIn := ⟨false, 3, fun y => hot[y]?, fun _ => false, [], true, 200, 0⟩
    (f.fix 0 1 1).1 = 999 ∧ (f.fix 0 1 1).2 = (1, 0, 0) ∧ g.dynamic 1 1 = true := by decide +kernel

/-- "Flat-field", example of R183 and R184. -/
theorem test_flat_example :
    let knot : Nat → Nat → Option Nat := fun i j =>
      some (if i = 31 && j = 62 then 4300 else if i = 32 && j = 62 then 4340 else if i = 31 && j = 63 then 4280 else 4320)
    GridGeom.bytes ⟨129, 95, 5, 5⟩ false = 24510 ∧ gridGain ⟨129, 95, 5, 5⟩ knot 1000 2000 = 4300 ∧
    flatPixel 12 4300 16 240 819 = 624 := by decide +kernel

/-- "The residual coder", example of R195 to R198. -/
theorem test_coder_example :
    codeLine 8 1 none [100, 102, 101, 105, 104, 104] = [0x98, 0x1F, 0x92, 0x89, 0x80] ∧
    decodeLine 8 1 6 none [0x98, 0x1F, 0x92, 0x89, 0x80] = some [100, 102, 101, 105, 104, 104] ∧ codedBound 6 8 = 7 := by
  decide +kernel

/-- "The window engine", example of R188 to R190: window 1 of CP32, 2 by 2 binned means in U8. -/
theorem test_window_example :
    let v : Win := { j := 1, x0 := 0, width := 4096, y0 := 0, height := 3000, code := 1, outFmt := 1, decY := 0, decX := 0,
                     mean := true, binY := 1, binX := 1, prio := 0, queue := 101 }
    v.wo 3 = 2048 ∧ v.ho 3 = 1500 ∧ v.lineBytes 3 = 2110 := by decide +kernel

/-- "Seams", example of R208: column 32,300 in the zone of join 3. Members 0 to 2 are as member 3 with their own places. -/
theorem test_seam_example :
    let m (i : Nat) (pos : Int) (gain : Nat) (offset : Int) (line : List Nat) : StripMember :=
      ⟨8192, pos, gain, offset, 64, 8064 * (i + 1) + 64, some line⟩
    let ms := [m 0 0 4096 0 [], m 1 129024 4096 0 [], m 2 258048 4096 0 [],
      m 3 387072 4096 0 (List.replicate 8108 0 ++ [630]), m 4 516101 0x1040 (-4) (List.replicate 43 0 ++ [600, 616])]
    stripColumn ms 65535 32300 = some 627 := by decide +kernel

/-- "Admission", example of R129 to R133: the demand of CP32, MONO12 frames of 4,096 by 3,000 with one full window. -/
theorem test_admission_example :
    let s := set up [(GATE.GATE_CFG_GATE_MODE 16, 1), (CAM.FMT_WIDTH 32, 4096), (CAM.FMT_HEIGHT 32, 3000),
      (CAM.FMT_CFG_PIXEL_FORMAT 32, 3), (CAM.LINE_RATE 32, 259000), (CAM.NR_CTRL_MODE 32, 3), (LNK.RATE 32, 4)]
    let v : Win := { j := 0, x0 := 0, width := 4096, y0 := 0, height := 3000, code := 0, outFmt := 0, decY := 0, decX := 0,
                     mean := false, binY := 0, binX := 0, prio := 0, queue := 100 }
    s.camVec 32 = 66304000 ∧ s.portHbm 32 [v] = 8064 ∧ s.linkBad 32 = false ∧
    (set s [(CAM.LINE_RATE 32, 260000)]).linkBad 32 = true := by decide +kernel

/-- "Panel mosaics", example of R133: MOULD[0].ADM_HBM of a 3,840 by 2,160 Y8 panel at 30 frames a second. -/
theorem test_mould_example :
    (set up [(MOULD.MOULD_SIZE_WIDTH 0, 3840), (MOULD.MOULD_SIZE_HEIGHT 0, 2160), (MOULD.MOULD_RATE 0, 30)]).mouldHbm 0 = 1029 ∧
    shadeOf 2 400 = 100 := by decide +kernel

/-- "Byte rules", example of R321: the accesses of the host to CP80's big-endian camera under the DI rule, and a half-word under
the AI rule. -/
theorem test_byte_rules_example :
    let s := set up [(BRG.PORT_CFG_BE 40 0, 1), (BRG.PORT_CFG_RULE 40 0, 1)]
    s.hostPieces 80 0x11 [some 0xAB] = [(0x12, [0xAB])] ∧ s.hostPieces 80 0x12 [some 0xEF, some 0xBE] = [(0x10, [0xBE, 0xEF])] ∧
    s.hostPieces 80 0x14 [some 0x44, some 0x33, some 0x22, some 0x11] = [(0x14, [0x11, 0x22, 0x33, 0x44])] ∧
    (set s [(BRG.PORT_CFG_RULE 40 0, 0)]).hostPieces 80 0x12 [some 0xEF, some 0xBE] = [(0x12, [0xEF, 0xBE])] := by decide +kernel

/-- "Runs and packets", example of R323: 300 bytes from 0x0F0 cut at pages of 128 bytes and of 4 KiB. -/
theorem test_pieces_example :
    let s := set up [(BRG.WIN_BASE 40 0, 4)]
    let l := (set s [(BRG.PORT_CFG_PAGE 40 0, 1)]).hostPieces 80 0xF0 (List.replicate 300 (some 1))
    let m := (set s [(BRG.PORT_CFG_PAGE 40 0, 6)]).hostPieces 80 0xF0 (List.replicate 300 (some 1))
    l.map (fun p => (p.1, p.2.length)) = [(0x4000F0, 16), (0x400100, 128), (0x400180, 128), (0x400200, 28)] ∧
    m.map (fun p => (p.1, p.2.length)) = [(0x4000F0, 256), (0x4001F0, 44)] := by decide +kernel

/-- "The register map", example of R166, R417 and R420: two refusals and their record on CAM[32]. -/
theorem test_refusal_example :
    let s := set up [(HDR.CTRL_ENABLE (camPage 32), 1), (CAM.NR_CTRL_REG_EN 32, 1), (CAM.NR_CTRL_MODE 32, 3)]
    let a := run (.registerWrite 0x880200 0x113 15) s
    let b := run (.registerWrite 0x880200 0x102 15) a
    let c := run (.registerWrite (Fin.ofNat _ (CAM.NR_TEMPORAL_K 32).addr) 0 15) b
    let d := run (.stateClear 0x880) c
    s.readReg 0x88000C = 1 ∧ a.word 0x880200 = 0x113 ∧ a.readReg 0x88000C = 1 ∧ b.word 0x880200 = 0x113 ∧
    b.readReg 0x88000C = 0x80020101 ∧ c.readReg 0x88000C = 0x80500201 ∧ d.readReg 0x88000C = 1 := by decide +kernel

/-- "Escalation", example of R361 and R363: an occurrence of BUFFER_UE starts section engine 40's timer, ACK stops it, and a timer
that runs out fences the engine. -/
theorem test_escalation_example :
    let s := set up [(HDR.ESC_TIMER (brgPage 40), 100)]
    let a := run (.faultOccurrence 0x1A8 2 0 true false) s
    let b := run (.escAck 0x1A8) a
    let c := run (.faultOccurrence 0x1A8 0 0 true false) { b with time := { b.time with ns := 50000 } }
    let d := run (.escalationExpiry 0x1A8) c
    a.get (HDR.FAULT_STICKY (brgPage 40)) = 4 ∧ a.on (HDR.ESC_STATUS_RUNNING (brgPage 40)) = true ∧
    b.on (HDR.ESC_STATUS_RUNNING (brgPage 40)) = false ∧ b.engineFenced 40 = false ∧ c.engineFenced 40 = false ∧
    d.engineFenced 40 = true ∧ d.get (HDR.FAULT_FIRST_BIT (brgPage 40)) = 2 ∧ d.get (HDR.FAULT_STICKY (brgPage 40)) = 5 ∧
    d.on (HDR.ESC_STATUS_EXPIRED (brgPage 40)) = true := by decide +kernel

/-- "Trigger symbols", example of R90 and R231: an instant at 1,000,005 ns takes the slot at 1,000,008 with phase 5. -/
theorem test_trigger_slot_example :
    (run (.triggerSymbolSend 22) (up.setEngine 22 { up.engine 22 with pairs := [⟨0, 0, 1000005, 1⟩] })).out =
      [.trigPair 22 0xA0 1000008] := by decide +kernel

/-- "The gates", example of R411: the pages of CP200. -/
theorem test_page_addresses : camPage 200 = 0xB20000 ∧ gatePage 100 = 0x164000 ∧ brgPage 100 = 0x1E4000 ∧ slicePage 25 = 0x219000 ∧
    chkPage 1 = 0x5000 := by decide

/-! ### Well-formed commands: one that each check refuses, and one of it that passes -/

theorem test_wf_deskew : (Instr.deskewMeasure 0 0 []).wf = false ∧ (Instr.deskewMeasure 0 0 [1]).wf = true := by decide
theorem test_wf_burst : (Instr.trainingBurst 0 0 (List.replicate 255 0)).wf = false ∧ (Instr.trainingBurst 0 0 []).wf = true := by decide +kernel
theorem test_wf_far : (Instr.farLock 0 0 (List.replicate 255 0)).wf = false ∧ (Instr.farLock 0 0 (List.replicate 256 0)).wf = true := by
  decide +kernel
theorem test_wf_bodies : (Instr.fsPacket 0 0 [2]).wf = false ∧ (Instr.linePacket 0 0 []).wf = false ∧
    (Instr.fePacket 0 0 [1]).wf = false ∧ (Instr.unknownTypePacket 0 0 [3]).wf = false ∧ (Instr.fsPacket 0 0 [1]).wf = true ∧
    (Instr.linePacket 0 0 [2]).wf = true ∧ (Instr.fePacket 0 0 [3]).wf = true ∧ (Instr.unknownTypePacket 0 0 [4]).wf = true := by decide
theorem test_wf_load : (Instr.tblLoadDone 0 (.data [])).wf = true := by decide
theorem test_wf_load_long (l : List Byte) (h : 524288 < l.length) : (Instr.tblLoadDone 0 (.data l)).wf = false := by
  simp only [Instr.wf, decide_eq_false_iff_not]; omega
theorem test_wf_bad_slots : (Instr.seamLineForm 0 [(32, 0)]).wf = false ∧ (Instr.seamTimeout 0 [(0, 0x2000000)]).wf = false ∧
    (Instr.seamPacket 0 0 [] [(32, 0)]).wf = false ∧ (Instr.seamLineForm 0 [(31, 0x1FFFFFF)]).wf = true ∧ (Instr.seamTimeout 0 []).wf = true := by decide
theorem test_wf_readout : (Instr.mouldLineReadout 0 [7680]).wf = false ∧ (Instr.mouldLineReadout 0 [7679]).wf = true := by decide
theorem test_wf_descs : (Instr.descReadDone 0 [1] true).wf = false ∧ (Instr.descReadDone 0 [1] false).wf = true ∧
    (Instr.descReadDone 0 (List.replicate 32 0) true).wf = true := by decide +kernel
theorem test_wf_window : (Instr.bar2Write 0 4095 [none, none]).wf = false ∧ (Instr.bar2Read 0 4095 [true, true] 0).wf = false ∧
    (Instr.bar2Write 0 4095 [none]).wf = true ∧ (Instr.bar2Read 0 0 [true] 0).wf = true := by decide
theorem test_wf_read_data : (Instr.readDataRsp 0 0 0 false 0 (List.replicate 257 0)).wf = false ∧
    (Instr.readDataRsp 0 0 0 false 0 [1]).wf = true := by decide +kernel
theorem test_wf_nak : (Instr.nakRsp 0 0 0 0 0).wf = false ∧ (Instr.nakRsp 0 0 0 1 0).wf = true := by decide
theorem test_wf_exit : (Instr.gateExitDone 0 []).wf = false ∧ (Instr.gateExitDone 0 [none, none, none, none, none]).wf = true := by decide
theorem test_wf_wake : (Instr.wakeAheadExit true 33).wf = false ∧ (Instr.wakeAheadExit true 32).wf = true := by decide
theorem test_wf_temps : (Instr.tempConversion []).wf = false ∧ (Instr.tempConversion (List.replicate 8 0)).wf = true := by decide
theorem test_wf_rails : (Instr.railReadingUpdate []).wf = false ∧ (Instr.railReadingUpdate (List.replicate 10 0)).wf = true := by decide
theorem test_wf_scans : (Instr.extest [] []).wf = false ∧ (Instr.samplePreload [] []).wf = false ∧ (Instr.extestPulse [] []).wf = false ∧
    (Instr.extestTrain [] []).wf = false := by decide
theorem test_wf_scan_ok :
    (Instr.extest (List.replicate 1305 true) (List.replicate 1305 true)).wf = true := by decide +kernel

/-- No row of the opcode table gives bits, so no word spells a command (log entry 11). -/
theorem test_no_words (nbits w : Nat) : decodeTableWord nbits w = none := rfl

/-! ### For each statement with hypotheses, states and operands that meet them, clause by clause -/

theorem witness_SupplyCommandsComplete :
    off.supply.aon = false ∧ (up.supply.aon = true ∧ up.quenched = false) ∧
    (State.reset.supply.aon = true ∧ State.reset.supply.poresetLow = true ∧ State.reset.supply.railsOut = [] ∧
      State.reset.powerGood = true) ∧
    (∀ s ∈ [({ State.reset with smb := { State.reset.smb with rails := List.replicate 10 0 } } : State),
        { State.reset with supply := { State.reset.supply with railsOut := [9] } }],
      s.supply.aon = true ∧ s.supply.poresetLow = true ∧ (s.supply.railsOut ≠ [] ∨ s.powerGood = false)) ∧
    (dark.awake = true ∧ dark.quenched = false ∧ dark.supply.refclk = true ∧ dark.get CLK.CLK_STATUS_CRUCIBLE_LOCK = 0) ∧
    (training.running = true ∧ 3 ∉ training.supply.trained) := by decide +kernel

theorem witness_PerstCommandsComplete :
    (up.running = true ∧ up.supply.perstLow = false) ∧ (cold.supply.aon = true ∧ cold.quenched = true) ∧
    (State.reset.supply.aon = true ∧ State.reset.supply.perstLow = true ∧ State.reset.faults.live = []) := by decide +kernel

theorem witness_PerstRegisters : up.running = true ∧ up.supply.perstLow = false := by decide +kernel

/-- Check unit 3 is DONE. -/
def done : State := set up [(CHK.CHK_CFG_EMPTY 3, 0), (CHK.CHK_CFG_DONE 3, 1)]

/-- Check unit 3 has taken a byte. -/
def fed : State := set up [(CHK.CHK_CFG_EMPTY 3, 0)]

/-- Check unit 3 is fenced. -/
def fencedChk : State := set up [(HDR.FAULT_REACT_FENCED (chkPage 3), 1)]

theorem witness_CheckUnitCommandsComplete :
    (up.hostOn = true ∧ up.chkFenced 3 = false ∧ up.chkBusy 3 = false ∧ up.on (CHK.CHK_CFG_DONE 3) = false ∧
      (3 : Fin 8).val ≤ 3) ∧
    (done.hostOn = true ∧ done.chkFenced 3 = false) := by decide +kernel

theorem witness_SmbusReadsComplete : State.reset.smbOn = true := by decide +kernel

/-- The SMBus target alerts. -/
def alerts : State := { up with smb := { up.smb with alertStatus := 1, alertMask := 1 } }

theorem witness_SmbusWritesComplete :
    (up.smbOn = true ∧ up.pecOk 0x19 [7] none = true ∧
      up.pecOk 0x1A (leBytes 2 896) (some (BitVec.ofNat 8 (crc8 [BitVec.ofNat 8 (2 * up.smbAddr), 0x1A, 0x80, 0x03]))) = true ∧
      up.pecOk 0x39 [7] none = true) ∧
    (alerts.smbOn = true ∧ alerts.alerting = true) ∧
    ((0 : Byte).toNat ≠ crc8 [BitVec.ofNat 8 (2 * up.smbAddr), 0x39, 7] ∧
      (0 : Byte).toNat ≠ crc8 [BitVec.ofNat 8 (2 * up.smbAddr), 0x19, 7] ∧
      (0 : Byte).toNat ≠ crc8 ([BitVec.ofNat 8 (2 * up.smbAddr), 0x1A] ++ leBytes 2 (5 : BitVec 16).toNat)) ∧
    896 < (897 : BitVec 16).toNat ∧ up.alerting = false ∧ off.smbOn = false := by decide +kernel

theorem witness_TestPortComplete :
    (List.replicate 1305 true).length = 1305 ∧ (up.supply.aon = true ∧ up.supply.poresetLow = false) ∧
    (State.reset.supply.aon = true ∧ State.reset.supply.poresetLow = true) ∧
    (255 : BitVec 8).toNat ∉ [0x00, 0x01, 0x02, 0x05, 0x06, 0x07, 0x08] ∧
    (let s := set cold [(TRG.PIN_CFG_DIR 63, 1)]
     s.supply.aon = true ∧ s.supply.poresetLow = false ∧ s.on (TRG.PIN_CFG_DIR 63) = true ∧ s.quenched = true) ∧
    ({ State.reset with jtag := { State.reset.jtag with instr := .highz } } : State).jtag.instr = .highz := by decide +kernel

/-- The codes at the ends of the opcode table of R464, and one outside it. -/
theorem test_opcodes : jtagDecode 0x00 = .extest ∧ jtagDecode 0x08 = .clamp ∧ jtagDecode 0x03 = .bypass := by decide

/-- The PCI Express link is up at 64 GT/s on 16 lanes. -/
def linked : State := set up [(PEX.LINK_STATUS_DL_UP, 1), (PEX.LINK_STATUS_SPEED, 6), (PEX.LINK_STATUS_WIDTH, 16)]

theorem witness_HostLinkCommandsComplete :
    (up.awake = true ∧ up.supply.perstLow = false ∧ up.on CLK.CLK_STATUS_CRUCIBLE_LOCK = true ∧
      ((16 : Fin 64).val = 4 ∨ (16 : Fin 64).val = 8 ∨ (16 : Fin 64).val = 16) ∧ 1 ≤ (6 : Fin 16).val ∧ (6 : Fin 16).val ≤ 6 ∧
      ¬((2 : Fin 64).val = 4 ∨ (2 : Fin 64).val = 8 ∨ (2 : Fin 64).val = 16) ∧ (0 : Fin 16).val = 0 ∧ 6 < (7 : Fin 16).val) ∧
    (linked.awake = true ∧ linked.on PEX.LINK_STATUS_DL_UP = true) ∧ up.hostOn = true := by decide +kernel

/-- PTM is on, and a dialogue has succeeded. -/
def timed : State := { set up [(TIME.TIME_CTRL, 1)] with
  cfg := { busMaster := true, ptmEnable := true }, time := { ns := 5, first := false } }

theorem witness_TimeCommandsComplete :
    (timed.ptmOn = true ∧ timed.time.first = false) ∧
    (({ timed with time := {} } : State).ptmOn = true ∧ ({ timed with time := {} } : State).time.first = true ∧
      timed.anySched = false) ∧
    (up.hostOn = true ∧ up.anySched = false) ∧
    ((set port [(CAM.SCHED_CFG_EN 0, 1)]).hostOn = true ∧ (set port [(CAM.SCHED_CFG_EN 0, 1)]).anySched = true) := by
  decide +kernel

/-- Vector 2,047 is pending. -/
def pended : State := set up [(PBA.PENDING 2047, 1), (MSIX.MASK 2047, 0)]

theorem witness_InterruptCommandsComplete :
    (pended.hostOn = true ∧ pended.on (PBA.PENDING 2047) = true ∧ pended.on (MSIX.MASK 2047) = false ∧
      pended.cfg.msixEnable = true ∧ pended.cfg.functionMask = false) ∧
    (∀ c ∈ [{ up.cfg with msixEnable := false }, { up.cfg with functionMask := true }],
      ({ up with cfg := c } : State).hostOn = true ∧ (c.msixEnable = false ∨ c.functionMask = true)) ∧
    (up.hostOn = true ∧ hdrPage ((4 : Fin 4096) * 0x1000) = some (.chk, 0)) ∧
    (∀ x ∈ [({ } : Xing), { busy := true }, { busy := true, count := 14 }, { busy := true, count := 15 }],
      ({ up with faults := { xings := [(8, x)] } } : State).hostOn = true ∧
      ({ up with faults := { xings := [(8, x)] } } : State).xing (2 * (4 : Fin 4096)) = x) := by decide +kernel

theorem witness_RegisterAccessComplete :
    (up.hostOn = true ∧ (let a := (CAM.FMT_WIDTH 255).addr
      a < 16777216 ∧ a % 4 = 0 ∧ locate a = some (.cam, 255, 0x104) ∧ (regAt .cam 255 0x104).isSome = true ∧
      plainReg .cam 255 0x104 = true ∧ hasEnable .cam = true ∧ up.on (HDR.CTRL_ENABLE (camPage 255)) = false ∧
      up.regLock .cam 255 0x104 = none ∧ valueTest .cam 255 0x104 4 = none ∧ crossing a = true)) ∧
    (locate 0x88020C = some (.cam, 32, 0x20C) ∧ up.regLock .cam 32 0x20C = none ∧ valueTest .cam 32 0x20C 65 = some 0x50) ∧
    (let s := set port [(RING.RING_CFG_EN 0, 1)]
     s.regLock .ring 0 0x14 = some 0x80 ∧ plainReg .ring 0 0x14 = true ∧ s.changes (RING.RING_RATE 0).addr 7 = true) ∧
    (DEV.SCRATCH.addr = 0x108 ∧ plainReg .dev 0 8 = false) ∧
    (port.hostOn = true ∧ port.on (HDR.CTRL_ENABLE (camPage 0)) = true ∧ 0x60 ≤ 0x104 ∧
      port.changesRwl (CAM.FMT_WIDTH 0).addr 5 = true ∧ getBits (5 : Word) 14 0 ≠ port.get (CAM.FMT_WIDTH 0)) ∧
    locate (4 * ((0xFFFFFF : Fin 16777216) / 4)) = none ∧ (14 : Fin 16) ≠ 15 ∧
    (up.readable = true ∧ isRoLow (4 * (TIME.TIME_LO.addr / 4)) = true) := by decide +kernel

/-- Queue 0 belongs to the pour engine; its ring has 16 entries and is enabled. -/
def ringed : State := { set up [(QD.Q_CFG_EN 0, 1), (QD.Q_CFG_CONSUMER 0, 1), (RING.RING_CFG_SIZE 0, 4), (RING.RING_CFG_EN 0, 1),
  (RING.DESC_BASE_LO 0, 0x1000), (RING.CPL_BASE_LO 0, 0x2000)] with cfg := { busMaster := true } }

theorem witness_RingCommandsComplete :
    (ringed.hostOn = true ∧ ringed.doorbellOn 0 = true ∧ bitOf (1 : Word).toNat 0 = true ∧ (7 : Fin 16) ≠ 15) ∧
    (let s := set ringed [(RING.RING_CFG_EN 0, 0)]
     s.hostOn = true ∧ s.on (RING.RING_CFG_EN 0) = false ∧ s.on (RING.RING_CFG_BUSY 0) = false ∧
     4 ≤ s.get (RING.RING_CFG_SIZE 0) ∧ s.get (RING.RING_CFG_SIZE 0) ≤ 16 ∧ s.get (RING.DESC_BASE_LO 0) % 64 = 0 ∧
     s.get (RING.CPL_BASE_LO 0) % 64 = 0 ∧ s.get (QD.Q_CFG_CONSUMER 0) = 1 ∧ s.queueExists 0 = true) ∧
    (ringed.on (RING.RING_CFG_EN 0) = true ∧ (ringed.ring 0).delivery = none ∧ 4 ≤ ringed.get (RING.RING_CFG_SIZE 0) ∧
      ringed.get (RING.RING_CFG_SIZE 0) ≤ 16) := by decide +kernel

/-- A packet of 8 bytes for queue q in one cell. -/
def packet (q : Nat) : Packet := { queue := q, seq := 0, payload := leBytes 8 0x0807060504030201, cells := [7], need := 1 }

/-- A delivery of that packet with a buffer open. -/
def delivery : Delivery := { seq := 0, kind := 0, hflags := 0, total := 72, first := 0, used := 1, buf := some (0x5000, 100) }

/-- ringed with a delivery under way. -/
def pours (d : Delivery) : State :=
  (ringed.setRing 0 { ringed.ring 0 with descTail := 8, delivery := some d, tokens := 131072, unsignalled := 1 }).setQueue 0
    { ringed.queue 0 with claimed := some (packet 0) }

/-- Port 0's load of its column bank 1 runs. -/
def loads (sel len : Nat) : State := { timed with loads := [⟨0, sel, 1, 0x4000, len, 0⟩] }

theorem witness_DeliveryCommandsComplete :
    (let s := (ringed.setRing 0 { ringed.ring 0 with descTail := 8 }).setQueue 0 { ringed.queue 0 with committed := [packet 0] }
     s.mayClaim 0 = true ∧ headOf (s.queueOrdered 0) (s.queue 0).committed = some (packet 0, [])) ∧
    (let s := ringed.setRing 0 { ringed.ring 0 with descTail := 8 }
     s.hostOn = true ∧ s.cfg.busMaster = true ∧ s.pourFenced = false ∧ s.on (RING.RING_CFG_HALTED 0) = false ∧
     s.descTaken 0 + 8 ≤ s.posted 0 ∧
     (s.get (RING.RING_IDX_DESC_HEAD 0) + s.descTaken 0) % s.ringEntries 0 + 8 ≤ s.ringEntries 0) ∧
    (let s := pours delivery
     s.pourOn = true ∧ s.hasTokens 0 = true ∧ s.ringTurn 0 = true ∧ (s.ring 0).delivery = some delivery ∧ delivery.ended = none ∧
     delivery.buf = some (0x5000, 100) ∧ (s.queue 0).claimed = some (packet 0) ∧
     0 < min s.cfg.mps (min 100 (delivery.total - delivery.written)) ∧ s.badLinks = [] ∧ s.faults.armed = [] ∧
     s.anyChannelFenced = false) ∧
    (let d := { delivery with ended := some 0, tDone := some 9 }
     let s := pours d
     s.pourOn = true ∧ (s.ring 0).delivery = some d ∧ (s.ring 0).enablePending = false ∧ s.ringTurn 0 = true) ∧
    (let s := set (pours delivery) [(RING.RING_CFG_INT_EN 0, 1), (RING.RING_CFG_ARMED 0, 1)]
     s.hostOn = true ∧ s.on (RING.RING_CFG_INT_EN 0) = true ∧ s.on (RING.RING_CFG_ARMED 0) = true ∧ 1 ≤ (s.ring 0).unsignalled) ∧
    (let s := loads 2 1024
     s.pourOn = true ∧ s.pourFenced = false ∧ s.cfg.d3hot = false ∧
     (s.loads.take 4).find? (fun y => y.port == 0) = some ⟨0, 2, 1, 0x4000, 1024, 0⟩ ∧ s.tagFree = true ∧
     s.pageMessageDue = false ∧ s.tableReadDue = true) ∧
    (let s := set (pours delivery) [(RING.RING_CFG_URGENT 0, 1)]
     s.ringDue 0 = true ∧ s.on (RING.RING_CFG_URGENT 0) = true ∧ s.on (RING.RING_CFG_URGENT 1) = false) := by decide +kernel

/-- Queue 0 is enabled. -/
def queued : State := set up [(QD.Q_CFG_EN 0, 1)]

/-- A seam of two members, the first from queue 1, with packets of 4 pixels of 2 bytes. -/
def seamed : State := set port [(QD.Q_CFG_EN 1, 1), (QD.Q_CFG_CONSUMER 1, 2), (QD.Q_CFG_UNIT 1, 0), (SEAM.SEAM_CFG_MEMBERS 0, 1),
  (SEAM.MEM_QUEUE 0 0, 1), (SEAM.MEM_WIDTH 0 0, 4), (SEAM.MEM_GAIN_GAIN 0 0, 4096), (SEAM.SEAM_WIDTH 0, 4), (SEAM.SEAM_BLOCK 0, 4),
  (SEAM.SEAM_TIMEOUT 0, 5), (HDR.CTRL_ENABLE (seamPage 0), 1)]

theorem witness_LadlePacketCommandsComplete :
    (let s := queued.setProd 0 { todo := [packet 0], cur := none }
     s.running = true ∧ s.producerOn 0 = true ∧ s.prod 0 = { todo := packet 0 :: [], cur := none } ∧ (packet 0).queue < 16384 ∧
     s.queueEn 0 = true ∧ s.queueFenced 0 = false ∧ s.hasRoom 0 (cellsFor (packet 0).payload.length) = true) ∧
    (let k := { packet 0 with cells := [] }
     let s := queued.setProd 0 { todo := [], cur := some k }
     s.running = true ∧ (s.prod 0).cur = some k ∧ k.cells.length < k.need ∧ (s.takeCell (homeBank k.queue)).isSome = true ∧
     s.faults.armed = []) ∧
    (let s := queued.setProd 0 { todo := [], cur := some (packet 0) }
     s.running = true ∧ (s.prod 0).cur = some (packet 0) ∧ (packet 0).need ≤ (packet 0).cells.length ∧
     (packet 0).outOfOcc = false ∧ (packet 0).marked = false) ∧
    (let s := seamed.setQueue 1 { seamed.queue 1 with committed := [packet 1] }
     s.running = true ∧ s.canPop 1 = true ∧ s.get (QD.Q_CFG_CONSUMER 1) = 2 ∧ s.seamRuns (s.get (QD.Q_CFG_UNIT 1)) = true ∧
     s.seamBinds (s.get (QD.Q_CFG_UNIT 1)) 0 = true ∧ s.get (SEAM.MEM_QUEUE (s.get (QD.Q_CFG_UNIT 1)) 0) = 1 ∧
     headOf (s.queueOrdered 1) (s.queue 1).committed = some (packet 1, [])) ∧
    (let s := queued.setQueue 0 { queued.queue 0 with returning := [5] }
     s.running = true ∧ (s.queue 0).returning = 5 :: [] ∧ s.cellFails 5 = false ∧ (s.bank (5 / 1048576)).debt = 0 ∧
     s.faults.armed = [] ∧ s.hbmRests = false) := by decide +kernel

/-- No queue is enabled after reset. -/
theorem up_queues_off : up.anyQueueOn = false := by
  have hp (q : Nat) (h : q < 16384) : locate (queueDesc q) = some (.qd, q, 0) := by
    have e : queueDesc q = 0x400000 + 0x80 * q := by simp only [queueDesc]
    have h1 : (queueDesc q - 0x400000) / 0x80 = q := by omega
    have h2 : queueDesc q % 0x80 = 0 := by omega
    simp only [locate, h1, h2]
    repeat rw [if_neg (by omega)]
    rw [if_pos (by omega)]
  have hr (q : Nat) : regAt .qd q 0 = regAt .qd 0 0 := rfl
  have hw (q : Nat) (h : q < 16384) : resetWord (queueDesc q) = resetWord (queueDesc 0) := by
    simp only [resetWord, hp q h, hp 0 (by omega), blockType, hr q, Option.isSome_none, Bool.false_and]
    rfl
  have h0 : getBits (resetWord (queueDesc 0)) 31 31 = 0 := by decide +kernel
  rw [State.anyQueueOn, List.any_eq_false]
  intro q hq
  have hq : q < 16384 := List.mem_range.mp hq
  have hn : (0x1100 : Nat) ≠ queueDesc q := by simp only [queueDesc]; omega
  have hv : up.word (queueDesc q) = resetWord (queueDesc q) := by
    show tget [(0x1100, (7 : Word))] (queueDesc q) (resetWord (queueDesc q)) = _
    simp only [tget, if_neg hn]
  simp [State.on, State.get, QD.Q_CFG_EN, hv, hw q hq, h0]

theorem witness_QueueCommandsComplete :
    (queued.hostOn = true ∧ queued.queueExists 0 = true ∧ (queued.queue 0).flushing = false) ∧
    (let s := queued.setQueue 0 { queued.queue 0 with flushing := true, markedCells := [9] }
     s.running = true ∧ (s.queue 0).flushing = true ∧ (s.openOn 0).all (fun p => !p.2.marked || p.2.outOfOcc) = true) ∧
    (set queued [(QD.Q_STATUS_FENCED 0, 1)]).on (QD.Q_STATUS_FENCED 0) = true ∧
    (let s := set up [(LADLE.LADLE_CFG, 1)]
     s.hostOn = true ∧ s.queueExists 1023 = true ∧ s.on (QD.Q_CFG_EN 1023) = false ∧
     s.domainReady (297 + homeBank 1023) = true ∧ s.on LADLE.LADLE_CFG = true ∧ (3 : Fin 8).val ≤ 3) ∧
    (queued.on (QD.Q_CFG_EN 0) = true ∧ queued.queueBusy 0 = false ∧ queued.on (QD.Q_CFG_ORDERED 0) = false ∧
      queued.get (QD.Q_CFG_CONSUMER 0) ≠ 2) ∧
    (up.hostOn = true ∧ up.anyQueueOn = false ∧ queued.anyQueueOn = true) :=
  ⟨by decide +kernel, by decide +kernel, by decide +kernel, by decide +kernel, by decide +kernel, by decide +kernel,
    up_queues_off, by decide +kernel⟩

theorem witness_ScrubAndSweepComplete :
    up.running = true ∧
    (up.hostOn = true ∧ up.bankFenced 15 = false ∧ up.on (LADLE.SWEEP_STATUS_BUSY 15) = false) ∧
    (let s := (set up [(LADLE.SWEEP_STATUS_BUSY 0, 1), (LADLE.BANK_AVAIL 0, 1048575)]).setBank 0
       { up.bank 0 with untouched := 1048575, sweepSet := [3], stray := [3] }
     s.running = true ∧ s.on (LADLE.SWEEP_STATUS_BUSY 0) = true ∧ (s.endSweep 0).2 = false ∧ (s.bank 0).sweepDue = false ∧
     (s.bank 0).sweepSet.length < 2 ^ 21) := by decide +kernel

/-- gate with its engine fenced or its other fields set. -/
def ready : State := gate 4

/-- A request of port 0 with tag 7. -/
def request (op : Nat) (p : Purpose) : Req :=
  { port := 0, tag := 7, op := op, cls := if op = 1 then 2 else 1, addr := 0x14, data := if op = 1 then [1, 0, 0, 0] else [],
    len := if op = 1 then 0 else 4, want := 4, purpose := p, state := .outstanding }

/-- A state in which gate 0's engine holds these requests and a grant runs. -/
def asks (s : State) (l : List Req) : State := s.setEngine 0 { s.engine 0 with reqs := l, grant := some 5 }

theorem witness_LinkClockCommandsComplete :
    (let s := set (gate 0) [(LNK.CLOCK_OK 0, 0)]
     s.clockRuns 0 = true ∧ windowOk (s.get (LNK.RATE 0)) 0 = false ∧ (List.range 65536).any (windowOk (s.get (LNK.RATE 0))) = true ∧
     s.engineFenced 0 = false ∧ s.linkState 0 = linkDown ∧ (s.link 0).heldDown = false ∧ s.gateEnabled 0 = true ∧
     s.portFenced 0 = false ∧ s.on (LNK.CLOCK_OK 0) = false) ∧
    ((gate 3).clockRuns 1 = true ∧ (gate 3).on (LNK.CLOCK_OK 1) = true ∧ (gate 3).linkState 1 ≠ linkReady ∧
      (gate 3).portFenced 1 = false) ∧
    (∀ x ∈ [0, 2], let s := set (gate 1) [(GATE.PWR_STATE_STATE 0, x)]
      s.portLive 1 = true ∧ s.linkState 1 = linkClock ∧ s.get (GATE.PWR_STATE_STATE 0) ≠ 3 ∧ s.portFenced 1 = false) ∧
    (ready.receiving 1 = true ∧ ready.gateActive 0 = true ∧ ready.linkState 1 = linkReady) ∧
    (let s := (gate 1).setLink 1 { (gate 1).link 1 with trying := true }
     s.portLive 1 = true ∧ (s.link 1).trying = true) := by decide +kernel

/-- The word of four symbols that begin at a running disparity, the first in bits 9 to 0. -/
def word (rd : Bool) (l : List Sym) : BitVec 40 := BitVec.ofNat 40 ((encodeAll rd l).foldr (fun c acc => c + 1024 * acc) 0)

/-- A word of idles. -/
def idles : BitVec 40 := word false (List.replicate 4 ⟨true, k28_5⟩)

/-- K28.5 and D10.2 at both disparities, from the code tables of the ANSI standard that R431 names: their bits abcdei fghj. -/
theorem test_code_groups :
    encodeSym ⟨true, k28_5⟩ false = (firstLowest 10 0b0011111010, true) ∧
    encodeSym ⟨true, k28_5⟩ true = (firstLowest 10 0b1100000101, false) ∧
    encodeSym ⟨false, 0x4A⟩ false = (firstLowest 10 0b0101010101, false) ∧
    encodeSym ⟨true, k23_7⟩ false = (firstLowest 10 0b1110101000, false) := by decide

/-- Idles decode without an error at their own offset, where a comma stands first. -/
theorem test_idles : reportWord idles idles 0 (some false) false =
    { comma := some 0, here := true, codeErr := 0, dispErr := 0, data := 0, badSpecial := 0, other := false, rd := false } := by
  decide +kernel

/-- gate in TRAIN, its lanes with fifteen bursts each and one good. -/
def trains : State := (gate 3).onLane 0 1 (fun x => { x with bursts := 15, goodRun := 1 }) |>.onLane 0 2
  (fun x => { x with bursts := 16, goodRun := 2 })

theorem witness_LaneAlignmentCommandsComplete :
    (ready.portOfLane 0 4 = some 1 ∧ ready.receiving 1 = true ∧ ready.gateWorks 0 = true ∧ (gate 2).receiving 0 = true ∧
      (gate 2).portOfLane 0 1 = some 0 ∧ (gate 2).gateWorks 0 = true) ∧
    (let s := set (gate 2) [(GATE.LANE_STATUS_ALIGN_STATE 0 1, 0)]
     s.get (GATE.LANE_STATUS_ALIGN_STATE 0 1) = 0 ∧ s.receiving 0 = true ∧
     commaIn (s.sampled 0 1 (idles <<< 39)) (s.sampled 0 1 (idles >>> 1)) = some 39 ∧
     (let u := set s [(GATE.LANE_CTRL 0 1, 1)]
      u.receiving 0 = true ∧ commaIn (u.sampled 0 1 (~~~idles)) (u.sampled 0 1 (~~~idles)) = some 0)) ∧
    (let s := set (gate 2) [(GATE.LANE_STATUS_ALIGN_STATE 0 1, 1)]
     let t := s.onLane 0 1 (fun x => { x with commaCount := 3 })
     let data := word false (List.replicate 4 ⟨false, 0x4A⟩)
     let W := s.lookAt 0 1 idles idles false
     s.get (GATE.LANE_STATUS_ALIGN_STATE 0 1) = 1 ∧ s.receiving 0 = true ∧
     (s.lookAt 0 1 0 idles false).codeErr + (s.lookAt 0 1 0 idles false).dispErr ≠ 0 ∧
     W.codeErr = 0 ∧ W.dispErr = 0 ∧ W.here = true ∧ (s.lane 0 1).commaCount < 3 ∧
     (s.lookAt 0 1 data idles true).codeErr = 0 ∧ (s.lookAt 0 1 data idles true).dispErr = 0 ∧
     (s.lookAt 0 1 data idles true).here = false ∧
     t.get (GATE.LANE_STATUS_ALIGN_STATE 0 1) = 1 ∧ (t.lookAt 0 1 idles idles false).codeErr = 0 ∧
     (t.lookAt 0 1 idles idles false).dispErr = 0 ∧ (t.lookAt 0 1 idles idles false).here = true ∧
     3 ≤ (t.lane 0 1).commaCount) := by decide +kernel

theorem witness_LaneAlignmentCommandsComplete_aligned :
    (∀ st ∈ [2, 3, 4], let s := (gate st).onLane 0 1 (fun x => { x with errHist := [3] })
     let W := s.lookAt 0 1 idles idles false
     let V := s.lookAt 0 1 0 idles false
     s.receiving 0 = true ∧ 2 ≤ s.get (GATE.LANE_STATUS_ALIGN_STATE 0 1) ∧ s.on (LNK.ADAPT_ALL 0) = false ∧
     (s.linkState 0 = linkReady ↔ st = 4) ∧ (((W.codeErr + W.dispErr) :: (s.lane 0 1).errHist).take 16).sum < 4 ∧
     4 ≤ (((V.codeErr + V.dispErr) :: (s.lane 0 1).errHist).take 16).sum ∧ 1 ∈ s.lanesOf 0 ∧ s.portFenced 0 = false) ∧
    ((gate 2).gateActive 0 = true ∧ (gate 2).get (GATE.LANE_STATUS_ALIGN_STATE 0 1) = 2 ∧ (gate 2).linkState 0 ≠ linkTrain) ∧
    (∀ b ∈ [true, false], let s := trains.setLink 0 { trains.link 0 with trainReq := b }
     s.receiving 0 = true ∧ s.gateActive 0 = true ∧ s.get (GATE.LANE_STATUS_ALIGN_STATE 0 1) = 2 ∧ s.linkState 0 = linkTrain ∧
     s.portFenced 0 = false ∧ (s.link 0).trainReq = b ∧ s.portDown 0 = false ∧ 15 ≤ (s.lane 0 1).bursts ∧
     1 ≤ (s.lane 0 1).goodRun ∧ s.lanesOf 0 = [1, 2] ∧ 16 ≤ (s.lane 0 2).bursts ∧ 2 ≤ (s.lane 0 2).goodRun) := by decide +kernel

theorem witness_DeskewMeasureCompletes :
    (let s := gate 2
     s.receiving 0 = true ∧ ([3, 5] : List Nat).length = (s.lanesOf 0).length ∧ s.allAligned 0 = true ∧
     (∀ n ∈ s.lanesOf 0, (s.lane 0 n).displaced = 0) ∧ (∀ a ∈ ([3, 34] : List Nat), ∀ b ∈ ([3, 34] : List Nat), a ≤ b + 31) ∧
     s.on (LNK.DESKEW_DONE 0) = false ∧ ∃ a ∈ ([3, 35] : List Nat), ∃ b ∈ ([3, 35] : List Nat), b + 31 < a) ∧
    (let s := set (gate 2) [(LNK.DESKEW_DONE 0, 1), (GATE.LANE_STATUS_SKEW 0 1, 2)]
     s.on (LNK.DESKEW_DONE 0) = true ∧ s.receiving 0 = true ∧ s.allAligned 0 = true ∧
     (∀ x ∈ (s.lanesOf 0).zip ([3, 5] : List Nat), s.get (GATE.LANE_STATUS_SKEW 0 x.1) = ([3, 5] : List Nat).foldl max 0 - x.2) ∧
     ∃ x ∈ (s.lanesOf 0).zip ([3, 6] : List Nat), s.get (GATE.LANE_STATUS_SKEW 0 x.1) ≠ ([3, 6] : List Nat).foldl max 0 - x.2) := by
  decide +kernel

theorem witness_LinkCommandsComplete :
    (ready.hostOn = true ∧ ready.linkRefusal 1 = none ∧ ready.portDown 1 = false ∧ ready.portPresent 1 = true ∧
      ready.portEnabled 1 = false ∧ ready.portFenced 1 = false ∧ ready.engineFenced 0 = false) ∧
    (let s := set ready [(BRG.CAM_CAPS 0 0, 0x60)]
     (6 : Fin 16).val < 7 ∧ (6 : Fin 16).val ≤ s.get (BRG.CAM_CAPS 0 0) / 16 % 16 ∧ s.linkRefusal 0 = none) ∧
    (let r := request 1 (.linkRate 6)
     let s := (asks ready [r]).setLink 0 { ready.link 0 with newRates := [6, 5] }
     s.running = true ∧ s.outstandingRate 0 = some r ∧ r.purpose = .linkRate 6 ∧ s.portFenced 0 = false) ∧
    (let s := (asks ready [request 1 .laneMask]).setLink 0 { ready.link 0 with mask := .degrade 1 }
     s.running = true ∧ s.outstandingFor 0 .laneMask = some (request 1 .laneMask) ∧ (s.link 0).mask = .degrade 1 ∧
     (s.dropReq (request 1 .laneMask)).maskDue 0 = true ∧ s.portFenced 0 = false) := by decide +kernel

/-- A far-end loopback of port 0 runs, and a raw test on port 1. -/
def tests : State :=
  (((set (gate 5) [(GATE.LANE_STATUS_PRBS_LOCK 0 4, 1)]).setLink 0 { ready.link 0 with test := some ⟨3, 4, false⟩ }).setLink 1
    { ready.link 1 with test := some ⟨1, 2, false⟩ })

theorem witness_LinkTestCommandsComplete :
    (ready.hostOn = true ∧ ready.portFenced 1 = false ∧ ready.linkRefusal 1 = none ∧ ready.gateEnabled 0 = true ∧
      ready.farRefusal 1 = none ∧ ready.portDown 1 = false) ∧
    (∀ b ∈ [true, false], let s := tests.setLink 1 { tests.link 1 with discovered := b }
      s.hostOn = true ∧ s.linkState 1 = linkTest ∧ s.portDown 1 = false ∧ s.portFenced 1 = false ∧ (s.link 1).discovered = b) ∧
    (tests.running = true ∧ tests.portOfLane 0 4 = some 1 ∧ (tests.link 1).test = some ⟨1, 2, false⟩ ∧
      (((tests.lane 0 4).prbs.run_ 2 (tests.rawBits 0 4 1 [true])).locked = false)) ∧
    (tests.portOfLane 0 1 = some 0 ∧ (tests.link 0).test = some ⟨3, 4, false⟩ ∧ (tests.loopPat 0).length = 256 ∧
      tests.on (LNK.FAR_LOCK 0) = false ∧ (1 : Fin 5).val < (tests.gate 0).lanes.length ∧
      (let s := tests.onLane 0 2 (fun x => { x with blockOk := true })
       ∀ m ∈ s.portLanes 0, m ≠ 1 → (s.lane 0 m).blockOk = true) ∧
      (set tests [(LNK.FAR_LOCK 0, 1)]).on (LNK.FAR_LOCK 0) = true) := by decide +kernel

/-- R432: PRBS-7 from the state of ones begins with seven ones and a zero; R61: a checker locks on its 7 + 1,024 bits. -/
theorem test_prbs : (prbsBits 7 6 10 127) = [true, true, true, true, true, true, true, false, false, false] ∧
    (({} : Checker).run_ 1 (prbsBits 7 6 1030 1)).locked = false ∧
    (({} : Checker).run_ 1 (prbsBits 7 6 1031 1)).locked = true := by decide +kernel

/-- Port 0's prefetch slot holds bytes at 0 to 11. -/
def slotted (se : Bool) : State :=
  ready.setEngine 0 { ready.engine 0 with slotA := some ⟨se, 3, (List.range 12).map (fun i => (i, BitVec.ofNat 8 i))⟩ }

/-- A host read of port 0. -/
def hostRead : HostRead := { id := 9, port := 0, addrs := [some 0, none], pieces := 1 }

theorem witness_WindowAccessCommandsComplete :
    (ready.hostOn = true ∧ (0xFFFFC : Fin 1048576).val % 4096 + 4 ≤ 4096 ∧ ready.portDown 0 = false ∧
      (ready.hostPieces 0 0xFFFFC [some 1, none, some 2, some 3]).length ≤ ready.pwFree 0) ∧
    (let s := asks ready ((List.range 100).map (fun i => { request 1 .hostWrite with tag := i, cls := 0, data := List.replicate 256 1 }))
     s.pwFree 0 < (s.hostPieces 0 0 [some 1]).length ∧ (s.hostPieces 0 0 [some 1]).length ≤ 64 ∧ s.portDown 0 = false ∧
     (s.engine 0).reads = []) ∧
    (ready.readsHeld < 24 ∧ (ready.engine 0).reads = [] ∧ ready.slotOf 0 = none ∧ ready.openWrites 0 = [] ∧
      ([true, false].filter id) ≠ [] ∧ 256 < ((List.replicate 257 true).filter id).length) ∧
    ((slotted false).slotOf 0 = some ⟨false, 3, (List.range 12).map (fun i => (i, BitVec.ofNat 8 i))⟩ ∧
      (slotted false).cameraAddr 0 0 = 0 ∧ (slotted false).openWrites 0 = [] ∧
      (let s := asks (slotted false) [request 1 .hostWrite]
       s.openWrites 0 = [7] ∧ s.slotOf 0 = (slotted false).slotOf 0)) ∧
    (cold.awake = true ∧ cold.quenched = true ∧ cold.supply.perstLow = false ∧ cold.readsHeld < 24) ∧
    (let s := ready.setEngine 0 { ready.engine 0 with reads := [hostRead] }
     s.running = true ∧ (s.engine 0).reads.find? (fun x => x.id == 9 && x.port == 0) = some hostRead ∧
     (s.engine 0).reads.find? (fun x => x.key == hostRead.key) = some hostRead ∧ hostRead.bad = false) ∧
    ((slotted true).running = true ∧ (slotted true).slotOf 0 =
      some ⟨true, 3, (List.range 12).map (fun i => (i, BitVec.ofNat 8 i))⟩) := by decide +kernel

/-- A queued read of port 0. -/
def readReq : Req := { request 2 .poll with cls := 4, state := .queued }

theorem witness_ControlLaneCommandsComplete :
    (let s := ready.setEngine 0 { ready.engine 0 with reqs := [readReq] }
     s.running = true ∧ (s.engine 0).grant = none ∧ s.nextPair 0 = none ∧ s.eligible 0 = some (readReq, none) ∧
     readReq.port / 2 = 0 ∧ s.slotOf readReq.port = none) ∧
    (let s := ready.setEngine 0 { ready.engine 0 with reqs := [{ readReq with cls := 1, purpose := .hostRead 9 }], turn := 1 }
     s.eligible 0 = some ({ readReq with cls := 1, purpose := .hostRead 9 }, some 0)) ∧
    (let s := ready.setEngine 0 { ready.engine 0 with pairs := [⟨0, 0, 0, 1⟩], nextSlot := 24 }
     (s.engine 0).grant = none ∧ s.nextPair 0 = some ⟨0, 0, 0, 1⟩ ∧ 0 ≤ s.now ∧ 0 - 0 % 8 + 8 < (s.engine 0).nextSlot) ∧
    (let s := ready.setEngine 0 { ready.engine 0 with pairs := [⟨0, 0, 0, 1⟩], nextSlot := 8 }
     s.nextPair 0 = some ⟨0, 0, 0, 1⟩ ∧ (s.engine 0).nextSlot ≤ 0 - 0 % 8 + 8) ∧
    (let s := ready.setEngine 0 { ready.engine 0 with reqs := [request 1 .pcWrite] }
     (s.engine 0).grant = none ∧ s.awaited 0 ≠ [] ∧ s.engineFenced 0 = false ∧ s.eligible 0 = none) ∧
    ((asks ready []).running = true ∧ ((asks ready []).engine 0).grant ≠ none) := by decide +kernel

theorem witness_ResponseCommandsComplete :
    (∀ r ∈ [request 1 .hostWrite, request 1 .pcWrite, request 6 .lock, request 2 .poll, request 2 .discIdent,
        request 2 (.hostRead 5)],
      let s := asks ready [r]
      s.running = true ∧ (s.engine 0).grant ≠ none ∧ s.outstanding 0 7 = some r ∧ r.port = 0 ∧ r.tag = 7 ∧
      (s.engine 0).reads = [] ∧ s.outstanding 0 8 = none) ∧
    ((request 1 .hostWrite).op = 1 ∧ (request 6 .lock).op = 6 ∧ (request 2 .poll).len = 4 ∧ ([1] : List Byte).length ≠ 4) ∧
    (let r := request 2 (.hostRead 0)
     let x := { hostRead with got := [(0, 1)] }
     let s := (asks ready [r]).setEngine 0 { (asks ready [r]).engine 0 with reads := [x] }
     s.outstanding 0 7 = some r ∧ r.purpose = .hostRead x.key ∧ (s.engine 0).reads = [x] ∧ x.pieces = 1 ∧ x.waits = [] ∧
     x.bad = false ∧ r.want = r.len) ∧
    ((request 1 .pcWrite).crcTries < 3 ∧
      (request 1 .pcWrite).busyTries < (set ready [(BRG.BRG_CFG_RETRY_MAX 0, 1)]).get (BRG.BRG_CFG_RETRY_MAX 0)) := by
  decide +kernel

theorem witness_BridgeCommandsComplete :
    (ready.hostOn = true ∧ ready.portDown 1 = false ∧ (ready.engine 0).lockPort = none ∧
      ready.on (BRG.PORT_STATUS_PCW_BUSY 0 1) = false ∧ ready.get (BRG.PCW_ADDR 0 1) % 4 = 0) ∧
    (set ready [(BRG.PORT_STATUS_LOCKED 0 1, 1)]).on (BRG.PORT_STATUS_LOCKED 0 1) = true ∧
    (let s := set ready [(BRG.POLL_CFG_EN 0 0, 1)]
     s.running = true ∧ s.on (BRG.POLL_CFG_EN 0 0) = true ∧ (s.engine 0).lockPort = none ∧ s.portDown 0 = false ∧
     (∀ r ∈ (s.engine 0).reqs, r.port = 0 → r.purpose ≠ .poll) ∧
     ∃ r ∈ ((asks s [request 2 .poll]).engine 0).reqs, r.port = 0 ∧ r.purpose = .poll) ∧
    (let r := { request 1 .pcWrite with state := .busyWait }
     (asks ready [r]).running = true ∧
     ((asks ready [r]).engine 0).reqs.find? (fun x => x.port == 0 && x.tag == 7 && x.state == .busyWait) = some r) := by
  decide +kernel

/-- The body of an FS packet: ECHO 5. -/
def fsBody : List Byte := let h : List Byte := [1, 0, 5, 0, 0, 0, 0, 0, 0, 0, 0, 0]; h ++ leBytes 2 (crc16 h)

/-- The body of an FE packet. -/
def feBody : List Byte := let h : List Byte := [3, 0, 3, 0, 0, 0, 0, 0, 0, 0]; h ++ leBytes 2 (crc16 h)

/-- The body of a line packet of port 0: line n, and the CRC of the payload or another. -/
def lineBody (n : Nat) (good : Bool) : List Byte :=
  let h := leBytes 1 2 ++ [0] ++ leBytes 3 n ++ leBytes 2 4
  let p : List Byte := [10, 20, 30, 40]
  h ++ leBytes 2 (crc16 h) ++ p ++ leBytes 4 (crc32 p + if good then 0 else 1)

/-- A packet of a type that no rule defines. -/
def oddBody : List Byte := let h : List Byte := [9, 0, 0, 0, 0, 0, 0]; h ++ leBytes 2 (crc16 h)

/-- port with items in port 0's riser part. -/
def risen (s : State) (l : List RItem) : State :=
  s.setLink 0 { s.link 0 with riser := l, used := (l.filter (fun i => match i with | .line _ => true | .marker _ => false)).length,
                              open_ := true, e := 1, frameNo := 1 }

/-- An FS and an FE in the riser. -/
def fs : Marker := { isFs := true, hdrOk := true, echo := 5 }
def fe : Marker := { isFs := false, hdrOk := true, lineCount := 3 }

/-- A line in the riser. -/
def landed (n : Nat) : Landed := { num := some n, pixels := [1, 2, 3, 4], bodyLen := 17, blocks := 1 }

theorem witness_MarkerPacketsLand :
    (port.plainPort 0 = true ∧ byteAt fsBody 0 = 1 ∧ fsBody.length = 14 ∧ crc16 (fsBody.take 12) = leAt fsBody 12 2 ∧
      (port.link 0).markers < 16 ∧ port.gateActive 0 = true ∧ port.on (LNK.ADAPT_ALL 0) = false ∧ byteAt feBody 0 = 3 ∧ feBody.length = 12 ∧ crc16 (feBody.take 10) = leAt feBody 10 2) ∧
    (let s := risen port (List.replicate 16 (.marker fs))
     s.plainPort 0 = true ∧ 16 ≤ (s.link 0).markers) := by decide +kernel

theorem witness_LinePacketsLand :
    (let b := lineBody 2 true
     port.plainPort 0 = true ∧ byteAt b 0 = 2 ∧ byteAt b 1 % 2 = 0 ∧ leAt b 5 2 = port.portE 0 ∧ b.length = 13 + port.portE 0 ∧
     crc16 (b.take 7) = leAt b 7 2 ∧ (port.link 0).used + port.lineBlocks 0 ≤ port.riserPart 0 ∧
     crc32 ((b.drop 9).take (port.portE 0)) = leAt b (9 + port.portE 0) 4) ∧
    (let b := lineBody 2 false
     crc32 ((b.drop 9).take (port.portE 0)) ≠ leAt b (9 + port.portE 0) 4 ∧ port.get (GATE.CHECK_CFG_CRC_POLICY 0) ≤ 2 ∧
     crc16 (b.take 7) = leAt b 7 2) ∧
    (let s := port.setLink 0 { port.link 0 with used := port.riserPart 0 }
     s.plainPort 0 = true ∧ s.riserPart 0 < (s.link 0).used + s.lineBlocks 0) ∧
    (4 ≤ byteAt oddBody 0 ∧ hdrChecks oddBody 7 = true) ∧
    (port.overlong 0 (fsBody.take 13) = false ∧ ∀ b ∈ [fsBody ++ [0, 0, 0], lineBody 2 true ++ [0, 0, 0], feBody ++ [0, 0, 0]],
      port.overlong 0 b = true) := by decide +kernel

theorem witness_PacketTimeoutsAndQuench :
    (let s := set port [(DEV.QUENCH_STATUS_QUENCHED, 1)]
     s.quenched = true ∧ s.hears 0 = true) ∧
    (let s := (set port [(CAM.FC_TIMEOUT 0, 1)]).setLink 0 { port.link 0 with riser := [.marker fs], fsSince := false }
     let t := s.setSched 0 { s.sched 0 with outst := [(5, true)] }
     s.running = true ∧ s.get (CAM.FC_TIMEOUT 0) ≠ 0 ∧ (s.link 0).frameLanding = true ∧ (t.link 0).fsSince = false ∧
     ((5 : Word).toNat, true) ∈ (t.sched 0).outst) := by decide +kernel

theorem witness_InjectionCommandsComplete :
    (∀ x ∈ [1, 2, 3, 4, 5, 6], let s := set port [(GATE.INJ_CFG_OP 0, x), (GATE.INJ_CFG_COUNT 0, 1), (GATE.INJ_CFG_LANE 0, 1)]
      s.hostOn = true ∧ s.get (GATE.INJ_CFG_OP 0) = x ∧ s.injRefusal 0 = none ∧ s.on (GATE.INJ_STATUS_ARMED 0) = false) ∧
    (let s := set up [(GATE.INJ_CFG_OP 127, 2), (GATE.INJ_CFG_PORT 127, 1)]
     s.portPresent (portNo 127 (s.get (GATE.INJ_CFG_PORT 127))) = false) ∧
    (let s := set (gate 2) [(GATE.INJ_CFG_OP 0, 2)]
     s.portPresent 0 = true ∧ s.linkState 0 ≠ linkReady) ∧
    (let s := (set port [(GATE.INJ_CFG_OP 0, 6), (GATE.INJ_CFG_COUNT 0, 1), (GATE.INJ_STATUS_ARMED 0, 1)]).setGate 0
       { port.gate 0 with inj := .armed }
     s.hostOn = true ∧ s.portPresent 0 = true ∧ s.linkState 0 = linkReady ∧ s.get (GATE.INJ_CFG_COUNT 0) ≠ 0 ∧
     s.on (GATE.INJ_STATUS_ARMED 0) = true ∧ s.running = true ∧ (s.gate 0).inj = .armed) := by decide +kernel

theorem witness_GateCommandsComplete :
    (up.hostOn = true ∧ up.gateEnabled 127 = false ∧ (2 : Fin 4).val ≠ 3 ∧ (255 : Fin 256).val ≠ 0 ∧
      (0 : Fin 4).val = up.gateMode 127 ∧ (2 : Fin 4).val ≠ up.gateMode 127 ∧ (up.engine 127).reqs = [] ∧
      (up.engine 127).reads = []) ∧
    (let s := set up [(LNK.CLOCK_OK 0, 1)]
     s.hostOn = true ∧ s.gateEnabled 0 = false ∧ s.domainReady 0 = true ∧ s.domainReady 128 = true ∧ s.engineFenced 0 = false ∧
     s.linkState 0 = linkDown ∧ s.portFenced 0 = false ∧ s.on (LNK.CLOCK_OK 0) = true ∧ (s.link 0).heldDown = false ∧
     s.portPresent 0 = true ∧ s.on (LNK.CLOCK_OK 1) = false) ∧
    (ready.hostOn = true ∧ ready.gateEnabled 0 = true ∧ ready.portEnabled 0 = false ∧ ready.portEnabled 1 = false ∧
      (ready.engine 0).reqs = [] ∧ (ready.engine 0).reads = []) := by decide +kernel

/-- Window 63 of port 0 is staged: its whole frame, or nothing. -/
def staged (w : Nat) : List (Fld × Nat) :=
  [(CAM.WIN_SHAPE_EN 0 63, 1), (CAM.WIN_X_WIDTH 0 63, w), (CAM.WIN_H 0 63, 3), (CAM.WIN_QUEUE_QUEUE 0 63, 2)]

/-- port before its enable. -/
def idle : State := set port [(HDR.CTRL_ENABLE (camPage 0), 0)]

theorem witness_PortCommandsComplete :
    (idle.hostOn = true ∧ idle.portEnabled 0 = false ∧ idle.camRefusal 0 = none) ∧
    (up.hostOn = true ∧ up.portEnabled 255 = false ∧ up.portPresent 255 = false) ∧
    (up.portEnabled 254 = false ∧ up.portPresent 254 = true ∧ up.gateEnabled (254 / 2) = false ∧
      up.camRefusal 254 = some 0x4E) ∧
    (port.hostOn = true ∧ port.portEnabled 0 = true) ∧
    (3200000 < (3200001 : Word).toNat ∧ (3200000 : Word).toNat ≤ 3200000 ∧ up.get DEV.ADM_HBM_TOTAL ≤ (3200000 : Word).toNat ∧
      (1 : Word).toNat < (set up [(DEV.ADM_HBM_TOTAL, 2)]).get DEV.ADM_HBM_TOTAL) ∧
    (set port [(CAM.WIN_STATUS_PENDING 0, 1)]).on (CAM.WIN_STATUS_PENDING 0) = true ∧
    (let s := set port (staged 0)
     s.on (CAM.WIN_STATUS_PENDING 0) = false ∧ ∃ v ∈ s.staged 0,
       v.valid (s.portW 0) (s.portH 0) (s.get (CAM.FMT_CFG_PIXEL_FORMAT 0)) = false) ∧
    ((set idle (staged 4)).commitRefusal 0 = none ∧ (set idle (staged 4)).portEnabled 0 = false) ∧
    ((set port (staged 4)).commitRefusal 0 = none ∧ (set port (staged 4)).portEnabled 0 = true) := by decide +kernel

/-- Port 0 with these items in its riser, frame 1 open and line 1 due, and the link side changed by f. -/
def turns (l : List RItem) (f : LinkSt → LinkSt) : State :=
  let s := set (risen port l) [(CAM.NR_CTRL_MODE 0, 2), (CAM.FC_CFG_GAP_MAX 0, 1)]
  s.setLink 0 (f (s.link 0))

/-- The states and first items of the clauses about an open frame, and about none. -/
theorem witness_IntakeCommandCompletes :
    (∀ s ∈ [turns [] (fun x => { x with pads := 1 }), turns [.marker fs] (fun x => { x with open_ := false }),
        set (turns [.marker fs, .line (landed 0)] (fun x => { x with open_ := false })) [(CAM.NR_CTRL_MODE 0, 1)],
        turns [.marker fs] id, turns [.marker fs] (fun x => { x with e := 3 }), turns [.line (landed 1)] id,
        turns [.line (landed 1), .marker fe] id, turns [.line (landed 2)] id,
        set (turns [.line (landed 2)] id) [(CAM.FC_CFG_GAP_MAX 0, 0)], turns [.line (landed 3)] id, turns [.line (landed 0)] id,
        turns [.marker fe] id, turns [.marker fe] (fun x => { x with abandoned := true, open_ := false })],
      s.sliceServes 0 = true ∧ (s.servedPorts 0)[0]? = some 0 ∧ s.itemReady 0 0 = true ∧
      (∀ j < 8, j ≠ 0 → ∀ d ∈ (s.servedPorts 0)[j]?, s.itemReady 0 d = false) ∧
      (∀ d ∈ s.servedPorts 0, s.needsHold d = false) ∧ s.portH 0 = 3) ∧
    (let l := (turns [.line (landed 1)] id).link 0
     l.open_ = true ∧ l.abandoned = false ∧ l.pads = 0 ∧ l.e = 1 ∧ l.feGone = false) ∧
    (2 ≤ (turns [] id).get (CAM.NR_CTRL_MODE 0) ∧ (turns [] id).get (CAM.FC_CFG_GAP_MAX 0) = 1 ∧ (landed 2).num = some 2) ∧
    fs.isFs = true ∧ fe.isFs = false := by decide +kernel

/-- port with items on their way to frame check. -/
def checks (s : State) (l : List FcItem) : State := s.setSlice 0 { s.slice 0 with fc := l }

theorem witness_FrameCheckCommandsComplete :
    (let s := (checks port [.fs 0 1 fs]).setSched 0 { port.sched 0 with outst := [(5, true)] }
     s.sliceServes 0 = true ∧ (s.slice 0).fc = .fs 0 1 fs :: [] ∧ s.portEnabled 0 = true ∧ s.portFenced 0 = false ∧
     (s.sched 0).outst = [(5, true)] ∧ s.groupFenced 0 = false ∧ (port.sched 0).outst = []) ∧
    (let fr := { frame port with entered := [line] }
     let s := checks (withFrame fr) [.line 0 1 (landed 1) 0]
     s.sliceServes 0 = true ∧ (s.slice 0).fc = .line 0 1 (landed 1) 0 :: [] ∧ s.openFrame 0 = some fr ∧ fr.c = 0 ∧
     fr.ended = false) ∧
    (∀ e ∈ [2, 3], let s := (checks (withFrame (frame port)) [.fe 0 (some fe)]).setLink 0 { port.link 0 with e := e, frameNo := 1 }
     s.sliceServes 0 = true ∧ (s.slice 0).fc = .fe 0 (some fe) :: [] ∧ s.openFrame 0 = some (frame port) ∧
     (s.link 0).frameNo = (frame port).id ∧ s.portH 0 = 3 ∧ (s.link 0).e = e ∧ fe.hdrOk = true) ∧
    (let s := checks port [.fe 0 (some fe)]
     s.sliceServes 0 = true ∧ (s.slice 0).fc = .fe 0 (some fe) :: [] ∧ s.openFrame 0 = none) := by decide +kernel

/-- port with noise reduction in mode m. -/
def reduces (m : Nat) : State := set port [(CAM.NR_CTRL_MODE 0, m)]

theorem witness_NoiseReductionCommandsComplete :
    (let s := withFrame (frame port)
     s.stageRuns 0 = true ∧ s.frameAtDisp 0 = some (frame port) ∧ (frame port).c = 0 ∧
     (frame port).on (CAM.NR_CTRL_REG_EN 0) = false) ∧
    (let t := set port [(CAM.NR_CTRL_REG_EN 0, 1), (CAM.NR_REG_SCALE 0, 655360), (CAM.NR_REG_MAX 0, 0xFFFFF),
       (CAM.NR_REF_POS_HI_POS_VALID 0, 1), (CAM.NR_REF_POS_LO 0, 1000)]
     let fr := { frame t with pos := some 2234 }
     let s := t.setCam 0 { t.cam 0 with frames := [fr] }
     s.frameAtDisp 0 = some fr ∧ fr.on (CAM.NR_CTRL_REG_EN 0) = true ∧ fr.pos = some 2234 ∧ s.refPos 0 = some 1000 ∧
     displacement (sext 32 (fr.get (CAM.NR_REG_SCALE 0))) (fr.get (CAM.NR_REG_MAX 0)) 2234 1000 = some (12340, true) ∧
     displacement (sext 32 (fr.get (CAM.NR_REG_SCALE 0))) 1 2234 1000 = some (12340, false) ∧ fr.cause = 0) ∧
    (let s := set port [(CAM.NR_HOLD 0, 1), (CAM.NR_STATUS_HOLDING 0, 1)]
     s.stageRuns 0 = true ∧ s.get (CAM.NR_HOLD 0) ≠ 0 ∧ s.on (CAM.NR_STATUS_HOLDING 0) = true) ∧
    (let fr := { frame (reduces 2) with entered := [line, line, line], dispDone := true }
     let s := (reduces 2).setCam 0 { port.cam 0 with frames := [fr] }
     s.stageRuns 0 = true ∧ s.frameInNr 0 = some fr ∧ fr.c = 0 ∧ fr.entered[fr.nr.length]? = some line ∧
     fr.nr.length + 3 ≤ fr.entered.length ∧ fr.dispDone = true ∧ fr.refsReady fr.nr.length line.cnt = true ∧
     fr.temporal = true ∧ fr.refFailed fr.nr.length line.cnt = false) ∧
    (let s := port.setCam 0 { port.cam 0 with buf0 := { acked := [0], busy := [2, 1], sealed := false, writer := some 1 } }
     s.running = true ∧ s.anyChannelFenced = false ∧ 1 ∈ (s.refBuf 0 0).busy ∧ 3 ∉ (s.refBuf 0 0).busy) ∧
    (let fr := { frame (reduces 2) with entered := [line], dispDone := true, scale := some 4096 }
     let s := set ((reduces 2).setCam 0 { port.cam 0 with frames := [fr] }) [(refValid 0 0, 1)]
     s.stageRuns 0 = true ∧ s.anyChannelFenced = false ∧ s.frameInNr 0 = some fr ∧ fr.useRef = true ∧ fr.refs = [] ∧
     0 < s.get (refValid 0 fr.readBuf) ∧ 0 < fr.h ∧ s.readRef fr (refAddr 0 fr.readBuf fr.w fr.bits 0) = none) := by decide +kernel

theorem witness_StageCommandsComplete :
    (∀ l ∈ [line, { line with flags := 4 }],
      let fr := { frame port with entered := [l, l, l], nr := [l, l, l] }
      let s := withFrame fr
      s.stageRuns 0 = true ∧ fr.c = 0 ∧ s.frameInCorr 0 = some fr ∧ fr.closed = false ∧ fr.nr[fr.corr.length]? = some l ∧
      fr.corrReady fr.corr.length = true) ∧
    (bitOf line.flags 2 = false ∧ bitOf ({ line with flags := 4 } : SLine).flags 2 = true ∧
      (let fr := { frame port with entered := [line, line, line], nr := [line, line, line] }
       ((withFrame fr).correctLine fr [] fr.corr.length line).2.2 = false)) ∧
    (let fr := { frame port with entered := [line], nr := [line], corr := [line] }
     let s := withFrame fr
     s.stageRuns 0 = true ∧ s.frameInWin 0 = some fr ∧ fr.nextOut = some (win, 0)) ∧
    (let fr := { frame port with entered := [line, line, line], nr := [line, line, line], corr := [line, line, line], closed := true,
                                 statBank := some 1, winNext := [(0, 3)] }
     let s := withFrame fr
     s.stageRuns 0 = true ∧ (s.cam 0).frames.find? (fun f => !f.statDone) = some fr ∧ fr.statBank = some 1 ∧ fr.winDone = true) := by decide +kernel

/-- Port 0 may load its defect list. -/
def tabled : List (Fld × Nat) := [(CAM.TBL_LEN 0, 8), (CAM.TBL_HOST_LO 0, 0x1000)]

theorem witness_TableCommandsComplete :
    ((set port tabled).hostOn = true ∧ (set port tabled).loadRefusal 0 0 1 = none ∧
      (set port [(CAM.TBL_STATUS_BUSY 0, 1)]).on (CAM.TBL_STATUS_BUSY 0) = true ∧ port.on (CAM.TBL_STATUS_BUSY 0) = false ∧
      port.tblLenOk 0 0 0 = false ∧
      (let s := set port tabled
       s.on (CAM.TBL_STATUS_BUSY 0) = false ∧ s.get (CAM.TBL_HOST_LO 0) % 64 = 0 ∧ s.tblLenOk 0 0 0 = true ∧
       s.bankInUse 0 0 0 = true)) ∧
    (let s := loads 2 4
     s.running = true ∧ (s.loads.take 4).find? (fun y => y.port == 0) = some ⟨0, 2, 1, 0x4000, 4, 0⟩ ∧ s.anyChannelFenced = false ∧
     (loads 0 8).running = true ∧ defectsOk (List.replicate 8 0) = true) ∧
    (let s := { timed with loads := [⟨1, 2, 1, 0x4000, 4, 0⟩, ⟨2, 2, 1, 0x4000, 4, 0⟩, ⟨3, 2, 1, 0x4000, 4, 0⟩,
       ⟨4, 2, 1, 0x4000, 4, 0⟩, ⟨0, 2, 1, 0x4000, 4, 0⟩] }
     s.running = true ∧ (s.loads.take 4).find? (fun y => y.port == 0) = none) ∧
    (let s := set port [(CAM.FF_CTRL_MODE 0, 2), (CAM.TBL_STATUS_VALID 0, 0x20)]
     s.hostOn = true ∧ s.get (CAM.FF_CTRL_MODE 0) = 2 ∧ s.bankValid 0 2 1 = true ∧ s.bankValid 0 2 0 = false ∧
     (port.get (CAM.FF_CTRL_MODE 0) = 0) ∧ (set port [(CAM.FF_CTRL_MODE 0, 3)]).get (CAM.FF_CTRL_MODE 0) = 3 ∧
     (let u := set port [(CAM.FF_CTRL_MODE 0, 1)]
      u.get (CAM.FF_CTRL_MODE 0) = 1 ∧ u.bankValid 0 1 (u.get (CAM.FF_CTRL_GRID_BANK 0)) = false)) ∧
    (let s := port.setCam 0 { port.cam 0 with copying := some 1 }
     s.stageRuns 0 = true ∧ (s.cam 0).copying = some 1 ∧ s.anyChannelFenced = false) ∧
    (port.bankInUse 0 1 0 = true ∧ port.bankInUse 0 1 1 = false ∧ (gridOf 0).inRange = false ∧
      (gridOf 0x01020102).inRange = true) := by decide +kernel

/-- A mould of one tile, 4 by 2 pixels, at 60 frames a second, that shows the frames of queue 2. -/
def mouldOf : List (Fld × Nat) :=
  [(MOULD.MOULD_CFG_TILES 0, 1), (MOULD.MOULD_SIZE_WIDTH 0, 8), (MOULD.MOULD_SIZE_HEIGHT 0, 4), (MOULD.MOULD_RATE 0, 60),
   (MOULD.TILE_CTRL_EN 0 0, 1), (MOULD.TILE_SRC_QUEUE 0 0, 2), (MOULD.TILE_SIZE_TW 0 0, 4), (MOULD.TILE_SIZE_TH 0 0, 2),
   (QD.Q_CFG_EN 2, 1), (QD.Q_CFG_CONSUMER 2, 3), (HDR.CTRL_ENABLE (mouldPage 0), 1), (MOULD.STALE_MS 0, 10)]

/-- port with that mould. -/
def moulds : State :=
  let s := set port mouldOf
  s.setCam 0 { s.cam 0 with wins := [win] }

theorem witness_UnitEnableCommandsComplete :
    (let s := set seamed [(HDR.CTRL_ENABLE (seamPage 0), 0)]
     s.hostOn = true ∧ s.on (HDR.CTRL_ENABLE (seamPage 0)) = false ∧ s.seamRefusal 0 = none) ∧
    (seamed.hostOn = true ∧ seamed.on (HDR.CTRL_ENABLE (seamPage 0)) = true) ∧
    (let s := set up [(SEAM.SEAM_CFG_MEMBERS 3, 33)]
     s.on (HDR.CTRL_ENABLE (seamPage 3)) = false ∧ s.seamRefusal 3 = some 0x44) ∧
    (let s := set moulds [(HDR.CTRL_ENABLE (mouldPage 0), 0)]
     s.hostOn = true ∧ s.on (HDR.CTRL_ENABLE (mouldPage 0)) = false ∧ s.mouldRefusal 0 = none) ∧
    (moulds.hostOn = true ∧ moulds.on (HDR.CTRL_ENABLE (mouldPage 0)) = true) ∧
    (let s := set up [(MOULD.MOULD_CFG_TILES 7, 65)]
     s.on (HDR.CTRL_ENABLE (mouldPage 7)) = false ∧ s.mouldRefusal 7 = some 0x48) := by decide +kernel

/-- The seam's queue has claimed a packet. -/
def seamTakes (k : Packet) : State := seamed.setQueue 1 { seamed.queue 1 with claimed := some k }

/-- Seam 0 has its member's line for strip line 0. -/
def seamFull : State := seamed.setSeam 0 { store := [{ member := 0, k := 0 }] }

theorem witness_SeamCommandsComplete :
    (seamed.seamRuns 0 = true ∧ seamed.seamBinds 0 0 = true ∧ seamed.get (SEAM.MEM_QUEUE 0 0) = 1 ∧ seamed.anyChannelFenced = false) ∧
    (let k := { packet 1 with payload := [1] }
     ((seamTakes k).queue 1).claimed = some k ∧ (∀ n ∈ k.cells, (seamTakes k).linkEcc n .good = .good) ∧
     k.payload.length ≠ (seamTakes k).get (SEAM.MEM_WIDTH 0 0) * (seamTakes k).seamSample 0) ∧
    (let s := seamTakes (packet 1)
     (s.queue 1).claimed = some (packet 1) ∧ s.seamBinds 0 0 = true ∧ s.seamRuns 0 = true ∧
     (∀ n ∈ (packet 1).cells, s.linkEcc n .good = .good) ∧
     (packet 1).payload.length = s.get (SEAM.MEM_WIDTH 0 0) * s.seamSample 0 ∧ bitOf (packet 1).hdr.hflags 2 = false ∧
     serialLt (s.memberIndex 0 0 0 0) (s.needIndex 0 0) = false ∧ s.stored 0 0 (s.memberIndex 0 0 0 0) = none ∧
     serialDiff (s.memberIndex 0 0 0 0) (s.needIndex 0 0) < 1024 ∧
     serialLt (s.memberIndex 0 0 0 0) ((set s [(SEAM.SEAM_LINE 0, 1)]).needIndex 0 0) = true) ∧
    (let k := { packet 1 with cells := [7, 8], need := 2 }
     let s := { seamTakes k with badLinks := [7] }
     s.seamRuns 0 = true ∧ s.seamBinds 0 0 = true ∧ (s.queue 1).claimed = some k ∧ 2 ≤ k.cells.length ∧
     s.linkEcc (k.cells.headD 0) .good = .ue) ∧
    (seamFull.seamRuns 0 = true ∧ seamFull.lineReady 0 = true ∧ seamFull.get (SEAM.SEAM_TIMEOUT 0) ≠ 0 ∧
      seamFull.lineStarted 0 = true) ∧
    (let s := (set seamed [(SEAM.SEAM_CFG_MEMBERS 0, 2), (SEAM.MEM_QUEUE 0 1, 3), (SEAM.MEM_WIDTH 0 1, 4)]).setSeam 0
       { store := [{ member := 0, k := 0 }] }
     s.seamRuns 0 = true ∧ s.get (SEAM.SEAM_TIMEOUT 0) ≠ 0 ∧ s.lineStarted 0 = true ∧ s.lineReady 0 = false) := by decide +kernel

/-- A line of 4 samples of 2 bytes for mould 0's tile 0. -/
def tilePacket : Packet := { packet 2 with hdr := { kind := 2, line := 1 } }

/-- The packet is claimed, and a frame of the source is open. -/
def mouldTakes : State :=
  (moulds.setQueue 2 { moulds.queue 2 with claimed := some tilePacket }).setMould 0
    { moulds.mould 0 with tiles := [(0, { base := some 0xF00000000, cur := some ⟨some 1, []⟩ })] }

theorem witness_MouldCommandsComplete :
    (let s := mouldTakes
     s.mouldRuns 0 = true ∧ s.mouldBinds 0 0 = true ∧ s.get (MOULD.TILE_SRC_KIND 0 0) < 2 ∧ s.nofit 0 0 = false ∧
     (s.queue (s.get (MOULD.TILE_SRC_QUEUE 0 0))).claimed = some tilePacket ∧
     (∀ n ∈ tilePacket.cells, s.linkEcc n .good = .good) ∧ s.anyChannelFenced = false ∧
     ({ s with cams := [] } : State).tileSource 0 0 = none ∧
     s.tileSource 0 0 = some { width := 4, height := 3, bytes := 2 } ∧ tilePacket.hdr.hflags % 8 = 0 ∧
     tilePacket.payload.length = 4 * 2 ∧ s.on (MOULD.TILE_CTRL_MODE 0 0) = false ∧ (s.tile 0 0).cur = some ⟨some 1, []⟩) ∧
    (moulds.mouldRuns 0 = true ∧ (moulds.mould 0).reading = none) ∧
    (let s := moulds.setMould 0 { moulds.mould 0 with reading := some (2, 3) }
     s.mouldRuns 0 = true ∧ (s.mould 0).reading = some (2, 3) ∧ s.hbmRests = false) ∧
    (moulds.get (MOULD.STALE_MS 0) ≠ 0 ∧ moulds.tileOn 0 0 = true ∧ moulds.isStale 0 0 = false) := by decide +kernel

/-- port with its schedule enabled on source (kind, index). -/
def scheduled (kind index : Nat) : State := set port [(CAM.SCHED_CFG_EN 0, 1), (CAM.SHOT_STATUS_SYNC 0, 1),
  (CAM.SCHED_CFG_KIND 0, kind), (CAM.SCHED_CFG_INDEX 0, index), (CAM.SCHED_CFG_OUT_SYMBOL 0, 1), (CAM.SCHED_DELAY 0, 10)]

/-- The schedule takes a pin edge, a timer's firing, and a software trigger. -/
theorem schedule_takes_pin : (scheduled 0 63).takes 0 0 63 := by unfold State.takes; decide +kernel
theorem schedule_takes_timer : (set (scheduled 2 15) [(TRG.TMR_CFG 15, 1)]).takes 0 2 15 := by unfold State.takes; decide +kernel
theorem schedule_takes_soft : (scheduled 3 7).takes 0 3 7 := by unfold State.takes; decide +kernel

theorem witness_TriggerCommandsComplete :
    (let s := scheduled 0 63
     s.running = true ∧ s.on (TRG.PIN_CFG_DIR 63) = false ∧ s.fabricFenced = false ∧ s.get (TRG.PIN_CFG_EDGE 63) = 0) ∧
    (up.running = true ∧ up.on (TRG.ENC_CFG_EN 7) = false ∧
      ({ up with faults := { live := [⟨trgPage 1, 0, 7⟩] } } : State).isLive (trgPage 1) 0 7 = true ∧ up.isLive (trgPage 1) 0 7 = false ∧
      (let s := set up [(TRG.ENC_CFG_EN 7, 1)]
       s.on (TRG.ENC_CFG_EN 7) = true ∧ true ≠ (s.enc 7).a ∧ true ≠ (s.enc 7).b ∧ (s.enc 7).b = false ∧
       ¬(true = (s.enc 7).a ∧ false = (s.enc 7).b) ∧ s.encFenced 7 = false ∧ (∀ k < 32, s.on (TRG.CMP_CFG_EN k) = false) ∧
       countOf (s.get (TRG.ENC_CFG_MODE 7)) (s.enc 7).a (s.enc 7).b true false = some true)) ∧
    (∀ m ∈ [1, 2], let s := set up [(TRG.ENC_CFG_EN 7, 1), (TRG.ENC_CFG_Z_MODE 7, m)]
      s.on (TRG.ENC_CFG_EN 7) = true ∧ s.get (TRG.ENC_CFG_Z_MODE 7) = m ∧ s.encFenced 7 = false) ∧
    (up.hostOn = true ∧ up.encFenced 7 = false ∧ up.on (TRG.TMR_CFG 15) = false) ∧
    (let s := set (scheduled 2 15) [(TRG.TMR_CFG 15, 1)]
     s.running = true ∧ s.on (TRG.TMR_CFG 15) = true ∧ s.fabricFenced = false) ∧
    ((128 : Fin 256).val = 2 ^ (7 : Fin 8).val ∧ (scheduled 3 7).hostOn = true ∧ (scheduled 3 7).fabricFenced = false) := by decide +kernel

theorem witness_ShotCommandsComplete :
    (up.hostOn = true ∧ up.schedOn 255 = false ∧ up.portEnabled 255 = false) ∧
    (let s := set port [(CAM.SCHED_WIDTH 0, 7)]
     s.schedOn 0 = false ∧ s.portEnabled 0 = true ∧ s.schedValid 0 (setBits (s.word (camPage 0 + 0x800)) 31 31 1) = false) ∧
    (let s := set port [(CAM.SCHED_WIDTH 0, 8), (CAM.SCHED_CFG_OUT_SYMBOL 0, 0)]
     s.hostOn = true ∧ s.schedValid 0 (setBits (s.word (camPage 0 + 0x800)) 31 31 1) = true ∧
     getBits (setBits (s.word (camPage 0 + 0x800)) 31 31 1) 9 9 = 0) ∧
    (let s := set port [(CAM.SCHED_WIDTH 0, 8), (CAM.SCHED_CFG_OUT_SYMBOL 0, 1)]
     let w := setBits (s.word (camPage 0 + 0x800)) 31 31 1
     s.hostOn = true ∧ s.schedOn 0 = false ∧ s.portEnabled 0 = true ∧ s.schedValid 0 w = true ∧ getBits w 9 9 = 1 ∧
     s.portDown 0 = false) ∧
    ((scheduled 3 0).hostOn = true ∧ (scheduled 3 0).schedOn 0 = true) ∧
    (let s := (scheduled 3 0).setSched 0 { port.sched 0 with pend := [⟨800, false⟩] }
     s.running = true ∧ s.fabricFenced = false ∧ s.groupFenced 0 = false ∧ (s.sched 0).pend = ⟨800, false⟩ :: [] ∧
     (s.sched 0).commits = [] ∧ (s.record 0 (s.get (CAM.SHOT_NEXT 0))).held = false ∧
     s.on (CAM.SCHED_CFG_OUT_SYMBOL 0) = true) ∧
    (let s := ((set (scheduled 3 0) [(CAM.SHOT_NEXT 0, 64), (CAM.SCHED_CFG_OUT_STROBE 0, 1)]).setSched 0
       { port.sched 0 with pend := [⟨800, false⟩], outst := [(0, true)] }).setRecord 0 0 { held := true, shot := 0, frameOpen := true }
     s.on (CAM.SCHED_CFG_OUT_STROBE 0) = true ∧ (s.record 0 (s.get (CAM.SHOT_NEXT 0))).held = true ∧
     (s.sched 0).outst.any (fun x => x.1 == (s.record 0 (s.get (CAM.SHOT_NEXT 0))).shot) = true) ∧
    (∀ lead ∈ [0, 1], let x : Commit := { slot := 7, version := 1, target := some 0, writes := [], delivered := true, tAck := 100 }
     let s := (set (scheduled 3 0) [(CAM.SETTLE_LEAD 0, lead)]).setSched 0
       { port.sched 0 with pend := [⟨800, false⟩], commits := [x] }
     s.running = true ∧ (s.sched 0).commits = [x] ∧ x.slot < 8 ∧ x.failed = false ∧ x.target = some (s.get (CAM.SHOT_NEXT 0)) ∧
     (8 * x.tAck + 8000 * s.get (CAM.SETTLE_LEAD 0) ≤ 800 ↔ lead = 0)) ∧
    (let s := { set up [(TRG.PIN_CFG_DIR 63, 1)] with strobes := [⟨0, 63, 40, 800⟩, ⟨0, 63, 400, 700⟩] }
     s.running = true ∧ s.firstStrobe 0 = some ⟨0, 63, 400, 700⟩ ∧ s.on (TRG.PIN_CFG_DIR 63) = true) := by
  decide +kernel

/-- Slot 7 of port 0 holds one write. -/
def slotOf (addr : Nat) : State := set port [(CAM.SLOT_COUNT 0 7, 1), (CAM.SLOT_ADDR 0 (16 * 7), addr), (CAM.SLOT_DATA 0 (16 * 7), 9)]

/-- A commit of port 0 waits. -/
def commits (x : Commit) : State := port.setSched 0 { port.sched 0 with commits := [x] }

theorem witness_SettingsAndLedgerCommandsComplete :
    (port.hostOn = true ∧ (set port [(CAM.SET_SLOT_STATE 0, 2 ^ 14)]).slotState 0 7 ≠ 0) ∧
    ((slotOf 0x201).slotState 0 7 = 0 ∧ ∃ w ∈ (slotOf 0x201).slotWrites 0 7, w.1 % 4 ≠ 0) ∧
    ((slotOf 0x200).slotState 0 7 = 0 ∧ (∀ w ∈ (slotOf 0x200).slotWrites 0 7, w.1 % 4 = 0) ∧
      (slotOf 0x200).slotWrites 0 7 = [(0x200, 9)] ∧
      serialLt ((slotOf 0x200).get (CAM.SET_TARGET 0)) ((slotOf 0x200).get (CAM.SHOT_NEXT 0)) = false ∧
      ((slotOf 0x200).sched 0).commits = [] ∧
      (let s := set (slotOf 0x200) [(CAM.SHOT_NEXT 0, 5), (CAM.SET_TARGET 0, 4)]
       serialLt (s.get (CAM.SET_TARGET 0)) (s.get (CAM.SHOT_NEXT 0)) = true) ∧
      (let s := (set (slotOf 0x200) [(CAM.SET_TARGET 0, 4)]).setSched 0 { port.sched 0 with commits :=
         [{ slot := 1, version := 1, target := some 5, writes := [] }] }
       s.slotState 0 7 = 0 ∧ serialLt (s.get (CAM.SET_TARGET 0)) (s.get (CAM.SHOT_NEXT 0)) = false ∧
       serialLt (s.get (CAM.SET_TARGET 0)) 5 = true)) ∧
    (∀ ws ∈ [[], [((0x200 : Nat), (9 : Nat))]],
      let x : Commit := { slot := 7, version := 1, target := none, writes := ws }
      (commits x).running = true ∧ ((commits x).sched 0).commits.find? (fun y => !y.delivered) = some x ∧ x.delivering = false ∧
      (commits x).deliveryWait 0 x = some 0 ∧ x.slot < 8 ∧ (commits x).portDown 0 = false) ∧
    (up.hostOn = true ∧ up.groupFenced (16 * 15 + up.get (SHOT.LEDGER_PORT 15)) = false ∧
      up.holdsShot (16 * 15 + up.get (SHOT.LEDGER_PORT 15)) 0 = false ∧
      (up.setRecord 240 5 { held := true, shot := 5 }).holdsShot 240 5 = true) := by decide +kernel

/-- Page 47 is SHOT[15], of class C at reset: x is the state of its crossing for fault occurrences. -/
def crossings (x : Xing) : State := { up with faults := { xings := [(xingOf (pageAddr .shot 15) true, x)] } }

theorem witness_FaultOccurrencesComplete :
    (∀ x ∈ [({ } : Xing), { busy := true }, { busy := true, count := 14 }, { busy := true, count := 15 }],
      let s := crossings x
      let a := pageAddr .shot 15
      s.awake = true ∧ hdrPage ((47 : Fin 4096) * 0x1000) = some (.shot, 15) ∧ s.xing (xingOf a true) = x ∧
      s.detailOk .shot 15 0 0 = true ∧ s.canOccur .shot 15 0 0 0 = true ∧ s.isLive a 0 0 = false ∧ s.alreadyLive .shot 15 0 = false ∧
      s.armedAt a 0 0 = false ∧ s.quenched = false ∧ s.siteClass a 0 = 0 ∧ s.on (HDR.FAULT_FIRST_VALID a) = false ∧
      (set s [(HDR.FAULT_CLASS_LO a, 2)]).siteClass a 0 = 2) ∧
    (let a := pageAddr .shot 15
     let s := { up with faults := { armed := [(a, { bit := 0, detail := 0 })] } }
     s.armedAt a 0 0 = true ∧ s.bitAt (HDR.FAULT_STICKY a) 0 = false ∧ s.on (HDR.FAULT_FIRST_VALID a) = false) ∧
    (let s := up
     let a := pageAddr .seam 0
     hdrPage ((0x700 : Fin 4096) * 0x1000) = some (.seam, 0) ∧ s.detailOk .seam 0 0 0 = true ∧ s.canOccur .seam 0 0 0 0 = true ∧
     s.isLive a 0 0 = false ∧ s.alreadyLive .seam 0 0 = false ∧ (set s [(HDR.FAULT_CLASS_LO a, 1)]).siteClass a 0 = 1) ∧
    (let s := set up [(HDR.ESC_TIMER (chkPage 3), 100)]
     let a := pageAddr .chk 3
     hdrPage ((7 : Fin 4096) * 0x1000) = some (.chk, 3) ∧ s.detailOk .chk 3 0 0 = true ∧ s.siteClass a 0 = 1 ∧
     s.canOccur .chk 3 0 0 0 = true ∧ s.alreadyLive .chk 3 0 = false ∧
     s.chkFenced 3 = false ∧ s.on (HDR.ESC_STATUS_RUNNING a) = false ∧ s.get (HDR.ESC_TIMER a) ≠ 0) ∧
    (let s : State := { set up [(TRG.ENC_CFG_EN 6, 1)] with faults := { live := [⟨pageAddr .trg 1, 0, 7⟩] } }
     s.isLive (pageAddr .trg 1) 0 7 = true ∧ s.detailOk .trg 1 0 6 = true ∧ s.canOccur .trg 1 0 6 0 = true ∧
     s.isLive (pageAddr .trg 1) 0 6 = false ∧ s.alreadyLive .trg 1 0 = true) := by decide +kernel

/-- An escalation of one occurrence runs on a page. -/
def escalates (a : Nat) (o : PendOcc) : State :=
  { set up [(HDR.ESC_STATUS_RUNNING a, 1)] with faults := { esc := [(a, { occs := [o] })] } }

/-- Slice 0's ports are being remapped, or return. -/
def remaps (back : Bool) : State := { up with faults := { remap := some ⟨0, back⟩ } }

theorem witness_FaultCommandsComplete :
    (let a := pageAddr .chk 3
     hdrPage ((7 : Fin 4096) * 0x1000) = some (.chk, 3) ∧ up.hostOn = true ∧
     (let s := escalates a ⟨.chk 3, 0, 0, true⟩
      s.running = true ∧ s.on (HDR.ESC_STATUS_RUNNING a) = true ∧ (s.escOf a).occs = [⟨.chk 3, 0, 0, true⟩] ∧ s.chkFenced 3 = false ∧
      s.hostOn = true ∧ (s.escOf a).start + 1000 * (s.escOf a).us ≤ s.now) ∧
     (let s : State := { set up [(HDR.ESC_STATUS_RUNNING a, 1)] with faults := { esc := [(a, { us := 1 })] }, time := { ns := 999 } }
      s.hostOn = true ∧ s.on (HDR.ESC_STATUS_RUNNING a) = true ∧ s.now < (s.escOf a).start + 1000 * (s.escOf a).us) ∧
     (let s := escalates devPage ⟨.ring, 1, 0, true⟩
      s.on (HDR.ESC_STATUS_RUNNING devPage) = true ∧ (s.escOf devPage).occs = [⟨.ring, 1, 0, true⟩]) ∧
     up.detailOk .chk 3 0 1 = false ∧ up.detailOk .chk 3 0 0 = true ∧
     (set up [(HDR.FAULT_INJ_ARMED a, 1)]).on (HDR.FAULT_INJ_ARMED a) = true ∧ up.on (HDR.FAULT_INJ_ARMED a) = false ∧
     (set up [(HDR.FAULT_CLASS_LO a, 2)]).siteClass a 0 = 2 ∧ (set up [(DEV.QUENCH_CFG, 0)]).on DEV.QUENCH_CFG = false ∧
     (set up [(DEV.QUENCH_CFG, 1)]).on DEV.QUENCH_CFG = true ∧
     (sites .chk 3).isEmpty = false ∧ scopeUnit .chk 3 15 0 0 = none ∧ scopeUnit .chk 3 0 0 0 = some (.chk 3) ∧
     up.unitFenced (.chk 3) = false ∧ fencedChk.unitFenced (.chk 3) = true ∧ fencedChk.unitLive (.chk 3) = false ∧
     ({ fencedChk with faults := { live := [⟨a, 0, 0⟩] } } : State).unitLive (.chk 3) = true ∧
     fencedChk.chkFenced 3 = true ∧ up.chkFenced 3 = false) ∧
    (hdrPage ((0x208 : Fin 4096) * 0x1000) = some (.slice, 8) ∧ hdrPage ((0x60F : Fin 4096) * 0x1000) = some (.pour, 15) ∧ (sites .pour 15).isEmpty = true) ∧
    (∀ b ∈ [true, false], (remaps b).running = true ∧ (remaps b).faults.remap = some ⟨0, b⟩ ∧
      (remaps b).sliceOn 0 = true ∧ (remaps b).sliceFenced 0 = false ∧ (remaps b).sliceOn 32 = true ∧
      (remaps b).sliceFenced 32 = false) := by decide +kernel

theorem witness_DomainCommandsComplete :
    (up.hostOn = true ∧ hdrPage ((0x17F : Fin 4096) * 0x1000) = some (.gate, 127) ∧ up.gateEnabled 127 = false ∧
      hdrPage ((0x70C : Fin 4096) * 0x1000) = some (.seam, 3) ∧ up.on (HDR.CTRL_ENABLE (seamPage 3)) = false ∧
      hdrPage ((0x72C : Fin 4096) * 0x1000) = some (.mould, 7) ∧ up.on (HDR.CTRL_ENABLE (mouldPage 7)) = false ∧
      hdrPage ((0x100 : Fin 4096) * 0x1000) = some (.gate, 0) ∧ ready.on (HDR.CTRL_ENABLE (pageAddr .gate 0)) = true) ∧
    (switchable (32 * 0 + 0) = true ∧ bitOf (1 : Word).toNat 0 = true ∧ ready.domainInUse (32 * 0 + 0) = true ∧
      (∀ n < 32, switchable (32 * 0 + n) = true → bitOf (1 : Word).toNat n = true → up.domainInUse (32 * 0 + n) = false) ∧
      up.bitAt (PWR.DOMAIN_OFF 0) 0 = false) ∧
    (∀ d ∈ [127, 128, 297, 316, 324], ∀ b ∈ [true, false],
      let s : State := { set up [(HDR.FAULT_REACT_FENCED (camPage 254), 1)] with supply := { up.supply with switching := [(d, b)] } }
      s.running = true ∧ s.supply.switching.find? (fun y => y.1 == d) = some (d, b) ∧ s.siteClass pwrPage 2 = 1 ∧
      s.portFenced 254 = true) ∧
    (let s : State := { up with supply := { up.supply with switching := [(127, true)] } }
     ∃ t ∈ (match exec (.domainSwitchDone 127) s with | .next t => some t | .fault _ => none | .refused _ => none),
       t.gatePowered 127 = true) ∧
    (training.running = true ∧ training.starting = true ∧ training.siteClass pwrPage 2 = 1) := by decide +kernel

theorem witness_PowerStateCommandsComplete :
    (1000000 < (1000001 : Word).toNat % 2 ^ 20 ∧ (1000000 : Word).toNat % 2 ^ 20 ≤ 1000000 ∧
      hdrPage ((0x220 : Fin 4096) * 0x1000) = some (.slice, 32) ∧ hdrPage ((0x17F : Fin 4096) * 0x1000) = some (.gate, 127)) ∧
    (let s := set up [(GATE.PWR_BUDGET 127, 300)]
     s.running = true ∧ s.gatePowered 127 = true ∧ s.gateMayRest 127 = true) ∧
    (let s := (set up [(GATE.PWR_STATE_STATE 127, 2), (GATE.PWR_STATE_TARGET 127, 3), (GATE.PWR_STATE_IN_TRANSITION 127, 1)]).setGate
       127 { up.gate 127 with stepping := true }
     s.gatePowered 127 = true ∧ (s.gate 127).stepping = true ∧ (s.gate 127).wake = false ∧ s.get (GATE.PWR_STATE_STATE 127) < 3) ∧
    (let s := (set up [(GATE.PWR_STATE_STATE 127, 1)]).setGate 127 { up.gate 127 with wake := true }
     (s.gate 127).wake = true ∧ (s.gate 127).stepping = false ∧ s.get (GATE.PWR_STATE_STATE 127) < 2) ∧
    (let s := set ready [(GATE.PWR_STATE_STATE 0, 1)]
     s.gatePowered 0 = true ∧ s.get (GATE.PWR_STATE_STATE 0) = 1 ∧ s.portOfLane 0 4 = some 1 ∧ s.receiving 1 = true ∧
     (s.lookAt 0 4 (word false (List.replicate 4 ⟨false, 0x4A⟩)) idles false).other = true ∧
     (s.lookAt 0 4 idles idles false).other = false) ∧
    (let s := (set (scheduled 3 0) [(GATE.PWR_STATE_STATE 0, 2)]).setSched 0 { port.sched 0 with pend := [⟨80000, false⟩] }
     s.gatePowered 0 = true ∧ s.nextInstant ([2 * 0, 2 * 0 + 1].filter s.portPresent) = some 10000 ∧ s.gateDepth 0 ≠ 0) ∧
    (let s := set up [(SLICE.PWR_BUDGET 31, 20)]
     s.running = true ∧ s.sliceMayRest 31 = true) ∧
    (let s := (set up [(SLICE.PWR_STATE_STATE 31, 1), (SLICE.PWR_STATE_TARGET 31, 2), (SLICE.PWR_STATE_IN_TRANSITION 31, 1)]).setSlice 31
       { up.slice 31 with stepping := true }
     (s.slice 31).stepping = true ∧ (s.slice 31).wake = false ∧ s.get (SLICE.PWR_STATE_STATE 31) < 2) ∧
    (let s := (set up [(SLICE.PWR_STATE_STATE 31, 1)]).setSlice 31 { up.slice 31 with wake := true }
     (s.slice 31).wake = true ∧ (s.slice 31).stepping = false ∧ s.sliceFenced 31 = false) := by decide +kernel

theorem witness_SupervisionCommandsComplete :
    (let s := set up [(HBM.HBM_PWR_CFG_PD_EN 3, 1), (HBM.HBM_PWR_CFG_SR_EN 3, 1)]
     s.running = true ∧ s.on (HBM.HBM_PWR_CFG_PD_EN 3) = true ∧ 32 * 3 + 31 ∉ s.supply.powerDown ∧
     s.bitAt (HBM.HBM_PWR_STATUS 3) 31 = false ∧ s.on (HBM.HBM_PWR_CFG_SR_EN 3) = true) ∧
    (up.supply.aon = true ∧ up.supply.refclk = true ∧ (List.replicate 8 (919 : BitVec 16)).all (fun x => decide (x.toInt < 920)) = true ∧
      ((920 : BitVec 16) :: List.replicate 7 0).any (fun x => decide (920 ≤ x.toInt)) = true ∧ up.awake = true ∧ up.quenched = false ∧
      up.alreadyLive .pwr 0 1 = false ∧ up.siteClass pwrPage 1 = 2) ∧
    (up.supply.aon = true ∧ (List.replicate 10 (750 : BitVec 16)).length = 10) ∧
    (railMax.getD (9 : Fin 10) 0 < 5000 ∧ (railRange.getD (0 : Fin 10) (0, 0)).1 ≤ 750 ∧ 750 ≤ (railRange.getD (0 : Fin 10) (0, 0)).2 ∧
      0 < (railRange.getD (9 : Fin 10) (0, 0)).1 ∧ up.smb.rails.length = 10 ∧ up.alreadyLive .pwr 0 0 = false ∧
      up.siteClass pwrPage 0 = 2) := by decide +kernel

theorem witness_StepRunsFrontCommand :
    ({ up with pending := [.perst, .idcode] } : State).pending = Instr.perst :: [.idcode] := by decide +kernel

theorem witness_EmptyQueueIsOnePclkCycle :
    (up.pending = [] ∧ up.awake = true ∧ up.on CLK.CLK_STATUS_CRUCIBLE_LOCK = true) ∧
    (dark.pending = [] ∧ dark.on CLK.CLK_STATUS_CRUCIBLE_LOCK = false) := by decide +kernel

theorem witness_QuenchIsKept :
    (cold.supply.aon = true ∧ cold.quenched = true ∧ Instr.perst ≠ .vddAonRemoval ∧ cold.pending.head? ≠ some .vddAonRemoval) ∧
    off.supply.aon = false := by decide +kernel

/-- HBM holds a byte. -/
def stores : State := { up with hbm := [(7, 1)] }

theorem witness_MemoryKeepsItsForm : Memory.wf stores.hbm := by decide +kernel

/-- The answer of exec is a next state. -/
def answers (c : Instr) (s : State) : Bool := match exec c s with | .next _ => true | .fault _ => false | .refused _ => false

theorem witness_PartsFrame : answers (.linkDown 0 1) ready = true ∧ Part.hbm ∉ writes (.linkDown 0 1) ∧
    Part.hbm ∈ writes (.seamPacket 0 0) := by decide +kernel

theorem witness_StoresFrame :
    (answers (.tblLoadDone 0 (.data [1, 2, 3, 4])) (loads 2 4) = true ∧
      (loads 2 4).loads.find? (fun y => y.port == (0 : Fin 256).val) = some ⟨0, 2, 1, 0x4000, 4, 0⟩ ∧
      0 < tableBase 0 + bankOffset 2 1) ∧
    (let fr := { frame (reduces 2) with entered := [line, line, line], dispDone := true }
     let s := (reduces 2).setCam 0 { port.cam 0 with frames := [fr] }
     answers (.nrLineEmit 0) s = true ∧ s.frameInNr 0 = some fr ∧ fr.temporal = true) ∧
    (answers (.seamPacket 0 0) (seamTakes (packet 1)) = true ∧
      ((((seamTakes (packet 1)).claimFor 1).readOut 1 []).1 = some (packet 1))) ∧
    (answers (.mouldPacket 0 0) mouldTakes = true ∧ (mouldTakes.tile 0 0).base = some 0xF00000000 ∧ 0 < 0xF00000000 ∧
      (mouldTakes.tile 0 0).cur = some ⟨some 1, []⟩ ∧ 1 < 2) := by decide +kernel

theorem witness_HostCommandsNeedHost : hostCommand (.chkStart 0) = true ∧ dark.hostOn = false := by decide +kernel

theorem witness_PageRecords : camPage 255 + 0x1000 ≤ pbaWord 0 ∧ 255 < 256 ∧ 31 < 32 ∧ 2047 ≠ up.get (HDR.IRQ_VEC (camPage 255)) := by
  decide +kernel

theorem witness_CoderLossless : 1 ≤ 16 ∧ 16 ≤ 16 ∧ (∀ v ∈ [65535, 0, 1], v < 2 ^ 16) ∧ 1 ≤ [65535, 0, 1].length ∧
    [65535, 0, 1].length ≤ 16384 := by decide

theorem witness_PixelsRoundTrip : 1 ≤ 16 ∧ 16 ≤ 16 ∧ ∀ v ∈ [65535, 0], v < 2 ^ 16 := by decide

theorem witness_UnitFrames :
    (∀ c ∈ [Instr.gateHystExpiry 127, .sliceHystExpiry 32, .sliceEntryStepDone 32, .chkFinal 3, .encLoad 7, .ledgerLookup 15 0,
      .faultInject 7 0 0, .hbmSelfRefresh 3 31, .tblLoad 255 0 0, .domainOffWrite 10 0, .linkChange true 6 16 true, .ptmLost,
      .tileStale 7 63, .sweep 15, .queueRelease 16383, .orderEnWrite true, .clearFail 127 0, .seLost 0],
      answers c up = true) ∧
    answers (.seamEnable 0) (set seamed [(HDR.CTRL_ENABLE (seamPage 0), 0)]) = true ∧
    answers (.mouldEnable 0) (set moulds [(HDR.CTRL_ENABLE (mouldPage 0), 0)]) = true := by decide +kernel

theorem witness_CommandRefusals :
    (fencedChk.hostOn = true ∧ fencedChk.chkFenced 3 = true ∧ fed.chkFenced 3 = false ∧ fed.chkBusy 3 = true ∧
      up.chkBusy 3 = false ∧ 3 < (4 : Fin 8).val ∧ done.chkFenced 3 = false ∧ done.on (CHK.CHK_CFG_DONE 3) = true) ∧
    (up.on (RING.RING_CFG_EN 0) = false ∧ (set up [(RING.RING_CFG_SIZE 0, 3)]).get (RING.RING_CFG_SIZE 0) < 4 ∧ (set up [(RING.RING_CFG_SIZE 0, 17)]).get (RING.RING_CFG_SIZE 0) > 16 ∧
      (let s := set up [(RING.RING_CFG_SIZE 0, 16), (RING.DESC_BASE_LO 0, 32)]
       s.get (RING.RING_CFG_SIZE 0) ≤ 16 ∧ s.get (RING.DESC_BASE_LO 0) % 64 ≠ 0) ∧
      (let s := set up [(RING.RING_CFG_SIZE 0, 4)]
       4 ≤ s.get (RING.RING_CFG_SIZE 0) ∧ s.get (RING.DESC_BASE_LO 0) % 64 = 0 ∧ s.get (RING.CPL_BASE_LO 0) % 64 = 0 ∧
       s.get (QD.Q_CFG_CONSUMER 0) ≠ 1)) ∧
    (up.portPresent 255 = false ∧ port.portPresent 0 = true ∧ port.portEnabled 0 = true ∧ tests.portPresent 1 = true ∧
      tests.portEnabled 1 = false ∧ tests.linkState 1 = linkTest ∧ ready.linkRefusal 1 = none) ∧
    (up.portPresent 254 = true ∧ up.gateEnabled 127 = false ∧
      ((ready.setEngine 0 { ready.engine 0 with lockPort := some 0 }).engine 0).lockPort ≠ none ∧
      (set ready [(BRG.PORT_STATUS_PCW_BUSY 0 0, 1)]).on (BRG.PORT_STATUS_PCW_BUSY 0 0) = true ∧
      (set ready [(BRG.PCW_ADDR 0 0, 2)]).get (BRG.PCW_ADDR 0 0) % 4 ≠ 0 ∧ ready.on (BRG.PORT_STATUS_PCW_BUSY 0 0) = false ∧
      ready.on (BRG.PORT_STATUS_LOCKED 0 0) = false) ∧
    (ready.gateEnabled 0 = true ∧ (2 : Fin 4).val ≠ ready.gateMode 0 ∧ up.gateEnabled 127 = false ∧ switchable 127 = true ∧
      ({ up with supply := { up.supply with switching := [(127, false)] } } : State).domainReady 127 = false ∧
      port.gateEnabled 0 = true ∧ port.portEnabled (2 * 0) = true) := by decide +kernel

end Sys2Proof.Tests
end

section
/-!
PROOFS. The parts of the state that each command may change. A function of the state that depends on none of the parts that
`writes` lists for a command reads the same before and after it; a part that is not listed is such a function.
-/

namespace Sys2Proof.Machine

section

variable {β : Type} {p : State → β} {s t : State}

/-! ### Commands that end in a state -/

theorem next_keeps {u : State} (k : Host.Outcome.next u = (.next t : Host.Outcome State Fault Refusal)) (hu : p u = p s) :
    p t = p s := by
  rw [← Host.Outcome.next.inj k]; exact hu

/-- A command with a guard keeps what its effect keeps. -/
theorem when_keeps {g : Bool} {f : State → State}
    (k : .next (s.when g f) = (.next t : Host.Outcome State Fault Refusal)) (hf : ∀ u, p (f u) = p u) : p t = p s :=
  next_keeps k (State.when_p p hf)

/-- A command on the unit of a page keeps what its effect keeps. -/
theorem onPage_when_keeps {g : Bool} {page : Nat} {f : State → Page → Nat → State} (h : Ignores p [])
    (k : .next (s.when g (fun u => u.onPage page f)) = (.next t : Host.Outcome State Fault Refusal))
    (hf : ∀ u a n, p (f u a n) = p u) : p t = p s :=
  when_keeps k fun _ => State.onPage_keeps h _ _ _ hf

/-! ### Commands with a choice of their own -/

theorem execCommaDetect_keeps {g : Fin 128} {lane : Fin 5} {w next : BitVec 40} {inside : Bool}
    (h : Ignores p (.gates :: Part.ofFault)) (k : execCommaDetect g lane w s next inside = .next t) : p t = p s := by
  refine next_keeps k ?_
  split
  · exact State.takeWord_keeps (h.mono rfl) ..
  · rfl

theorem execDegradeTimeout_keeps {g : Fin 128} {c : Fin 2} (h : Ignores p [.regs, .links, .cams, .records])
    (k : execDegradeTimeout g c s = .next t) : p t = p s := by
  refine when_keeps k fun _ => ?_
  split
  · exact (State.fenceLink_keeps h ..).trans (State.setLink_keeps (h.mono rfl) ..)
  · rfl
  · rfl

theorem execBurstWarn_keeps {g : Fin 128} {c : Fin 2} (h : Ignores p [.regs]) (k : execBurstWarn g c s = .next t) :
    p t = p s :=
  when_keeps k fun u =>
    have hu := State.put_keeps h u _ 1
    ite_p p ((State.raise_keeps h ..).trans hu) hu

theorem execFaultOccurrence_keeps {page : Fin 4096} {bit : Fin 32} {detail : Fin 65536} {real acked : Bool} {loc : Nat}
    (h : Ignores p (.gates :: Part.ofFault)) (k : execFaultOccurrence page bit detail real acked s loc = .next t) :
    p t = p s := by
  refine (onPage_when_keeps (h.mono rfl) k fun _ _ _ => State.siteOccurs_keeps (h.mono rfl) ..).trans ?_
  exact ite_p p (State.refclkSeen_keeps (h.mono rfl) ..) rfl

theorem execConditionSiteClears_keeps {page : Fin 4096} {bit : Fin 32} {detail : Fin 65536}
    (h : Ignores p [.supply, .regs, .faults]) (k : execConditionSiteClears page bit detail s = .next t) : p t = p s :=
  (onPage_when_keeps (h.mono rfl) k fun _ _ _ => State.siteClears_keeps h ..).trans
    (State.refclkSeen_keeps (h.mono rfl) ..)

theorem execRailFault_keeps {rail : Fin 10} {mv : Nat} (h : Ignores p Part.ofFault)
    (k : execRailFault rail mv s = .next t) : p t = p s := by
  unfold execRailFault at k
  split at k
  · cases k
  · exact when_keeps k fun _ => State.railOut_keeps h ..

theorem execSmbAlertStatus_keeps {pec : Bool} (h : Ignores p [.smb, .out]) (k : execSmbAlertStatus pec s = .next t) :
    p t = p s := by
  have hr : p (s.smbRead 0x38 (leBytes 1 s.smb.alertStatus) pec) = p s := State.smbRead_keeps (h.mono rfl) ..
  exact next_keeps k (ite_p p ((h.smb rfl ..).trans hr) hr)

/-! ### Every command -/

/-- Every command keeps what depends on none of the parts that `writes` lists for it: the effect of each is one operation on
the state, whose own lemma names the parts it changes. -/
theorem exec_keeps {c : Instr} (h : Ignores p (writes c)) (k : exec c s = .next t) : p t = p s := by
  cases c with
  -- Supply, reset and PERST_N.
  | vddAonPowerUp => exact when_keeps k fun _ => State.powerUp_keeps (h.mono rfl) ..
  | vddAonRemoval => exact next_keeps k (State.powerLoss_keeps (h.mono rfl) _)
  | poresetAssert => exact when_keeps k fun _ => State.poreset_keeps (h.mono rfl) ..
  | poresetRelease => exact when_keeps k fun _ => State.poresetRelease_keeps (h.mono rfl) ..
  | pllLock => exact when_keeps k fun _ => State.pllLock_keeps (h.mono rfl) ..
  | hbmTrainingDone => exact when_keeps k fun _ => State.trainingDone_keeps (h.mono rfl) ..
  | perst => exact when_keeps k fun _ => State.perstAssert_keeps (h.mono rfl) ..
  | perstRelease => exact when_keeps k fun _ => State.perstRelease_keeps (h.mono rfl) ..
  -- Host link, rings, delivery, device time and messages.
  | linkChange => exact when_keeps k fun _ => State.linkChange_keeps (h.mono rfl) ..
  | d3hotEntry => exact when_keeps k fun _ => State.d3hotEntry_keeps (h.mono rfl) ..
  | d0Return | busMasterEnableChange => exact when_keeps k fun _ => h.cfg rfl ..
  | msixMessage => exact when_keeps k fun _ => State.sendVector_keeps (h.mono rfl) ..
  | msixUnmask =>
      exact when_keeps k fun _ => (State.sendVector_keeps (h.mono rfl) ..).trans (State.put_keeps (h.mono rfl) ..)
  | descTail =>
    exact next_keeps k (State.doorbell_keeps (h.mono rfl) _ _ _ _ _ _ fun _ => State.descTail_keeps (h.mono rfl) ..)
  | cplHead =>
    exact next_keeps k (State.doorbell_keeps (h.mono rfl) _ _ _ _ _ _ fun _ => State.cplHead_keeps (h.mono rfl) ..)
  | irqArm =>
    exact next_keeps k (State.doorbell_keeps (h.mono rfl) _ _ _ _ _ _ fun _ => State.irqArm_keeps (h.mono rfl) ..)
  | ringEnable | ringDisable => exact when_keeps k fun _ => State.writeRingCfg_keeps (h.mono rfl) ..
  | pourClaim =>
      exact when_keeps k fun _ => ite_p p (State.dupMismatch_keeps (h.mono rfl) ..) (State.pourStart_keeps (h.mono rfl) ..)
  | descReadDone => exact when_keeps k fun _ => State.descRead_keeps (h.mono rfl) ..
  | pourDataWrite =>
      exact when_keeps k fun _ => (State.endTurn_keeps (h.mono rfl) ..).trans (State.pourData_keeps (h.mono rfl) ..)
  | completionWrite =>
      exact when_keeps k fun _ => (State.endTurn_keeps (h.mono rfl) ..).trans (State.completion_keeps (h.mono rfl) ..)
  | holdoffExpiry => exact when_keeps k fun _ => State.holdoffExpiry_keeps (h.mono rfl) ..
  | tableReadRequest => exact when_keeps k fun _ => State.tableRead_keeps (h.mono rfl) ..
  | ptmDialogueStart => exact when_keeps k fun _ => State.emit_keeps (h.mono rfl) ..
  | ptmDialogueDone => exact when_keeps k fun _ => State.ptmDone_keeps (h.mono rfl) ..
  | ptmLost => exact when_keeps k fun _ => (State.raise_keeps (h.mono rfl) ..).trans (State.put_keeps (h.mono rfl) ..)
  | ptmEnable => exact when_keeps k fun _ => State.writePtmEn_keeps (h.mono rfl) ..
  | timeSet => exact when_keeps k fun _ => State.timeSet_keeps (h.mono rfl) ..
  -- Register writes.
  | registerWrite => exact when_keeps k fun _ => State.busWrite_keeps (h.mono rfl) ..
  | stateClear => exact onPage_when_keeps (h.mono rfl) k fun _ _ _ => State.clearRefused_keeps (h.mono rfl) ..
  | irqStatClear => exact onPage_when_keeps (h.mono rfl) k fun _ _ _ => State.clearIrq_keeps (h.mono rfl) ..
  | irqSet =>
    exact onPage_when_keeps (h.mono rfl) k fun _ _ _ =>
      (State.setIrq_keeps (h.mono rfl) ..).trans (State.pulse_keeps (h.mono rfl) ..)
  -- Links and lanes.
  | clockWindowEnd => exact when_keeps k fun _ => State.clockWindow_keeps (h.mono rfl) ..
  | clockEdgeTimeout => exact when_keeps k fun _ => State.clockLoss_keeps (h.mono rfl) ..
  | dllLock => exact when_keeps k fun _ => State.dllLocked_keeps (h.mono rfl) ..
  | commaDetect => exact execCommaDetect_keeps (h.mono rfl) k
  | alignCheckTimeout =>
    exact next_keeps k (State.onDataLane_keeps (h.mono rfl) _ _ _ _ fun _ _ =>
      ite_p p (State.checkTimeout_keeps (h.mono rfl) ..) rfl)
  | laneMaskAck | setRateAck =>
    refine when_keeps k fun _ => ?_
    split
    · exact State.completeWrite_keeps (h.mono rfl) ..
    · rfl
  | degradeTimeout => exact execDegradeTimeout_keeps (h.mono rfl) k
  | deskewMeasure =>
      exact when_keeps k fun _ => (State.deskew_keeps (h.mono rfl) ..).trans (State.gateWake_keeps (h.mono rfl) ..)
  | trainingBurst =>
    exact next_keeps k (State.onDataLane_keeps (h.mono rfl) _ _ _ _ fun _ _ => State.burst_keeps (h.mono rfl) ..)
  | burstWarn => exact execBurstWarn_keeps (h.mono rfl) k
  | linkFail => exact when_keeps k fun _ => State.raise_keeps (h.mono rfl) ..
  | linkTrain => exact when_keeps k fun _ => State.linkTrainCmd_keeps (h.mono rfl) ..
  | setRate => exact when_keeps k fun _ => State.setRateCmd_keeps (h.mono rfl) ..
  | linkDown => exact when_keeps k fun _ => State.linkDownCmd_keeps (h.mono rfl) ..
  | linkUp => exact when_keeps k fun _ => State.linkUpCmd_keeps (h.mono rfl) ..
  | clearCounters => exact when_keeps k fun _ => State.clearCountersCmd_keeps (h.mono rfl) ..
  | loopNes | loopNep => exact when_keeps k fun _ => State.loopNearCmd_keeps (h.mono rfl) ..
  | loopFar => exact when_keeps k fun _ => State.loopFarCmd_keeps (h.mono rfl) ..
  | camPrbs => exact when_keeps k fun _ => State.camPrbsCmd_keeps (h.mono rfl) ..
  | testStop => exact when_keeps k fun _ => State.testStopCmd_keeps (h.mono rfl) ..
  | prbsLock => exact when_keeps k fun _ => State.prbsBlock_keeps (h.mono rfl) ..
  | farLock => exact when_keeps k fun _ => State.farBlock_keeps (h.mono rfl) ..
  -- Packets and link injections.
  | fsPacket | linePacket | fePacket | unknownTypePacket => exact next_keeps k (State.packetOf_keeps (h.mono rfl) ..)
  | abortSymbol =>
    exact next_keeps k (State.heard_keeps (h.mono rfl) _ _ _ _ fun _ => State.when_p p fun _ =>
      (State.abortPacket_keeps (h.mono rfl) ..).trans (State.gateWake_keeps (h.mono rfl) ..))
  | frameTimeout => exact when_keeps k fun _ => State.frameTimeout_keeps (h.mono rfl) ..
  | missingFrameTimeout => exact when_keeps k fun _ => State.missingFrame_keeps (h.mono rfl) ..
  | dropSymbols | dropLine | corruptSymbol | corruptHdrCrc | corruptPayCrc | reorder =>
    exact next_keeps k (State.injectOp_keeps (h.mono rfl) ..)
  | injCancel => exact when_keeps k fun _ => State.injCancelCmd_keeps (h.mono rfl) ..
  | injectionActs => exact when_keeps k fun _ => State.injActs_keeps (h.mono rfl) ..
  -- Enables and admission.
  | gateCfgWrite => exact when_keeps k fun _ => State.writeGateCfg_keeps (h.mono rfl) ..
  | gateEnable => exact when_keeps k fun _ => State.gateEnable_keeps (h.mono rfl) ..
  | gateDisable => exact when_keeps k fun _ => State.gateDisable_keeps (h.mono rfl) ..
  | camEnable => exact when_keeps k fun _ => State.camEnable_keeps (h.mono rfl) ..
  | camDisable => exact when_keeps k fun _ => State.camDisable_keeps (h.mono rfl) ..
  | admHbmLimitWrite => exact when_keeps k fun _ => State.writeHbmLimit_keeps (h.mono rfl) ..
  | winCommit => exact when_keeps k fun _ => State.winCommit_keeps (h.mono rfl) ..
  | seamEnable => exact when_keeps k fun _ => State.seamEnable_keeps (h.mono rfl) ..
  | seamDisable => exact when_keeps k fun _ => State.seamDisable_keeps (h.mono rfl) ..
  | mouldEnable => exact when_keeps k fun _ => State.mouldEnable_keeps (h.mono rfl) ..
  | mouldDisable => exact when_keeps k fun _ => State.mouldDisable_keeps (h.mono rfl) ..
  -- Intake and frame check.
  | intakeItem => exact when_keeps k fun _ => State.intake_keeps (h.mono rfl) ..
  | fsAtFrameCheck => exact when_keeps k fun _ => State.fsCheck_keeps (h.mono rfl) ..
  | feAtFrameCheck => exact when_keeps k fun _ => State.feCheck_keeps (h.mono rfl) ..
  | lineAtFrameCheck => exact when_keeps k fun _ => State.lineCheck_keeps (h.mono rfl) ..
  -- Noise reduction.
  | displacementCompute => exact when_keeps k fun _ => State.displaceFrame_keeps (h.mono rfl) ..
  | holdTimeout => exact when_keeps k fun _ => State.holdTimeout_keeps (h.mono rfl) ..
  | nrLineEmit => exact when_keeps k fun _ => State.nrEmit_keeps (h.mono rfl) ..
  | refWriteAck | refWriteFail => exact when_keeps k fun _ => State.refWriteEnd_keeps (h.mono rfl) ..
  | refReadDone => exact when_keeps k fun _ => State.refRead_keeps (h.mono rfl) ..
  | refReset => exact when_keeps k fun _ => State.setCam_keeps (h.mono rfl) ..
  -- Corrections, tables, windows and statistics.
  | fettleLineEmit => exact when_keeps k fun _ => State.fettleEmit_keeps (h.mono rfl) ..
  | windowLineEmit => exact when_keeps k fun _ => State.windowEmit_keeps (h.mono rfl) ..
  | statBankClose => exact when_keeps k fun _ => State.statClose_keeps (h.mono rfl) ..
  | tblLoad => exact when_keeps k fun _ => State.tblLoad_keeps (h.mono rfl) ..
  | tblLoadDone => exact when_keeps k fun _ => State.tblLoadDone_keeps (h.mono rfl) ..
  | colBankWrite => exact when_keeps k fun _ => State.writeFfCtrl_keeps (h.mono rfl) ..
  | colCopyDone => exact when_keeps k fun _ => State.colCopyDone_keeps (h.mono rfl) ..
  | ffGridWrite => exact when_keeps k fun _ => State.writeGrid_keeps (h.mono rfl) ..
  -- Seams and moulds.
  | seamPacket => exact when_keeps k fun _ => State.seamPacket_keeps (h.mono rfl) ..
  | seamLineForm => exact when_keeps k fun _ => State.seamForm_keeps (h.mono rfl) ..
  | seamTimeout => exact when_keeps k fun _ => State.seamTimeout_keeps (h.mono rfl) ..
  | mouldPacket => exact when_keeps k fun _ => State.mouldPacket_keeps (h.mono rfl) ..
  | mouldFrameStart => exact when_keeps k fun _ => State.mouldFrame_keeps (h.mono rfl) ..
  | mouldLineReadout => exact when_keeps k fun _ => State.mouldLine_keeps (h.mono rfl) ..
  | tileStale => exact when_keeps k fun _ => State.tileStale_keeps (h.mono rfl) ..
  -- Triggers, shots and settings.
  | pinEdge => exact when_keeps k fun _ => State.pinEdge_keeps (h.mono rfl) ..
  | encoderEdge => exact when_keeps k fun _ => State.encoderEdge_keeps (h.mono rfl) ..
  | encoderIndex => exact when_keeps k fun _ => State.encoderIndex_keeps (h.mono rfl) ..
  | encLoad => exact when_keeps k fun _ => State.encLoad_keeps (h.mono rfl) ..
  | timerEnable => exact when_keeps k fun _ => State.writeTmr_keeps (h.mono rfl) ..
  | timerFire => exact when_keeps k fun _ => State.timerFire_keeps (h.mono rfl) ..
  | swTrig => exact when_keeps k fun _ => State.swTrig_keeps (h.mono rfl) ..
  | shotIssue => exact when_keeps k fun _ => State.shotIssue_keeps (h.mono rfl) ..
  | strobeEnd => exact when_keeps k fun _ => State.strobeEnd_keeps (h.mono rfl) ..
  | schedEnable | schedDisable => exact when_keeps k fun _ => State.writeSched_keeps (h.mono rfl) ..
  | shotSet => exact when_keeps k fun _ => State.shotSet_keeps (h.mono rfl) ..
  | settingsCommit | settingsCommitNext => exact when_keeps k fun _ => State.commitSlot_keeps (h.mono rfl) ..
  | settingsDeliveryStart => exact when_keeps k fun _ => State.startDelivery_keeps (h.mono rfl) ..
  | ledgerLookup => exact when_keeps k fun _ => State.ledgerLookup_keeps (h.mono rfl) ..
  -- The register bridge.
  | triggerSymbolSend => exact when_keeps k fun _ => State.sendPair_keeps (h.mono rfl) ..
  | bar2Write => exact when_keeps k fun _ => State.bar2Write_keeps (h.mono rfl) ..
  | bar2Read => exact when_keeps k fun _ => State.bar2Read_keeps (h.mono rfl) ..
  | readLimit => exact when_keeps k fun _ => State.readLimit_keeps (h.mono rfl) ..
  | packetBoundarySend => exact when_keeps k fun _ => State.boundary_keeps (h.mono rfl) ..
  | grantIssue => exact when_keeps k fun _ => State.issueGrant_keeps (h.mono rfl) ..
  | turnaroundReturn => exact when_keeps k fun _ => State.endGrant_keeps (h.mono rfl) ..
  | grantOverrun => exact when_keeps k fun _ => State.grantOverrun_keeps (h.mono rfl) ..
  | writeDoneRsp => exact when_keeps k fun _ => State.writeDone_keeps (h.mono rfl) ..
  | readDataRsp => exact when_keeps k fun _ => State.readData_keeps (h.mono rfl) ..
  | nakRsp => exact when_keeps k fun _ => State.nak_keeps (h.mono rfl) ..
  | busyRetry => exact when_keeps k fun _ => State.busyRetry_keeps (h.mono rfl) ..
  | responseTimeout => exact when_keeps k fun _ => State.responseTimeout_keeps (h.mono rfl) ..
  | prefetchExpiry => exact when_keeps k fun _ => State.prefetchExpiry_keeps (h.mono rfl) ..
  | seLost => exact when_keeps k fun _ => State.seExpiry_keeps (h.mono rfl) ..
  | discover => exact when_keeps k fun _ => State.cmdDiscover_keeps (h.mono rfl) ..
  | lock => exact when_keeps k fun _ => State.cmdLock_keeps (h.mono rfl) ..
  | unlock => exact when_keeps k fun _ => State.cmdUnlock_keeps (h.mono rfl) ..
  | pcWrite => exact when_keeps k fun _ => State.cmdPcWrite_keeps (h.mono rfl) ..
  | clearFail => exact when_keeps k fun _ => State.cmdClearFail_keeps (h.mono rfl) ..
  | lockExpired => exact when_keeps k fun _ => State.lockExpired_keeps (h.mono rfl) ..
  | pollTick => exact when_keeps k fun _ => State.pollTick_keeps (h.mono rfl) ..
  -- The ladle.
  | reservation => exact when_keeps k fun _ => State.reserveNext_keeps (h.mono rfl) ..
  | cellTake => exact when_keeps k fun _ => State.cellTake_keeps (h.mono rfl) ..
  | commit => exact when_keeps k fun _ => State.commit_keeps (h.mono rfl) ..
  | pop => exact when_keeps k fun _ => State.popQueue_keeps (h.mono rfl) ..
  | cellReturn => exact when_keeps k fun _ => State.cellReturn_keeps (h.mono rfl) ..
  | flush => exact when_keeps k fun _ => State.flushCmd_keeps (h.mono rfl) ..
  | flushDone => exact when_keeps k fun _ => State.flushEnd_keeps (h.mono rfl) ..
  | queueRelease => exact when_keeps k fun _ => State.releaseQueue_keeps (h.mono rfl) ..
  | clrOvr => exact when_keeps k fun _ => State.clrOvr_keeps (h.mono rfl) ..
  | queueEnable | queueDisable => exact when_keeps k fun _ => State.writeQCfg_keeps (h.mono rfl) ..
  | orderEnWrite => exact when_keeps k fun _ => State.writeOrderEn_keeps (h.mono rfl) ..
  | scrubCheck => exact when_keeps k fun _ => State.scrub_keeps (h.mono rfl) ..
  | sweep => exact when_keeps k fun _ => State.sweepCmd_keeps (h.mono rfl) ..
  | sweepDone => exact when_keeps k fun _ => State.sweepDone_keeps (h.mono rfl) ..
  -- Faults.
  | faultOccurrence => exact execFaultOccurrence_keeps (h.mono rfl) k
  | remapDone => exact when_keeps k fun _ => State.remapDone_keeps (h.mono rfl) ..
  | escalationExpiry => exact onPage_when_keeps (h.mono rfl) k fun _ _ _ => State.escExpiry_keeps (h.mono rfl) ..
  | escAck => exact onPage_when_keeps (h.mono rfl) k fun _ _ _ => State.ackEsc_keeps (h.mono rfl) ..
  | faultStickyClear => exact onPage_when_keeps (h.mono rfl) k fun _ _ _ => State.clearSticky_keeps (h.mono rfl) ..
  | faultRelease => exact onPage_when_keeps (h.mono rfl) k fun _ _ _ => State.cmdRelease_keeps (h.mono rfl) ..
  | faultFence => exact onPage_when_keeps (h.mono rfl) k fun _ _ _ => State.cmdFence_keeps (h.mono rfl) ..
  | faultInject => exact onPage_when_keeps (h.mono rfl) k fun _ _ _ => State.armFault_keeps (h.mono rfl) ..
  | conditionSiteClears => exact execConditionSiteClears_keeps (h.mono rfl) k
  -- Power, temperatures and rails.
  | softRst => exact onPage_when_keeps (h.mono rfl) k fun _ _ _ => State.softReset_keeps (h.mono rfl) ..
  | domainOffWrite => exact when_keeps k fun _ => State.writeDomainOff_keeps (h.mono rfl) ..
  | domainSwitchDone => exact when_keeps k fun _ => State.switchDone_keeps (h.mono rfl) ..
  | switchTimeout => exact when_keeps k fun _ => State.switchTimeout_keeps (h.mono rfl) ..
  | pwrBudgetWrite => exact onPage_when_keeps (h.mono rfl) k fun _ _ _ => State.writeBudget_keeps (h.mono rfl) ..
  | gateHystExpiry => exact when_keeps k fun _ => State.gateEnter_keeps (h.mono rfl) ..
  | gateEntryStepDone => exact when_keeps k fun _ => State.gateStep_keeps (h.mono rfl) ..
  | gateExitDone => exact when_keeps k fun _ => State.gateExit_keeps (h.mono rfl) ..
  | sliceHystExpiry => exact when_keeps k fun _ => State.sliceEnter_keeps (h.mono rfl) ..
  | sliceEntryStepDone => exact when_keeps k fun _ => State.sliceStep_keeps (h.mono rfl) ..
  | sliceExitDone => exact when_keeps k fun _ => State.sliceExit_keeps (h.mono rfl) ..
  | wakeAheadExit => exact when_keeps k fun _ => State.wakeAhead_keeps (h.mono rfl) ..
  | hbmPowerDown => exact when_keeps k fun _ => State.hbmPowerDown_keeps (h.mono rfl) ..
  | hbmSelfRefresh => exact when_keeps k fun _ => State.hbmSelfRefresh_keeps (h.mono rfl) ..
  | tempConversion => exact when_keeps k fun _ => State.convert_keeps (h.mono rfl) ..
  | railFault => exact execRailFault_keeps (h.mono rfl) k
  | warmDataSymbol => exact when_keeps k fun _ => State.warmSymbol_keeps (h.mono rfl) ..
  | railReadingUpdate => exact when_keeps k fun _ => State.readRails_keeps (h.mono rfl) ..
  -- Check units.
  | chkStart => exact when_keeps k fun _ => State.chkStart_keeps (h.mono rfl) ..
  | chkPreset => exact when_keeps k fun _ => State.chkPreset_keeps (h.mono rfl) ..
  | chkData8 | chkData16 | chkData32 => exact when_keeps k fun _ => State.chkFeed_keeps (h.mono rfl) ..
  | chkFinal => exact when_keeps k fun _ => State.chkFinal_keeps (h.mono rfl) ..
  -- SMBus and the test access port.
  | smbDevId | smbRevision | smbStatus | smbTemp | smbTempMax | smbTempPeakRead | smbTempWarnRead | smbRail |
      smbAlertMaskRead =>
    exact next_keeps k (State.smbRead_keeps (h.mono rfl) ..)
  | smbTempPeakWrite | smbAlertMaskWrite =>
    exact next_keeps k (State.smbWrite_keeps (h.mono rfl) _ _ _ _ _ _ fun _ => h.smb rfl ..)
  | smbTempWarnWrite =>
    exact next_keeps k (State.smbWrite_keeps (h.mono rfl) _ _ _ _ _ _ fun _ =>
      (State.latchAlerts_keeps (h.mono rfl) ..).trans (h.smb rfl ..))
  | smbQuench | smbSerial => exact next_keeps k (State.smbBlock_keeps (h.mono rfl) ..)
  | smbAlertStatus => exact execSmbAlertStatus_keeps (h.mono rfl) k
  | alertResponseAddress =>
      exact next_keeps k (ite_p p (State.emit_keeps (h.mono rfl) ..) (State.emit_keeps (h.mono rfl) ..))
  | extest | samplePreload | extestPulse | extestTrain => exact next_keeps k (State.jtagScan_keeps (h.mono rfl) ..)
  | idcode | bypass =>
      exact when_keeps k fun _ => (State.emit_keeps (h.mono rfl) ..).trans (State.loadInstr_keeps (h.mono rfl) ..)
  | highz | clamp => exact next_keeps k (State.jtagHold_keeps (h.mono rfl) ..)
  | testLogicReset => exact when_keeps k fun _ => State.loadInstr_keeps (h.mono rfl) ..
  -- The read that latches.
  | lowHalfRead => exact when_keeps k fun _ => State.readLow_keeps (h.mono rfl) ..

/-! ### The frame -/

/-- That a part is the same as in a state depends on that part alone. -/
theorem samePart_ignores {q : Part} {l : List Part} (hq : q ∉ l) (s : State) : Ignores (samePart q s) l := by
  intro t u k
  have hqk : samePart q t u := k q hq
  cases q <;> exact congrArg (· = _) hqk

theorem samePart_refl (q : Part) (s : State) : samePart q s s := by
  cases q <;> exact rfl

theorem samePart_of_notMem_writes {c : Instr} {q : Part} (k : exec c s = .next t) (hq : q ∉ writes c) :
    samePart q s t := by
  have hp : samePart q s t = samePart q s s := exec_keeps (samePart_ignores hq s) k
  exact hp ▸ samePart_refl q s

end

theorem pending_notMem_writes (c : Instr) : Part.pending ∉ writes c := by
  have hc : (writes c).contains .pending = false := by cases c <;> rfl
  simpa using hc

/-- The commands that store in the HBM, or return it to its reset value. -/
theorem storing_of_hbm_mem_writes {c : Instr} (h : Part.hbm ∈ writes c) :
    c = .vddAonRemoval ∨ c = .poresetAssert ∨ (∃ x, c = .vddAonPowerUp x) ∨ (∃ x y, c = .tblLoadDone x y) ∨
      (∃ x, c = .nrLineEmit x) ∨ (∃ x y l b, c = .seamPacket x y l b) ∨ ∃ x y l, c = .mouldPacket x y l := by
  have hc : (writes c).contains .hbm = true := by simpa using h
  cases c with
  | vddAonRemoval | poresetAssert | vddAonPowerUp | tblLoadDone | nrLineEmit | seamPacket | mouldPacket => simp
  | _ => exact Bool.noConfusion hc

/-- Settles O52: a command keeps whatever depends on none of the parts that `writes` lists for it (`exec_keeps`), and of which
parts those are, the second and third clause are read off `writes`. -/
theorem partsFrame : Obligations.PartsFrame :=
  ⟨fun _ _ _ _ k hq => samePart_of_notMem_writes k hq, pending_notMem_writes, fun _ h => storing_of_hbm_mem_writes h⟩

end Sys2Proof.Machine
end

section
/-!
PROOFS. The fields of a register: what a write of its word leaves in each (R10), and where the word lies (R411).
-/

namespace Sys2Proof.Machine

/-! ### The fields of a register row -/

/-- Two fields share no bit. -/
def FieldDef.apart (f g : FieldDef) : Bool := decide (f.hi < g.lo) || decide (g.hi < f.lo)

/-- The fields of a row lie within its word, and no two of them share a bit. -/
def fieldsApart : List FieldDef → Bool
  | [] => true
  | f :: fs => decide (f.lo ≤ f.hi) && decide (f.hi < 32) && fs.all f.apart && fieldsApart fs

/-- Software can write the field (R10). -/
def FieldDef.writable (f : FieldDef) : Bool := f.acc == .rw || f.acc == .rwl

theorem FieldDef.writable_iff (f : FieldDef) : f.writable = true ↔ f.acc = .rw ∨ f.acc = .rwl := by
  simp [FieldDef.writable]

theorem fieldsApart_cons (f : FieldDef) (fs : List FieldDef) : fieldsApart (f :: fs) = true ↔
    f.lo ≤ f.hi ∧ f.hi < 32 ∧ (∀ g ∈ fs, f.apart g = true) ∧ fieldsApart fs = true := by
  simp [fieldsApart, and_assoc]

/-- A field of such a row lies within its word. -/
theorem FieldDef.range_of_mem {fs : List FieldDef} (h : fieldsApart fs = true) {f : FieldDef} (hf : f ∈ fs) :
    f.lo ≤ f.hi ∧ f.hi < 32 := by
  induction fs with
  | nil => simp at hf
  | cons x fs ih =>
    obtain ⟨hlo, hhi, -, hfs⟩ := (fieldsApart_cons x fs).mp h
    rcases List.mem_cons.mp hf with rfl | hf
    · exact ⟨hlo, hhi⟩
    · exact ih hfs hf

theorem getBits_setBits_apart {f g : FieldDef} (hf : f.lo ≤ f.hi ∧ f.hi < 32) (hg : g.lo ≤ g.hi)
    (h : f.apart g = true) (w : Word) (v : Nat) : getBits (setBits w f.hi f.lo v) g.hi g.lo = getBits w g.hi g.lo := by
  rcases (by simpa [FieldDef.apart] using h : f.hi < g.lo ∨ g.hi < f.lo) with h | h
  · exact getBits_setBits_above _ _ _ _ _ _ hf.1 hf.2 h
  · exact getBits_setBits_below _ _ _ _ _ _ hf.1 hf.2 h hg

theorem mergeFields_cons (f : FieldDef) (fs : List FieldDef) (old w : Word) : mergeFields (f :: fs) old w =
    mergeFields fs (if f.writable = true then setBits old f.hi f.lo (getBits w f.hi f.lo) else old) w := by
  obtain ⟨hi, lo, acc, reset, keep⟩ := f
  cases acc <;> rfl

/-- A write leaves the bits that no field of the row shares. -/
theorem getBits_mergeFields_apart {g : FieldDef} (hg : g.lo ≤ g.hi) {fs : List FieldDef} (hfs : fieldsApart fs = true)
    (h : ∀ f ∈ fs, f.apart g = true) (old w : Word) :
    getBits (mergeFields fs old w) g.hi g.lo = getBits old g.hi g.lo := by
  induction fs generalizing old with
  | nil => rfl
  | cons f fs ih =>
    obtain ⟨hlo, hhi, -, htail⟩ := (fieldsApart_cons f fs).mp hfs
    rw [mergeFields_cons, ih htail (fun x hx => h x (by simp [hx]))]
    split
    · exact getBits_setBits_apart ⟨hlo, hhi⟩ hg (h f (by simp)) _ _
    · rfl

/-- After a write a field holds the value written where software can write it, and what it held elsewhere. -/
theorem getBits_mergeFields {fs : List FieldDef} (hfs : fieldsApart fs = true) {g : FieldDef} (hg : g ∈ fs)
    (old w : Word) : getBits (mergeFields fs old w) g.hi g.lo =
      if g.writable = true then getBits w g.hi g.lo else getBits old g.hi g.lo := by
  induction fs generalizing old with
  | nil => simp at hg
  | cons f fs ih =>
    obtain ⟨hlo, hhi, hhead, htail⟩ := (fieldsApart_cons f fs).mp hfs
    rw [mergeFields_cons]
    rcases List.mem_cons.mp hg with rfl | hg
    · rw [getBits_mergeFields_apart hlo htail (fun x hx => by simpa [FieldDef.apart, or_comm] using hhead x hx)]
      split
      · rw [getBits_setBits_same _ _ _ _ hlo hhi]
        exact Nat.mod_mod _ _
      · rfl
    · rw [ih htail hg]
      have hg' := FieldDef.range_of_mem htail hg
      split
      · rfl
      · split
        · exact getBits_setBits_apart ⟨hlo, hhi⟩ hg'.1 (hhead g hg) _ _
        · rfl

/-! ### The register tables -/

theorem hdrRegs_apart : ∀ r ∈ hdrRegs, fieldsApart r.fields = true := by decide +kernel

theorem pageRegs_apart (p : Page) (n : Nat) : ∀ r ∈ pageRegs p n, fieldsApart r.fields = true := by
  unfold pageRegs
  split <;> (repeat' split) <;> decide +kernel

theorem regAt_apart {p : Page} {n o : Nat} {r : RegDef} (h : regAt p n o = some r) : fieldsApart r.fields = true := by
  simp only [regAt] at h
  split at h
  · cases h
    exact pageRegs_apart p n r (List.mem_of_find?_eq_some ‹_›)
  · split at h
    · exact hdrRegs_apart r (List.mem_of_find?_eq_some h)
    · cases h

theorem fieldsAt_apart (a : Nat) : fieldsApart (fieldsAt a) = true := by
  unfold fieldsAt
  split
  · rfl
  · split
    · exact regAt_apart ‹_›
    · rfl

/-- The place of the address a, as `locate` gives it, is right: nothing, or the page and the offset that add up to a. -/
def liesAt (a : Nat) : Option (Page × Nat × Nat) → Prop
  | none => True
  | some (p, n, o) => pageAddr p n + o = a

theorem liesAt_ite {a lo b : Nat} {x y : Option (Page × Nat × Nat)} (hlo : lo ≤ a)
    (hx : lo ≤ a → a < b → liesAt a x) (hy : b ≤ a → liesAt a y) : liesAt a (if a < b then x else y) := by
  split
  · exact hx hlo ‹_›
  · exact hy (by omega)

/-- The map of R411, range by range. -/
theorem locate_liesAt {a : Nat} (ha : a % 4 = 0) : liesAt a (locate a) := by
  unfold locate
  have h := Nat.zero_le a
  iterate 30
    refine liesAt_ite h (fun hlo hhi => ?_) fun hb => ?_
    · simp only [liesAt, pageAddr, devPage, clkPage, pwrPage, timePage, chkPage, trgPage, shotPage, gatePage, brgPage,
        slicePage, ladlePage, queueDesc, pourPage, ringConf, seamPage, mouldPage, hbmPage, pexPage, camPage, msixEntry,
        pbaWord] <;> omega
    replace h := hb
    clear hb
  trivial

/-- The word at an aligned address of a page lies at its offset from the page's start (R411). -/
theorem pageAddr_add_of_locate {a : Nat} {p : Page} {n o : Nat} (ha : a % 4 = 0) (h : locate a = some (p, n, o)) :
    pageAddr p n + o = a := by
  have hl := locate_liesAt ha
  rwa [h] at hl

theorem regAt_of_mem_fieldsAt {a : Nat} {p : Page} {n o : Nat} (hl : locate a = some (p, n, o)) {f : FieldDef}
    (hf : f ∈ fieldsAt a) : (regAt p n o).isSome = true := by
  simp only [fieldsAt, hl] at hf
  split at hf
  · rename_i r hr; rw [hr]; rfl
  · simp at hf

/-! ### Writing fields -/

theorem State.getBits_merged (s : State) {a : Nat} (w : Word) {f : FieldDef} (hf : f ∈ fieldsAt a) :
    getBits (s.merged a w) f.hi f.lo = if f.writable = true then getBits w f.hi f.lo else getBits (s.word a) f.hi f.lo :=
  getBits_mergeFields (fieldsAt_apart a) hf _ _

theorem State.writeFields_fieldsWritten (s : State) (a : Nat) (w : Word) : fieldsWritten s (s.writeFields a w) a w := by
  refine ⟨⟨rfl, fun x hx => State.word_setWord_ne _ _ _ _ (by simpa using hx)⟩, fun f hf => ?_⟩
  have hw : (s.writeFields a w).word a = s.merged a w := State.word_setWord_same _ _ _
  rw [hw, State.getBits_merged s w hf]
  simp only [FieldDef.writable_iff]

/-- A write that changes a field changes the word. -/
theorem State.merged_ne_word {s : State} {a : Nat} {w : Word} (h : s.changes a w = true) : s.merged a w ≠ s.word a := by
  obtain ⟨f, hf, hc⟩ := List.any_eq_true.mp h
  obtain ⟨hacc, hne⟩ := Bool.and_eq_true_iff.mp hc
  intro he
  have hg := State.getBits_merged s w hf
  rw [he, if_pos (show f.writable = true from hacc)] at hg
  simp [hg] at hne

theorem State.on_writeFields_ne (s : State) (a : Nat) (w : Word) (f : Fld) (h : f.addr ≠ a) :
    (s.writeFields a w).on f = s.on f := by
  simp only [State.on, State.get, State.writeFields, State.word_setWord_ne _ _ _ _ h]

end Sys2Proof.Machine
end

section
/-!
PROOFS. Host writes of the registers that only hold the fields written: each page's own write sets the fields, refuses the
value by the register's own test, or refuses the change while an enable holds the register (R12, R288, R420).
-/

namespace Sys2Proof.Machine

/-! ### The register's own test, page by page -/

/-- What a write of a plain register does while no enable holds it: its own test refuses the value, or the fields are set. -/
def State.plainWrite (s : State) (p : Page) (n o : Nat) (w : Word) : State :=
  match valueTest p n o w with
  | some code => s.refuse (refusalPage p n) code
  | none => s.writeFields (pageAddr p n + o) w

theorem State.plainWrite_of_some {s : State} {p : Page} {n o code : Nat} {w : Word} (h : valueTest p n o w = some code) :
    s.plainWrite p n o w = s.refuse (refusalPage p n) code := by
  simp only [State.plainWrite, h]

theorem State.plainWrite_of_none {s : State} {p : Page} {n o : Nat} {w : Word} (h : valueTest p n o w = none) :
    s.plainWrite p n o w = s.writeFields (pageAddr p n + o) w := by
  simp only [State.plainWrite, h]

/-- A write refused on a condition is a plain write where the register's own test is that condition. -/
theorem State.plainWrite_eq_writeUnless {s : State} {p : Page} {n o code : Nat} {w : Word} {bad : Bool}
    (h : valueTest p n o w = if bad = true then some code else none) :
    s.plainWrite p n o w = s.writeUnless (pageAddr p n + o) w (refusalPage p n) bad code := by
  cases bad
  · exact State.plainWrite_of_none h
  · exact State.plainWrite_of_some h


theorem State.writeDev_plain (s : State) (n o : Nat) (w : Word) (h : o ≠ 0x180) :
    s.writeDev o w = s.plainWrite .dev n o w := by
  rw [State.writeDev, if_neg h, State.plainWrite_of_none rfl]
  rfl

theorem State.writePwr_plain (s : State) (n o : Nat) (w : Word) (h : inArray o 0x100 4 11 = false) :
    s.writePwr o w = s.plainWrite .pwr n o w := by
  by_cases ho : o = 0x180 ∨ o = 0x184
  · have ht : valueTest .pwr n o w = if (getBits w 15 0 == 0) = true then some 0xB1 else none := by
      simp [valueTest, ho]
    rw [State.plainWrite_eq_writeUnless ht]
    simp [State.writePwr, h, ho, pageAddr, refusalPage]
  · rw [State.plainWrite_of_none (by simp [valueTest, ho])]
    simp [State.writePwr, h, ho, pageAddr]

theorem State.writeTime_plain (s : State) (n o : Nat) (w : Word) (h1 : o ≠ 0x108) (h2 : o ≠ 0x120) :
    s.writeTime o w = s.plainWrite .time n o w := by
  by_cases h3 : o = 0x10C
  · have ht : valueTest .time n o w =
        if (decide (getBits w 19 0 < 100) || decide (1000000 < getBits w 19 0)) = true then some 0x83 else none := by
      simp [valueTest, h3]
    rw [State.plainWrite_eq_writeUnless ht, State.writeTime, if_neg h1, if_pos h3]
    rfl
  by_cases h4 : o = 0x110
  · have ht : valueTest .time n o w =
        if (decide (getBits w 9 0 < 1) || decide (500 < getBits w 9 0)) = true then some 0x83 else none := by
      simp [valueTest, h4]
    rw [State.plainWrite_eq_writeUnless ht, State.writeTime, if_neg h1, if_neg h3, if_pos h4]
    rfl
  · rw [State.plainWrite_of_none (by simp [valueTest, h3, h4])]
    simp [State.writeTime, h1, h2, h3, h4, pageAddr]

theorem State.writeEnc_plain (s : State) (e r : Nat) (w : Word) (h1 : r ≠ 0) (h2 : r ≠ 0x20) :
    s.writeEnc e r w = s.plainWrite .trg 1 (0x100 + 0x40 * e + r) w := by
  rw [State.plainWrite_of_none (by simp [valueTest])]
  simp [State.writeEnc, h1, h2, pageAddr, Nat.add_assoc]

theorem State.writeCmp_plain (s : State) (k r : Nat) (w : Word) (hr : r < 0x20)
    (hlock : s.on (TRG.CMP_CFG_EN k) = false) : s.writeCmp k r w = s.plainWrite .trg 2 (0x100 + 0x20 * k + r) w := by
  have hm : (0x100 + 0x20 * k + r - 0x100) % 0x20 = r := by omega
  rw [State.plainWrite_eq_writeUnless (bad := r == 0x0C && w == 0) (code := 0x68) (by simp [valueTest, hm])]
  simp [State.writeCmp, hlock, pageAddr, refusalPage, Nat.add_assoc]

theorem State.writeTimer_plain (s : State) (k r : Nat) (w : Word) (hr : r < 0x20) (h0 : r ≠ 0)
    (hlock : s.on (TRG.TMR_CFG k) = false) : s.writeTimer k r w = s.plainWrite .trg 3 (0x100 + 0x20 * k + r) w := by
  have hm : (0x100 + 0x20 * k + r - 0x100) % 0x20 = r := by omega
  rw [State.plainWrite_eq_writeUnless (bad := r == 0x04 && decide (w.toNat < 100)) (code := 0x68)
    (by simp [valueTest, hm])]
  simp [State.writeTimer, h0, hlock, pageAddr, refusalPage, Nat.add_assoc]

theorem State.writeShot_plain (s : State) (n o : Nat) (w : Word) (h : o ≠ 0x104) :
    s.writeShot n o w = s.plainWrite .shot n o w := by
  rw [State.writeShot, if_neg h, State.plainWrite_of_none rfl]
  rfl

theorem State.writeGate_plain (s : State) (g o : Nat) (w : Word) (h1 : o ≠ 0x60) (h2 : o ≠ 0x160) :
    s.writeGate g o w = s.plainWrite .gate g o w := by
  by_cases h3 : o = 0x120
  · have ht : valueTest .gate g o w = if (getBits w 1 0 == 3) = true then some 0x2C else none := by
      simp [valueTest, h3]
    rw [State.plainWrite_eq_writeUnless ht, State.writeGate, if_neg h1, if_pos h3]
    rfl
  · rw [State.plainWrite_of_none (by simp [valueTest, h3])]
    simp [State.writeGate, h1, h2, h3, pageAddr]

theorem State.writeBrgPort_plain (s : State) (g k r : Nat) (w : Word) (hk : k < 2) (hr : r < 0x40)
    (h : r ∉ [0x00, 0x04, 0x24]) : s.writeBrgPort g k r w = s.plainWrite .brg g (0x140 + 0x40 * k + r) w := by
  obtain ⟨h1, h2, h3⟩ : r ≠ 0 ∧ r ≠ 0x04 ∧ r ≠ 0x24 := by simpa using h
  have ht : valueTest .brg g (0x140 + 0x40 * k + r) w =
      if (r == 0x28 && getBits w 1 0 != 0) = true then some 0x90 else none := by
    have hpoll : (0x140 + 0x40 * k + r = 0x168 ∨ 0x140 + 0x40 * k + r = 0x1A8) ↔ r = 0x28 := by omega
    have hpoll' : (0x140 + 0x40 * k + r == 0x168 || 0x140 + 0x40 * k + r == 0x1A8) = (r == 0x28) := by
      rw [Bool.eq_iff_iff]; simpa using hpoll
    have hlow : ∀ x < 0x140, (0x140 + 0x40 * k + r == x) = false := fun x hx => by simp; omega
    simp only [valueTest, hpoll', hlow, Nat.reduceLT, Bool.false_and, Bool.false_or]
  rw [State.plainWrite_eq_writeUnless ht]
  by_cases h4 : r = 0x28
  · simp [State.writeBrgPort, h4, pageAddr, refusalPage, Nat.add_assoc]
  · simp [State.writeBrgPort, h1, h2, h3, h4, State.writeUnless, pageAddr, Nat.add_assoc]

theorem State.writeBrg_plain (s : State) (g o : Nat) (w : Word) (h : plainReg .brg g o = true) (hb : 0x60 ≤ o) :
    s.writeBrg g o w = s.plainWrite .brg g o w := by
  have hp : (o = 0x100 ∨ o = 0x104 ∨ o = 0x108 ∨ o = 0x10C) ∨
      (0x140 ≤ o ∧ o < 0x1C0) ∧ (o - 0x140) % 0x40 ∉ [0x00, 0x04, 0x24] := by
    simpa [plainReg, blockType, Nat.not_lt.mpr hb] using h
  rcases hp with (rfl | rfl | rfl | rfl) | ⟨⟨hlo, hhi⟩, hr⟩
  · rw [State.plainWrite_eq_writeUnless (bad := decide (getBits w 23 16 < 17)) (code := 0x90) (by simp [valueTest])]
    rfl
  · rw [State.plainWrite_eq_writeUnless (bad := getBits w 15 0 == 0) (code := 0x90) (by simp [valueTest])]
    rfl
  · rw [State.plainWrite_eq_writeUnless (bad := decide (getBits w 19 0 < 100)) (code := 0x90) (by simp [valueTest])]
    rfl
  · rw [State.plainWrite_eq_writeUnless (bad := getBits w 19 0 == 0) (code := 0x90) (by simp [valueTest])]
    rfl
  · have ho : 0x140 + 0x40 * ((o - 0x140) / 0x40) + (o - 0x140) % 0x40 = o := by omega
    have hq := State.writeBrgPort_plain s g ((o - 0x140) / 0x40) ((o - 0x140) % 0x40) w (by omega) (by omega) hr
    rw [ho] at hq
    rw [← hq, State.writeBrg, if_neg (by omega), if_neg (by omega), if_neg (by omega), if_neg (by omega),
      if_pos (by simp [hlo, hhi])]

theorem State.writeLadle_plain (s : State) (b o : Nat) (w : Word) (h : b ≠ 0 ∨ o ≠ 0x100) :
    s.writeLadle b o w = s.plainWrite .ladle b o w := by
  rw [State.plainWrite_of_none rfl, State.writeLadle, if_neg (by simpa [imp_iff_not_or] using h)]
  rfl

theorem State.writeSeam_plain (s : State) (u o : Nat) (w : Word) : s.writeSeam u o w = s.plainWrite .seam u o w := by
  unfold State.writeSeam
  symm
  exact State.plainWrite_eq_writeUnless rfl

theorem State.writeMould_plain (s : State) (m o : Nat) (w : Word) (h : o ≠ 0x120) :
    s.writeMould m o w = s.plainWrite .mould m o w := by
  rw [State.writeMould, if_neg h]
  symm
  exact State.plainWrite_eq_writeUnless rfl

theorem State.writeHbmReg_plain (s : State) (h o : Nat) (w : Word) : s.writeHbmReg h o w = s.plainWrite .hbm h o w := by
  unfold State.writeHbmReg
  symm
  exact State.plainWrite_eq_writeUnless rfl

theorem State.writeMsix_plain (s : State) (v o : Nat) (w : Word) (h : o ≠ 0x0C) :
    s.writeMsix v o w = s.plainWrite .msix v o w := by
  rw [State.plainWrite_of_none rfl]
  simp [State.writeMsix, h, pageAddr]

/-! ### Registers that an enable holds -/

theorem setBits_word (w v : Word) : setBits w 31 0 v.toNat = v := by
  apply BitVec.eq_of_toNat_eq
  have hw := w.isLt
  have hv := v.isLt
  rw [setBits_toNat w 31 0 v.toNat (by decide) (by decide)]
  omega

theorem getBits_word (w : Word) : getBits w 31 0 = w.toNat := by
  have hw := w.isLt
  simp only [getBits]
  omega

theorem State.put_word (s : State) (a : Nat) (w : Word) : s.put ⟨a, 31, 0⟩ w.toNat = s.setWord a w := by
  simp only [State.put, setBits_word]

theorem State.writeRing_eq (s : State) (q o : Nat) (w : Word) (h1 : o ≠ 0x10) (h2 : o < 0x1C) :
    s.writeRing q o w = s.writeRingReg q ⟨ringConf q + o, 31, 0⟩ (s.merged (ringConf q + o) w).toNat := by
  rw [State.writeRing, if_neg h1, if_pos h2]

theorem State.writeRing_plain (s : State) (q o : Nat) (w : Word) (h1 : o ≠ 0x10) (h2 : o < 0x1C)
    (hlock : s.on (RING.RING_CFG_EN q) = false) : s.writeRing q o w = s.plainWrite .ring q o w := by
  rw [State.plainWrite_of_none rfl, State.writeRing_eq s q o w h1 h2, State.writeRingReg, if_neg (by simp [hlock]),
    State.put_word]
  rfl

theorem State.writeRing_locked (s : State) (q o : Nat) (w : Word) (h1 : o ≠ 0x10) (h2 : o < 0x1C)
    (hlock : s.on (RING.RING_CFG_EN q) = true) (hc : s.changes (ringConf q + o) w = true) :
    s.writeRing q o w = s.refuse (pourPage 0) 0x80 := by
  have hne : s.get ⟨ringConf q + o, 31, 0⟩ ≠ (s.merged (ringConf q + o) w).toNat := by
    intro he
    rw [State.get, getBits_word] at he
    exact State.merged_ne_word hc (BitVec.eq_of_toNat_eq he.symm)
  have hm : (s.merged (ringConf q + o) w).toNat % 2 ^ (31 + 1 - 0) = (s.merged (ringConf q + o) w).toNat :=
    Nat.mod_eq_of_lt (BitVec.isLt _)
  rw [State.writeRing_eq s q o w h1 h2, State.writeRingReg, hm, if_pos (by simp [hlock, hne])]

/-- The settings slots lie from 0x860 on. -/
theorem slotOfOffset_of_lt {o : Nat} (h : o < 0x860) : slotOfOffset o = none := by
  simp [slotOfOffset, inArray, Nat.not_le.mpr h, show ¬ 0x1800 ≤ o by omega]

theorem le_of_slotOfOffset {o k : Nat} (h : slotOfOffset o = some k) : 0x860 ≤ o := by
  by_contra hlt
  rw [slotOfOffset_of_lt (by omega)] at h
  cases h

theorem lt_of_inArray {o base stride n : Nat} (hs : 0 < stride) (h : inArray o base stride n = true) :
    base ≤ o ∧ o < base + stride * n := by
  obtain ⟨⟨hlo, -⟩, hn⟩ : (base ≤ o ∧ (o - base) % stride = 0) ∧ (o - base) / stride < n := by simpa [inArray] using h
  have := (Nat.div_lt_iff_lt_mul hs).mp hn
  exact ⟨hlo, by rw [Nat.mul_comm]; omega⟩

/-- The offsets of CAM registers whose write has an action of its own. -/
def camActions : List Nat := [0x220, 0x400, 0x500, 0x504, 0x508, 0x60C, 0x700, 0x800, 0x824, 0x850]

/-- A CAM register without an action of its own, at its place in the page. -/
theorem State.writeCam_eq (s : State) (c o : Nat) (w : Word) (h : o ∉ camActions) : s.writeCam c o w =
    if o = 0x20C then
      s.writeUnless (camPage c + o) w (camPage c) (getBits w 6 0 == 0 || decide (64 < getBits w 6 0)) 0x50
    else if inArray o 0x260 4 8 = true then s.writeUnless (camPage c + o) w (camPage c) (getBits w 17 16 == 3) 0x50
    else if 0x804 ≤ o ∧ o ≤ 0x814 then s.writeSchedReg c o w
    else (slotOfOffset o).elim (s.writeFields (camPage c + o) w) (fun k =>
      if s.slotState c k ≠ 0 then s.refuse (camPage c) 0x64
      else s.writeUnless (camPage c + o) w (camPage c) (decide (o < 0x1000) && decide (16 < getBits w 4 0)) 0x62) := by
  simp only [camActions, List.mem_cons, List.not_mem_nil, not_or, or_false] at h
  obtain ⟨h1, h2, h3, h4, h5, h6, h7, h8, h9, h10⟩ := h
  simp only [State.writeCam, h1, h2, h3, h4, h5, h6, h7, h8, h9, h10, if_false, Bool.and_eq_true, decide_eq_true_eq,
    Bool.or_eq_true, or_self]
  cases slotOfOffset o <;> rfl

theorem State.regLock_cam (s : State) (c o : Nat) : s.regLock .cam c o =
    if 0x804 ≤ o ∧ o ≤ 0x814 then (if s.schedOn c = true then some 0x60 else none)
    else (slotOfOffset o).elim none (fun k => if s.slotState c k ≠ 0 then some 0x64 else none) := by
  simp only [State.regLock, Bool.and_eq_true, decide_eq_true_eq]
  cases slotOfOffset o <;> rfl

theorem State.writeCam_plain (s : State) (c o : Nat) (w : Word) (h : o ∉ camActions) (hlock : s.regLock .cam c o = none) :
    s.writeCam c o w = s.plainWrite .cam c o w := by
  rw [State.writeCam_eq s c o w h]
  rw [State.regLock_cam] at hlock
  by_cases h1 : o = 0x20C
  · have ht : valueTest .cam c o w =
        if (getBits w 6 0 == 0 || decide (64 < getBits w 6 0)) = true then some 0x50 else none := by
      subst h1; simp [valueTest, slotOfOffset, inArray]
    rw [if_pos h1, State.plainWrite_eq_writeUnless ht]
    rfl
  rw [if_neg h1]
  by_cases h2 : inArray o 0x260 4 8 = true
  · have hr := lt_of_inArray (by decide) h2
    have ht : valueTest .cam c o w = if (getBits w 17 16 == 3) = true then some 0x50 else none := by
      simp [valueTest, slotOfOffset_of_lt (show o < 0x860 by omega), h1, h2]
    rw [if_pos h2, State.plainWrite_eq_writeUnless ht]
    rfl
  rw [if_neg h2]
  by_cases h3 : 0x804 ≤ o ∧ o ≤ 0x814
  · rw [if_pos h3] at hlock ⊢
    have hoff : s.schedOn c = false := by simpa using hlock
    have ht : valueTest .cam c o w = none := by
      simp [valueTest, slotOfOffset_of_lt (show o < 0x860 by omega), h1, h2]
    rw [State.plainWrite_of_none ht]
    simp [State.writeSchedReg, State.writeUnless, hoff, pageAddr]
  rw [if_neg h3] at hlock ⊢
  cases hs : slotOfOffset o with
  | none =>
    rw [State.plainWrite_of_none (by simp [valueTest, hs, h1, h2])]
    rfl
  | some k =>
    have hfree : s.slotState c k = 0 := by simpa [hs] using hlock
    have ht : valueTest .cam c o w =
        if (decide (o < 0x1000) && decide (16 < getBits w 4 0)) = true then some 0x62 else none := by
      simp [valueTest, hs]
    rw [State.plainWrite_eq_writeUnless ht]
    simp [hfree, pageAddr, refusalPage]

theorem State.writeCam_locked (s : State) (c o code : Nat) (w : Word) (h : o ∉ camActions)
    (hlock : s.regLock .cam c o = some code) (hc : s.changes (camPage c + o) w = true) :
    s.writeCam c o w = s.refuse (camPage c) code := by
  rw [State.writeCam_eq s c o w h]
  rw [State.regLock_cam] at hlock
  by_cases h3 : 0x804 ≤ o ∧ o ≤ 0x814
  · rw [if_pos h3] at hlock
    obtain ⟨hon, rfl⟩ : s.schedOn c = true ∧ 0x60 = code := by simpa using hlock
    have h2 : inArray o 0x260 4 8 ≠ true := fun hi => by have := lt_of_inArray (by decide) hi; omega
    rw [if_neg (by omega), if_neg h2, if_pos h3]
    simp [State.writeSchedReg, State.writeUnless, hon, State.merged_ne_word hc]
  · rw [if_neg h3] at hlock
    cases hs : slotOfOffset o with
    | none => simp [hs] at hlock
    | some k =>
      have hle := le_of_slotOfOffset hs
      have h2 : inArray o 0x260 4 8 ≠ true := fun hi => by have := lt_of_inArray (by decide) hi; omega
      obtain ⟨hused, rfl⟩ : ¬ s.slotState c k = 0 ∧ 0x64 = code := by simpa [hs] using hlock
      rw [if_neg (by omega), if_neg h2, if_neg h3]
      simp [hused]

/-! ### A plain register of a page -/

theorem State.writeTrg_plain (s : State) (n o : Nat) (w : Word) (h : plainReg .trg n o = true) (hb : 0x60 ≤ o)
    (hlock : s.regLock .trg n o = none) : s.writeTrg n o w = s.plainWrite .trg n o w := by
  simp only [plainReg, blockType, Option.isSome_some, Bool.true_and, decide_eq_true_eq, if_neg (Nat.not_lt.mpr hb)] at h
  by_cases h0 : n = 0
  · subst h0
    obtain ⟨hpin, hsw⟩ : inArray o 0x100 4 64 = false ∧ o ≠ 0x208 := by simpa using h
    rw [State.plainWrite_of_none (by simp [valueTest])]
    simp [State.writeTrg, hpin, hsw, pageAddr]
  by_cases h1 : n = 1
  · subst h1
    obtain ⟨⟨hhi, hr0⟩, hr1⟩ : (o < 0x300 ∧ (o - 0x100) % 0x40 ≠ 0) ∧ (o - 0x100) % 0x40 ≠ 0x20 := by simpa using h
    have ho : 0x100 + 0x40 * ((o - 0x100) / 0x40) + (o - 0x100) % 0x40 = o := by omega
    have he := State.writeEnc_plain s ((o - 0x100) / 0x40) ((o - 0x100) % 0x40) w hr0 hr1
    rw [ho] at he
    rw [← he, State.writeTrg, if_neg h0, if_pos rfl, if_pos hhi]
  have hr : (n = 2 ∨ n = 3) ∧ (o - 0x100) % 0x20 ≠ 0x10 ∧ (o - 0x100) % 0x20 ≠ 0 := by
    by_cases h2 : n = 2 <;> simpa [h0, h1, h2, and_assoc] using h
  obtain ⟨hn, hr1, hr0⟩ := hr
  have ho : 0x100 + 0x20 * ((o - 0x100) / 0x20) + (o - 0x100) % 0x20 = o := by omega
  have hlo : ¬ o < 0x100 := by omega
  rcases hn with rfl | rfl
  · have hoff : s.on (TRG.CMP_CFG_EN ((o - 0x100) / 0x20)) = false := by simpa [State.regLock, hlo] using hlock
    have he := State.writeCmp_plain s ((o - 0x100) / 0x20) ((o - 0x100) % 0x20) w (by omega) hoff
    rw [ho] at he
    rw [← he, State.writeTrg, if_neg h0, if_neg h1, if_pos rfl, if_neg hr1]
  · have hoff : s.on (TRG.TMR_CFG ((o - 0x100) / 0x20)) = false := by simpa [State.regLock, hlo] using hlock
    have he := State.writeTimer_plain s ((o - 0x100) / 0x20) ((o - 0x100) % 0x20) w (by omega) hr0 hoff
    rw [ho] at he
    rw [← he, State.writeTrg, if_neg h0, if_neg h1, if_neg (by decide), if_pos rfl, if_neg hr1]

theorem State.writeTrg_locked (s : State) (n o code : Nat) (w : Word) (h : plainReg .trg n o = true) (hb : 0x60 ≤ o)
    (hlock : s.regLock .trg n o = some code) : s.writeTrg n o w = s.refuse (trgPage n) code := by
  simp only [plainReg, blockType, Option.isSome_some, Bool.true_and, decide_eq_true_eq, if_neg (Nat.not_lt.mpr hb)] at h
  by_cases hlo : o < 0x100
  · simp [State.regLock, hlo] at hlock
  by_cases h2 : n = 2
  · subst h2
    obtain ⟨hr1, hr0⟩ : (o - 0x100) % 0x20 ≠ 0x10 ∧ (o - 0x100) % 0x20 ≠ 0 := by simpa using h
    obtain ⟨hon, rfl⟩ : s.on (TRG.CMP_CFG_EN ((o - 0x100) / 0x20)) = true ∧ 0x60 = code := by
      simpa [State.regLock, hlo] using hlock
    simp [State.writeTrg, State.writeCmp, hr1, hr0, hon]
  by_cases h3 : n = 3
  · subst h3
    obtain ⟨hr1, hr0⟩ : (o - 0x100) % 0x20 ≠ 0x10 ∧ (o - 0x100) % 0x20 ≠ 0 := by simpa using h
    obtain ⟨hon, rfl⟩ : s.on (TRG.TMR_CFG ((o - 0x100) / 0x20)) = true ∧ 0x60 = code := by
      simpa [State.regLock, hlo] using hlock
    simp [State.writeTrg, State.writeTimer, hr1, hr0, hon]
  · simp [State.regLock, h2, h3] at hlock

/-- The word is one of a page's common header. -/
def inHeader (p : Page) (o : Nat) : Bool := (blockType p).isSome && decide (o < 0x60)

theorem State.writePage_plain (s : State) (p : Page) (n o : Nat) (w : Word) (h : plainReg p n o = true)
    (hb : inHeader p o = false) (hlock : s.regLock p n o = none) : s.writePage p n o w = s.plainWrite p n o w := by
  have hb' : ((blockType p).isSome && decide (o < 0x60)) = false := hb
  cases p with
  | trg => exact State.writeTrg_plain s n o w h (by simpa [blockType] using hb') hlock
  | brg => exact State.writeBrg_plain s n o w h (by simpa [blockType] using hb')
  | dev => exact State.writeDev_plain s n o w (by simpa [plainReg, hb'] using h)
  | pwr => exact State.writePwr_plain s n o w (by simpa [plainReg, hb'] using h)
  | time =>
    obtain ⟨h1, h2⟩ : o ≠ 0x108 ∧ o ≠ 0x120 := by simpa [plainReg, hb'] using h
    exact State.writeTime_plain s n o w h1 h2
  | shot => exact State.writeShot_plain s n o w (by simpa [plainReg, hb'] using h)
  | gate =>
    obtain ⟨h1, h2⟩ : o ≠ 0x60 ∧ o ≠ 0x160 := by simpa [plainReg, hb'] using h
    exact State.writeGate_plain s n o w h1 h2
  | ladle => exact State.writeLadle_plain s n o w (by simpa [plainReg, hb'] using h)
  | pour =>
    obtain ⟨rfl, rfl⟩ : n = 0 ∧ o = 0x100 := by simpa [plainReg, hb'] using h
    rw [State.plainWrite_of_none rfl]
    rfl
  | ring =>
    obtain ⟨h1, h2⟩ : o ≠ 0x10 ∧ o < 0x1C := by simpa [plainReg, hb'] using h
    exact State.writeRing_plain s n o w h1 h2 (by simpa [State.regLock] using hlock)
  | seam => exact State.writeSeam_plain s n o w
  | mould => exact State.writeMould_plain s n o w (by simpa [plainReg, hb'] using h)
  | hbm => exact State.writeHbmReg_plain s n o w
  | cam => exact State.writeCam_plain s n o w (by simpa [plainReg, hb', camActions] using h) hlock
  | msix => exact State.writeMsix_plain s n o w (by simpa [plainReg, hb'] using h)
  | clk | chk | slice | qd | pex | pba => simp [plainReg, hb'] at h

theorem State.writePage_locked (s : State) (p : Page) (n o code : Nat) (w : Word) (h : plainReg p n o = true)
    (hb : inHeader p o = false) (hlock : s.regLock p n o = some code) (hc : s.changes (pageAddr p n + o) w = true) :
    s.writePage p n o w = s.refuse (refusalPage p n) code := by
  have hb' : ((blockType p).isSome && decide (o < 0x60)) = false := hb
  cases p with
  | trg => exact State.writeTrg_locked s n o code w h (by simpa [blockType] using hb') hlock
  | cam => exact State.writeCam_locked s n o code w (by simpa [plainReg, hb', camActions] using h) hlock hc
  | ring =>
    obtain ⟨h1, h2⟩ : o ≠ 0x10 ∧ o < 0x1C := by simpa [plainReg, hb'] using h
    obtain ⟨hon, rfl⟩ : s.on (RING.RING_CFG_EN n) = true ∧ 0x80 = code := by simpa [State.regLock] using hlock
    exact State.writeRing_locked s n o w h1 h2 hon hc
  | _ => simp [State.regLock] at hlock

/-! ### A plain register of the common header -/

theorem regLock_header (s : State) {p : Page} {o : Nat} (n : Nat) (hb : inHeader p o = true) : s.regLock p n o = none := by
  obtain ⟨ht, ho⟩ : (blockType p).isSome = true ∧ o < 0x60 := by simpa [inHeader] using hb
  cases p with
  | cam =>
    rw [State.regLock_cam, if_neg (by omega), slotOfOffset_of_lt (by omega)]
    rfl
  | trg => simp [State.regLock, show o < 0x100 by omega]
  | ring => simp [blockType] at ht
  | _ => rfl

theorem valueTest_header {p : Page} {o : Nat} (n : Nat) (w : Word) (hb : inHeader p o = true) :
    valueTest p n o w = none := by
  obtain ⟨-, ho⟩ : (blockType p).isSome = true ∧ o < 0x60 := by simpa [inHeader] using hb
  have hne : ∀ x, 0x60 ≤ x → o ≠ x := fun x hx => by omega
  have hlt : ¬ 0x1000 ≤ o := by omega
  have hz : o - 0x100 = 0 := by omega
  cases p <;> simp [valueTest, hne, hlt, hz, slotOfOffset_of_lt (show o < 0x860 by omega), inArray,
    show ¬ 0x260 ≤ o by omega]

theorem State.writeHeader_plain (s : State) (p : Page) (n o : Nat) (w : Word) (h : plainReg p n o = true)
    (hb : inHeader p o = true) : s.writeHeader p n o w = s.plainWrite p n o w := by
  have hb' : ((blockType p).isSome && decide (o < 0x60)) = true := hb
  rw [State.plainWrite_of_none (valueTest_header n w hb)]
  by_cases ho : o < 0x30
  · have h2 : o = 0x2C := by simpa [plainReg, hb', ho] using h
    subst h2
    rfl
  · obtain ⟨hs, h1, h2, h3, h4, h5⟩ : sites p n ≠ [] ∧ o ≠ 0x34 ∧ o ≠ 0x38 ∧ o ≠ 0x3C ∧ o ≠ 0x50 ∧ o ≠ 0x5C := by
      simpa [plainReg, hb', ho] using h
    have hne : ∀ x, x < 0x30 → o ≠ x := fun x hx => by omega
    simp [State.writeHeader, hne, ho, hs, State.writeFaultReg, h1, h2, h3, h4, h5]

/-! ### A host write -/

theorem State.hostWrite_header {s : State} {a : Nat} {p : Page} {n o : Nat} (w : Word) (hl : locate a = some (p, n, o))
    (hr : (regAt p n o).isSome = true) (hb : inHeader p o = true) : s.hostWrite a w = s.writeHeader p n o w := by
  obtain ⟨r, hr⟩ := Option.isSome_iff_exists.mp hr
  have hb' : ((blockType p).isSome && decide (o < 0x60)) = true := hb
  simp only [State.hostWrite, hl, hr, hb', if_true]

theorem State.hostWrite_rwl {s : State} {a : Nat} {p : Page} {n o : Nat} {w : Word} (hl : locate a = some (p, n, o))
    (hr : (regAt p n o).isSome = true) (hb : inHeader p o = false) (he : hasEnable p = true)
    (hon : s.on (HDR.CTRL_ENABLE (pageAddr p n)) = true) (hc : s.changesRwl a w = true) :
    s.hostWrite a w = s.refuse (pageAddr p n) 0x02 := by
  obtain ⟨r, hr⟩ := Option.isSome_iff_exists.mp hr
  have hb' : ((blockType p).isSome && decide (o < 0x60)) = false := hb
  simp [State.hostWrite, hl, hr, hb', he, hon, hc]

theorem State.hostWrite_body {s : State} {a : Nat} {p : Page} {n o : Nat} {w : Word} (hl : locate a = some (p, n, o))
    (hr : (regAt p n o).isSome = true) (hb : inHeader p o = false)
    (hrwl : hasEnable p = true → s.on (HDR.CTRL_ENABLE (pageAddr p n)) = true → s.changesRwl a w = false) :
    s.hostWrite a w = s.writePage p n o w := by
  obtain ⟨r, hr⟩ := Option.isSome_iff_exists.mp hr
  have hb' : ((blockType p).isSome && decide (o < 0x60)) = false := hb
  have hc : (hasEnable p && s.on (HDR.CTRL_ENABLE (pageAddr p n)) && s.changesRwl a w) = false := by
    rw [Bool.eq_false_iff]
    intro h
    obtain ⟨⟨he, hon⟩, hc⟩ : (hasEnable p = true ∧ s.on (HDR.CTRL_ENABLE (pageAddr p n)) = true) ∧
      s.changesRwl a w = true := by simpa using h
    simp [hrwl he hon] at hc
  simp [State.hostWrite, hl, hr, hb', hc]

/-- Pages whose CTRL.ENABLE has effect have a common header. -/
theorem le_of_hasEnable {p : Page} {o : Nat} (he : hasEnable p = true) (hb : inHeader p o = false) : 0x60 ≤ o := by
  cases p <;> simp [hasEnable, inHeader, blockType] at he hb <;> exact hb

/-- A plain register that no enable holds takes the fields written, or its own test refuses the value. -/
theorem State.hostWrite_plain {s : State} {a : Nat} {p : Page} {n o : Nat} {w : Word} (hl : locate a = some (p, n, o))
    (hr : (regAt p n o).isSome = true) (h : plainReg p n o = true)
    (hrwl : hasEnable p = true → 0x60 ≤ o → s.on (HDR.CTRL_ENABLE (pageAddr p n)) = true → s.changesRwl a w = false)
    (hlock : s.regLock p n o = none) : s.hostWrite a w = s.plainWrite p n o w := by
  cases hb : inHeader p o with
  | true => rw [State.hostWrite_header w hl hr hb, State.writeHeader_plain s p n o w h hb]
  | false =>
    rw [State.hostWrite_body hl hr hb (fun he => hrwl he (le_of_hasEnable he hb)),
      State.writePage_plain s p n o w h hb hlock]

/-- A plain register that an enable holds refuses a write that would change it. -/
theorem State.hostWrite_locked {s : State} {a : Nat} {p : Page} {n o code : Nat} {w : Word} (ha : a % 4 = 0)
    (hl : locate a = some (p, n, o)) (hr : (regAt p n o).isSome = true) (h : plainReg p n o = true)
    (hrwl : hasEnable p = true → 0x60 ≤ o → s.on (HDR.CTRL_ENABLE (pageAddr p n)) = true → s.changesRwl a w = false)
    (hlock : s.regLock p n o = some code) (hc : s.changes a w = true) :
    s.hostWrite a w = s.refuse (refusalPage p n) code := by
  cases hb : inHeader p o with
  | true => rw [regLock_header s n hb] at hlock; cases hlock
  | false =>
    rw [State.hostWrite_body hl hr hb (fun he => hrwl he (le_of_hasEnable he hb))]
    exact State.writePage_locked s p n o code w h hb hlock (by rwa [pageAddr_add_of_locate ha hl])

end Sys2Proof.Machine
end

section
/-!
PROOFS. The commands REGISTER_WRITE and LOW_HALF_READ, by the end of their transfer (R365, R393, R412, R417, R421).
-/

namespace Sys2Proof.Machine

/-! ### A cancelled write (R393) -/

theorem State.word_clearRefused_ne (s : State) (page x : Nat) (h : x ≠ page + 0xC) :
    (s.clearRefused page).word x = s.word x := by
  simp only [State.clearRefused]
  rw [State.word_put_ne _ _ _ _ h, State.word_put_ne _ _ _ _ h, State.word_put_ne _ _ _ _ h]

theorem State.get_clearRefused_ne (s : State) (page : Nat) (f : Fld) (h : f.addr ≠ page + 0xC) :
    (s.clearRefused page).get f = s.get f := by
  simp only [State.get, State.word_clearRefused_ne s page f.addr h]

theorem State.on_clearRefused_ne (s : State) (page : Nat) (f : Fld) (h : f.addr ≠ page + 0xC) :
    (s.clearRefused page).on f = s.on f := by
  simp only [State.on, State.get_clearRefused_ne s page f h]

theorem State.on_refused_clearRefused (s : State) (page : Nat) :
    (s.clearRefused page).on (HDR.STATE_REFUSED page) = false := by
  have hf : (HDR.STATE_REFUSED page).ok := by simp [Fld.ok, HDR.STATE_REFUSED]
  have hcode : (HDR.STATE_REFUSE_CODE page).ok := by simp [Fld.ok, HDR.STATE_REFUSE_CODE]
  have hcount : (HDR.STATE_REFUSE_COUNT page).ok := by simp [Fld.ok, HDR.STATE_REFUSE_COUNT]
  simp only [State.on, State.clearRefused]
  rw [State.get_put_disjoint _ _ _ _ hcount hf.1 (by simp [HDR.STATE_REFUSED, HDR.STATE_REFUSE_COUNT]),
    State.get_put_disjoint _ _ _ _ hcode hf.1 (by simp [HDR.STATE_REFUSED, HDR.STATE_REFUSE_CODE]),
    State.get_put_same _ _ _ hf]
  rfl

/-- No register that holds another is the one that shows refusals. -/
theorem State.regLock_congr {s t : State} {p : Page} {n : Nat} (o : Nat)
    (h : ∀ f : Fld, f.addr ≠ refusalPage p n + 0xC → t.get f = s.get f) : t.regLock p n o = s.regLock p n o := by
  cases p with
  | cam =>
    have hen : t.schedOn n = s.schedOn n := congrArg (· == 1) (h _ (by simp [CAM.SCHED_CFG_EN, refusalPage]))
    have hslot : ∀ k, t.slotState n k = s.slotState n k := fun k =>
      congrArg (· / 4 ^ k % 4) (h _ (by simp [CAM.SET_SLOT_STATE, refusalPage]))
    rw [State.regLock_cam, State.regLock_cam, hen]
    cases slotOfOffset o with
    | none => rfl
    | some k => rw [Option.elim_some, Option.elim_some, hslot]
  | trg =>
    have hcmp : ∀ k, t.on (TRG.CMP_CFG_EN k) = s.on (TRG.CMP_CFG_EN k) := fun k =>
      congrArg (· == 1) (h _ (by simp only [TRG.CMP_CFG_EN, refusalPage, trgPage]; omega))
    have htmr : ∀ k, t.on (TRG.TMR_CFG k) = s.on (TRG.TMR_CFG k) := fun k =>
      congrArg (· == 1) (h _ (by simp only [TRG.TMR_CFG, refusalPage, trgPage]; omega))
    simp only [State.regLock, hcmp, htmr]
  | ring =>
    have hen : t.on (RING.RING_CFG_EN n) = s.on (RING.RING_CFG_EN n) :=
      congrArg (· == 1) (h _ (by simp only [RING.RING_CFG_EN, refusalPage, ringConf, pourPage]; omega))
    simp only [State.regLock, hen]
  | _ => rfl

theorem refusalPage_of_header {p : Page} (n : Nat) (h : (blockType p).isSome = true) : refusalPage p n = pageAddr p n := by
  cases p <;> simp [blockType] at h <;> rfl

theorem header_of_hasEnable {p : Page} (h : hasEnable p = true) : (blockType p).isSome = true := by
  cases p <;> simp [hasEnable] at h <;> rfl

theorem State.changesRwl_clearRefused (s : State) (page a : Nat) (w : Word) (h : a ≠ page + 0xC) :
    (s.clearRefused page).changesRwl a w = s.changesRwl a w := by
  simp only [State.changesRwl, State.word_clearRefused_ne s page a h]

/-- Of a header only CTRL and CMD cross, and a write of either has an action of its own. -/
theorem body_of_crossing {a : Nat} {p : Page} {n o : Nat} (hl : locate a = some (p, n, o)) (h : plainReg p n o = true)
    (hc : crossing a = true) : inHeader p o = false := by
  rw [Bool.eq_false_iff]
  intro hb
  obtain ⟨ht, ho⟩ : (blockType p).isSome = true ∧ o < 0x60 := by simpa [inHeader] using hb
  have hcmd : o = 0x08 ∨ o = 0x10 := by
    simp only [crossing, hl, Bool.and_eq_true] at hc
    have hn : (blockType p).isNone = false := by simpa using ht
    have hle : ¬ 0x60 ≤ o := by omega
    simpa [hn, hle] using hc.2
  rcases hcmd with rfl | rfl <;> simp [plainReg, ht] at h

/-- A plain register that a write crosses to is not the one that shows its refusal. -/
theorem ne_refused_of_crossing {a : Nat} {p : Page} {n o : Nat} (ha : a % 4 = 0) (hl : locate a = some (p, n, o))
    (h : plainReg p n o = true) (hc : crossing a = true) : a ≠ refusalPage p n + 0xC := by
  have hb := body_of_crossing hl h hc
  rw [← pageAddr_add_of_locate ha hl]
  by_cases ht : (blockType p).isSome = true
  · have ho : 0x60 ≤ o := by simpa [inHeader, ht] using hb
    rw [refusalPage_of_header n ht]
    omega
  · cases p with
    | ring => simp only [pageAddr, refusalPage, ringConf, pourPage]; omega
    | qd => simp [plainReg, blockType] at h
    | msix | pba => simp [crossing, hl] at hc
    | _ => exact absurd rfl ht

/-- A cancelled write of a plain register that would take the fields is recorded with code 0xB4 alone. -/
theorem State.cancelWrite_plain {s : State} {a : Nat} {p : Page} {n o : Nat} {w : Word} (ha : a % 4 = 0)
    (hl : locate a = some (p, n, o)) (hr : (regAt p n o).isSome = true) (h : plainReg p n o = true)
    (hrwl : hasEnable p = true → 0x60 ≤ o → s.on (HDR.CTRL_ENABLE (pageAddr p n)) = true → s.changesRwl a w = false)
    (hlock : s.regLock p n o = none) (hv : valueTest p n o w = none) (hc : crossing a = true) :
    s.cancelWrite a w = s.refuse (refusalPage p n) 0xB4 := by
  have hne := ne_refused_of_crossing ha hl h hc
  have hb := body_of_crossing hl h hc
  have hrwl' : hasEnable p = true → 0x60 ≤ o →
      (s.clearRefused (refusalPage p n)).on (HDR.CTRL_ENABLE (pageAddr p n)) = true →
      (s.clearRefused (refusalPage p n)).changesRwl a w = false := by
    intro he ho hon
    rw [State.on_clearRefused_ne _ _ _ (by
      simp [HDR.CTRL_ENABLE, refusalPage_of_header n (header_of_hasEnable he)])] at hon
    rw [State.changesRwl_clearRefused _ _ _ _ hne]
    exact hrwl he ho hon
  have hw : (s.clearRefused (refusalPage p n)).hostWrite a w = (s.clearRefused (refusalPage p n)).writeFields a w := by
    rw [State.hostWrite_plain hl hr h hrwl' (by rwa [State.regLock_congr o (State.get_clearRefused_ne s _)]),
      State.plainWrite_of_none hv, pageAddr_add_of_locate ha hl]
  have hoff : ((s.clearRefused (refusalPage p n)).hostWrite a w).on (HDR.STATE_REFUSED (refusalPage p n)) = false := by
    rw [hw, State.on_writeFields_ne _ _ _ _ hne.symm, State.on_refused_clearRefused]
  have hcmd : ((blockType p).isSome && decide (o = 0x10)) = false := by
    rw [Bool.eq_false_iff]
    intro hx
    obtain ⟨ht, rfl⟩ : (blockType p).isSome = true ∧ o = 0x10 := by simpa using hx
    simp [inHeader, ht] at hb
  simp only [State.cancelWrite, hl, hoff, hcmd, Bool.false_and, Bool.false_eq_true, if_false]

/-! ### The commands -/

theorem exec_registerWrite {s : State} (hs : s.hostOn = true) (a : Fin 16777216) (w : Word) (e : Fin 16) (r : Transfer) :
    exec (.registerWrite a w e r) s = .next (s.busWrite a w e r) := by
  simp only [exec, execRegisterWrite, State.when, hs, if_true]

theorem exec_registerWrite_done {s : State} (hs : s.hostOn = true) (a : Fin 16777216) (w : Word) :
    exec (.registerWrite a w 15 .done) s = .next (s.hostWrite (4 * (a.val / 4)) w) := by
  rw [exec_registerWrite hs]
  rfl

theorem exec_registerWrite_cancelled {s : State} (hs : s.hostOn = true) (a : Fin 16777216) (w : Word)
    (hc : crossing (4 * (a.val / 4)) = true) :
    exec (.registerWrite a w 15 .cancelled) s = .next (s.cancelWrite (4 * (a.val / 4)) w) := by
  rw [exec_registerWrite hs]
  simp [State.busWrite, hc]

theorem exec_registerWrite_partial {s : State} (hs : s.hostOn = true) (a : Fin 16777216) (w : Word) {e : Fin 16}
    (he : e ≠ 15) (r : Transfer) :
    exec (.registerWrite a w e r) s = .next ((s.inc PEX.BAD_ACCESS).raise pexPage 1) := by
  have he' : e.val ≠ 15 := fun h => he (Fin.ext h)
  rw [exec_registerWrite hs]
  simp only [State.busWrite, ne_eq, he', not_false_eq_true, if_true]

theorem exec_registerWrite_failed {s : State} (hs : s.hostOn = true) (a : Fin 16777216) (w : Word) :
    exec (.registerWrite a w 15 .failed) s = .next (s.occur .dev 0 1 0 true) := by
  rw [exec_registerWrite hs]
  simp [State.busWrite]

theorem exec_lowHalfRead {s : State} (hs : s.readable = true) (a : Fin 16777216) (r : Transfer) :
    exec (.lowHalfRead a r) s = .next (s.readLow (4 * (a.val / 4)) r) := by
  simp only [exec, execLowHalfRead, State.when, hs, if_true]

/-- The high half of an RO pair reads what was latched (R421). -/
theorem readReg_high {a : Nat} (h : isRoLow a = true) (s : State) (v : Word) :
    ({ s with latches := tput s.latches (a + 4) v 0 } : State).readReg (a + 4) = v := by
  simp [State.readReg, h]

/-- SCRATCH holds what is written. -/
theorem writeFields_scratch (s : State) (w : Word) : s.writeFields 0x108 w = s.put DEV.SCRATCH w.toNat := by
  have hf : fieldsAt 0x108 = [⟨31, 0, .rw, 0, false⟩] := by decide +kernel
  have hm : s.merged 0x108 w = w := by
    simp only [State.merged, hf, mergeFields, List.foldl_cons, List.foldl_nil, getBits_word, setBits_word]
  rw [State.writeFields, hm]
  exact (State.put_word s 0x108 w).symm

theorem State.readLow_done (s : State) {a : Nat} (h : isRoLow a = true) :
    s.readLow a .done = { s with latches := tput s.latches (a + 4) (s.readNow (a + 4)) 0 } := by
  simp only [State.readLow, State.loadLatch, h, if_true]

theorem State.readLow_cancelled (s : State) {a : Nat} (h : isRoLow a = true) (hc : crossing a = true) :
    s.readLow a .cancelled = { s with latches := tput s.latches (a + 4) (resetWord (a + 4)) 0 } := by
  simp only [State.readLow, h, hc, Bool.and_self, if_true]

theorem lowHalfRead_complete {s : State} (hs : s.readable = true) (a : Fin 16777216)
    (hlow : isRoLow (4 * (a.val / 4)) = true) :
    (∃ t : State, exec (.lowHalfRead a .done) s = .next t ∧ { t with latches := s.latches } = s ∧
      t.readReg (4 * (a.val / 4) + 4) = s.readNow (4 * (a.val / 4) + 4)) ∧
    (crossing (4 * (a.val / 4)) = true → ∃ t : State, exec (.lowHalfRead a .cancelled) s = .next t ∧
      { t with latches := s.latches } = s ∧ t.readReg (4 * (a.val / 4) + 4) = resetWord (4 * (a.val / 4) + 4)) ∧
    exec (.lowHalfRead a .failed) s = .next (s.occur .dev 0 1 0 true) := by
  refine ⟨⟨_, exec_lowHalfRead hs a .done, ?_⟩, fun hc => ⟨_, exec_lowHalfRead hs a .cancelled, ?_⟩,
    exec_lowHalfRead hs a .failed⟩
  · rw [State.readLow_done s hlow]
    exact ⟨rfl, readReg_high hlow _ _⟩
  · rw [State.readLow_cancelled s hlow hc]
    exact ⟨rfl, readReg_high hlow _ _⟩

theorem State.hostWrite_none {s : State} {a : Nat} (w : Word) (h : locate a = none) : s.hostWrite a w = s := by
  simp only [State.hostWrite, h]

theorem exec_registerWrite_scratch {s : State} (hs : s.hostOn = true) {a : Fin 16777216} (w : Word) (ha : a.val = 0x108) :
    exec (.registerWrite a w 15 .done) s = .next (s.put DEV.SCRATCH w.toNat) := by
  have hl : locate 0x108 = some (.dev, 0, 0x108) := by decide
  have hr : (regAt .dev 0 0x108).isSome = true := by decide +kernel
  rw [exec_registerWrite_done hs, ha, State.hostWrite_plain hl hr (by decide) (fun he => by cases he) rfl,
    State.plainWrite_of_none rfl]
  exact congrArg _ (writeFields_scratch s w)

/-- An RWL field of an enabled page refuses another value (R420). -/
theorem exec_registerWrite_rwl {s : State} (hs : s.hostOn = true) {a : Fin 16777216} {w : Word} {p : Page} {n o : Nat}
    (ha : a.val % 4 = 0) (hl : locate a = some (p, n, o)) (he : hasEnable p = true) (ho : 0x60 ≤ o)
    (hon : s.on (HDR.CTRL_ENABLE (pageAddr p n)) = true) {f : FieldDef} (hf : f ∈ fieldsAt a) (hacc : f.acc = .rwl)
    (hne : getBits w f.hi f.lo ≠ getBits (s.word a) f.hi f.lo) :
    exec (.registerWrite a w 15 .done) s = .next (s.refuse (pageAddr p n) 0x02) := by
  have hal : 4 * (a.val / 4) = a.val := by omega
  have hc : s.changesRwl a w = true := List.any_eq_true.mpr ⟨f, hf, by simp [hacc, hne]⟩
  have hb : inHeader p o = false := by simp [inHeader, ho]
  rw [exec_registerWrite_done hs, hal, State.hostWrite_rwl hl (regAt_of_mem_fieldsAt hl hf) hb he hon hc]

theorem exec_registerWrite_nowhere {s : State} (hs : s.hostOn = true) (a : Fin 16777216) (w : Word)
    (hl : locate (4 * (a.val / 4)) = none) : exec (.registerWrite a w 15 .done) s = .next s := by
  rw [exec_registerWrite_done hs, State.hostWrite_none w hl]

/-- Settles O10: a host write of a plain register comes to its page's own write (`State.writePage_plain`), which sets the fields
or refuses by the register's test, or to the refusal of the enable that holds it (`State.writePage_locked`). -/
theorem registerAccessComplete : Obligations.RegisterAccessComplete := by
  refine ⟨fun s a w p n o hs ha hl hr h hrwl => ?_, fun s a w hs ha => exec_registerWrite_scratch hs w ha,
    fun s a w p n o hs ha hl he ho hon ⟨f, hf, hacc, hne⟩ => exec_registerWrite_rwl hs ha hl he ho hon hf hacc hne,
    fun s a w hs hl => exec_registerWrite_nowhere hs a w hl,
    fun s a w e r hs he => exec_registerWrite_partial hs a w he r, fun s a w hs => exec_registerWrite_failed hs a w,
    fun s a hs hlow => lowHalfRead_complete hs a hlow⟩
  have hal : 4 * (a.val / 4) = a.val := by omega
  have hdone := exec_registerWrite_done hs a w
  rw [hal] at hdone
  refine ⟨fun hlock hv => ⟨_, hdone, ?_⟩, fun code hlock hv => ?_, fun code hlock hc => ?_, fun hlock hv hc => ?_⟩
  · rw [State.hostWrite_plain hl hr h hrwl hlock, State.plainWrite_of_none hv, pageAddr_add_of_locate ha hl]
    exact State.writeFields_fieldsWritten s a w
  · rw [hdone, State.hostWrite_plain hl hr h hrwl hlock, State.plainWrite_of_some hv]
  · rw [hdone, State.hostWrite_locked ha hl hr h hrwl hlock hc]
  · have hcancelled := exec_registerWrite_cancelled hs a w (by rwa [hal])
    rw [hcancelled, hal, State.cancelWrite_plain ha hl hr h hrwl hlock hv hc]

end Sys2Proof.Machine
end

section
/-!
PROOFS. Where the fields of the gate, bridge, slice and port pages lie (R411), and what a read of one gives after a write of
another. With a field written out as its address and its bits, a side condition is plain arithmetic.
-/

namespace Sys2Proof.Machine

/-! ### The fields of the pages -/

/-- The fields of port c in the page of its gate: those of port B stand 4 bytes or some bits behind those of port A. -/
theorem linkFields (c : Nat) :
    LNK.STATE c = ⟨0x100108 + 0x1000 * (c / 2) + 4 * (c % 2), 2, 0⟩ ∧
    LNK.CLOCK_OK c = ⟨0x100108 + 0x1000 * (c / 2) + 4 * (c % 2), 8, 8⟩ ∧
    LNK.CLK_COUNT c = ⟨0x100108 + 0x1000 * (c / 2) + 4 * (c % 2), 31, 16⟩ ∧
    LNK.DLL_LOCK c = ⟨0x100108 + 0x1000 * (c / 2) + 4 * (c % 2), 9, 9⟩ ∧
    LNK.DESKEW_DONE c = ⟨0x100108 + 0x1000 * (c / 2) + 4 * (c % 2), 10, 10⟩ ∧
    LNK.BURST_WARN c = ⟨0x100108 + 0x1000 * (c / 2) + 4 * (c % 2), 11, 11⟩ ∧
    LNK.RATE c = ⟨0x100100 + 0x1000 * (c / 2) + 4 * (c % 2), 3, 0⟩ ∧
    LNK.BURST_WARN_EN c = ⟨0x100100 + 0x1000 * (c / 2) + 4 * (c % 2), 9, 9⟩ ∧
    LNK.ADAPT_ALL c = ⟨0x100100 + 0x1000 * (c / 2) + 4 * (c % 2), 10, 10⟩ ∧
    LNK.MASK c = ⟨0x100124 + 0x1000 * (c / 2), 4 * (c % 2) + 3, 4 * (c % 2)⟩ ∧
    LNK.DESKEW_ERR c = ⟨0x100110 + 0x1000 * (c / 2), 16 * (c % 2) + 15, 16 * (c % 2)⟩ ∧
    LNK.PROTO_ERR c = ⟨0x100148 + 0x1000 * (c / 2), 16 * (c % 2) + 15, 16 * (c % 2)⟩ ∧
    LNK.FAR_LOCK c = ⟨0x100114 + 0x1000 * (c / 2), c % 2 + 8, c % 2 + 8⟩ := by
  rcases Nat.mod_two_eq_zero_or_one c with h | h <;>
  simp only [LNK.STATE, LNK.CLOCK_OK, LNK.CLK_COUNT, LNK.DLL_LOCK, LNK.DESKEW_DONE, LNK.BURST_WARN, LNK.RATE,
    LNK.BURST_WARN_EN, LNK.ADAPT_ALL, LNK.MASK, LNK.DESKEW_ERR, LNK.PROTO_ERR, LNK.FAR_LOCK, portFld, h] <;>
  simp [GATE.LINK_STATUS_A_LINK_STATE, GATE.LINK_STATUS_B_LINK_STATE, GATE.LINK_STATUS_A_CLOCK_OK, GATE.LINK_STATUS_B_CLOCK_OK,
    GATE.LINK_STATUS_A_CLK_COUNT, GATE.LINK_STATUS_B_CLK_COUNT, GATE.LINK_STATUS_A_DLL_LOCK, GATE.LINK_STATUS_B_DLL_LOCK,
    GATE.LINK_STATUS_A_DESKEW_DONE, GATE.LINK_STATUS_B_DESKEW_DONE, GATE.LINK_STATUS_A_BURST_WARN,
    GATE.LINK_STATUS_B_BURST_WARN,
    GATE.LINK_CFG_A_RATE, GATE.LINK_CFG_B_RATE, GATE.LINK_CFG_A_BURST_WARN_EN, GATE.LINK_CFG_B_BURST_WARN_EN,
    GATE.LINK_CFG_A_ADAPT_ALL, GATE.LINK_CFG_B_ADAPT_ALL, GATE.LANE_MASK_MASK_A, GATE.LANE_MASK_MASK_B, GATE.DESKEW_ERR_A,
    GATE.DESKEW_ERR_B, GATE.PROTO_ERR_A, GATE.PROTO_ERR_B, GATE.TEST_STATUS_FAR_LOCK_A, GATE.TEST_STATUS_FAR_LOCK_B,
    gatePage] <;> omega

/-- Fields of a gate's page that belong to the gate. -/
theorem gateFields (g : Nat) :
    GATE.PWR_BUDGET g = ⟨0x100060 + 0x1000 * g, 19, 0⟩ ∧
    GATE.PWR_STATE_IN_TRANSITION g = ⟨0x100064 + 0x1000 * g, 8, 8⟩ ∧
    GATE.PWR_STATE_TARGET g = ⟨0x100064 + 0x1000 * g, 5, 4⟩ ∧
    GATE.PWR_STATE_STATE g = ⟨0x100064 + 0x1000 * g, 1, 0⟩ ∧
    GATE.LINK_STATUS_A_DLL_LOCK g = ⟨0x100108 + 0x1000 * g, 9, 9⟩ ∧
    GATE.LINK_STATUS_B_DLL_LOCK g = ⟨0x10010C + 0x1000 * g, 9, 9⟩ ∧
    GATE.DESKEW_ERR_A g = ⟨0x100110 + 0x1000 * g, 15, 0⟩ ∧
    GATE.DESKEW_ERR_B g = ⟨0x100110 + 0x1000 * g, 31, 16⟩ ∧
    GATE.TEST_STATUS_LANES g = ⟨0x100114 + 0x1000 * g, 7, 3⟩ ∧
    GATE.TEST_STATUS_LOOP_MODE g = ⟨0x100114 + 0x1000 * g, 2, 0⟩ ∧
    GATE.LANE_MASK_DEGRADED_A g = ⟨0x100124 + 0x1000 * g, 8, 8⟩ ∧
    GATE.INJ_STATUS_REAL_SEEN g = ⟨0x10012C + 0x1000 * g, 2, 2⟩ ∧
    GATE.GATE_CFG_GATE_MODE g = ⟨0x100160 + 0x1000 * g, 1, 0⟩ ∧
    GATE.RISER_HWM_HWM_A g = ⟨0x10016C + 0x1000 * g, 8, 0⟩ ∧
    GATE.RISER_HWM_HWM_B g = ⟨0x10016C + 0x1000 * g, 24, 16⟩ ∧
    GATE.PWR_EXITS g = ⟨0x100170 + 0x1000 * g, 31, 0⟩ := by
  simp only [GATE.PWR_BUDGET, GATE.PWR_STATE_IN_TRANSITION, GATE.PWR_STATE_TARGET, GATE.PWR_STATE_STATE,
    GATE.LINK_STATUS_A_DLL_LOCK, GATE.LINK_STATUS_B_DLL_LOCK, GATE.DESKEW_ERR_A, GATE.DESKEW_ERR_B, GATE.TEST_STATUS_LANES,
    GATE.TEST_STATUS_LOOP_MODE, GATE.LANE_MASK_DEGRADED_A, GATE.INJ_STATUS_REAL_SEEN, GATE.GATE_CFG_GATE_MODE,
    GATE.RISER_HWM_HWM_A, GATE.RISER_HWM_HWM_B, GATE.PWR_EXITS, gatePage, Fld.mk.injEq, and_true]
  omega

/-- Fields of a gate's page that belong to one of its lanes. -/
theorem laneFields (g n : Nat) :
    GATE.LANE_CTRL g n = ⟨0x100200 + 0x1000 * g + 0x20 * n, 0, 0⟩ ∧
    GATE.LANE_STATUS_PRBS_LOCK g n = ⟨0x100204 + 0x1000 * g + 0x20 * n, 31, 31⟩ ∧
    GATE.LANE_STATUS_SKEW g n = ⟨0x100204 + 0x1000 * g + 0x20 * n, 25, 21⟩ ∧
    GATE.LANE_STATUS_PI_CODE g n = ⟨0x100204 + 0x1000 * g + 0x20 * n, 20, 13⟩ ∧
    GATE.LANE_STATUS_BIT_OFFSET g n = ⟨0x100204 + 0x1000 * g + 0x20 * n, 12, 7⟩ ∧
    GATE.LANE_STATUS_ALIGN_STATE g n = ⟨0x100204 + 0x1000 * g + 0x20 * n, 1, 0⟩ ∧
    GATE.LANE_ADAPT g n = ⟨0x100208 + 0x1000 * g + 0x20 * n, 31, 0⟩ ∧
    GATE.LANE_CODE_ERR g n = ⟨0x10020C + 0x1000 * g + 0x20 * n, 31, 0⟩ ∧
    GATE.LANE_DISP_ERR g n = ⟨0x100210 + 0x1000 * g + 0x20 * n, 31, 0⟩ ∧
    GATE.LANE_ALIGN_LOSS g n = ⟨0x100214 + 0x1000 * g + 0x20 * n, 31, 0⟩ ∧
    GATE.LANE_BURST g n = ⟨0x100218 + 0x1000 * g + 0x20 * n, 31, 0⟩ ∧
    GATE.LANE_BURST_BURST_ERR g n = ⟨0x100218 + 0x1000 * g + 0x20 * n, 31, 16⟩ ∧
    GATE.LANE_BURST_BURST_CNT g n = ⟨0x100218 + 0x1000 * g + 0x20 * n, 15, 0⟩ ∧
    GATE.LANE_PRBS_ERR g n = ⟨0x10021C + 0x1000 * g + 0x20 * n, 31, 0⟩ ∧
    GATE.LOOP_PAT g n = ⟨0x100400 + 0x1000 * g + 0x4 * n, 31, 0⟩ := by
  simp only [GATE.LANE_CTRL, GATE.LANE_STATUS_PRBS_LOCK, GATE.LANE_STATUS_SKEW, GATE.LANE_STATUS_PI_CODE,
    GATE.LANE_STATUS_BIT_OFFSET, GATE.LANE_STATUS_ALIGN_STATE, GATE.LANE_ADAPT, GATE.LANE_CODE_ERR, GATE.LANE_DISP_ERR,
    GATE.LANE_ALIGN_LOSS, GATE.LANE_BURST, GATE.LANE_BURST_BURST_ERR, GATE.LANE_BURST_BURST_CNT, GATE.LANE_PRBS_ERR,
    GATE.LOOP_PAT, gatePage, Fld.mk.injEq, and_true]
  omega

/-- Fields of the header of a page, and the pages (R411, R414). -/
theorem headerFields (page : Nat) :
    HDR.CTRL_ENABLE page = ⟨page + 0x8, 0, 0⟩ ∧
    HDR.CMD_STATUS_CANCELLED page = ⟨page + 0x14, 30, 30⟩ ∧
    HDR.CMD_STATUS_OPCODE page = ⟨page + 0x14, 7, 0⟩ ∧
    HDR.IRQ_STAT page = ⟨page + 0x20, 31, 0⟩ ∧
    HDR.FAULT_REACT_FENCED page = ⟨page + 0x40, 31, 31⟩ :=
  ⟨rfl, rfl, rfl, rfl, rfl⟩

/-- Fields of port p in the page of a section engine. -/
theorem bridgeFields (g p : Nat) :
    BRG.PORT_CFG_BE g p = ⟨0x180144 + 0x1000 * g + 0x40 * p, 8, 8⟩ ∧
    BRG.FENCE_LAST_TAG g p = ⟨0x180148 + 0x1000 * g + 0x40 * p, 15, 0⟩ ∧
    BRG.PORT_STATUS_DISC g p = ⟨0x180150 + 0x1000 * g + 0x40 * p, 27, 26⟩ ∧
    BRG.PORT_STATUS_NEXT_TAG g p = ⟨0x180150 + 0x1000 * g + 0x40 * p, 15, 0⟩ ∧
    BRG.CAM_CAPS g p = ⟨0x180154 + 0x1000 * g + 0x40 * p, 31, 0⟩ := by
  simp only [BRG.PORT_CFG_BE, BRG.FENCE_LAST_TAG, BRG.PORT_STATUS_DISC, BRG.PORT_STATUS_NEXT_TAG, BRG.CAM_CAPS, brgPage,
    Fld.mk.injEq, and_true]
  omega

/-- Fields of a slice's page. -/
theorem sliceFields (k : Nat) :
    SLICE.PWR_BUDGET k = ⟨0x200060 + 0x1000 * k, 19, 0⟩ ∧
    SLICE.PWR_STATE_IN_TRANSITION k = ⟨0x200064 + 0x1000 * k, 8, 8⟩ ∧
    SLICE.PWR_STATE_TARGET k = ⟨0x200064 + 0x1000 * k, 5, 4⟩ ∧
    SLICE.PWR_STATE_STATE k = ⟨0x200064 + 0x1000 * k, 1, 0⟩ ∧
    SLICE.PWR_EXITS k = ⟨0x200120 + 0x1000 * k, 31, 0⟩ := by
  simp only [SLICE.PWR_BUDGET, SLICE.PWR_STATE_IN_TRANSITION, SLICE.PWR_STATE_TARGET, SLICE.PWR_STATE_STATE, SLICE.PWR_EXITS,
    slicePage, Fld.mk.injEq, and_true]
  omega

/-- The pages of the units. -/
theorem pageAddrs (x : Nat) :
    gatePage x = 0x100000 + 0x1000 * x ∧ brgPage x = 0x180000 + 0x1000 * x ∧ slicePage x = 0x200000 + 0x1000 * x := by
  simp only [gatePage, brgPage, slicePage, and_self]

/-- Fields of other pages that the commands of this family touch. -/
theorem otherFields (x : Nat) :
    CAM.FC_SLAG_BYTES x = ⟨0x8001B8 + 0x4000 * x, 31, 0⟩ ∧
    PBA.PENDING x = ⟨0xFF8000 + 4 * (x / 32), x % 32, x % 32⟩ ∧
    PWR.DOMAIN_STATE x = ⟨0x2140 + 4 * x, 31, 0⟩ ∧
    HBM.HBM_PWR_STATUS x = ⟨0x740108 + 0x4000 * x, 31, 0⟩ := by
  refine ⟨?_, by rw [PBA.PENDING, pbaWord], ?_, ?_⟩
  · rw [CAM.FC_SLAG_BYTES, camPage, Nat.add_right_comm]
  · rw [PWR.DOMAIN_STATE, pwrPage]
  · rw [HBM.HBM_PWR_STATUS, hbmPage, Nat.add_right_comm]

theorem peerResetsField : CLK.PEER_RESETS = ⟨0x1110, 31, 0⟩ := by decide

/-! ### A read after a write -/

/-- A field reads what was written to it, modulo its width. -/
theorem State.get_put_at (s : State) {a hi lo : Nat} (v : Nat) (h : lo ≤ hi ∧ hi < 32) :
    (s.put ⟨a, hi, lo⟩ v).get ⟨a, hi, lo⟩ = v % 2 ^ (hi + 1 - lo) :=
  State.get_put_same s ⟨a, hi, lo⟩ v h

/-- A field reads as before after the write of another register, or of other bits of its own. -/
theorem State.get_put_off (s : State) {a hi lo b h l : Nat} (v : Nat)
    (hoff : a ≠ b ∨ (h < lo ∨ hi < l) ∧ l ≤ h ∧ h < 32 ∧ lo ≤ hi) :
    (s.put ⟨b, h, l⟩ v).get ⟨a, hi, lo⟩ = s.get ⟨a, hi, lo⟩ := by
  rcases hoff with hne | ⟨hoff, hle, hlt, hlo⟩
  · exact State.get_put_addr s ⟨b, h, l⟩ ⟨a, hi, lo⟩ v hne
  · exact State.get_put_disjoint s ⟨b, h, l⟩ ⟨a, hi, lo⟩ v ⟨hle, hlt⟩ hlo hoff

theorem bitOf_setBitN_same (v n : Nat) : bitOf (setBitN v n) n = true := by
  unfold setBitN
  split
  · assumption
  · rename_i h
    simp only [bitOf, beq_iff_eq] at h ⊢
    rw [Nat.add_div_right _ (by positivity)]
    omega

theorem bitOf_clearBitN_same (v n : Nat) : bitOf (clearBitN v n) n = false := by
  unfold clearBitN
  split
  · rename_i h
    simp only [bitOf, beq_iff_eq, beq_eq_false_iff_ne] at h ⊢
    have hle : 2 ^ n ≤ v := by
      by_contra hlt
      rw [Nat.div_eq_of_lt (by omega)] at h
      omega
    rw [← Nat.sub_add_cancel hle, Nat.add_div_right _ (by positivity)] at h
    omega
  · exact Bool.eq_false_iff.mpr ‹_›

theorem bitOf_mod {v n w : Nat} (h : n < w) : bitOf (v % 2 ^ w) n = bitOf v n := by
  have hw : 2 ^ w = 2 ^ n * 2 ^ (w - n) := by rw [← pow_add]; congr 1; omega
  have h2 : (2 : Nat) ∣ 2 ^ (w - n) := dvd_pow_self 2 (by omega)
  simp only [bitOf]
  rw [hw, Nat.mod_mul_right_div_self, Nat.mod_mod_of_dvd _ h2]

/-! ### Events (R168) -/

/-- An event changes its own page's IRQ_STAT and the pending bits of the vectors. -/
theorem State.get_raise_off (s : State) (page n : Nat) {a hi lo : Nat} (ha : a ≠ page + 0x20) (hpba : a < 0xFF8000) :
    (s.raise page n).get ⟨a, hi, lo⟩ = s.get ⟨a, hi, lo⟩ := by
  have hv : a ≠ (PBA.PENDING (s.get (HDR.IRQ_VEC page))).addr := by simp only [otherFields]; omega
  simp only [State.raise]
  split
  · rw [State.requestVector, State.get_put_addr _ _ _ _ hv, State.get_put_addr _ _ _ _ ha]
  · rw [State.get_put_addr _ _ _ _ ha]

theorem State.bitAt_raise_same (s : State) {page n : Nat} (hn : n < 32) (hpba : page + 0x20 < 0xFF8000) :
    (s.raise page n).bitAt (HDR.IRQ_STAT page) n = true := by
  have hf : (HDR.IRQ_STAT page).ok := by simp [Fld.ok, HDR.IRQ_STAT]
  have hv : (HDR.IRQ_STAT page).addr ≠ (PBA.PENDING (s.get (HDR.IRQ_VEC page))).addr := by
    simp only [otherFields, HDR.IRQ_STAT]; omega
  have hst : (s.raise page n).get (HDR.IRQ_STAT page) = setBitN (s.get (HDR.IRQ_STAT page)) n % 2 ^ 32 := by
    simp only [State.raise]
    split
    · rw [State.requestVector, State.get_put_addr _ _ _ _ hv, State.get_put_same _ _ _ hf]; rfl
    · rw [State.get_put_same _ _ _ hf]; rfl
  rw [State.bitAt, hst, bitOf_mod hn, bitOf_setBitN_same]

/-- An accepted command shows its opcode. -/
theorem State.get_accept_off (s : State) (page op : Nat) {a hi lo : Nat} (ha : a ≠ page + 0x14) :
    (s.accept page op).get ⟨a, hi, lo⟩ = s.get ⟨a, hi, lo⟩ := by
  rw [State.accept, State.get_put_addr _ _ _ _ ha, State.get_put_addr _ _ _ _ ha]

theorem State.get_accept_opcode (s : State) (page op : Nat) :
    (s.accept page op).get ⟨page + 0x14, 7, 0⟩ = op % 256 := by
  simp (disch := omega) only [State.accept, headerFields, State.get_put_off, State.get_put_at]
  rfl

/-! ### Tables of units -/

@[simp] theorem State.link_setLink_same (s : State) (c : Nat) (v : LinkSt) : (s.setLink c v).link c = v :=
  tget_tput_same ..

@[simp] theorem State.gate_setGate_same (s : State) (g : Nat) (v : GateSt) : (s.setGate g v).gate g = v :=
  tget_tput_same ..

@[simp] theorem State.engine_setEngine_same (s : State) (g : Nat) (v : EngineSt) : (s.setEngine g v).engine g = v :=
  tget_tput_same ..

@[simp] theorem State.slice_setSlice_same (s : State) (k : Nat) (v : SliceSt) : (s.setSlice k v).slice k = v :=
  tget_tput_same ..

end Sys2Proof.Machine
end

section
/-!
PROOFS. The shared operations on links, lanes and power states (R41, R50 to R59): what each writes, and what each leaves.
-/

namespace Sys2Proof.Machine

/-! ### Parts that the operations leave -/

theorem link_ignores (c : Nat) {l : List Part} (h : l.contains .links = false) : Ignores (fun s => s.link c) l := by
  intro s t k
  have hl : t.links = s.links := k .links (by simpa using h)
  simp only [State.link, hl]

theorem gate_ignores (g : Nat) {l : List Part} (h : l.contains .gates = false) : Ignores (fun s => s.gate g) l := by
  intro s t k
  have hg : t.gates = s.gates := k .gates (by simpa using h)
  simp only [State.gate, hg]

theorem engine_ignores (g : Nat) {l : List Part} (h : l.contains .engines = false) : Ignores (fun s => s.engine g) l := by
  intro s t k
  have he : t.engines = s.engines := k .engines (by simpa using h)
  simp only [State.engine, he]

theorem get_ignores (f : Fld) {l : List Part} (h : l.contains .regs = false) : Ignores (fun s => s.get f) l := by
  intro s t k
  have hr : t.regs = s.regs := k .regs (by simpa using h)
  simp only [State.get, State.word, hr]

@[simp] theorem State.raise_link (s : State) (page n c : Nat) : (s.raise page n).link c = s.link c :=
  State.raise_keeps (link_ignores c rfl) s page n

@[simp] theorem State.raise_engine (s : State) (page n g : Nat) : (s.raise page n).engine g = s.engine g :=
  State.raise_keeps (engine_ignores g rfl) s page n

/-! ### Ports of a gate -/

@[simp] theorem portNo_div (g : Nat) (p : Fin 2) : portNo g p / 2 = g := by simp only [portNo]; omega

@[simp] theorem portNo_mod (g : Nat) (p : Fin 2) : portNo g p % 2 = p := by simp only [portNo]; omega

theorem dataLanes_bounds {mode p n : Nat} (h : n ∈ dataLanes mode p) : 1 ≤ n ∧ n ≤ 4 := by
  unfold dataLanes at h
  split_ifs at h <;> simp at h <;> omega

/-! ### A change for every element of a list -/

theorem State.each_eq {α β : Type} {p : State → β} {l : List α} {f : State → α → State} (s : State)
    (h : ∀ t, ∀ x ∈ l, p (f t x) = p t) : p (s.each l f) = p s := by
  induction l generalizing s with
  | nil => rfl
  | cons x l ih =>
    have hx : p (f s x) = p s := h s x (by simp)
    exact (ih (f s x) fun t y hy => h t y (by simp [hy])).trans hx

/-- What one element brings about and none destroys holds at the end. -/
theorem State.each_mem {α : Type} {P : State → Prop} {l : List α} {f : State → α → State} {y : α} (s : State) (hy : y ∈ l)
    (hset : ∀ t, P (f t y)) (hkeep : ∀ t, ∀ x ∈ l, P t → P (f t x)) : P (s.each l f) := by
  have hall : ∀ (m : List α) (t : State), (∀ x ∈ m, x ∈ l) → P t → P (t.each m f) := by
    intro m
    induction m with
    | nil => exact fun t _ ht => ht
    | cons x m ih =>
      exact fun t hm ht => ih (f t x) (fun z hz => hm z (by simp [hz])) (hkeep t x (hm x (by simp)) ht)
  obtain ⟨a, b, rfl⟩ := List.append_of_mem hy
  have hsplit : s.each (a ++ y :: b) f = (f (s.each a f) y).each b f := by simp [State.each]
  rw [hsplit]
  exact hall b _ (fun z hz => by simp [hz]) (hset _)

/-! ### Lanes -/

theorem getD_modifyAt_same {α : Type} (l : List α) (i : Nat) (f : α → α) (d : α) (h : i < l.length) :
    (modifyAt l i f).getD i d = f (l.getD i d) := by
  induction l generalizing i with
  | nil => simp at h
  | cons x l ih =>
    cases i with
    | zero => rfl
    | succ i => simpa [modifyAt] using ih i (by simpa using h)

theorem getD_modifyAt_ne {α : Type} (l : List α) {i j : Nat} (f : α → α) (d : α) (h : j ≠ i) :
    (modifyAt l i f).getD j d = l.getD j d := by
  induction l generalizing i j with
  | nil => rfl
  | cons x l ih =>
    cases i with
    | zero => cases j with
      | zero => exact absurd rfl h
      | succ j => rfl
    | succ i => cases j with
      | zero => rfl
      | succ j => simpa [modifyAt] using ih (i := i) (j := j) (by omega)

theorem State.lane_onLane_same (s : State) (g n : Nat) (f : LaneSt → LaneSt) (h : n < (s.gate g).lanes.length) :
    (s.onLane g n f).lane g n = f (s.lane g n) := by
  simp only [State.lane, State.onLane, State.gate_setGate_same, getD_modifyAt_same _ _ _ _ h]

theorem State.lane_onLane_ne (s : State) (g : Nat) {n m : Nat} (f : LaneSt → LaneSt) (h : m ≠ n) :
    (s.onLane g n f).lane g m = s.lane g m := by
  simp only [State.lane, State.onLane, State.gate_setGate_same, getD_modifyAt_ne _ _ _ h]

theorem State.lane_of_gate_eq {s t : State} {g : Nat} (n : Nat) (h : t.gate g = s.gate g) : t.lane g n = s.lane g n := by
  simp only [State.lane, h]

@[simp] theorem State.onLane_get (s : State) (g n : Nat) (f : LaneSt → LaneSt) (x : Fld) : (s.onLane g n f).get x = s.get x :=
  (rfl)

@[simp] theorem State.onLane_link (s : State) (g n : Nat) (f : LaneSt → LaneSt) (c : Nat) :
    (s.onLane g n f).link c = s.link c :=
  (rfl)

@[simp] theorem State.onLane_engine (s : State) (g n : Nat) (f : LaneSt → LaneSt) (x : Nat) :
    (s.onLane g n f).engine x = s.engine x := (rfl)

/-! ### Link states -/

section

variable (s : State) (c v : Nat) {a hi lo : Nat}

theorem State.get_setLinkState_off (h : a ≠ 0x100108 + 0x1000 * (c / 2) + 4 * (c % 2) ∨ 2 < lo ∧ lo ≤ hi) :
    (s.setLinkState c v).get ⟨a, hi, lo⟩ = s.get ⟨a, hi, lo⟩ := by
  unfold State.setLinkState
  split
  · rfl
  · simp (disch := omega) only [linkFields, State.get_put_off]

theorem State.linkState_setLinkState (hf : s.portFenced c = false) : (s.setLinkState c v).linkState c = v % 8 := by
  simp (disch := omega) only [State.setLinkState, hf, State.linkState, linkFields, State.get_put_at, Bool.false_eq_true,
    ite_false]
  rfl

@[simp] theorem State.setLinkState_link (x : Nat) : (s.setLinkState c v).link x = s.link x :=
  State.setLinkState_keeps (link_ignores x rfl) s c v

@[simp] theorem State.setLinkState_engine (x : Nat) : (s.setLinkState c v).engine x = s.engine x :=
  State.setLinkState_keeps (engine_ignores x rfl) s c v

/-- The lanes' ALIGN_STATE is all that a hunt writes. -/
theorem State.get_huntLanes_off
    (h : a < 0x100204 + 0x1000 * (c / 2) ∨ 0x100284 + 0x1000 * (c / 2) < a ∨ a % 32 ≠ 4 ∨ 1 < lo ∧ lo ≤ hi) :
    (s.huntLanes c).get ⟨a, hi, lo⟩ = s.get ⟨a, hi, lo⟩ := by
  refine State.each_eq (p := fun t => t.get ⟨a, hi, lo⟩) s fun t n hn => ?_
  have := dataLanes_bounds hn
  simp (disch := omega) only [laneFields, State.onLane_get, State.get_put_off]

theorem State.get_huntLanes_alignState {n : Nat} (hn : n ∈ s.portLanes c) :
    (s.huntLanes c).get (GATE.LANE_STATUS_ALIGN_STATE (c / 2) n) = 0 := by
  refine State.each_mem (P := fun t => t.get (GATE.LANE_STATUS_ALIGN_STATE (c / 2) n) = 0) s hn (fun t => ?_) fun t m _ ht => ?_
  · simp (disch := omega) only [laneFields, State.onLane_get, State.get_put_at]
    rfl
  · by_cases hm : m = n
    · subst hm
      simp (disch := omega) only [laneFields, State.onLane_get, State.get_put_at]
      rfl
    · rw [State.onLane_get, ← ht]
      simp (disch := omega) only [laneFields, State.get_put_off]

@[simp] theorem State.huntLanes_link (x : Nat) : (s.huntLanes c).link x = s.link x :=
  State.huntLanes_keeps (link_ignores x rfl) s c

@[simp] theorem State.huntLanes_engine (x : Nat) : (s.huntLanes c).engine x = s.engine x :=
  State.huntLanes_keeps (engine_ignores x rfl) s c

/-! DOWN -/

theorem State.get_toDown_off (hl : a ≠ 0x100108 + 0x1000 * (c / 2) + 4 * (c % 2) ∨ 10 < lo ∧ lo ≤ hi ∨ hi = 8 ∧ lo = 8)
    (hn : a < 0x100204 + 0x1000 * (c / 2) ∨ 0x100284 + 0x1000 * (c / 2) < a ∨ a % 32 ≠ 4 ∨ 1 < lo ∧ lo ≤ hi) :
    (s.toDown c).get ⟨a, hi, lo⟩ = s.get ⟨a, hi, lo⟩ := by
  simp (disch := omega) only [State.toDown, linkFields, State.setLink_get, State.get_huntLanes_off, State.get_put_off,
    State.get_setLinkState_off]

theorem State.linkState_toDown (hf : s.portFenced c = false) : (s.toDown c).linkState c = linkDown := by
  have hst := s.linkState_setLinkState c linkDown hf
  simp only [State.linkState, linkFields] at hst
  simp (disch := omega) only [State.toDown, State.linkState, linkFields, State.setLink_get, State.get_huntLanes_off,
    State.get_put_off]
  exact hst

theorem State.dllLock_toDown : (s.toDown c).on (LNK.DLL_LOCK c) = false := by
  simp (disch := omega) only [State.toDown, State.on, linkFields, State.setLink_get, State.get_huntLanes_off, State.get_put_at]
  rfl

theorem State.toDown_link :
    (s.toDown c).link c = { s.link c with trying := false, skewMiss := false, voidNext := false } := by
  simp [State.toDown]

/-! CLOCK -/

theorem State.get_toClock_off (h : a ≠ 0x100108 + 0x1000 * (c / 2) + 4 * (c % 2) ∨ 2 < lo ∧ lo ≤ hi) :
    (s.toClock c).get ⟨a, hi, lo⟩ = s.get ⟨a, hi, lo⟩ := by
  simp (disch := omega) only [State.toClock, State.setLink_get, State.get_setLinkState_off]

theorem State.linkState_toClock (hf : s.portFenced c = false) : (s.toClock c).linkState c = linkClock :=
  s.linkState_setLinkState c linkClock hf

theorem State.toClock_link : (s.toClock c).link c = { s.link c with trying := true } := by
  simp [State.toClock]

@[simp] theorem State.toClock_engine (x : Nat) : (s.toClock c).engine x = s.engine x :=
  State.toClock_keeps (engine_ignores x rfl) s c

/-! ALIGN -/

theorem State.get_toAlign_off
    (hl : a ≠ 0x100108 + 0x1000 * (c / 2) + 4 * (c % 2) ∨ 10 < lo ∧ lo ≤ hi ∨ 2 < lo ∧ lo ≤ hi ∧ hi < 10)
    (hn : a < 0x100204 + 0x1000 * (c / 2) ∨ 0x100284 + 0x1000 * (c / 2) < a ∨ a % 32 ≠ 4 ∨ 1 < lo ∧ lo ≤ hi) :
    (s.toAlign c).get ⟨a, hi, lo⟩ = s.get ⟨a, hi, lo⟩ := by
  simp (disch := omega) only [State.toAlign, linkFields, State.get_huntLanes_off, State.get_put_off, State.get_setLinkState_off]

theorem State.linkState_toAlign (hf : s.portFenced c = false) : (s.toAlign c).linkState c = linkAlign := by
  have hst := s.linkState_setLinkState c linkAlign hf
  simp only [State.linkState, linkFields] at hst
  simp (disch := omega) only [State.toAlign, State.linkState, linkFields, State.get_huntLanes_off, State.get_put_off]
  exact hst

theorem State.deskewDone_toAlign : (s.toAlign c).on (LNK.DESKEW_DONE c) = false := by
  simp (disch := omega) only [State.toAlign, State.on, linkFields, State.get_huntLanes_off, State.get_put_at]
  rfl

theorem State.get_toAlign_alignState {n : Nat} (hn : n ∈ s.portLanes c) :
    (s.toAlign c).get (GATE.LANE_STATUS_ALIGN_STATE (c / 2) n) = 0 := by
  refine State.get_huntLanes_alignState _ c ?_
  simpa (disch := omega) only [State.portLanes, State.gateMode, linkFields, gateFields, State.get_put_off,
    State.get_setLinkState_off] using hn

@[simp] theorem State.toAlign_link (x : Nat) : (s.toAlign c).link x = s.link x :=
  State.toAlign_keeps (link_ignores x rfl) s c

@[simp] theorem State.toAlign_engine (x : Nat) : (s.toAlign c).engine x = s.engine x :=
  State.toAlign_keeps (engine_ignores x rfl) s c

end

/-! ### Power states -/

theorem State.get_gateWake_off (s : State) (g : Nat) {a hi lo : Nat} (h : a ≠ 0x100064 + 0x1000 * g) :
    (s.gateWake g).get ⟨a, hi, lo⟩ = s.get ⟨a, hi, lo⟩ := by
  simp only [State.gateWake]
  split_ifs
  · rfl
  · rfl
  · simp (disch := omega) only [gateFields, State.get_put_off, State.setGate_get]

theorem State.gateWake_lane (s : State) (g n : Nat) : (s.gateWake g).lane g n = s.lane g n := by
  simp only [State.gateWake]
  split_ifs <;> simp [State.lane]

@[simp] theorem State.gateWake_link (s : State) (g c : Nat) : (s.gateWake g).link c = s.link c :=
  State.gateWake_keeps (link_ignores c rfl) s g

@[simp] theorem State.gateWake_engine (s : State) (g x : Nat) : (s.gateWake g).engine x = s.engine x :=
  State.gateWake_keeps (engine_ignores x rfl) s g

theorem State.get_gateCommand_off (s : State) (g : Nat) {a hi lo : Nat} (h : a ≠ 0x100064 + 0x1000 * g) :
    (s.gateCommand g).get ⟨a, hi, lo⟩ = s.get ⟨a, hi, lo⟩ := s.get_gateWake_off g h

@[simp] theorem State.gateCommand_link (s : State) (g c : Nat) : (s.gateCommand g).link c = s.link c := s.gateWake_link g c

@[simp] theorem State.gateCommand_engine (s : State) (g x : Nat) : (s.gateCommand g).engine x = s.engine x :=
  s.gateWake_engine g x

end Sys2Proof.Machine
end

section
/-!
PROOFS. Requests of a section engine: how one joins the queue (R328, R331, R341), and the requests that the device makes for a
port that is not down (R320, R326, R332).
-/

namespace Sys2Proof.Machine

section

variable (s : State) (c : Nat) (p : Purpose) {a hi lo : Nat}

/-! ### A request joins the queue -/

theorem State.setSlot_reqs (x : Option Slot) : ((s.setSlot c x).engine (c / 2)).reqs = (s.engine (c / 2)).reqs := by
  unfold State.setSlot
  split_ifs <;> simp only [State.engine_setEngine_same]

theorem State.dropPrefetch_reqs : ((s.dropPrefetch c).engine (c / 2)).reqs = (s.engine (c / 2)).reqs := by
  unfold State.dropPrefetch
  split
  · split_ifs
    · rfl
    · exact s.setSlot_reqs c none
  · rfl

theorem State.get_dropPrefetch (f : Fld) : (s.dropPrefetch c).get f = s.get f :=
  State.dropPrefetch_keeps (get_ignores f rfl) s c

theorem State.get_enqueue_off (op cls addr : Nat) (data : List Byte) (len want : Nat)
    (ht : a ≠ 0x180150 + 0x1000 * (c / 2) + 0x40 * (c % 2) ∨ 15 < lo ∧ lo ≤ hi)
    (hf : a ≠ 0x180148 + 0x1000 * (c / 2) + 0x40 * (c % 2)) :
    (s.enqueue c op cls addr data len want p).get ⟨a, hi, lo⟩ = s.get ⟨a, hi, lo⟩ := by
  simp only [State.enqueue, State.takeTag]
  split_ifs <;>
  simp (disch := omega) only [bridgeFields, State.get_dropPrefetch, State.get_put_off, State.setEngine_get]

/-- The request that joins the queue of port c. -/
def State.newReq (op cls addr : Nat) (data : List Byte) (len want : Nat) : Req :=
  { port := c, tag := s.nextTag c, op := op, cls := cls, addr := addr, data := data, len := len, want := want, purpose := p }

theorem State.enqueue_reqs (op cls addr : Nat) (data : List Byte) (len want : Nat) :
    ((s.enqueue c op cls addr data len want p).engine (c / 2)).reqs =
      (s.engine (c / 2)).reqs ++ [s.newReq c p op cls addr data len want] := by
  simp only [State.enqueue, State.takeTag]
  split_ifs <;> simp [State.dropPrefetch_reqs, State.newReq]

@[simp] theorem State.enqueue_link (op cls addr : Nat) (data : List Byte) (len want x : Nat) :
    (s.enqueue c op cls addr data len want p).link x = s.link x :=
  State.enqueue_keeps (link_ignores x rfl) s c op cls addr data len want p

/-! ### Whether a port is down (R320) -/

theorem State.portDown_of_get {s t : State} {c : Nat}
    (h : ∀ a hi lo, a = 0x100160 + 0x1000 * (c / 2) ∨ a = 0x100008 + 0x1000 * (c / 2) ∨ a = 0x180040 + 0x1000 * (c / 2) →
      t.get ⟨a, hi, lo⟩ = s.get ⟨a, hi, lo⟩) : t.portDown c = s.portDown c := by
  simp only [State.portDown, State.portPresent, State.gateMode, State.gateEnabled, State.engineFenced, State.on, pageAddrs,
    headerFields, gateFields]
  rw [h _ _ _ (by omega), h _ _ _ (by omega), h _ _ _ (by omega)]

theorem State.portDown_enqueue (op cls addr : Nat) (data : List Byte) (len want : Nat) :
    (s.enqueue c op cls addr data len want p).portDown c = s.portDown c :=
  State.portDown_of_get fun _ _ _ ha => s.get_enqueue_off c p op cls addr data len want (by omega) (by omega)

/-! ### The device's own requests -/

theorem State.deviceWrite_up (addr : Nat) (data : List Byte) (h : s.portDown c = false) :
    s.deviceWrite c p addr data = s.enqueue c 1 2 addr data 0 0 p := by
  simp only [State.deviceWrite, State.downCheck, State.portDown_enqueue, h, Bool.false_eq_true, ite_false]

theorem State.deviceWord_up (addr v : Nat) (h : s.portDown c = false) :
    s.deviceWord c p addr v = s.enqueue c 1 2 addr (s.diWord c v) 0 0 p :=
  s.deviceWrite_up c p addr _ h

theorem State.discoveryRead_up (addr : Nat) (h : s.portDown c = false) :
    s.discoveryRead c p addr = s.enqueue c 2 1 addr [] 4 4 p := by
  simp only [State.discoveryRead, State.downCheck, State.portDown_enqueue, h, Bool.false_eq_true, ite_false]

/-- The byte order of a port is a field of its PORT_CFG. -/
theorem State.diWord_of_get {s t : State} {c : Nat} (v : Nat)
    (h : t.get (BRG.PORT_CFG_BE (c / 2) (c % 2)) = s.get (BRG.PORT_CFG_BE (c / 2) (c % 2))) : t.diWord c v = s.diWord c v := by
  have hbe : t.on (BRG.PORT_CFG_BE (c / 2) (c % 2)) = s.on (BRG.PORT_CFG_BE (c / 2) (c % 2)) := congrArg (· == 1) h
  rw [State.diWord, State.diWord, hbe]

theorem State.diWord_enqueue (op cls addr : Nat) (data : List Byte) (len want v : Nat) :
    (s.enqueue c op cls addr data len want p).diWord c v = s.diWord c v := by
  refine State.diWord_of_get v ?_
  simp (disch := omega) only [bridgeFields, State.get_enqueue_off]

/-! ### Discovery (R50, R326) -/

/-- Discovery clears DISC and CAM_CAPS, and its first read joins the queue. -/
theorem State.startDiscovery_up (h : s.portDown c = false) :
    s.startDiscovery c = ((s.put (BRG.PORT_STATUS_DISC (c / 2) (c % 2)) 0).put (BRG.CAM_CAPS (c / 2) (c % 2)) 0).enqueue
      c 2 1 0 [] 4 4 .discMagic := by
  refine State.discoveryRead_up _ c .discMagic 0 ?_
  rw [← h]
  refine State.portDown_of_get fun a hi lo ha => ?_
  simp (disch := omega) only [bridgeFields, State.get_put_off]

theorem State.get_startDiscovery_off (h : s.portDown c = false)
    (ha : a < 0x180148 + 0x1000 * (c / 2) + 0x40 * (c % 2) ∨ 0x180154 + 0x1000 * (c / 2) + 0x40 * (c % 2) < a) :
    (s.startDiscovery c).get ⟨a, hi, lo⟩ = s.get ⟨a, hi, lo⟩ := by
  rw [s.startDiscovery_up c h]
  simp (disch := omega) only [bridgeFields, State.get_enqueue_off, State.get_put_off]

theorem State.startDiscovery_reqs (h : s.portDown c = false) : ∃ r : Req, r.purpose = .discMagic ∧ r.addr = 0 ∧
    ((s.startDiscovery c).engine (c / 2)).reqs = (s.engine (c / 2)).reqs ++ [r] := by
  rw [s.startDiscovery_up c h, State.enqueue_reqs, State.put_engine, State.put_engine]
  exact ⟨_, rfl, rfl, rfl⟩

theorem State.startDiscovery_link (h : s.portDown c = false) (x : Nat) : (s.startDiscovery c).link x = s.link x := by
  simp [s.startDiscovery_up c h]

theorem State.portDown_toClock : (s.toClock c).portDown c = s.portDown c :=
  State.portDown_of_get fun _ _ _ ha => s.get_toClock_off c (by omega)

/-- The state in which the discovery of a port that reaches CLOCK for the first time starts. -/
def State.atClock : State := (s.toClock c).setLink c { (s.toClock c).link c with discovered := true }

theorem State.portDown_atClock : (s.atClock c).portDown c = s.portDown c := s.portDown_toClock c

theorem State.enterClock_eq :
    s.enterClock c = if (s.link c).discovered then s.toClock c else (s.atClock c).startDiscovery c := by
  simp only [State.enterClock, State.atClock, State.toClock_link]

theorem State.get_enterClock_off (h : s.portDown c = false)
    (hl : a ≠ 0x100108 + 0x1000 * (c / 2) + 4 * (c % 2) ∨ 2 < lo ∧ lo ≤ hi)
    (ha : a < 0x180148 + 0x1000 * (c / 2) + 0x40 * (c % 2) ∨ 0x180154 + 0x1000 * (c / 2) + 0x40 * (c % 2) < a) :
    (s.enterClock c).get ⟨a, hi, lo⟩ = s.get ⟨a, hi, lo⟩ := by
  rw [State.enterClock_eq]
  split_ifs
  · exact s.get_toClock_off c hl
  · rw [State.get_startDiscovery_off _ c (by rwa [State.portDown_atClock]) ha, State.atClock, State.setLink_get,
      s.get_toClock_off c hl]

theorem State.linkState_enterClock (h : s.portDown c = false) (hf : s.portFenced c = false) :
    (s.enterClock c).linkState c = linkClock := by
  rw [State.enterClock_eq]
  split_ifs
  · exact s.linkState_toClock c hf
  · rw [← s.linkState_toClock c hf]
    simp only [State.linkState, linkFields]
    rw [State.get_startDiscovery_off _ c (by rwa [State.portDown_atClock]) (by omega), State.atClock, State.setLink_get]

theorem State.enterClock_link (h : s.portDown c = false) :
    (s.enterClock c).link c = { s.link c with trying := true, discovered := true } := by
  rw [State.enterClock_eq]
  split_ifs with hd
  · rw [s.toClock_link c, ← hd]
  · rw [State.startDiscovery_link _ c (by rwa [State.portDown_atClock]), State.atClock, State.link_setLink_same,
      s.toClock_link c]

/-- A port leaves DOWN where its gate is enabled and it is present, so it is not down for its section engine. -/
theorem State.leaveDown_eq (he : s.engineFenced (c / 2) = false) :
    s.leaveDown c = s ∨ s.portDown c = false ∧ s.leaveDown c = s.enterClock c := by
  unfold State.leaveDown
  split_ifs with h
  · simp only [Bool.and_eq_true, Bool.not_eq_true'] at h
    obtain ⟨⟨⟨-, hg⟩, hp⟩, -⟩ := h
    exact .inr ⟨by simp [State.portDown, hp, hg, he], rfl⟩
  · exact .inl rfl

theorem State.get_leaveDown_off (he : s.engineFenced (c / 2) = false)
    (hl : a ≠ 0x100108 + 0x1000 * (c / 2) + 4 * (c % 2) ∨ 2 < lo ∧ lo ≤ hi)
    (ha : a < 0x180148 + 0x1000 * (c / 2) + 0x40 * (c % 2) ∨ 0x180154 + 0x1000 * (c / 2) + 0x40 * (c % 2) < a) :
    (s.leaveDown c).get ⟨a, hi, lo⟩ = s.get ⟨a, hi, lo⟩ := by
  obtain h | ⟨hd, h⟩ := s.leaveDown_eq c he
  · rw [h]
  · rw [h, s.get_enterClock_off c hd hl ha]

theorem State.heldDown_leaveDown (he : s.engineFenced (c / 2) = false) :
    ((s.leaveDown c).link c).heldDown = (s.link c).heldDown := by
  obtain h | ⟨hd, h⟩ := s.leaveDown_eq c he
  · rw [h]
  · rw [h, s.enterClock_link c hd]

end

end Sys2Proof.Machine
end

section
/-!
PROOFS. The forwarded clock and the link timers of a port (R37 to R39, R49 to R51, R103; O16).
-/

namespace Sys2Proof.Machine

section

variable (s : State) (c : Nat) {a hi lo : Nat}

/-! ### Fences, tests, risers and peer resets -/

theorem State.portFenced_of_get {s t : State} {c : Nat}
    (h : ∀ a hi lo, a = 0x800040 + 0x4000 * c → t.get ⟨a, hi, lo⟩ = s.get ⟨a, hi, lo⟩) : t.portFenced c = s.portFenced c := by
  simp only [State.portFenced, State.on, headerFields, camPage]
  rw [h _ _ _ (by omega)]

theorem State.get_showTest_off (g mode : Nat) (h : a ≠ 0x100114 + 0x1000 * g ∨ 7 < lo ∧ lo ≤ hi) :
    (s.showTest g mode).get ⟨a, hi, lo⟩ = s.get ⟨a, hi, lo⟩ := by
  simp (disch := omega) only [State.showTest, gateFields, State.get_put_off]

@[simp] theorem State.showTest_link (g mode x : Nat) : (s.showTest g mode).link x = s.link x :=
  State.showTest_keeps (link_ignores x rfl) s g mode

theorem State.get_endTest_off (h : a ≠ 0x100114 + 0x1000 * (c / 2) ∨ 7 < lo ∧ lo ≤ hi) :
    (s.endTest c).get ⟨a, hi, lo⟩ = s.get ⟨a, hi, lo⟩ := by
  unfold State.endTest
  split
  · rfl
  · rw [State.get_showTest_off _ _ _ h, State.setLink_get]

theorem State.endTest_link : (s.endTest c).link c = { s.link c with test := none } := by
  unfold State.endTest
  split
  case h_1 h => simp only [← h]
  case h_2 h => rw [State.showTest_link, State.link_setLink_same]

@[simp] theorem State.endTest_engine (x : Nat) : (s.endTest c).engine x = s.engine x :=
  State.endTest_keeps (engine_ignores x rfl) s c

theorem State.get_dropRiser_off (h : a ≠ 0x8001B8 + 0x4000 * c) : (s.dropRiser c).get ⟨a, hi, lo⟩ = s.get ⟨a, hi, lo⟩ := by
  simp (disch := omega) only [State.dropRiser, State.slag, State.add, otherFields, State.setLink_get, State.get_put_off]

theorem State.dropRiser_link : (s.dropRiser c).link c = { s.link c with riser := [], used := 0, fsNo := (s.link c).frameNo } :=
  State.link_setLink_same ..

/-- The pulses not yet transferred are dropped at a peer reset (R393). -/
def State.dropPulses (pages : List Nat) : State :=
  s.each pages (fun t page => t.each [false, true] (fun t fault =>
    t.setXing (xingOf page fault) { t.xing (xingOf page fault) with busy := false, count := 0 }))

theorem State.peerReset_eq (pages : List Nat) :
    s.peerReset pages = (s.dropPulses pages).put CLK.PEER_RESETS ((s.dropPulses pages).get CLK.PEER_RESETS + 1) := by
  rw [State.peerReset, State.inc, State.add, State.dropPulses]

theorem State.dropPulses_get (pages : List Nat) (f : Fld) : (s.dropPulses pages).get f = s.get f :=
  State.each_keeps _ _ _ (fun t => t.get f) fun _ _ => State.each_keeps _ _ _ (fun t => t.get f) fun _ _ =>
    State.setXing_keeps (get_ignores f rfl) ..

theorem State.get_peerReset_off (pages : List Nat) (h : a ≠ 0x1110) :
    (s.peerReset pages).get ⟨a, hi, lo⟩ = s.get ⟨a, hi, lo⟩ := by
  simp (disch := omega) only [State.peerReset_eq, peerResetsField, State.get_put_off, State.dropPulses_get]

theorem State.get_peerReset_count (pages : List Nat) :
    (s.peerReset pages).get CLK.PEER_RESETS = (s.get CLK.PEER_RESETS + 1) % 2 ^ 32 := by
  simp (disch := omega) only [State.peerReset_eq, peerResetsField, State.get_put_at, State.dropPulses_get]

@[simp] theorem State.peerReset_link (pages : List Nat) (x : Nat) : (s.peerReset pages).link x = s.link x :=
  State.peerReset_keeps (link_ignores x rfl) s pages

@[simp] theorem State.setLive_get (page bit detail : Nat) (v : Bool) (f : Fld) :
    (s.setLive page bit detail v).get f = s.get f := (rfl)

@[simp] theorem State.setLive_link (page bit detail : Nat) (v : Bool) (x : Nat) :
    (s.setLive page bit detail v).link x = s.link x := (rfl)

/-! ### The clock (R37, R38, R103) -/

/-- A window that the monitor accepts, before the port leaves DOWN. -/
def State.clockSeen (count : Nat) : State :=
  ((s.put (LNK.CLK_COUNT c) count).put (LNK.CLOCK_OK c) 1).setLive (gatePage (c / 2)) (5 + c % 2) 0 false

theorem State.clockWindow_accepted (count : Nat) (h : windowOk (s.get (LNK.RATE c)) count = true) :
    s.clockWindow c count = (s.clockSeen c count).leaveDown c := by
  simp only [State.clockWindow, h, if_true, State.clockSeen]

theorem State.clockWindow_refused (count : Nat) (h : windowOk (s.get (LNK.RATE c)) count = false)
    (hok : s.on (LNK.CLOCK_OK c) = false) : s.clockWindow c count = s.put (LNK.CLK_COUNT c) count := by
  simp only [State.clockWindow, h, hok, Bool.false_eq_true, if_false]

theorem State.get_clockSeen_off (count : Nat)
    (h : a ≠ 0x100108 + 0x1000 * (c / 2) + 4 * (c % 2) ∨ lo ≤ hi ∧ hi < 16 ∧ (hi < 8 ∨ 8 < lo)) :
    (s.clockSeen c count).get ⟨a, hi, lo⟩ = s.get ⟨a, hi, lo⟩ := by
  simp (disch := omega) only [State.clockSeen, linkFields, State.setLive_get, State.get_put_off]

theorem State.clockOk_clockSeen (count : Nat) : (s.clockSeen c count).on (LNK.CLOCK_OK c) = true := by
  simp (disch := omega) only [State.clockSeen, State.on, linkFields, State.setLive_get, State.get_put_at]
  rfl

theorem State.clkCount_clockSeen (count : Nat) (h : count < 65536) : (s.clockSeen c count).get (LNK.CLK_COUNT c) = count := by
  simp (disch := omega) only [State.clockSeen, linkFields, State.setLive_get, State.get_put_off, State.get_put_at]
  exact Nat.mod_eq_of_lt h

theorem State.clockOk_clockWindow (count : Nat) (h : windowOk (s.get (LNK.RATE c)) count = true)
    (he : s.engineFenced (c / 2) = false) (hc : c < 256) (hn : count < 65536) :
    (s.clockWindow c count).on (LNK.CLOCK_OK c) = true ∧ (s.clockWindow c count).get (LNK.CLK_COUNT c) = count := by
  have he' : (s.clockSeen c count).engineFenced (c / 2) = false := by
    rw [← he]
    simp (disch := omega) only [State.engineFenced, State.on, pageAddrs, headerFields, State.get_clockSeen_off]
  have hok := s.clockOk_clockSeen c count
  have hcnt := s.clkCount_clockSeen c count hn
  rw [s.clockWindow_accepted c count h]
  simp only [State.on, linkFields] at hok hcnt ⊢
  exact ⟨by rw [State.get_leaveDown_off _ c he' (by omega) (by omega), hok],
    by rw [State.get_leaveDown_off _ c he' (by omega) (by omega), hcnt]⟩

/-- A port that may leave DOWN goes to CLOCK with the first window accepted. -/
theorem State.linkState_clockWindow (count : Nat) (h : windowOk (s.get (LNK.RATE c)) count = true)
    (he : s.engineFenced (c / 2) = false) (hp : s.portPresent c = true) (hd : s.linkState c = linkDown)
    (hh : (s.link c).heldDown = false) (hg : s.gateEnabled (c / 2) = true) (hf : s.portFenced c = false) :
    (s.clockWindow c count).linkState c = linkClock := by
  have hget {a hi lo : Nat} (ha : a ≠ 0x100108 + 0x1000 * (c / 2) + 4 * (c % 2)) :
      (s.clockSeen c count).get ⟨a, hi, lo⟩ = s.get ⟨a, hi, lo⟩ := s.get_clockSeen_off c count (.inl ha)
  have hf' : (s.clockSeen c count).portFenced c = false := by
    rw [← hf]; exact State.portFenced_of_get fun _ _ _ ha => hget (by omega)
  have hdown : (s.clockSeen c count).portDown c = false := by
    have hup : s.portDown c = false := by simp [State.portDown, hp, hg, he]
    rw [← hup]; exact State.portDown_of_get fun _ _ _ ha => hget (by omega)
  have hp' : (s.clockSeen c count).portPresent c = true := by simp_all [State.portDown]
  have hg' : (s.clockSeen c count).gateEnabled (c / 2) = true := by simp_all [State.portDown]
  have hd' : (s.clockSeen c count).linkState c = linkDown := by
    rw [← hd]; simp (disch := omega) only [State.linkState, linkFields, State.get_clockSeen_off]
  have hl : (s.clockSeen c count).link c = s.link c := by simp [State.clockSeen]
  rw [s.clockWindow_accepted c count h, State.leaveDown, hd', s.clockOk_clockSeen c count, hl, hh, hg', hp', hf']
  exact State.linkState_enterClock _ c hdown hf'

/-- The loss of the clock up to the fall to DOWN. -/
def State.clockLost : State := ((s.put (LNK.CLOCK_OK c) 0).raise (gatePage (c / 2)) 4).endTest c

theorem State.clockLoss_eq (hr : s.linkState c ≠ linkReady) :
    s.clockLoss c = (((s.clockLost c).toDown c).dropRiser c).peerReset [gatePage (c / 2)] := by
  simp [State.clockLoss, State.clockLost, hr]

theorem State.get_clockLost_off (hpba : a < 0xFF8000)
    (h : a < 0x100020 + 0x1000 * (c / 2) ∨ 0x100114 + 0x1000 * (c / 2) < a) :
    (s.clockLost c).get ⟨a, hi, lo⟩ = s.get ⟨a, hi, lo⟩ := by
  simp (disch := omega) only [State.clockLost, linkFields, pageAddrs, State.get_endTest_off, State.get_raise_off,
    State.get_put_off]

theorem State.clockLost_link : (s.clockLost c).link c = { s.link c with test := none } := by
  rw [State.clockLost, State.endTest_link, State.raise_link, State.put_link]

/-- The clock of a port that is not READY is lost (R38, R51, R103). -/
theorem State.registers_clockLoss (hc : c < 256) (hr : s.linkState c ≠ linkReady) (hf : s.portFenced c = false) :
    (s.clockLoss c).on (LNK.CLOCK_OK c) = false ∧ (s.clockLoss c).on (LNK.DLL_LOCK c) = false ∧
      (s.clockLoss c).linkState c = linkDown := by
  have hf' : (s.clockLost c).portFenced c = false := by
    rw [← hf]; exact State.portFenced_of_get fun _ _ _ ha => s.get_clockLost_off c (by omega) (by omega)
  have hdll := (s.clockLost c).dllLock_toDown c
  have hst := (s.clockLost c).linkState_toDown c hf'
  have hok : (s.clockLost c).on (LNK.CLOCK_OK c) = false := by
    simp (disch := omega) only [State.clockLost, State.on, linkFields, pageAddrs, State.get_endTest_off, State.get_raise_off,
      State.get_put_at]
    rfl
  rw [s.clockLoss_eq c hr]
  simp only [State.on, State.linkState, linkFields] at hdll hst hok ⊢
  simp (disch := omega) only [State.get_peerReset_off, State.get_dropRiser_off, hdll, hst, State.get_toDown_off, hok, and_self]

theorem State.link_clockLoss (hr : s.linkState c ≠ linkReady) :
    ((s.clockLoss c).link c).riser = [] ∧ ((s.clockLoss c).link c).used = 0 ∧ ((s.clockLoss c).link c).test = none := by
  rw [s.clockLoss_eq c hr, State.peerReset_link, State.dropRiser_link, State.toDown_link, State.clockLost_link]
  exact ⟨rfl, rfl, rfl⟩

theorem State.peerResets_clockLoss (hc : c < 256) (hr : s.linkState c ≠ linkReady) :
    (s.clockLoss c).get CLK.PEER_RESETS = (s.get CLK.PEER_RESETS + 1) % 2 ^ 32 := by
  rw [s.clockLoss_eq c hr, State.get_peerReset_count]
  simp (disch := omega) only [peerResetsField, State.get_dropRiser_off, State.get_toDown_off, State.get_clockLost_off]

/-! ### The DLL (R39, R50) -/

theorem State.dllLocked_eq (hd : s.linkState c = linkClock) (hp : s.get (GATE.PWR_STATE_STATE (c / 2)) ≠ 3) :
    s.dllLocked c = (s.put (LNK.DLL_LOCK c) 1).toAlign c := by
  simp [State.dllLocked, hd, hp]

theorem State.dllLock_dllLocked (hd : s.linkState c = linkClock) (hp : s.get (GATE.PWR_STATE_STATE (c / 2)) ≠ 3) :
    (s.dllLocked c).on (LNK.DLL_LOCK c) = true := by
  rw [s.dllLocked_eq c hd hp]
  simp (disch := omega) only [State.on, linkFields, State.get_toAlign_off, State.get_put_at]
  rfl

theorem State.linkState_dllLocked (hd : s.linkState c = linkClock) (hp : s.get (GATE.PWR_STATE_STATE (c / 2)) ≠ 3)
    (hf : s.portFenced c = false) : (s.dllLocked c).linkState c = linkAlign := by
  rw [s.dllLocked_eq c hd hp]
  refine State.linkState_toAlign _ c ?_
  rw [← hf]
  refine State.portFenced_of_get fun a hi lo ha => ?_
  simp (disch := omega) only [linkFields, State.get_put_off]

theorem State.deskewDone_dllLocked (hd : s.linkState c = linkClock) (hp : s.get (GATE.PWR_STATE_STATE (c / 2)) ≠ 3) :
    (s.dllLocked c).on (LNK.DESKEW_DONE c) = false := by
  rw [s.dllLocked_eq c hd hp, State.deskewDone_toAlign]

theorem State.alignState_dllLocked (hd : s.linkState c = linkClock) (hp : s.get (GATE.PWR_STATE_STATE (c / 2)) ≠ 3) {n : Nat}
    (hn : n ∈ s.portLanes c) : (s.dllLocked c).get (GATE.LANE_STATUS_ALIGN_STATE (c / 2) n) = 0 := by
  rw [s.dllLocked_eq c hd hp]
  refine State.get_toAlign_alignState _ c ?_
  simpa (disch := omega) only [State.portLanes, State.gateMode, linkFields, gateFields, State.get_put_off] using hn

/-! ### The burst timer (R49) -/

theorem State.on_put_burstWarn :
    (s.put (LNK.BURST_WARN c) 1).on (LNK.BURST_WARN_EN c) = s.on (LNK.BURST_WARN_EN c) := by
  simp (disch := omega) only [State.on, linkFields, State.get_put_off]

end

/-! ### The commands -/

theorem portNo_lt (g : Fin 128) (p : Fin 2) : portNo g p < 256 := by simp only [portNo]; omega

theorem State.when_true (s : State) {b : Bool} (f : State → State) (h : b = true) : s.when b f = f s := by
  simp only [State.when, h, if_true]

/-- Settles O16, by what a window, a missing clock and a DLL lock write and leave. -/
theorem linkClockCommandsComplete : Obligations.LinkClockCommandsComplete := by
  intro s g p c
  have hg : c / 2 = g := portNo_div g p
  have hc : c < 256 := portNo_lt g p
  refine ⟨fun count hrun hwin hfen => ?_, fun count hrun hwin hok => ?_, fun hrun hok hst hf => ?_, fun hlive hst hp hf => ?_,
    fun hrec hact hst => ?_, fun hlive htry => ?_⟩
  · rw [← hg] at hfen
    obtain ⟨hok, hcnt⟩ := s.clockOk_clockWindow c count hwin hfen hc count.isLt
    refine ⟨_, congrArg Host.Outcome.next (s.when_true _ hrun), hok, hcnt, fun hd hh hge hf => ?_⟩
    have hpres : s.portPresent c = true := by
      simp only [State.clockRuns, Bool.and_eq_true] at hrun; exact hrun.1.2
    exact s.linkState_clockWindow c count hwin hfen hpres hd hh (by rwa [hg]) hf
  · exact congrArg Host.Outcome.next ((s.when_true _ hrun).trans (s.clockWindow_refused c count hwin hok))
  · obtain ⟨hok', hdll, hdown⟩ := s.registers_clockLoss c hc hst hf
    obtain ⟨hris, hused, htest⟩ := s.link_clockLoss c hst
    exact ⟨_, congrArg Host.Outcome.next (s.when_true _ (by rw [Bool.and_eq_true]; exact ⟨hrun, hok⟩)), hok', hdll, hdown,
      hris, hused, htest, s.peerResets_clockLoss c hc hst⟩
  · rw [← hg] at hp ⊢
    exact ⟨_, congrArg Host.Outcome.next (s.when_true _ hlive), s.dllLock_dllLocked c hst hp, s.linkState_dllLocked c hst hp hf,
      s.deskewDone_dllLocked c hst hp, fun n hn => s.alignState_dllLocked c hst hp hn⟩
  · have hall : (s.receiving c && s.gateActive g && s.linkState c == linkReady) = true := by simp [hrec, hact, hst]
    refine congrArg Host.Outcome.next ((s.when_true _ hall).trans ?_)
    rw [← s.on_put_burstWarn c]
  · have hall : (s.portLive c && (s.link c).trying) = true := by simp [hlive, htry]
    exact congrArg Host.Outcome.next (s.when_true _ hall)

end Sys2Proof.Machine
end

section
/-!
PROOFS. The link commands of a gate and the lane-mask and rate writes they start (R52, R53, R104, R105; O19).
-/

namespace Sys2Proof.Machine

section

variable (s : State) (c : Nat) (p q : Purpose) {a hi lo : Nat}

/-! ### Writes that a command starts -/

theorem State.deviceWord_reqs (addr v : Nat) (h : s.portDown c = false) :
    ((s.deviceWord c p addr v).engine (c / 2)).reqs =
      (s.engine (c / 2)).reqs ++ [s.newReq c p 1 2 addr (s.diWord c v) 0 0] := by
  rw [s.deviceWord_up c p addr v h, State.enqueue_reqs]

theorem State.deviceWord_link (addr v x : Nat) (h : s.portDown c = false) : (s.deviceWord c p addr v).link x = s.link x := by
  rw [s.deviceWord_up c p addr v h, State.enqueue_link]

theorem State.get_deviceWord_off (addr v : Nat) (h : s.portDown c = false)
    (ha : a < 0x180148 + 0x1000 * (c / 2) + 0x40 * (c % 2) ∨ 0x180150 + 0x1000 * (c / 2) + 0x40 * (c % 2) < a) :
    (s.deviceWord c p addr v).get ⟨a, hi, lo⟩ = s.get ⟨a, hi, lo⟩ := by
  rw [s.deviceWord_up c p addr v h, State.get_enqueue_off _ _ _ _ _ _ _ _ _ (by omega) (by omega)]

theorem State.portDown_deviceWord (addr v : Nat) (h : s.portDown c = false) : (s.deviceWord c p addr v).portDown c = false := by
  rw [s.deviceWord_up c p addr v h, State.portDown_enqueue, h]

theorem State.diWord_deviceWord (addr v x : Nat) (h : s.portDown c = false) :
    (s.deviceWord c p addr v).diWord c x = s.diWord c x := by
  rw [s.deviceWord_up c p addr v h, State.diWord_enqueue]

/-- Two words written to the camera by one command. -/
theorem State.deviceWord_two (a1 v1 a2 v2 : Nat) (h : s.portDown c = false) :
    ∃ r1 r2 : Req, (((s.deviceWord c p a1 v1).deviceWord c q a2 v2).engine (c / 2)).reqs = (s.engine (c / 2)).reqs ++ [r1, r2] ∧
      r1.purpose = p ∧ r1.addr = a1 ∧ r1.data = s.diWord c v1 ∧ r2.purpose = q ∧ r2.addr = a2 ∧ r2.data = s.diWord c v2 := by
  rw [State.deviceWord_reqs _ c q a2 v2 (s.portDown_deviceWord c p a1 v1 h), State.deviceWord_reqs s c p a1 v1 h,
    s.diWord_deviceWord c p a1 v1 v2 h, List.append_assoc]
  exact ⟨_, _, rfl, rfl, rfl, rfl, rfl, rfl, rfl⟩

/-! ### An accepted command of a gate (R52, R414) -/

/-- A gate with a command accepted. -/
def State.accepted (g op : Nat) : State := (s.gateCommand g).accept (gatePage g) op

theorem State.get_accepted_off (g op : Nat) (hp : a ≠ 0x100064 + 0x1000 * g) (ho : a ≠ 0x100014 + 0x1000 * g) :
    (s.accepted g op).get ⟨a, hi, lo⟩ = s.get ⟨a, hi, lo⟩ := by
  simp (disch := omega) only [State.accepted, pageAddrs, State.get_accept_off, State.get_gateCommand_off]

theorem State.opcode_accepted (g op : Nat) :
    (s.accepted g op).get (HDR.CMD_STATUS_OPCODE (gatePage g)) = op % 256 :=
  State.get_accept_opcode ..

@[simp] theorem State.accepted_link (g op x : Nat) : (s.accepted g op).link x = s.link x := by
  rw [State.accepted, State.accept_link, State.gateCommand_link]

@[simp] theorem State.accepted_engine (g op x : Nat) : (s.accepted g op).engine x = s.engine x := by
  rw [State.accepted, State.accept_engine, State.gateCommand_engine]

theorem State.portFenced_accepted (g op : Nat) : (s.accepted g op).portFenced c = s.portFenced c :=
  State.portFenced_of_get fun _ _ _ ha => s.get_accepted_off g op (by omega) (by omega)

/-! ### LINK_TRAIN (R52, R104) -/

/-- LINK_TRAIN up to its writes: a port past the lock of its DLL that is not held trains from ALIGN. -/
def State.retrained : State :=
  if s.pastLock c && !(s.link c).heldDown then (s.toAlign c).setLink c { (s.toAlign c).link c with trying := true } else s

theorem State.get_retrained_off (hl : a ≠ 0x100108 + 0x1000 * (c / 2) + 4 * (c % 2))
    (hn : a < 0x100204 + 0x1000 * (c / 2) ∨ 0x100284 + 0x1000 * (c / 2) < a) :
    (s.retrained c).get ⟨a, hi, lo⟩ = s.get ⟨a, hi, lo⟩ := by
  unfold State.retrained
  split_ifs
  · rw [State.setLink_get, State.get_toAlign_off _ c (.inl hl) (by omega)]
  · rfl

theorem State.link_retrained :
    ((s.retrained c).link c).trainReq = (s.link c).trainReq ∧ ((s.retrained c).link c).mask = (s.link c).mask := by
  unfold State.retrained
  split_ifs
  · rw [State.link_setLink_same, State.toAlign_link]
    exact ⟨rfl, rfl⟩
  · exact ⟨rfl, rfl⟩

theorem State.retrained_engine (x : Nat) : (s.retrained c).engine x = s.engine x := by
  unfold State.retrained
  split_ifs
  · rw [State.setLink_engine, State.toAlign_engine]
  · rfl

/-- LINK_TRAIN before its writes. -/
def State.trainBegun : State :=
  let t := s.accepted (c / 2) 0x01
  (t.setLink c { t.link c with trainReq := true, mask := .restore }).retrained c

theorem State.linkTrainCmd_eq (h : s.linkRefusal c = none) :
    s.linkTrainCmd c = ((s.trainBegun c).deviceWord c .laneMask 0x14
      (fullMask ((s.trainBegun c).gateMode (c / 2)) (c % 2))).deviceWord c .trainOn 0x1C 0x10 := by
  unfold State.linkTrainCmd
  rw [h]
  rfl

theorem State.get_trainBegun_off (hl : a ≠ 0x100108 + 0x1000 * (c / 2) + 4 * (c % 2)) (hp : a ≠ 0x100064 + 0x1000 * (c / 2))
    (ho : a ≠ 0x100014 + 0x1000 * (c / 2)) (hn : a < 0x100204 + 0x1000 * (c / 2) ∨ 0x100284 + 0x1000 * (c / 2) < a) :
    (s.trainBegun c).get ⟨a, hi, lo⟩ = s.get ⟨a, hi, lo⟩ := by
  rw [State.trainBegun, State.get_retrained_off _ c hl hn, State.setLink_get, s.get_accepted_off _ _ hp ho]

theorem State.linkTrainCmd_accepted (h : s.linkRefusal c = none) (hd : s.portDown c = false) :
    ∃ r1 r2 : Req, ((s.linkTrainCmd c).link c).trainReq = true ∧ ((s.linkTrainCmd c).link c).mask = .restore ∧
      (s.linkTrainCmd c).get (HDR.CMD_STATUS_OPCODE (gatePage (c / 2))) = 0x01 ∧
      ((s.linkTrainCmd c).engine (c / 2)).reqs = (s.engine (c / 2)).reqs ++ [r1, r2] ∧ r1.purpose = .laneMask ∧ r1.addr = 0x14 ∧
      r1.data = s.diWord c (fullMask (s.gateMode (c / 2)) (c % 2)) ∧ r2.purpose = .trainOn ∧ r2.addr = 0x1C ∧
      r2.data = s.diWord c 0x10 := by
  have hd' : (s.trainBegun c).portDown c = false := by
    rw [← hd]
    exact State.portDown_of_get fun _ _ _ ha => s.get_trainBegun_off c (by omega) (by omega) (by omega) (by omega)
  have hmode : (s.trainBegun c).gateMode (c / 2) = s.gateMode (c / 2) := by
    simp (disch := omega) only [State.gateMode, gateFields, State.get_trainBegun_off]
  have hword (v : Nat) : (s.trainBegun c).diWord c v = s.diWord c v := by
    refine State.diWord_of_get v ?_
    simp (disch := omega) only [bridgeFields, State.get_trainBegun_off]
  have hreqs : ((s.trainBegun c).engine (c / 2)).reqs = (s.engine (c / 2)).reqs := by
    rw [State.trainBegun, State.retrained_engine, State.setLink_engine, State.accepted_engine]
  have hlink : ((s.trainBegun c).link c).trainReq = true ∧ ((s.trainBegun c).link c).mask = .restore := by
    obtain ⟨ht, hm⟩ := State.link_retrained _ c
    rw [State.trainBegun, ht, hm, State.link_setLink_same]
    exact ⟨rfl, rfl⟩
  have hop : (s.trainBegun c).get (HDR.CMD_STATUS_OPCODE (gatePage (c / 2))) = 0x01 := by
    have h1 := s.opcode_accepted (c / 2) 1
    simp only [headerFields, pageAddrs] at h1 ⊢
    rw [State.trainBegun, State.get_retrained_off _ c (by omega) (by omega), State.setLink_get, h1]
  rw [s.linkTrainCmd_eq c h]
  have hd2 := State.portDown_deviceWord _ c .laneMask 0x14 (fullMask ((s.trainBegun c).gateMode (c / 2)) (c % 2)) hd'
  obtain ⟨r1, r2, hr, hp1, ha1, hv1, hp2, ha2, hv2⟩ := State.deviceWord_two _ c .laneMask .trainOn 0x14
    (fullMask ((s.trainBegun c).gateMode (c / 2)) (c % 2)) 0x1C 0x10 hd'
  rw [State.deviceWord_link _ c _ _ _ _ hd2, State.deviceWord_link _ c _ _ _ _ hd']
  simp only [headerFields, pageAddrs] at hop ⊢
  rw [State.get_deviceWord_off _ c _ _ _ hd2 (by omega), State.get_deviceWord_off _ c _ _ _ hd' (by omega)]
  exact ⟨r1, r2, hlink.1, hlink.2, hop, by rw [hr, hreqs], hp1, ha1, by rw [hv1, hword, hmode], hp2, ha2, by rw [hv2, hword]⟩

/-! ### SET_RATE (R53) -/

/-- SET_RATE before its writes. -/
def State.rateBegun (code : Nat) : State :=
  let t := s.accepted (c / 2) 0x02
  t.setLink c { t.link c with newRates := (t.link c).newRates ++ [code], trainReq := true }

theorem State.setRateCmd_eq (code : Nat) (h : s.linkRefusal c = none) (h7 : code < 7)
    (hcap : code ≤ s.get (BRG.CAM_CAPS (c / 2) (c % 2)) / 16 % 16) :
    s.setRateCmd c code = ((s.rateBegun c code).deviceWord c (.linkRate code) 0x18 code).deviceWord c .trainOn 0x1C 0x10 := by
  have hok : (decide (7 ≤ code) || decide (s.get (BRG.CAM_CAPS (c / 2) (c % 2)) / 16 % 16 < code)) = false := by
    simp only [Bool.or_eq_false_iff, decide_eq_false_iff_not]; omega
  unfold State.setRateCmd
  rw [h]
  exact if_neg (Bool.eq_false_iff.mp hok)

theorem State.get_rateBegun_off (code : Nat) (hp : a ≠ 0x100064 + 0x1000 * (c / 2)) (ho : a ≠ 0x100014 + 0x1000 * (c / 2)) :
    (s.rateBegun c code).get ⟨a, hi, lo⟩ = s.get ⟨a, hi, lo⟩ := by
  rw [State.rateBegun, State.setLink_get, s.get_accepted_off _ _ hp ho]

theorem State.setRateCmd_accepted (code : Nat) (h : s.linkRefusal c = none) (h7 : code < 7)
    (hcap : code ≤ s.get (BRG.CAM_CAPS (c / 2) (c % 2)) / 16 % 16) (hd : s.portDown c = false) :
    ∃ r1 r2 : Req, ((s.setRateCmd c code).link c).newRates = (s.link c).newRates ++ [code] ∧
      ((s.setRateCmd c code).link c).trainReq = true ∧
      ((s.setRateCmd c code).engine (c / 2)).reqs = (s.engine (c / 2)).reqs ++ [r1, r2] ∧ r1.purpose = .linkRate code ∧
      r1.addr = 0x18 ∧ r1.data = s.diWord c code ∧ r2.purpose = .trainOn ∧ r2.addr = 0x1C ∧ r2.data = s.diWord c 0x10 := by
  have hd' : (s.rateBegun c code).portDown c = false := by
    rw [← hd]; exact State.portDown_of_get fun _ _ _ ha => s.get_rateBegun_off c code (by omega) (by omega)
  have hword (v : Nat) : (s.rateBegun c code).diWord c v = s.diWord c v := by
    refine State.diWord_of_get v ?_
    simp (disch := omega) only [bridgeFields, State.get_rateBegun_off]
  have hreqs : ((s.rateBegun c code).engine (c / 2)).reqs = (s.engine (c / 2)).reqs := by
    rw [State.rateBegun, State.setLink_engine, State.accepted_engine]
  have hlink : (s.rateBegun c code).link c = { s.link c with newRates := (s.link c).newRates ++ [code], trainReq := true } := by
    rw [State.rateBegun, State.link_setLink_same, State.accepted_link]
  have hd2 := State.portDown_deviceWord _ c (.linkRate code) 0x18 code hd'
  obtain ⟨r1, r2, hr, hp1, ha1, hv1, hp2, ha2, hv2⟩ :=
    State.deviceWord_two _ c (.linkRate code) .trainOn 0x18 code 0x1C 0x10 hd'
  rw [s.setRateCmd_eq c code h h7 hcap, State.deviceWord_link _ c _ _ _ _ hd2, State.deviceWord_link _ c _ _ _ _ hd', hlink]
  exact ⟨r1, r2, rfl, rfl, by rw [hr, hreqs], hp1, ha1, by rw [hv1, hword], hp2, ha2, by rw [hv2, hword]⟩

/-! ### The end of a write (R330, R331, R338) -/

theorem State.get_admitReads_off (ha : a < 0x180148 + 0x1000 * (c / 2) ∨ 0x180190 + 0x1000 * (c / 2) < a) :
    (s.admitReads c).get ⟨a, hi, lo⟩ = s.get ⟨a, hi, lo⟩ := by
  refine State.each_p (fun t => t.get ⟨a, hi, lo⟩) fun t key => ?_
  split
  · rfl
  · split_ifs
    · refine (State.each_p (fun t => t.get ⟨a, hi, lo⟩) fun u x => ?_).trans ?_
      · exact u.get_enqueue_off c _ _ _ _ _ _ _ (by omega) (by omega)
      · rw [State.onRead, State.setEngine_get]
    · rfl

theorem State.get_settleReads_off (g : Nat) (ha : a < 0x180148 + 0x1000 * g ∨ 0x180190 + 0x1000 * g < a) :
    (s.settleReads g).get ⟨a, hi, lo⟩ = s.get ⟨a, hi, lo⟩ := by
  have hmod : 2 * g / 2 = g ∧ (2 * g + 1) / 2 = g := by omega
  rw [State.settleReads, State.get_admitReads_off _ _ (by omega), State.get_admitReads_off _ _ (by omega)]
  refine (State.each_p (fun t => t.get ⟨a, hi, lo⟩) fun t r => ?_).trans ?_
  · exact State.emit_get ..
  · exact State.setEngine_get ..

theorem State.get_writeEnded_off (tag : Nat) (ha : a < 0x180148 + 0x1000 * (c / 2) ∨ 0x180190 + 0x1000 * (c / 2) < a) :
    (s.writeEnded c tag).get ⟨a, hi, lo⟩ = s.get ⟨a, hi, lo⟩ := by
  rw [State.writeEnded, State.get_settleReads_off _ _ ha, State.setEngine_get]

@[simp] theorem State.writeEnded_link (tag x : Nat) : (s.writeEnded c tag).link x = s.link x :=
  State.writeEnded_keeps (link_ignores x rfl) s c tag

theorem State.dropReq_get (r : Req) (f : Fld) : (s.dropReq r).get f = s.get f := State.setEngine_get ..

theorem State.dropReq_link (r : Req) (x : Nat) : (s.dropReq r).link x = s.link x := State.setEngine_link ..

/-- The end of a write leaves the registers of the gate's page as the outcome of the request sets them. -/
theorem State.get_completeWrite (r : Req) (ha : a < 0x180148 + 0x1000 * (r.port / 2) ∨ 0x180190 + 0x1000 * (r.port / 2) < a) :
    (s.completeWrite r).get ⟨a, hi, lo⟩ = ((s.dropReq r).ackOutcome r).get ⟨a, hi, lo⟩ := by
  unfold State.completeWrite
  split_ifs
  · exact State.get_writeEnded_off _ _ _ ha
  · rfl

theorem State.link_completeWrite (r : Req) (x : Nat) : (s.completeWrite r).link x = ((s.dropReq r).ackOutcome r).link x := by
  unfold State.completeWrite
  split_ifs
  · exact State.writeEnded_link ..
  · rfl

/-! ### SET_RATE_ACK (R53) -/

/-- The outcome of an acknowledged rate write. -/
def State.rateAcked (v : Nat) : State :=
  let t := ((s.put (LNK.RATE c) v).toDown c).put (LNK.CLOCK_OK c) 0
  t.setLink c { t.link c with newRates := (t.link c).newRates.erase v, trying := false }

theorem State.ackOutcome_linkRate {r : Req} {v : Nat} (h : r.purpose = .linkRate v) :
    s.ackOutcome r = s.rateAcked r.port v := by
  unfold State.ackOutcome
  rw [h]
  rfl

theorem State.registers_rateAcked (v : Nat) (hf : s.portFenced c = false) :
    (s.rateAcked c v).get (LNK.RATE c) = v % 16 ∧ (s.rateAcked c v).on (LNK.CLOCK_OK c) = false ∧
      (s.rateAcked c v).linkState c = linkDown := by
  have hf' : (s.put (LNK.RATE c) v).portFenced c = false := by
    rw [← hf]
    refine State.portFenced_of_get fun a hi lo ha => ?_
    simp (disch := omega) only [linkFields, State.get_put_off]
  have hst := State.linkState_toDown _ c hf'
  simp only [State.linkState, linkFields] at hst
  simp (disch := omega) only [State.rateAcked, State.on, State.linkState, linkFields, State.setLink_get, State.get_put_off,
    State.get_toDown_off, State.get_put_at, hst, and_true]
  exact ⟨rfl, rfl⟩

theorem State.newRates_rateAcked (v : Nat) : ((s.rateAcked c v).link c).newRates = (s.link c).newRates.erase v := by
  rw [State.rateAcked, State.link_setLink_same, State.put_link, State.toDown_link, State.put_link]

theorem State.port_of_outstandingRate {r : Req} (h : s.outstandingRate c = some r) : r.port = c := by
  have := List.find?_some h
  simp only [Bool.and_eq_true, beq_iff_eq] at this
  exact this.1.1

theorem State.port_of_outstandingFor {r : Req} (h : s.outstandingFor c p = some r) : r.port = c ∧ r.purpose = p := by
  have := List.find?_some h
  simp only [Bool.and_eq_true, beq_iff_eq] at this
  exact this.1

theorem State.completeWrite_linkRate {r : Req} {v : Nat} (hp : r.port = c) (hr : r.purpose = .linkRate v)
    (hf : s.portFenced c = false) :
    (s.completeWrite r).get (LNK.RATE c) = v % 16 ∧ (s.completeWrite r).on (LNK.CLOCK_OK c) = false ∧
      (s.completeWrite r).linkState c = linkDown ∧ ((s.completeWrite r).link c).newRates = (s.link c).newRates.erase v := by
  have hf' : (s.dropReq r).portFenced c = false := by
    rw [← hf]; exact State.portFenced_of_get fun _ _ _ _ => s.dropReq_get r _
  obtain ⟨hrate, hok, hst⟩ := (s.dropReq r).registers_rateAcked c v hf'
  have hnew := (s.dropReq r).newRates_rateAcked c v
  rw [← hp]
  rw [← hp] at hrate hok hst hnew
  rw [s.link_completeWrite, State.ackOutcome_linkRate _ hr, hnew, s.dropReq_link]
  simp only [State.on, State.linkState, linkFields, and_true] at hrate hok hst ⊢
  rw [s.get_completeWrite r (by omega), s.get_completeWrite r (by omega), s.get_completeWrite r (by omega),
    State.ackOutcome_linkRate _ hr]
  exact ⟨hrate, hok, hst⟩

/-! ### LINK_DOWN and LINK_UP (R52) -/

/-- LINK_DOWN before the port falls to DOWN. -/
def State.downBegun : State := (s.accepted (c / 2) 0x03).endTest c

theorem State.linkDownCmd_eq (hp : s.portPresent c = true) (he : s.portEnabled c = false) :
    s.linkDownCmd c = ((s.downBegun c).toDown c).setLink c { ((s.downBegun c).toDown c).link c with heldDown := true } := by
  unfold State.linkDownCmd
  rw [if_neg (by simp [hp]), if_neg (by simp [he])]
  rfl

theorem State.linkDownCmd_accepted (hp : s.portPresent c = true) (he : s.portEnabled c = false) (hf : s.portFenced c = false) :
    ((s.linkDownCmd c).link c).heldDown = true ∧ (s.linkDownCmd c).linkState c = linkDown ∧
      (s.linkDownCmd c).on (LNK.DLL_LOCK c) = false ∧ ((s.linkDownCmd c).link c).test = none := by
  have hf' : (s.downBegun c).portFenced c = false := by
    rw [← hf]
    refine State.portFenced_of_get fun a hi lo ha => ?_
    rw [State.downBegun, State.get_endTest_off _ c (by omega), s.get_accepted_off _ _ (by omega) (by omega)]
  have hst := (s.downBegun c).linkState_toDown c hf'
  have hdll := (s.downBegun c).dllLock_toDown c
  rw [s.linkDownCmd_eq c hp he, State.link_setLink_same, State.toDown_link, State.downBegun, State.endTest_link]
  exact ⟨rfl, hst, hdll, rfl⟩

theorem State.linkUpCmd_eq (hp : s.portPresent c = true) :
    s.linkUpCmd c =
      ((s.accepted (c / 2) 0x04).setLink c { (s.accepted (c / 2) 0x04).link c with heldDown := false }).leaveDown c := by
  unfold State.linkUpCmd
  rw [if_neg (by simp [hp])]
  rfl

theorem State.linkUpCmd_accepted (hp : s.portPresent c = true) (he : s.engineFenced (c / 2) = false) :
    ((s.linkUpCmd c).link c).heldDown = false ∧
      (s.linkUpCmd c).get (HDR.CMD_STATUS_OPCODE (gatePage (c / 2))) = 0x04 := by
  have he' : ((s.accepted (c / 2) 0x04).setLink c { (s.accepted (c / 2) 0x04).link c with heldDown := false }).engineFenced
      (c / 2) = false := by
    rw [← he]
    simp (disch := omega) only [State.engineFenced, State.on, pageAddrs, headerFields, State.setLink_get,
      State.get_accepted_off]
  have hop := s.opcode_accepted (c / 2) 4
  rw [s.linkUpCmd_eq c hp, State.heldDown_leaveDown _ c he', State.link_setLink_same]
  simp only [headerFields, pageAddrs, true_and] at hop ⊢
  rw [State.get_leaveDown_off _ c he' (by omega) (by omega), State.setLink_get, hop]

/-! ### CLEAR_COUNTERS (R52) -/

/-- The counters of a lane are cleared. -/
def State.clearLane (g n : Nat) : State :=
  let t := ((s.put (GATE.LANE_CODE_ERR g n) 0).put (GATE.LANE_DISP_ERR g n) 0).put (GATE.LANE_ALIGN_LOSS g n) 0
  (t.put (GATE.LANE_BURST g n) 0).put (GATE.LANE_PRBS_ERR g n) 0

/-- The counters of a lane all read 0. -/
def State.laneClear (g n : Nat) : Prop :=
  s.get (GATE.LANE_CODE_ERR g n) = 0 ∧ s.get (GATE.LANE_DISP_ERR g n) = 0 ∧ s.get (GATE.LANE_ALIGN_LOSS g n) = 0 ∧
    s.get (GATE.LANE_BURST g n) = 0 ∧ s.get (GATE.LANE_PRBS_ERR g n) = 0

theorem State.laneClear_clearLane (g n : Nat) : (s.clearLane g n).laneClear g n := by
  simp (disch := omega) only [State.laneClear, State.clearLane, laneFields, State.get_put_off, State.get_put_at, Nat.zero_mod,
    and_self]

theorem State.get_clearLane_off (g n : Nat) (ha : a < 0x10020C + 0x1000 * g + 0x20 * n ∨ 0x10021C + 0x1000 * g + 0x20 * n < a) :
    (s.clearLane g n).get ⟨a, hi, lo⟩ = s.get ⟨a, hi, lo⟩ := by
  simp (disch := omega) only [State.clearLane, laneFields, State.get_put_off]

theorem State.laneClear_of_clearLane {g n : Nat} (m : Nat) (h : s.laneClear g n) : (s.clearLane g m).laneClear g n := by
  by_cases hm : m = n
  · exact hm ▸ s.laneClear_clearLane g m
  · simp only [State.laneClear, laneFields] at h ⊢
    simpa (disch := omega) only [State.get_clearLane_off] using h

theorem State.clearCountersCmd_eq (g : Nat) : s.clearCountersCmd g =
    ((((((s.accepted g 0x05).each (List.range 5) (fun t n => t.clearLane g n)).put (GATE.DESKEW_ERR_A g) 0).put
      (GATE.DESKEW_ERR_B g) 0).put (GATE.RISER_HWM_HWM_A g) 0).put (GATE.RISER_HWM_HWM_B g) 0) := rfl

theorem State.laneClear_clearCounters (g : Nat) {n : Nat} (hn : n < 5) : (s.clearCountersCmd g).laneClear g n := by
  have hlanes : ((s.accepted g 0x05).each (List.range 5) (fun t m => t.clearLane g m)).laneClear g n :=
    State.each_mem (P := fun t => t.laneClear g n) _ (List.mem_range.mpr hn) (fun t => t.laneClear_clearLane g n)
      fun t m _ h => t.laneClear_of_clearLane m h
  rw [s.clearCountersCmd_eq]
  simp only [State.laneClear, laneFields] at hlanes ⊢
  simpa (disch := omega) only [gateFields, State.get_put_off] using hlanes

theorem State.portCounters_clearCounters (g : Nat) :
    (s.clearCountersCmd g).get (GATE.DESKEW_ERR_A g) = 0 ∧ (s.clearCountersCmd g).get (GATE.DESKEW_ERR_B g) = 0 ∧
      (s.clearCountersCmd g).get (GATE.RISER_HWM_HWM_A g) = 0 ∧ (s.clearCountersCmd g).get (GATE.RISER_HWM_HWM_B g) = 0 := by
  rw [s.clearCountersCmd_eq]
  simp (disch := omega) only [gateFields, State.get_put_off, State.get_put_at, Nat.zero_mod, and_self]

/-! ### The lane mask of a degraded port (R105) -/

/-- The outcome of the acknowledged lane-mask write of a degraded port. -/
def State.maskAcked (m : Nat) : State :=
  let t := ((s.put (LNK.MASK c) m).put (GATE.LANE_MASK_DEGRADED_A (c / 2)) 1).put (LNK.DESKEW_DONE c) 0
  (t.setLink c { t.link c with mask := .none }).raise (gatePage (c / 2)) 14

theorem State.ackOutcome_laneMask {r : Req} {m : Nat} (h : r.purpose = .laneMask) (hdue : s.maskDue r.port = true)
    (hm : (s.link r.port).mask = .degrade m) : s.ackOutcome r = s.maskAcked r.port m := by
  unfold State.ackOutcome
  simp only [h, hdue, hm, Bool.not_true, Bool.false_eq_true, if_false, State.maskAcked]

theorem State.registers_maskAcked (m : Nat) (hc : c < 256) :
    (s.maskAcked c m).get (LNK.MASK c) = m % 16 ∧ (s.maskAcked c m).on (GATE.LANE_MASK_DEGRADED_A (c / 2)) = true ∧
      (s.maskAcked c m).on (LNK.DESKEW_DONE c) = false ∧
      (s.maskAcked c m).bitAt (HDR.IRQ_STAT (gatePage (c / 2))) 14 = true := by
  have hw : 4 * (c % 2) + 3 + 1 - 4 * (c % 2) = 4 := by omega
  refine ⟨?_, ?_, ?_, State.bitAt_raise_same _ (by omega) (by simp only [pageAddrs]; omega)⟩ <;>
  simp (disch := omega) only [State.maskAcked, State.on, linkFields, gateFields, pageAddrs, State.get_raise_off,
    State.setLink_get, State.get_put_off, State.get_put_at, hw] <;>
  rfl

theorem State.completeWrite_laneMask {r : Req} {m : Nat} (hp : r.port = c) (hr : r.purpose = .laneMask)
    (hm : (s.link c).mask = .degrade m) (hdue : (s.dropReq r).maskDue c = true) (hc : c < 256) :
    (s.completeWrite r).get (LNK.MASK c) = m % 16 ∧ (s.completeWrite r).on (GATE.LANE_MASK_DEGRADED_A (c / 2)) = true ∧
      (s.completeWrite r).on (LNK.DESKEW_DONE c) = false ∧ ((s.completeWrite r).link c).mask = .none ∧
      (s.completeWrite r).bitAt (HDR.IRQ_STAT (gatePage (c / 2))) 14 = true := by
  subst hp
  have hm' : ((s.dropReq r).link r.port).mask = .degrade m := by rw [s.dropReq_link, hm]
  have hack := (s.dropReq r).ackOutcome_laneMask hr hdue hm'
  obtain ⟨hmask, hdeg, hdone, hirq⟩ := (s.dropReq r).registers_maskAcked r.port m hc
  have hnone : (((s.dropReq r).maskAcked r.port m).link r.port).mask = .none := by
    rw [State.maskAcked, State.raise_link, State.link_setLink_same]
  rw [← hack] at hmask hdeg hdone hirq hnone
  rw [s.link_completeWrite]
  simp only [State.on, State.bitAt, linkFields, gateFields, headerFields, pageAddrs] at hmask hdeg hdone hirq ⊢
  rw [s.get_completeWrite r (by omega), s.get_completeWrite r (by omega), s.get_completeWrite r (by omega),
    s.get_completeWrite r (by omega)]
  exact ⟨hmask, hdeg, hdone, hnone, hirq⟩

/-- The fence of a port past the time of its mask write (R105, R359). -/
theorem State.fenceLink_degraded (hf : s.portFenced c = false) (hc : c < 256) :
    (s.fenceLink c).portFenced c = true ∧ ((s.fenceLink c).link c).mask = .none ∧
      (s.fenceLink c).bitAt (HDR.IRQ_STAT (gatePage (c / 2))) 13 = true := by
  have hno : ¬ s.portFenced c = true := by simp [hf]
  rw [State.fenceLink, if_neg hno]
  refine ⟨?_, ?_, State.bitAt_raise_same _ (by omega) (by simp only [pageAddrs]; omega)⟩
  · rw [State.fencePort, if_neg hno]
    simp (disch := omega) only [State.portFenced, State.on, State.putB, headerFields, pageAddrs, camPage, State.get_raise_off,
      State.setLink_get, State.get_put_at]
    rfl
  · rw [State.fencePort, if_neg hno, State.raise_link, State.raise_link, State.raise_link, State.link_setLink_same]

end

/-- Settles O19, by what each accepted command writes at once, the requests it queues and the outcome of their
acknowledgement. -/
theorem linkCommandsComplete : Obligations.LinkCommandsComplete := by
  intro s g p c
  have hg : c / 2 = g := portNo_div g p
  have hp : c % 2 = p := portNo_mod g p
  have hc : c < 256 := portNo_lt g p
  refine ⟨fun hh hr hd => ?_, fun code hh hr hd h7 hcap => ?_, fun r v hrun ho hv hf => ?_, fun hh hpr he hf => ?_,
    fun hh hpr he => ?_, fun hh => ?_, fun r m hrun ho hm hdue => ?_, fun m hrun hm hf => ?_⟩
  · obtain ⟨r1, r2, h⟩ := s.linkTrainCmd_accepted c hr hd
    rw [hg, hp] at h
    exact ⟨_, r1, r2, congrArg Host.Outcome.next (s.when_true _ hh), h⟩
  · obtain ⟨r1, r2, h⟩ := s.setRateCmd_accepted c code hr h7 (by rwa [hg, hp]) hd
    rw [hg] at h
    exact ⟨_, r1, r2, congrArg Host.Outcome.next (s.when_true _ hh), h⟩
  · refine ⟨_, congrArg Host.Outcome.next (s.when_true _ hrun), ?_⟩
    rw [show s.outstandingRate (portNo g p) = some r from ho]
    exact s.completeWrite_linkRate c (s.port_of_outstandingRate c ho) hv hf
  · exact ⟨_, congrArg Host.Outcome.next (s.when_true _ hh), s.linkDownCmd_accepted c hpr he hf⟩
  · rw [← hg] at he ⊢
    exact ⟨_, congrArg Host.Outcome.next (s.when_true _ hh), s.linkUpCmd_accepted c hpr he⟩
  · exact ⟨_, congrArg Host.Outcome.next (s.when_true _ hh), fun n hn => s.laneClear_clearCounters g hn,
      s.portCounters_clearCounters g⟩
  · refine ⟨_, congrArg Host.Outcome.next (s.when_true _ hrun), ?_⟩
    rw [show s.outstandingFor (portNo g p) .laneMask = some r from ho]
    obtain ⟨hport, hpur⟩ := s.port_of_outstandingFor c .laneMask ho
    rw [← hg]
    exact s.completeWrite_laneMask c hport hpur hm hdue hc
  · have hf' : (s.setLink c { s.link c with mask := .none }).portFenced c = false :=
      (State.portFenced_of_get fun _ _ _ _ => State.setLink_get ..).trans hf
    refine ⟨(s.setLink c { s.link c with mask := .none }).fenceLink c,
      congrArg Host.Outcome.next ((s.when_true _ hrun).trans ?_), ?_⟩
    · rw [show (s.link (portNo g p)).mask = .degrade m from hm]
    · rw [← hg]
      exact State.fenceLink_degraded _ c hf' hc

end Sys2Proof.Machine
end

section
/-!
PROOFS. The aligners and the training bursts of the data lanes (R41, R46 to R51, R84, R104; O17).
-/

namespace Sys2Proof.Machine

/-! ### The port of a lane -/

theorem State.portOfLane_some {s : State} {g n c : Nat} (h : s.portOfLane g n = some c) : c / 2 = g ∧ n ∈ s.portLanes c := by
  unfold State.portOfLane at h
  have hdiv : 2 * g / 2 = g ∧ (2 * g + 1) / 2 = g ∧ 2 * g % 2 = 0 ∧ (2 * g + 1) % 2 = 1 := by omega
  obtain ⟨h0, h1, m0, m1⟩ := hdiv
  split_ifs at h with ha hb
  · cases h; simpa [State.portLanes, h0, m0] using ha
  · cases h; simpa [State.portLanes, h1, m1] using hb

theorem satAdd_eq_min (v n top : Nat) : satAdd v n top = min top (v + n) := by
  unfold satAdd
  split_ifs <;> omega

section

variable (s : State) (c n : Nat) {a hi lo : Nat}

/-! ### What the words and bursts of a lane write beside its aligner -/

theorem State.draw_get (f : Fld) : s.draw.2.get f = s.get f := State.draw_keeps (get_ignores f rfl) s

theorem State.get_adapt_off (g : Nat)
    (h : a ≠ 0x100208 + 0x1000 * g + 0x20 * n ∧
      (a ≠ 0x100204 + 0x1000 * g + 0x20 * n ∨ hi < 13 ∧ lo ≤ hi ∨ 20 < lo ∧ lo ≤ hi)) :
    (s.adapt g n).get ⟨a, hi, lo⟩ = s.get ⟨a, hi, lo⟩ := by
  simp (disch := omega) only [State.adapt, laneFields, State.get_put_off, State.draw_get]

@[simp] theorem State.adapt_link (g x : Nat) : (s.adapt g n).link x = s.link x := State.adapt_keeps (link_ignores x rfl) s g n

@[simp] theorem State.adapt_gate (g x : Nat) : (s.adapt g n).gate x = s.gate x := State.adapt_keeps (gate_ignores x rfl) s g n

@[simp] theorem State.adapt_engine (g x : Nat) : (s.adapt g n).engine x = s.engine x :=
  State.adapt_keeps (engine_ignores x rfl) s g n

theorem State.get_adaptAll_off
    (h : a ≠ 0x100208 + 0x1000 * (c / 2) + 0x20 * n ∧
      (a ≠ 0x100204 + 0x1000 * (c / 2) + 0x20 * n ∨ hi < 13 ∧ lo ≤ hi ∨ 20 < lo ∧ lo ≤ hi)) :
    (s.adaptAll c n).get ⟨a, hi, lo⟩ = s.get ⟨a, hi, lo⟩ := by
  unfold State.adaptAll
  split_ifs
  · exact s.get_adapt_off n (c / 2) h
  · rfl

@[simp] theorem State.adaptAll_link (x : Nat) : (s.adaptAll c n).link x = s.link x :=
  State.adaptAll_keeps (link_ignores x rfl) s c n

@[simp] theorem State.adaptAll_gate (x : Nat) : (s.adaptAll c n).gate x = s.gate x :=
  State.adaptAll_keeps (gate_ignores x rfl) s c n

/-- Without ADAPT_ALL a word leaves the receiver of its lane as it is. -/
theorem State.adaptAll_off (h : s.on (LNK.ADAPT_ALL c) = false) : s.adaptAll c n = s := by
  simp only [State.adaptAll, h, Bool.false_and, Bool.false_eq_true, if_false]

theorem State.get_strayWord_off (w : WordReport) (hc : c < 256) (h1 : a ≠ 0x8001B8 + 0x4000 * c)
    (h2 : a ≠ 0x100148 + 0x1000 * (c / 2)) (h3 : a ≠ 0x100020 + 0x1000 * (c / 2)) (h4 : a < 0xFF8000) :
    (s.strayWord c w).get ⟨a, hi, lo⟩ = s.get ⟨a, hi, lo⟩ := by
  simp only [State.strayWord]
  split_ifs <;>
  simp (disch := omega) only [State.slag, State.add, otherFields, linkFields, pageAddrs, State.get_raise_off, State.get_put_off]

/-! ### The aligner (R41) -/

/-- A lane of a port that receives takes its words to the aligner where the gate works on received words. -/
theorem State.takeWord_eq (w next : BitVec 40) (inside : Bool) (hr : s.receiving c = true) (hw : s.gateWorks (c / 2) = true) :
    s.takeWord c n w next inside =
      s.alignWord c n (s.lookAt (c / 2) n w next inside) (fun o => s.huntRd (c / 2) n o w next) := by
  simp only [State.receiving, Bool.and_eq_true, bne_iff_ne] at hr
  obtain ⟨⟨⟨hlive, hdll⟩, -⟩, hst⟩ := hr
  simp [State.takeWord, State.wordsOn, hlive, hdll, hw, hst]

variable (w : WordReport) (rd : Nat → Bool)

theorem State.alignWord_hunt {o : Nat} (h : s.get (GATE.LANE_STATUS_ALIGN_STATE (c / 2) n) = 0) (ho : w.comma = some o) :
    s.alignWord c n w rd = ((s.put (GATE.LANE_STATUS_BIT_OFFSET (c / 2) n) o).put
      (GATE.LANE_STATUS_ALIGN_STATE (c / 2) n) 1).onLane (c / 2) n
        (fun x => { x with commaCount := 1, rd := some (rd o) }) := by
  simp only [State.alignWord, h, if_true, ho]

theorem State.alignWord_checkError (h : s.get (GATE.LANE_STATUS_ALIGN_STATE (c / 2) n) = 1) (he : w.codeErr + w.dispErr ≠ 0) :
    s.alignWord c n w rd = (s.put (GATE.LANE_STATUS_ALIGN_STATE (c / 2) n) 0).onLane (c / 2) n
      (fun x => { x with commaCount := 0, rd := none }) := by
  unfold State.alignWord
  simp only [h, Nat.one_ne_zero, if_false, if_true]
  exact if_pos he

theorem State.alignWord_noComma (h : s.get (GATE.LANE_STATUS_ALIGN_STATE (c / 2) n) = 1) (h1 : w.codeErr = 0)
    (h2 : w.dispErr = 0) (hh : w.here = false) : s.alignWord c n w rd = s.onLane (c / 2) n (fun x => { x with rd := some w.rd }) := by
  simp [State.alignWord, h, h1, h2, hh]

theorem State.alignWord_comma (h : s.get (GATE.LANE_STATUS_ALIGN_STATE (c / 2) n) = 1) (h1 : w.codeErr = 0) (h2 : w.dispErr = 0) (hh : w.here = true) (hk : (s.lane (c / 2) n).commaCount < 3) :
    s.alignWord c n w rd = s.onLane (c / 2) n
      (fun x => { x with commaCount := (s.lane (c / 2) n).commaCount + 1, rd := some w.rd }) := by
  have hk' : (s.lane (c / 2) n).commaCount + 1 < 4 := by omega
  simp [State.alignWord, h, h1, h2, hh, hk']

theorem State.get_alignDone_off (h : a ≠ 0x100108 + 0x1000 * (c / 2) + 4 * (c % 2)) :
    (s.alignDone c).get ⟨a, hi, lo⟩ = s.get ⟨a, hi, lo⟩ := by
  unfold State.alignDone
  split_ifs
  · refine (State.each_p (fun t => t.get ⟨a, hi, lo⟩) fun t m => ?_).trans (s.get_setLinkState_off c linkTrain (.inl h))
    exact State.onLane_get ..
  · rfl

theorem State.alignWord_aligned (h : s.get (GATE.LANE_STATUS_ALIGN_STATE (c / 2) n) = 1) (h1 : w.codeErr = 0)
    (h2 : w.dispErr = 0) (hh : w.here = true) (hk : 3 ≤ (s.lane (c / 2) n).commaCount) :
    (s.alignWord c n w rd).get (GATE.LANE_STATUS_ALIGN_STATE (c / 2) n) = 2 := by
  have hk' : ¬ (s.lane (c / 2) n).commaCount + 1 < 4 := by omega
  simp only [State.alignWord, h, h1, h2, hh, hk', Nat.one_ne_zero, if_false, if_true, Nat.add_zero, ne_eq, not_true_eq_false]
  simp (disch := omega) only [laneFields, State.get_alignDone_off, State.onLane_get, State.get_put_at]
  rfl

end

/-! ### An aligned lane (R41, R51, R104) -/

section

variable (s : State) (c n : Nat) (w : WordReport) {a hi lo : Nat}

/-- The code errors of the last 16 words of a lane with the word it sees now, newest first. -/
def State.errWindow : List Nat := ((w.codeErr + w.dispErr) :: (s.lane (c / 2) n).errHist).take 16

/-- A word counted and kept by an aligned lane. -/
def State.wordCounted : State :=
  ((s.addSat (GATE.LANE_CODE_ERR (c / 2) n) w.codeErr).addSat (GATE.LANE_DISP_ERR (c / 2) n) w.dispErr).onLane (c / 2) n
    (fun x => { x with errHist := (s.errWindow c n w).take 15, rd := some w.rd })

/-- A word that an aligned lane has taken in: counted, adapted to, and looked at outside packets in READY. -/
def State.wordTaken : State :=
  if s.linkState c == linkReady then ((s.wordCounted c n w).adaptAll c n).strayWord c w else (s.wordCounted c n w).adaptAll c n

theorem State.alignWord_aligned_eq (rd : Nat → Bool) (h : 2 ≤ s.get (GATE.LANE_STATUS_ALIGN_STATE (c / 2) n)) :
    s.alignWord c n w rd = if 4 ≤ (s.errWindow c n w).sum then (s.wordTaken c n w).alignLoss c n else s.wordTaken c n w := by
  unfold State.alignWord
  rw [if_neg (by omega), if_neg (by omega)]
  rfl

theorem State.alignWord_few (rd : Nat → Bool) (h : 2 ≤ s.get (GATE.LANE_STATUS_ALIGN_STATE (c / 2) n))
    (hsum : (s.errWindow c n w).sum < 4) : s.alignWord c n w rd = s.wordTaken c n w := by
  rw [s.alignWord_aligned_eq c n w rd h, if_neg (Nat.not_le.mpr hsum)]

theorem State.alignWord_many (rd : Nat → Bool) (h : 2 ≤ s.get (GATE.LANE_STATUS_ALIGN_STATE (c / 2) n))
    (hsum : 4 ≤ (s.errWindow c n w).sum) : s.alignWord c n w rd = (s.wordTaken c n w).alignLoss c n := by
  rw [s.alignWord_aligned_eq c n w rd h, if_pos hsum]

theorem State.get_wordCounted_off
    (h : a ≠ 0x10020C + 0x1000 * (c / 2) + 0x20 * n ∧ a ≠ 0x100210 + 0x1000 * (c / 2) + 0x20 * n) :
    (s.wordCounted c n w).get ⟨a, hi, lo⟩ = s.get ⟨a, hi, lo⟩ := by
  simp (disch := omega) only [State.wordCounted, State.addSat, laneFields, State.onLane_get, State.get_put_off]

/-- A word without enough errors, on a lane that does not adapt and outside READY, is only counted. -/
theorem State.wordTaken_quiet (hr : s.linkState c ≠ linkReady) (ha : s.on (LNK.ADAPT_ALL c) = false) :
    s.wordTaken c n w = s.wordCounted c n w := by
  have ha' : (s.wordCounted c n w).on (LNK.ADAPT_ALL c) = false := by
    rw [← ha]
    simp (disch := omega) only [State.on, linkFields, State.get_wordCounted_off]
  simp only [State.wordTaken, beq_eq_false_iff_ne.mpr hr, Bool.false_eq_true, if_false, State.adaptAll_off _ _ _ ha']

theorem State.get_wordTaken_off (hc : c < 256)
    (h1 : a ≠ 0x10020C + 0x1000 * (c / 2) + 0x20 * n ∧ a ≠ 0x100210 + 0x1000 * (c / 2) + 0x20 * n)
    (h2 : a ≠ 0x100208 + 0x1000 * (c / 2) + 0x20 * n ∧
      (a ≠ 0x100204 + 0x1000 * (c / 2) + 0x20 * n ∨ hi < 13 ∧ lo ≤ hi ∨ 20 < lo ∧ lo ≤ hi))
    (h3 : a ≠ 0x8001B8 + 0x4000 * c ∧ a ≠ 0x100148 + 0x1000 * (c / 2) ∧ a ≠ 0x100020 + 0x1000 * (c / 2) ∧ a < 0xFF8000) :
    (s.wordTaken c n w).get ⟨a, hi, lo⟩ = s.get ⟨a, hi, lo⟩ := by
  obtain ⟨h3, h4, h5, h6⟩ := h3
  have hadapt : ((s.wordCounted c n w).adaptAll c n).get ⟨a, hi, lo⟩ = s.get ⟨a, hi, lo⟩ := by
    rw [State.get_adaptAll_off _ c n h2, s.get_wordCounted_off c n w h1]
  unfold State.wordTaken
  split_ifs
  · rw [State.get_strayWord_off _ c w hc h3 h4 h5 h6, hadapt]
  · exact hadapt

/-- A lane that has lost its alignment, before its port reacts. -/
def State.alignLost : State :=
  (((s.put (GATE.LANE_STATUS_ALIGN_STATE (c / 2) n) 0).onLane (c / 2) n
    (fun x => { x with commaCount := 0, errHist := [], displaced := 0, dropNow := 0, rd := none })).addSat
    (GATE.LANE_ALIGN_LOSS (c / 2) n) 1).raise (gatePage (c / 2)) 3

/-- How the port of a lane reacts to the loss of its alignment: it fences in READY, and goes back to ALIGN before. -/
theorem State.alignLoss_eq : s.alignLoss c n =
    if !(s.lanesOf c).contains n then s.alignLost c n
    else if s.linkState c == linkReady then (s.alignLost c n).occur .gate (c / 2) (7 + c % 2) n true
    else if s.linkState c == linkAlign || s.linkState c == linkTrain then (s.alignLost c n).toAlign c
    else s.alignLost c n := rfl

theorem State.get_alignLost_off (hn : n < 5) (hs : a ≠ 0x100204 + 0x1000 * (c / 2) + 0x20 * n ∨ 1 < lo ∧ lo ≤ hi)
    (hl : a ≠ 0x100214 + 0x1000 * (c / 2) + 0x20 * n) (hi' : a ≠ 0x100020 + 0x1000 * (c / 2)) (ha : a < 0xFF8000) :
    (s.alignLost c n).get ⟨a, hi, lo⟩ = s.get ⟨a, hi, lo⟩ := by
  simp (disch := omega) only [State.alignLost, State.addSat, laneFields, pageAddrs, State.get_raise_off, State.onLane_get,
    State.get_put_off]

theorem State.registers_alignLost (hc : c < 256) (hn : n < 5) :
    (s.alignLost c n).get (GATE.LANE_STATUS_ALIGN_STATE (c / 2) n) = 0 ∧
      (s.alignLost c n).get (GATE.LANE_ALIGN_LOSS (c / 2) n) =
        min (GATE.LANE_ALIGN_LOSS (c / 2) n).top (s.get (GATE.LANE_ALIGN_LOSS (c / 2) n) + 1) ∧
      (s.alignLost c n).bitAt (HDR.IRQ_STAT (gatePage (c / 2))) 3 = true := by
  have hmin (v : Nat) : min (2 ^ 32 - 1) (v + 1) % 2 ^ 32 = min (2 ^ 32 - 1) (v + 1) := Nat.mod_eq_of_lt (by omega)
  refine ⟨?_, ?_, State.bitAt_raise_same _ (by omega) (by simp only [pageAddrs]; omega)⟩
  · simp (disch := omega) only [State.alignLost, State.addSat, laneFields, pageAddrs, State.get_raise_off, State.onLane_get,
      State.get_put_off, State.get_put_at]
    rfl
  · simp (disch := omega) only [State.alignLost, State.addSat, laneFields, pageAddrs, State.get_raise_off, State.onLane_get,
      State.get_put_off, State.get_put_at, satAdd_eq_min, Fld.top]
    exact hmin _

end

/-! ### How the port reacts -/

theorem State.lanesOf_of_get {s t : State} {c : Nat}
    (h : ∀ a hi lo, a = 0x100160 + 0x1000 * (c / 2) ∨ a = 0x100124 + 0x1000 * (c / 2) → t.get ⟨a, hi, lo⟩ = s.get ⟨a, hi, lo⟩) :
    t.lanesOf c = s.lanesOf c := by
  simp only [State.lanesOf, State.gateMode, gateFields, linkFields]
  rw [h _ _ _ (.inl rfl), h _ _ _ (.inr rfl)]

theorem State.portLanes_of_get {s t : State} {c : Nat}
    (h : ∀ a hi lo, a = 0x100160 + 0x1000 * (c / 2) → t.get ⟨a, hi, lo⟩ = s.get ⟨a, hi, lo⟩) :
    t.portLanes c = s.portLanes c := by
  simp only [State.portLanes, State.gateMode, gateFields]
  rw [h _ _ _ rfl]

section

variable (s : State) (c n : Nat) {a hi lo : Nat}

/-- Outside READY a lane that loses its alignment hunts, and the loss is counted and reported. -/
theorem State.registers_alignLoss (hc : c < 256) (hn : n ∈ s.portLanes c) (hr : s.linkState c ≠ linkReady) :
    (s.alignLoss c n).get (GATE.LANE_STATUS_ALIGN_STATE (c / 2) n) = 0 ∧
      (s.alignLoss c n).get (GATE.LANE_ALIGN_LOSS (c / 2) n) =
        min (GATE.LANE_ALIGN_LOSS (c / 2) n).top (s.get (GATE.LANE_ALIGN_LOSS (c / 2) n) + 1) ∧
      (s.alignLoss c n).bitAt (HDR.IRQ_STAT (gatePage (c / 2))) 3 = true := by
  have hn5 : n < 5 := by have := dataLanes_bounds hn; omega
  obtain ⟨hst, hloss, hirq⟩ := s.registers_alignLost c n hc hn5
  have hhunt : ((s.alignLost c n).toAlign c).get (GATE.LANE_STATUS_ALIGN_STATE (c / 2) n) = 0 := by
    refine State.get_toAlign_alignState _ c ?_
    rwa [State.portLanes_of_get fun a hi lo ha => s.get_alignLost_off c n hn5 (by omega) (by omega) (by omega) (by omega)]
  rw [s.alignLoss_eq c n]
  split_ifs with h1 h2 h3
  · exact ⟨hst, hloss, hirq⟩
  · exact absurd (by simpa using h2) hr
  · refine ⟨hhunt, ?_, ?_⟩
    · rw [← hloss]
      simp (disch := omega) only [laneFields, State.get_toAlign_off]
    · rw [← hirq]
      simp (disch := omega) only [State.bitAt, headerFields, pageAddrs, State.get_toAlign_off]
  · exact ⟨hst, hloss, hirq⟩

/-- A port in ALIGN or TRAIN goes to ALIGN when one of its lanes loses its alignment. -/
theorem State.linkState_alignLoss (hc : c < 256) (hn : n < 5) (hm : n ∈ s.lanesOf c)
    (hs : s.linkState c = linkAlign ∨ s.linkState c = linkTrain) (hf : s.portFenced c = false) :
    (s.alignLoss c n).linkState c = linkAlign := by
  have hr : ¬ (s.linkState c == linkReady) = true := by rcases hs with h | h <;> rw [h] <;> decide
  have hs' : (s.linkState c == linkAlign || s.linkState c == linkTrain) = true := by simpa using hs
  rw [s.alignLoss_eq c n, if_neg (by simpa using hm), if_neg hr, if_pos hs']
  refine State.linkState_toAlign _ c ?_
  rw [← hf]
  exact State.portFenced_of_get fun a hi lo ha => s.get_alignLost_off c n hn (by omega) (by omega) (by omega) (by omega)

/-- A READY port is fenced by the fault site of its lanes. -/
theorem State.alignLoss_ready (hm : n ∈ s.lanesOf c) (hr : s.linkState c = linkReady) :
    s.alignLoss c n = (s.alignLost c n).occur .gate (c / 2) (7 + c % 2) n true := by
  rw [s.alignLoss_eq c n, if_neg (by simpa using hm), if_pos (by simpa using hr)]

variable (w : WordReport)

theorem State.linkState_wordTaken (hc : c < 256) (hn : n < 5) : (s.wordTaken c n w).linkState c = s.linkState c := by
  simp only [State.linkState, linkFields]
  exact s.get_wordTaken_off c n w hc (by omega) (by omega) (by omega)

theorem State.alignLossCount_wordTaken (hc : c < 256) (hn : n < 5) :
    (s.wordTaken c n w).get (GATE.LANE_ALIGN_LOSS (c / 2) n) = s.get (GATE.LANE_ALIGN_LOSS (c / 2) n) := by
  simp only [laneFields]
  exact s.get_wordTaken_off c n w hc (by omega) (by omega) (by omega)

theorem State.lanesOf_wordTaken (hc : c < 256) (hn : n < 5) : (s.wordTaken c n w).lanesOf c = s.lanesOf c :=
  State.lanesOf_of_get fun _ _ _ ha => s.get_wordTaken_off c n w hc (by omega) (by omega) (by omega)

theorem State.portLanes_wordTaken (hc : c < 256) : (s.wordTaken c n w).portLanes c = s.portLanes c :=
  State.portLanes_of_get fun _ _ _ ha => s.get_wordTaken_off c n w hc (by omega) (by omega) (by omega)

theorem State.portFenced_wordTaken (hc : c < 256) : (s.wordTaken c n w).portFenced c = s.portFenced c :=
  State.portFenced_of_get fun _ _ _ ha => s.get_wordTaken_off c n w hc (by omega) (by omega) (by omega)

end

/-! ### Training bursts (R46 to R50, R84) -/

section

variable (s : State) (c n : Nat) (bytes : List Byte) {a hi lo : Nat}

/-- What a lane holds after a burst, without errors or not. -/
def LaneSt.afterBurst (x : LaneSt) (good : Bool) : LaneSt :=
  { x with bursts := x.bursts + 1, goodRun := if good then x.goodRun + 1 else 0, rd := none }

/-- A burst counted, before the burst timer and the training of the port. -/
def State.burstCounted (good : Bool) : State :=
  let t := s.addSat (GATE.LANE_BURST_BURST_CNT (c / 2) n) 1
  ((if good then t else t.addSat (GATE.LANE_BURST_BURST_ERR (c / 2) n) 1).adapt (c / 2) n).onLane (c / 2) n
    (fun x => x.afterBurst good)

theorem State.burst_eq (ha : s.get (GATE.LANE_STATUS_ALIGN_STATE (c / 2) n) = 2) (hg : s.gateActive (c / 2) = true) :
    s.burst c n bytes = ((s.burstCounted c n (decide (bytes = burstBytes 254 0x7F))).burstTimer c n).trainDone c := by
  unfold State.burst
  rw [if_neg (by simp [ha, hg])]
  rfl

theorem State.get_burstCounted_off (good : Bool) (h : a ≠ 0x100218 + 0x1000 * (c / 2) + 0x20 * n)
    (h2 : a ≠ 0x100208 + 0x1000 * (c / 2) + 0x20 * n ∧ a ≠ 0x100204 + 0x1000 * (c / 2) + 0x20 * n) :
    (s.burstCounted c n good).get ⟨a, hi, lo⟩ = s.get ⟨a, hi, lo⟩ := by
  cases good <;>
  simp (disch := omega) only [State.burstCounted, State.addSat, laneFields, State.onLane_get, State.get_adapt_off,
    State.get_put_off, Bool.false_eq_true, if_true, if_false]

theorem State.registers_burstCounted (good : Bool) :
    (s.burstCounted c n good).get (GATE.LANE_BURST_BURST_CNT (c / 2) n) =
        min 65535 (s.get (GATE.LANE_BURST_BURST_CNT (c / 2) n) + 1) ∧
      (s.burstCounted c n good).get (GATE.LANE_BURST_BURST_ERR (c / 2) n) =
        if good then s.get (GATE.LANE_BURST_BURST_ERR (c / 2) n)
        else min 65535 (s.get (GATE.LANE_BURST_BURST_ERR (c / 2) n) + 1) := by
  have hmin (v : Nat) : min 65535 (v + 1) % 65536 = min 65535 (v + 1) := Nat.mod_eq_of_lt (by omega)
  cases good <;>
  simp (disch := omega) only [State.burstCounted, State.addSat, laneFields, State.onLane_get, State.get_adapt_off,
    State.get_put_off, State.get_put_at, satAdd_eq_min, Fld.top, Bool.false_eq_true, if_true, if_false, Nat.reduceAdd,
    Nat.reduceSub, Nat.reducePow, hmin, and_self]

theorem State.get_burstTimer_off (h : a ≠ 0x100108 + 0x1000 * (c / 2) + 4 * (c % 2) ∨ lo ≤ hi ∧ hi < 11) :
    (s.burstTimer c n).get ⟨a, hi, lo⟩ = s.get ⟨a, hi, lo⟩ := by
  simp only [State.burstTimer]
  split_ifs
  · simp only [linkFields]
    rw [State.get_put_off _ _ (by omega)]
    exact State.each_p (fun t => t.get ⟨a, hi, lo⟩) fun t m => State.onLane_get ..
  · exact State.onLane_get ..

/-- Outside TRAIN a burst is only counted. -/
theorem State.trainDone_idle (h : s.linkState c ≠ linkTrain) : s.trainDone c = s := by
  simp only [State.trainDone, beq_eq_false_iff_ne.mpr h, Bool.false_and, Bool.false_eq_true, if_false]

theorem State.registers_burst (ha : s.get (GATE.LANE_STATUS_ALIGN_STATE (c / 2) n) = 2) (hg : s.gateActive (c / 2) = true)
    (hs : s.linkState c ≠ linkTrain) (hn : n < 5) :
    (s.burst c n bytes).get (GATE.LANE_BURST_BURST_CNT (c / 2) n) =
        min 65535 (s.get (GATE.LANE_BURST_BURST_CNT (c / 2) n) + 1) ∧
      (s.burst c n bytes).get (GATE.LANE_BURST_BURST_ERR (c / 2) n) =
        if bytes = burstBytes 254 0x7F then s.get (GATE.LANE_BURST_BURST_ERR (c / 2) n)
        else min 65535 (s.get (GATE.LANE_BURST_BURST_ERR (c / 2) n) + 1) := by
  have hs' : ((s.burstCounted c n (decide (bytes = burstBytes 254 0x7F))).burstTimer c n).linkState c ≠ linkTrain := by
    simpa (disch := omega) only [State.linkState, linkFields, State.get_burstTimer_off, State.get_burstCounted_off] using hs
  obtain ⟨hcnt, herr⟩ := s.registers_burstCounted c n (decide (bytes = burstBytes 254 0x7F))
  rw [s.burst_eq c n bytes ha hg, State.trainDone_idle _ c hs']
  simp only [laneFields, decide_eq_true_eq] at hcnt herr ⊢
  rw [State.get_burstTimer_off _ c n (by omega), State.get_burstTimer_off _ c n (by omega), hcnt, herr]
  exact ⟨rfl, rfl⟩

end

/-! ### Training done (R50) -/

theorem modifyAt_of_le {α : Type} (l : List α) {i : Nat} (f : α → α) (h : l.length ≤ i) : modifyAt l i f = l := by
  induction l generalizing i with
  | nil => rfl
  | cons x l ih =>
    cases i with
    | zero => simp at h
    | succ i => simpa [modifyAt] using ih (by simpa using h)

/-- What a change of lanes leaves of each lane, every lane keeps. -/
theorem State.lane_onLane_keeps {β : Type} (s : State) (g n m : Nat) {f : LaneSt → LaneSt} {q : LaneSt → β}
    (hq : ∀ x, q (f x) = q x) : q ((s.onLane g n f).lane g m) = q (s.lane g m) := by
  by_cases hm : m = n
  · subst hm
    by_cases hl : m < (s.gate g).lanes.length
    · rw [s.lane_onLane_same g m f hl, hq]
    · simp only [State.lane, State.onLane, State.gate_setGate_same, modifyAt_of_le _ f (Nat.le_of_not_lt hl)]
  · rw [s.lane_onLane_ne g f hm]

section

variable (s : State) (c n m : Nat)

/-- The training of a lane: its bursts, and its run of good ones. -/
def LaneSt.training (x : LaneSt) : Nat × Nat := (x.bursts, x.goodRun)

theorem LaneSt.trained {x : LaneSt} (h : 16 ≤ x.training.1 ∧ 2 ≤ x.training.2) :
    (decide (16 ≤ x.bursts) && decide (2 ≤ x.goodRun)) = true := by
  simpa [LaneSt.training] using h

theorem State.training_burstTimer : ((s.burstTimer c n).lane (c / 2) m).training = (s.lane (c / 2) m).training := by
  have hseen (b : Bool) (x : LaneSt) : LaneSt.training { x with burstSeen := b } = x.training := rfl
  have h1 := s.lane_onLane_keeps (c / 2) n m (hseen true)
  simp only [State.burstTimer]
  split_ifs
  · rw [← h1]
    refine State.each_p (fun t => (t.lane (c / 2) m).training) fun t k => ?_
    exact t.lane_onLane_keeps (c / 2) k m (hseen false)
  · exact h1

theorem State.gate_burstCounted (good : Bool) : ∃ t : State, t.gate (c / 2) = s.gate (c / 2) ∧
    s.burstCounted c n good = t.onLane (c / 2) n (fun x => x.afterBurst good) := by
  refine ⟨_, ?_, rfl⟩
  rw [State.adapt_gate]
  cases good
  · exact (State.addSat_gate ..).trans (State.addSat_gate ..)
  · exact State.addSat_gate ..

/-- The lanes after a good burst on lane n. -/
theorem State.training_burstCounted (hn : 15 ≤ (s.lane (c / 2) n).bursts) (hg : 1 ≤ (s.lane (c / 2) n).goodRun)
    (hm : m ≠ n → 16 ≤ (s.lane (c / 2) m).bursts ∧ 2 ≤ (s.lane (c / 2) m).goodRun) :
    16 ≤ ((s.burstCounted c n true).lane (c / 2) m).training.1 ∧ 2 ≤ ((s.burstCounted c n true).lane (c / 2) m).training.2 := by
  obtain ⟨t, ht, he⟩ := s.gate_burstCounted c n true
  have hlane (k : Nat) : t.lane (c / 2) k = s.lane (c / 2) k := State.lane_of_gate_eq k ht
  have hl : n < (t.gate (c / 2)).lanes.length := by
    by_contra hlt
    have hd : s.lane (c / 2) n = {} := by
      rw [← hlane, State.lane, List.getD_eq_default _ _ (Nat.le_of_not_lt hlt)]
    rw [hd] at hn
    exact absurd hn (by decide)
  rw [he]
  by_cases h : m = n
  · subst h
    rw [t.lane_onLane_same _ _ _ hl, hlane]
    simp only [LaneSt.training, LaneSt.afterBurst, if_true]
    omega
  · rw [t.lane_onLane_ne _ _ h, hlane]
    exact hm h

@[simp] theorem State.burstTimer_link (x : Nat) : (s.burstTimer c n).link x = s.link x :=
  State.burstTimer_keeps (link_ignores x rfl) s c n

@[simp] theorem State.burstTimer_engine (x : Nat) : (s.burstTimer c n).engine x = s.engine x :=
  State.burstTimer_keeps (engine_ignores x rfl) s c n

@[simp] theorem State.burstCounted_link (good : Bool) (x : Nat) : (s.burstCounted c n good).link x = s.link x := by
  cases good <;> simp [State.burstCounted]

@[simp] theorem State.burstCounted_engine (good : Bool) (x : Nat) : (s.burstCounted c n good).engine x = s.engine x := by
  cases good <;> simp [State.burstCounted]

/-- READY before TRAIN_REQ = 0 is written. -/
def State.readyBegun : State :=
  let t := (s.setLinkState c linkReady).raise (gatePage (c / 2)) (c % 2)
  t.setLink c { t.link c with trying := false, trainReq := false }

theorem State.get_readyBegun_off {a hi lo : Nat} (h1 : a ≠ 0x100108 + 0x1000 * (c / 2) + 4 * (c % 2))
    (h2 : a ≠ 0x100020 + 0x1000 * (c / 2)) (h3 : a < 0xFF8000) : (s.readyBegun c).get ⟨a, hi, lo⟩ = s.get ⟨a, hi, lo⟩ := by
  simp (disch := omega) only [State.readyBegun, pageAddrs, State.setLink_get, State.get_raise_off, State.get_setLinkState_off]

theorem State.readyBegun_link : (s.readyBegun c).link c = { s.link c with trying := false, trainReq := false } := by
  simp only [State.readyBegun, State.link_setLink_same, State.raise_link, State.setLinkState_link]

theorem State.linkState_readyBegun (hf : s.portFenced c = false) (hc : c < 256) :
    (s.readyBegun c).linkState c = linkReady := by
  have hst := s.linkState_setLinkState c linkReady hf
  simp only [State.linkState, linkFields] at hst
  simp (disch := omega) only [State.readyBegun, State.linkState, linkFields, pageAddrs, State.setLink_get, State.get_raise_off]
  exact hst

theorem State.toReady_eq :
    s.toReady c = if (s.link c).trainReq then (s.readyBegun c).deviceWord c .trainOff 0x1C 0 else s.readyBegun c := rfl

/-- A port that is READY has TRAIN_REQ = 0 written where a command asked for its training. -/
theorem State.toReady_done (hf : s.portFenced c = false) (hc : c < 256)
    (hd : s.portDown c = false ∨ (s.link c).trainReq = false) :
    (s.toReady c).linkState c = linkReady ∧ ((s.toReady c).link c).trainReq = false ∧ ((s.toReady c).link c).trying = false ∧
      ((s.link c).trainReq = true → ∃ r : Req, ((s.toReady c).engine (c / 2)).reqs = (s.engine (c / 2)).reqs ++ [r] ∧
        r.purpose = .trainOff ∧ r.addr = 0x1C ∧ r.data = s.diWord c 0) := by
  have hst := s.linkState_readyBegun c hf hc
  rw [s.toReady_eq c]
  split_ifs with ht
  · have hd' : (s.readyBegun c).portDown c = false := by
      rw [← hd.resolve_right (by simp [ht])]
      exact State.portDown_of_get fun _ _ _ ha => s.get_readyBegun_off c (by omega) (by omega) (by omega)
    have hdata : (s.readyBegun c).diWord c 0 = s.diWord c 0 := by
      refine State.diWord_of_get 0 ?_
      simp (disch := omega) only [bridgeFields, State.get_readyBegun_off]
    have heng : (s.readyBegun c).engine (c / 2) = s.engine (c / 2) := by
      simp only [State.readyBegun, State.setLink_engine, State.raise_engine, State.setLinkState_engine]
    rw [State.deviceWord_link _ c _ _ _ _ hd', State.readyBegun_link, State.deviceWord_reqs _ c _ _ _ hd', heng, ← hdata]
    simp only [State.linkState, linkFields, true_and] at hst ⊢
    rw [State.get_deviceWord_off _ c _ _ _ hd' (by omega), hst]
    exact ⟨rfl, fun _ => ⟨_, rfl, rfl, rfl, rfl⟩⟩
  · rw [State.readyBegun_link]
    exact ⟨hst, rfl, rfl, fun h => absurd h ht⟩

/-- The last burst that the lanes of a port in TRAIN wait for makes it READY. -/
theorem State.burst_ready {bytes : List Byte} (hbytes : bytes = burstBytes 254 0x7F)
    (ha : s.get (GATE.LANE_STATUS_ALIGN_STATE (c / 2) n) = 2) (hact : s.gateActive (c / 2) = true)
    (hs : s.linkState c = linkTrain) (hb : 15 ≤ (s.lane (c / 2) n).bursts) (hg : 1 ≤ (s.lane (c / 2) n).goodRun)
    (hm : ∀ m ∈ s.lanesOf c, m ≠ n → 16 ≤ (s.lane (c / 2) m).bursts ∧ 2 ≤ (s.lane (c / 2) m).goodRun) (hn : n < 5) :
    ∃ u : State, s.burst c n bytes = u.toReady c ∧ u.link c = s.link c ∧ u.engine (c / 2) = s.engine (c / 2) ∧
      ∀ a hi lo, (a < 0x100108 + 0x1000 * (c / 2) ∨ 0x10021C + 0x1000 * (c / 2) + 0x20 * n < a ∨
        a = 0x100124 + 0x1000 * (c / 2) ∨ a = 0x100160 + 0x1000 * (c / 2)) → u.get ⟨a, hi, lo⟩ = s.get ⟨a, hi, lo⟩ := by
  have hget {a hi lo : Nat} (h1 : a < 0x100204 + 0x1000 * (c / 2) + 0x20 * n ∨ 0x100218 + 0x1000 * (c / 2) + 0x20 * n < a)
      (h2 : a ≠ 0x100108 + 0x1000 * (c / 2) + 4 * (c % 2) ∨ lo ≤ hi ∧ hi < 11) :
      ((s.burstCounted c n true).burstTimer c n).get ⟨a, hi, lo⟩ = s.get ⟨a, hi, lo⟩ := by
    rw [State.get_burstTimer_off _ c n h2, s.get_burstCounted_off c n true (by omega) (by omega)]
  have hst : ((s.burstCounted c n true).burstTimer c n).linkState c = linkTrain := by
    rw [← hs]; simp only [State.linkState, linkFields]; exact hget (by omega) (by omega)
  have hlanes : ((s.burstCounted c n true).burstTimer c n).lanesOf c = s.lanesOf c :=
    State.lanesOf_of_get fun _ _ _ ha => hget (by omega) (by omega)
  have hall : (((s.burstCounted c n true).burstTimer c n).lanesOf c).all (fun m =>
      decide (16 ≤ (((s.burstCounted c n true).burstTimer c n).lane (c / 2) m).bursts) &&
      decide (2 ≤ (((s.burstCounted c n true).burstTimer c n).lane (c / 2) m).goodRun)) = true := by
    rw [hlanes, List.all_eq_true]
    intro m hmem
    have htr := s.training_burstCounted c n m hb hg (hm m hmem)
    rw [← State.training_burstTimer _ c n m] at htr
    exact LaneSt.trained htr
  refine ⟨(s.burstCounted c n true).burstTimer c n, ?_, by simp, by simp, fun a hi lo h => hget (by omega) (by omega)⟩
  rw [s.burst_eq c n _ ha hact, decide_eq_true hbytes, State.trainDone, hst, hall]
  exact if_pos (by decide)

theorem State.burst_trains (ha : s.get (GATE.LANE_STATUS_ALIGN_STATE (c / 2) n) = 2) (hact : s.gateActive (c / 2) = true)
    (hs : s.linkState c = linkTrain) (hf : s.portFenced c = false) (hb : 15 ≤ (s.lane (c / 2) n).bursts)
    (hg : 1 ≤ (s.lane (c / 2) n).goodRun)
    (hm : ∀ m ∈ s.lanesOf c, m ≠ n → 16 ≤ (s.lane (c / 2) m).bursts ∧ 2 ≤ (s.lane (c / 2) m).goodRun)
    (hd : s.portDown c = false ∨ (s.link c).trainReq = false) (hn : n < 5) (hc : c < 256) :
    let t := s.burst c n (burstBytes 254 0x7F)
    t.linkState c = linkReady ∧ (t.link c).trainReq = false ∧ (t.link c).trying = false ∧
      ((s.link c).trainReq = true → ∃ r : Req, (t.engine (c / 2)).reqs = (s.engine (c / 2)).reqs ++ [r] ∧
        r.purpose = .trainOff ∧ r.addr = 0x1C ∧ r.data = s.diWord c 0) := by
  obtain ⟨u, hu, hlink, heng, hget⟩ := s.burst_ready c n rfl ha hact hs hb hg hm hn
  have hf' : u.portFenced c = false := by rw [← hf]; exact State.portFenced_of_get fun _ _ _ h => hget _ _ _ (by omega)
  have hd' : u.portDown c = s.portDown c := State.portDown_of_get fun _ _ _ h => hget _ _ _ (by omega)
  have hdata : u.diWord c 0 = s.diWord c 0 := by
    refine State.diWord_of_get 0 ?_
    simp only [bridgeFields]
    exact hget _ _ _ (by omega)
  have hdone := u.toReady_done c hf' hc (by rwa [hd', hlink])
  rw [hlink, heng, hdata] at hdone
  rw [hu]
  exact hdone

end

/-! ### A word at the aligner -/

section

variable {s : State} {c n : Nat} {w : WordReport}

/-- Enough errors on a lane of a port that is not READY. -/
theorem State.loss_wordTaken (hc : c < 256) (hmem : n ∈ s.portLanes c) (hr : s.linkState c ≠ linkReady) :
    let t := (s.wordTaken c n w).alignLoss c n
    t.get (GATE.LANE_STATUS_ALIGN_STATE (c / 2) n) = 0 ∧
      t.get (GATE.LANE_ALIGN_LOSS (c / 2) n) =
        min (GATE.LANE_ALIGN_LOSS (c / 2) n).top (s.get (GATE.LANE_ALIGN_LOSS (c / 2) n) + 1) ∧
      t.bitAt (HDR.IRQ_STAT (gatePage (c / 2))) 3 = true ∧
      (n ∈ s.lanesOf c → s.linkState c = linkAlign ∨ s.linkState c = linkTrain → s.portFenced c = false →
        t.linkState c = linkAlign) := by
  have hn : n < 5 := by have := dataLanes_bounds hmem; omega
  have hst := s.linkState_wordTaken c n w hc hn
  obtain ⟨h0, hloss, hirq⟩ := (s.wordTaken c n w).registers_alignLoss c n hc
    (by rwa [s.portLanes_wordTaken c n w hc]) (by rwa [hst])
  rw [s.alignLossCount_wordTaken c n w hc hn] at hloss
  exact ⟨h0, hloss, hirq, fun hm hs hf => (s.wordTaken c n w).linkState_alignLoss c n hc hn
    (by rwa [s.lanesOf_wordTaken c n w hc hn]) (by rwa [hst]) (by rwa [s.portFenced_wordTaken c n w hc])⟩

/-- Enough errors on a lane of a READY port. -/
theorem State.fence_wordTaken (hc : c < 256) (hn : n < 5) (hr : s.linkState c = linkReady) (hm : n ∈ s.lanesOf c) :
    ∃ u : State, (s.wordTaken c n w).alignLoss c n = u.occur .gate (c / 2) (7 + c % 2) n true ∧
      u.get (GATE.LANE_STATUS_ALIGN_STATE (c / 2) n) = 0 ∧
      u.get (GATE.LANE_ALIGN_LOSS (c / 2) n) =
        min (GATE.LANE_ALIGN_LOSS (c / 2) n).top (s.get (GATE.LANE_ALIGN_LOSS (c / 2) n) + 1) := by
  obtain ⟨h0, hloss, -⟩ := (s.wordTaken c n w).registers_alignLost c n hc hn
  rw [s.alignLossCount_wordTaken c n w hc hn] at hloss
  exact ⟨_, (s.wordTaken c n w).alignLoss_ready c n (by rwa [s.lanesOf_wordTaken c n w hc hn])
    (by rwa [s.linkState_wordTaken c n w hc hn]), h0, hloss⟩

end

/-- Settles O17, by the cases of the aligner's state, and by what a burst counts and completes. -/
theorem laneAlignmentCommandsComplete : Obligations.LaneAlignmentCommandsComplete := by
  intro s g n c hport hr
  obtain ⟨hg, hmem⟩ := State.portOfLane_some hport
  have hc : c < 256 := by omega
  have hn : n.val < 5 := n.isLt
  have hlane (f : State → Nat → State) : s.onDataLane g n f = f s c := by simp only [State.onDataLane, hport, hr, if_true]
  refine ⟨fun hw w next inside => ?_, fun hw hst => ?_, fun hact hst => ⟨fun bytes hs => ?_, fun hs hf hb hgr hm hd => ?_⟩⟩
  · have hexec : exec (.commaDetect g n w next inside) s =
        .next (s.alignWord c n (s.lookAt g n w next inside) (fun o => s.huntRd g n o w next)) := by
      refine congrArg Host.Outcome.next ?_
      simp only [hport]
      rw [s.takeWord_eq c n w next inside hr (by rwa [hg]), hg]
    rw [hexec, ← hg]
    refine ⟨fun o h0 ho => congrArg _ (s.alignWord_hunt c n _ _ h0 ho),
      fun h1 he => congrArg _ (s.alignWord_checkError c n _ _ h1 he),
      fun h1 hce hde => ⟨fun hh => congrArg _ (s.alignWord_noComma c n _ _ h1 hce hde hh),
        fun hh hk => congrArg _ (s.alignWord_comma c n _ _ h1 hce hde hh hk),
        fun hh hk => ⟨_, rfl, s.alignWord_aligned c n _ _ h1 hce hde hh hk⟩⟩,
      fun h2 ha hs hsum => ?_, fun h2 hsum => ⟨fun hs => ?_, fun hs hm => ?_⟩⟩
    · exact congrArg _ ((s.alignWord_few c n _ _ h2 hsum).trans (s.wordTaken_quiet c n _ hs ha))
    · exact ⟨_, congrArg _ (s.alignWord_many c n _ _ h2 hsum), State.loss_wordTaken hc hmem hs⟩
    · obtain ⟨u, hu, h⟩ := State.fence_wordTaken hc hn hs hm
      exact ⟨u, congrArg _ ((s.alignWord_many c n _ _ h2 hsum).trans hu), h⟩
  · refine congrArg Host.Outcome.next ((hlane _).trans ?_)
    simp only [hw, if_true, State.checkTimeout, hg, hst]
  · refine ⟨_, congrArg Host.Outcome.next (hlane _), ?_⟩
    rw [← hg] at hst hact ⊢
    exact s.registers_burst c n bytes hst hact hs hn
  · refine ⟨_, congrArg Host.Outcome.next (hlane _), ?_⟩
    rw [← hg] at hst hact hb hgr hm ⊢
    exact s.burst_trains c n hst hact hs hf hb hgr hm hd hn hc

end Sys2Proof.Machine
end

section
/-!
PROOFS. The skew measurement (R42 to R45; O18).
-/

namespace Sys2Proof.Machine

/-! ### Skews of arrivals -/

/-- The latest of some arrivals. -/
def latest (l : List Nat) : Nat := l.foldl max 0

theorem le_foldl_max (l : List Nat) (b : Nat) : b ≤ l.foldl max b ∧ ∀ a ∈ l, a ≤ l.foldl max b := by
  induction l generalizing b with
  | nil => simp
  | cons x l ih =>
    obtain ⟨hb, hl⟩ := ih (max b x)
    refine ⟨le_trans (le_max_left b x) hb, fun a ha => ?_⟩
    rcases List.mem_cons.mp ha with rfl | ha
    · exact le_trans (le_max_right b a) hb
    · exact hl a ha

theorem le_latest {l : List Nat} {a : Nat} (h : a ∈ l) : a ≤ latest l := (le_foldl_max l 0).2 a h

theorem foldl_max_mem (l : List Nat) (b : Nat) : l.foldl max b = b ∨ l.foldl max b ∈ l := by
  induction l generalizing b with
  | nil => exact .inl rfl
  | cons x l ih =>
    rcases ih (max b x) with h | h
    · rcases max_choice b x with hm | hm
      · exact .inl (by rw [List.foldl_cons, h, hm])
      · exact .inr (by rw [List.foldl_cons, h, hm]; exact List.mem_cons_self)
    · exact .inr (List.mem_cons_of_mem _ h)

/-- The latest arrival is one of them where there is one. -/
theorem latest_mem {l : List Nat} {a : Nat} (h : a ∈ l) : latest l ∈ l := by
  rcases foldl_max_mem l 0 with h0 | h0
  · have ha : a = latest l := Nat.le_antisymm (le_latest h) (by rw [latest, h0]; exact Nat.zero_le a)
    exact ha ▸ h
  · exact h0

theorem foldl_max_cast (l : List Nat) (b : Nat) :
    (l.map (fun a : Nat => (a : Int))).foldl max (b : Int) = (l.foldl max b : Nat) := by
  induction l generalizing b with
  | nil => rfl
  | cons x l ih => rw [List.map_cons, List.foldl_cons, List.foldl_cons, ← ih, Nat.cast_max]

/-- By how much each arrival precedes the latest. -/
def skews (l : List Nat) : List Nat := l.map (fun x => latest l - x)

theorem skewsOf_cast (l : List Nat) : skewsOf (l.map (fun a : Nat => (a : Int))) = skews l := by
  have htop : (l.map (fun a : Nat => (a : Int))).foldl max ((l.map (fun a : Nat => (a : Int))).headD 0) = (latest l : Nat) := by
    cases l with
    | nil => rfl
    | cons x l =>
      rw [List.map_cons, List.headD_cons, List.foldl_cons, max_self, foldl_max_cast, latest, List.foldl_cons,
        Nat.max_eq_right (Nat.zero_le x)]
  rw [skewsOf, htop, List.map_map, skews]
  refine List.map_congr_left fun a ha => ?_
  have := le_latest ha
  simp only [Function.comp_apply]
  omega

/-- With no lane displaced, the arrivals count as they are. -/
theorem effective_arrivals (s : State) (g : Nat) {lanes arrivals : List Nat} (hlen : arrivals.length = lanes.length)
    (h : ∀ n ∈ lanes, (s.lane g n).displaced = 0) :
    (lanes.zip arrivals).map (fun p => (p.2 : Int) - (s.lane g p.1).displaced) = arrivals.map (fun a : Nat => (a : Int)) := by
  have hzip : arrivals = (lanes.zip arrivals).map Prod.snd := (List.map_snd_zip (by omega)).symm
  conv_rhs => rw [hzip, List.map_map]
  refine List.map_congr_left fun x hx => ?_
  have hx1 : x.1 ∈ lanes := (List.of_mem_zip (a := x.1) (b := x.2) hx).1
  simp [h _ hx1]

theorem dataLanes_nodup (mode p : Nat) : (dataLanes mode p).Nodup := by
  unfold dataLanes
  split_ifs <;> decide

theorem State.lanesOf_nodup (s : State) (c : Nat) : (s.lanesOf c).Nodup := by
  refine List.Nodup.map_on (fun i hi j hj h => ?_) (List.nodup_range.filter _)
  have hi' := List.mem_range.mp (List.mem_filter.mp hi).1
  have hj' := List.mem_range.mp (List.mem_filter.mp hj).1
  rw [List.getD_eq_getElem _ _ hi', List.getD_eq_getElem _ _ hj'] at h
  exact (dataLanes_nodup _ _).getElem_inj_iff.mp h

/-! ### The measurement -/

section

variable (s : State) (c : Nat) {a hi lo : Nat}

/-- A mismatch or a void packet counted. -/
def State.deskewErr : State := (s.addSat (LNK.DESKEW_ERR c) 1).raise (gatePage (c / 2)) 6

theorem State.get_deskewErr_off (h1 : a ≠ 0x100110 + 0x1000 * (c / 2)) (h2 : a ≠ 0x100020 + 0x1000 * (c / 2))
    (h3 : a < 0xFF8000) : (s.deskewErr c).get ⟨a, hi, lo⟩ = s.get ⟨a, hi, lo⟩ := by
  simp (disch := omega) only [State.deskewErr, State.addSat, linkFields, pageAddrs, State.get_raise_off, State.get_put_off]

theorem State.registers_deskewErr (hc : c < 256) :
    (s.deskewErr c).get (LNK.DESKEW_ERR c) = min (LNK.DESKEW_ERR c).top (s.get (LNK.DESKEW_ERR c) + 1) ∧
      (s.deskewErr c).bitAt (HDR.IRQ_STAT (gatePage (c / 2))) 6 = true := by
  have hw : 16 * (c % 2) + 15 + 1 - 16 * (c % 2) = 16 := by omega
  refine ⟨?_, State.bitAt_raise_same _ (by omega) (by simp only [pageAddrs]; omega)⟩
  simp (disch := omega) only [State.deskewErr, State.addSat, linkFields, pageAddrs, State.get_raise_off, State.get_put_at,
    satAdd_eq_min, Fld.top, hw]
  exact Nat.mod_eq_of_lt (by omega)

/-- The skews stored, by lane. -/
def State.storedSkews : List Nat := (s.lanesOf c).map (fun n => s.get (GATE.LANE_STATUS_SKEW (c / 2) n))

/-- A lane stores its skew. -/
def State.storeSkew (g : Nat) (p : Nat × Nat) : State :=
  (s.put (GATE.LANE_STATUS_SKEW g p.1) p.2).onLane g p.1 (fun x => { x with dropNow := 0 })

/-- The skews of a first packet start are stored. -/
def State.skewsStored (sk : List Nat) : State :=
  let t := s.each ((s.lanesOf c).zip sk) (fun t p => t.storeSkew (c / 2) p)
  (t.put (LNK.DESKEW_DONE c) 1).setLink c { t.link c with skewMiss := false, voidNext := false }

/-- What a packet start does with its skews where no injection displaces a lane (R42 to R45). -/
theorem State.deskew_eq {arrivals : List Nat} (hlen : arrivals.length = (s.lanesOf c).length) (hall : s.allAligned c = true)
    (hdis : ∀ n ∈ s.lanesOf c, (s.lane (c / 2) n).displaced = 0) :
    s.deskew c arrivals =
      if !s.on (LNK.DESKEW_DONE c) then
        if (skews arrivals).any (fun v => decide (31 < v)) then (s.deskewErr c).setLink c { s.link c with voidNext := true }
        else s.skewsStored c (skews arrivals)
      else if skews arrivals = s.storedSkews c then (s.skewHolds c).setLink c { s.link c with skewMiss := false }
      else if (s.link c).skewMiss then
        ((s.deskewErr c).put (LNK.DESKEW_DONE c) 0).setLink c { (s.deskewErr c).link c with skewMiss := false }
      else (s.deskewErr c).setLink c { (s.deskewErr c).link c with skewMiss := true } := by
  have hok : ¬ (decide (arrivals.length ≠ (s.lanesOf c).length) || !s.allAligned c) = true := by simp [hlen, hall]
  have hsk := (congrArg skewsOf (effective_arrivals s (c / 2) hlen hdis)).trans (skewsOf_cast arrivals)
  have hclean : skewsOf (arrivals.map (fun a => (a : Int))) = skews arrivals := by
    rw [← skewsOf_cast]
    congr 1
    simp [← List.map_eq_flatMap]
  unfold State.deskew
  rw [if_neg hok]
  simp only [hsk, hclean, bne_self_eq_false, Bool.and_false, Bool.false_eq_true, if_false]
  rfl

end

/-! ### Spans and matches of arrivals -/

theorem skews_within {l : List Nat} (h : ∀ a ∈ l, ∀ b ∈ l, a ≤ b + 31) : (skews l).any (fun v => decide (31 < v)) = false := by
  rw [List.any_eq_false]
  intro v hv
  obtain ⟨a, ha, rfl⟩ := List.mem_map.mp hv
  have := h _ (latest_mem ha) a ha
  simp only [decide_eq_true_eq]
  omega

theorem skews_beyond {l : List Nat} {a b : Nat} (ha : a ∈ l) (hb : b ∈ l) (h : b + 31 < a) :
    (skews l).any (fun v => decide (31 < v)) = true := by
  rw [List.any_eq_true]
  have := le_latest ha
  exact ⟨_, List.mem_map.mpr ⟨b, hb, rfl⟩, by simp only [decide_eq_true_eq]; omega⟩

theorem State.skews_eq_stored_iff (s : State) (c : Nat) {l : List Nat} (hlen : l.length = (s.lanesOf c).length) :
    skews l = s.storedSkews c ↔
      ∀ x ∈ (s.lanesOf c).zip l, s.get (GATE.LANE_STATUS_SKEW (c / 2) x.1) = latest l - x.2 := by
  have hl : skews l = ((s.lanesOf c).zip l).map (fun x => latest l - x.2) := by
    rw [skews]
    conv_lhs => rw [show l.map (fun x => latest l - x) = (((s.lanesOf c).zip l).map Prod.snd).map (fun x => latest l - x) by
      rw [List.map_snd_zip (by omega)], List.map_map]
    rfl
  have hs : s.storedSkews c = ((s.lanesOf c).zip l).map (fun x => s.get (GATE.LANE_STATUS_SKEW (c / 2) x.1)) := by
    conv_lhs => rw [State.storedSkews, show s.lanesOf c = ((s.lanesOf c).zip l).map Prod.fst from
      (List.map_fst_zip (by omega)).symm,
      List.map_map]
    rfl
  rw [hl, hs, List.map_inj_left]
  exact forall₂_congr fun x _ => eq_comm

section

variable (s : State) (c : Nat) {a hi lo : Nat}

theorem State.on_skewsStored (sk : List Nat) : (s.skewsStored c sk).on (LNK.DESKEW_DONE c) = true := by
  simp (disch := omega) only [State.skewsStored, State.on, linkFields, State.setLink_get, State.get_put_at]
  rfl

theorem State.get_storeSkew_same (g : Nat) {p : Nat × Nat} (h : p.2 < 32) :
    (s.storeSkew g p).get (GATE.LANE_STATUS_SKEW g p.1) = p.2 := by
  simp (disch := omega) only [State.storeSkew, laneFields, State.onLane_get, State.get_put_at]
  exact Nat.mod_eq_of_lt h

theorem State.get_storeSkew_ne (g : Nat) {p : Nat × Nat} {n : Nat} (h : p.1 ≠ n) :
    (s.storeSkew g p).get (GATE.LANE_STATUS_SKEW g n) = s.get (GATE.LANE_STATUS_SKEW g n) := by
  simp (disch := omega) only [State.storeSkew, laneFields, State.onLane_get, State.get_put_off]

theorem State.lanesOf_bounds {s : State} {c n : Nat} (h : n ∈ s.lanesOf c) : 1 ≤ n ∧ n ≤ 4 := by
  obtain ⟨i, hi, rfl⟩ := List.mem_map.mp h
  have hlt := List.mem_range.mp (List.mem_filter.mp hi).1
  rw [List.getD_eq_getElem _ _ hlt]
  exact dataLanes_bounds (List.getElem_mem hlt)

/-- Each lane has one skew. -/
theorem State.skew_unique {s : State} {c : Nat} {sk : List Nat} (hlen : sk.length = (s.lanesOf c).length) {x y : Nat × Nat}
    (hx : x ∈ (s.lanesOf c).zip sk) (hy : y ∈ (s.lanesOf c).zip sk) (h : y.1 = x.1) : y = x := by
  have hnd : (((s.lanesOf c).zip sk).map Prod.fst).Nodup := by
    rw [List.map_fst_zip (by omega)]
    exact s.lanesOf_nodup c
  exact List.inj_on_of_nodup_map hnd hy hx h

theorem State.skew_skewsStored {sk : List Nat} (hlen : sk.length = (s.lanesOf c).length) {x : Nat × Nat}
    (hx : x ∈ (s.lanesOf c).zip sk) (hv : x.2 < 32) : (s.skewsStored c sk).get (GATE.LANE_STATUS_SKEW (c / 2) x.1) = x.2 := by
  have hlane := (State.lanesOf_bounds (List.of_mem_zip (a := x.1) (b := x.2) hx).1).2
  have hall : (s.each ((s.lanesOf c).zip sk) (fun t p => t.storeSkew (c / 2) p)).get
      (GATE.LANE_STATUS_SKEW (c / 2) x.1) = x.2 := by
    refine State.each_mem (P := fun t => t.get (GATE.LANE_STATUS_SKEW (c / 2) x.1) = x.2) s hx
      (fun t => t.get_storeSkew_same (c / 2) hv) fun t y hy ht => ?_
    by_cases hxy : y.1 = x.1
    · rw [State.skew_unique hlen hx hy hxy]
      exact t.get_storeSkew_same (c / 2) hv
    · rw [t.get_storeSkew_ne (c / 2) hxy, ht]
  rw [← hall]
  simp (disch := omega) only [State.skewsStored, laneFields, linkFields, State.setLink_get, State.get_put_off]

end

section

variable {s : State} {c : Nat} {arrivals : List Nat}

/-- A measurement that stores the skews. -/
theorem State.deskew_stores (hlen : arrivals.length = (s.lanesOf c).length) (hall : s.allAligned c = true)
    (hdis : ∀ n ∈ s.lanesOf c, (s.lane (c / 2) n).displaced = 0) (hdone : s.on (LNK.DESKEW_DONE c) = false)
    (h : ∀ a ∈ arrivals, ∀ b ∈ arrivals, a ≤ b + 31) :
    (s.deskew c arrivals).on (LNK.DESKEW_DONE c) = true ∧
      ∀ x ∈ (s.lanesOf c).zip arrivals, (s.deskew c arrivals).get (GATE.LANE_STATUS_SKEW (c / 2) x.1) =
        latest arrivals - x.2 := by
  rw [s.deskew_eq c hlen hall hdis, hdone, if_pos Bool.not_false, if_neg (Bool.eq_false_iff.mp (skews_within h))]
  refine ⟨s.on_skewsStored c _, fun x hx => ?_⟩
  have hsk : (x.1, latest arrivals - x.2) ∈ (s.lanesOf c).zip (skews arrivals) := by
    rw [skews, List.zip_map_right]
    exact List.mem_map.mpr ⟨x, hx, rfl⟩
  have hx2 := (List.of_mem_zip (a := x.1) (b := x.2) hx).2
  have hle := h _ (latest_mem hx2) _ hx2
  exact s.skew_skewsStored c (by rw [skews, List.length_map, hlen]) hsk (by simp only; omega)

/-- A packet whose arrivals lie too far apart is void (R44). -/
theorem State.deskew_void (hc : c < 256) (hlen : arrivals.length = (s.lanesOf c).length) (hall : s.allAligned c = true)
    (hdis : ∀ n ∈ s.lanesOf c, (s.lane (c / 2) n).displaced = 0) (hdone : s.on (LNK.DESKEW_DONE c) = false)
    (h : ∃ a ∈ arrivals, ∃ b ∈ arrivals, b + 31 < a) :
    ((s.deskew c arrivals).get (LNK.DESKEW_ERR c) = min (LNK.DESKEW_ERR c).top (s.get (LNK.DESKEW_ERR c) + 1) ∧
      (s.deskew c arrivals).bitAt (HDR.IRQ_STAT (gatePage (c / 2))) 6 = true) ∧
      ((s.deskew c arrivals).link c).voidNext = true ∧ (s.deskew c arrivals).on (LNK.DESKEW_DONE c) = false := by
  obtain ⟨a, ha, b, hb, hab⟩ := h
  have hon : (s.deskewErr c).on (LNK.DESKEW_DONE c) = s.on (LNK.DESKEW_DONE c) := by
    simp (disch := omega) only [State.on, linkFields, State.get_deskewErr_off]
  have herr := s.registers_deskewErr c hc
  rw [s.deskew_eq c hlen hall hdis, hdone, if_pos Bool.not_false, if_pos (skews_beyond ha hb hab), State.link_setLink_same]
  exact ⟨herr, rfl, hon.trans hdone⟩

/-- A packet start with the stored skews (R45). -/
theorem State.deskew_matches (hlen : arrivals.length = (s.lanesOf c).length) (hall : s.allAligned c = true)
    (hdis : ∀ n ∈ s.lanesOf c, (s.lane (c / 2) n).displaced = 0) (hdone : s.on (LNK.DESKEW_DONE c) = true)
    (h : ∀ x ∈ (s.lanesOf c).zip arrivals, s.get (GATE.LANE_STATUS_SKEW (c / 2) x.1) = latest arrivals - x.2) :
    s.deskew c arrivals = (s.skewHolds c).setLink c { s.link c with skewMiss := false } := by
  rw [s.deskew_eq c hlen hall hdis, hdone, if_neg (show ¬ (!true) = true by decide),
    if_pos ((s.skews_eq_stored_iff c hlen).mpr h)]

/-- A packet start with other skews is counted, and the second in a row ends the deskew (R45). -/
theorem State.deskew_mismatches (hc : c < 256) (hlen : arrivals.length = (s.lanesOf c).length) (hall : s.allAligned c = true)
    (hdis : ∀ n ∈ s.lanesOf c, (s.lane (c / 2) n).displaced = 0) (hdone : s.on (LNK.DESKEW_DONE c) = true)
    (h : ∃ x ∈ (s.lanesOf c).zip arrivals, s.get (GATE.LANE_STATUS_SKEW (c / 2) x.1) ≠ latest arrivals - x.2) :
    ((s.deskew c arrivals).get (LNK.DESKEW_ERR c) = min (LNK.DESKEW_ERR c).top (s.get (LNK.DESKEW_ERR c) + 1) ∧
      (s.deskew c arrivals).bitAt (HDR.IRQ_STAT (gatePage (c / 2))) 6 = true) ∧
      (s.deskew c arrivals).on (LNK.DESKEW_DONE c) = !(s.link c).skewMiss ∧
      ((s.deskew c arrivals).link c).skewMiss = !(s.link c).skewMiss := by
  have hne : skews arrivals ≠ s.storedSkews c := by
    obtain ⟨x, hx, hx'⟩ := h
    exact fun he => hx' ((s.skews_eq_stored_iff c hlen).mp he x hx)
  have hon : (s.deskewErr c).on (LNK.DESKEW_DONE c) = s.on (LNK.DESKEW_DONE c) := by
    simp (disch := omega) only [State.on, linkFields, State.get_deskewErr_off]
  obtain ⟨hcnt, hirq⟩ := s.registers_deskewErr c hc
  rw [s.deskew_eq c hlen hall hdis, hdone, if_neg (show ¬ (!true) = true by decide), if_neg hne]
  cases hm : (s.link c).skewMiss
  · rw [if_neg Bool.false_ne_true, State.link_setLink_same]
    exact ⟨⟨hcnt, hirq⟩, hon.trans hdone, rfl⟩
  · rw [if_pos rfl, State.link_setLink_same]
    refine ⟨⟨?_, ?_⟩, ?_, rfl⟩
    · rw [← hcnt]
      simp (disch := omega) only [linkFields, State.setLink_get, State.get_put_off]
    · rw [← hirq]
      simp (disch := omega) only [State.bitAt, linkFields, headerFields, pageAddrs, State.setLink_get, State.get_put_off]
    · simp (disch := omega) only [State.on, linkFields, State.setLink_get, State.get_put_at]
      rfl

end

/-- Settles O18, by the skews of arrivals that no injection displaces. -/
theorem deskewMeasureCompletes : Obligations.DeskewMeasureCompletes := by
  intro s g p arrivals c hr hlen hall hdis err
  have hg : c / 2 = g := portNo_div g p
  have hc : c < 256 := portNo_lt g p
  have hget {a hi lo : Nat} (ha : a ≠ 0x100064 + 0x1000 * (c / 2)) : (s.gateWake g).get ⟨a, hi, lo⟩ = s.get ⟨a, hi, lo⟩ :=
    s.get_gateWake_off g (by rwa [← hg])
  have hlanes : (s.gateWake g).lanesOf c = s.lanesOf c := State.lanesOf_of_get fun _ _ _ ha => hget (by omega)
  have hskew (n : Nat) : (s.gateWake g).get (GATE.LANE_STATUS_SKEW (c / 2) n) = s.get (GATE.LANE_STATUS_SKEW (c / 2) n) := by
    simp only [laneFields]; exact hget (by omega)
  have hall' : (s.gateWake g).allAligned c = true := by
    rw [← hall, State.allAligned, State.allAligned, hlanes]
    simp only [laneFields]
    refine congrArg _ (funext fun n => ?_)
    rw [hget (by omega)]
  have hdis' : ∀ n ∈ (s.gateWake g).lanesOf c, ((s.gateWake g).lane (c / 2) n).displaced = 0 := by
    intro n hn
    rw [hg, s.gateWake_lane]
    exact hdis n (hlanes ▸ hn)
  have hdone : (s.gateWake g).on (LNK.DESKEW_DONE c) = s.on (LNK.DESKEW_DONE c) := by
    simp only [State.on, linkFields]; rw [hget (by omega)]
  have herr : (s.gateWake g).get (LNK.DESKEW_ERR c) = s.get (LNK.DESKEW_ERR c) := by
    simp only [linkFields]; exact hget (by omega)
  rw [← hlanes] at hlen ⊢
  simp only [err]
  have hwhen : exec (.deskewMeasure g p arrivals) s = .next ((s.gateWake g).deskew c arrivals) :=
    congrArg Host.Outcome.next (s.when_true _ hr)
  rw [hwhen, ← hdone, ← herr, ← s.gateWake_link g c]
  simp only [← hg] at *
  simp only [← hskew]
  exact ⟨fun h0 => ⟨fun h => ⟨_, rfl, State.deskew_stores hlen hall' hdis' h0 h⟩,
      fun h => ⟨_, rfl, State.deskew_void hc hlen hall' hdis' h0 h⟩⟩,
    fun h1 => ⟨fun h => congrArg _ (State.deskew_matches hlen hall' hdis' h1 h),
      fun h => ⟨_, rfl, State.deskew_mismatches hc hlen hall' hdis' h1 h⟩⟩⟩

end Sys2Proof.Machine
end

section
/-!
PROOFS. Loopbacks and tests of a port (R61 to R65, R68, R71, R432; O20).
-/

namespace Sys2Proof.Machine

/-! ### A test starts (R62) -/

section

variable (s : State) (c mode pattern : Nat) {a hi lo : Nat}

/-- A lane as its test finds it: its checker fresh, and the test serialiser driving it in a near-end test. -/
def State.lanePrepared (g n : Nat) : State :=
  ((s.put (GATE.LANE_STATUS_PRBS_LOCK g n) 0).onLane g n (fun x => { x with blockOk := false, prbs := {} })).drivePattern
    g n mode pattern

theorem State.drivePattern_get (g n : Nat) (f : Fld) : (s.drivePattern g n mode pattern).get f = s.get f :=
  State.drivePattern_keeps (get_ignores f rfl) s g n mode pattern

theorem State.get_lanePrepared_off (g n : Nat) (h : a ≠ 0x100204 + 0x1000 * g + 0x20 * n ∨ hi < 31 ∧ lo ≤ hi) :
    (s.lanePrepared mode pattern g n).get ⟨a, hi, lo⟩ = s.get ⟨a, hi, lo⟩ := by
  simp (disch := omega) only [State.lanePrepared, State.drivePattern_get, State.onLane_get, laneFields, State.get_put_off]

theorem State.lanePrepared_link (g n x : Nat) : (s.lanePrepared mode pattern g n).link x = s.link x := by
  rw [State.lanePrepared, State.drivePattern_keeps (link_ignores x rfl), State.onLane_link, State.put_link]

/-- A test begun, before TEST_STATUS shows it. -/
def State.testBegun : State :=
  let t := (s.setLinkState c linkTest).setLink c { s.link c with test := some ⟨mode, pattern, false⟩, trying := false }
  (t.each (s.portLanes c) (fun t n => t.lanePrepared mode pattern (c / 2) n)).put (LNK.FAR_LOCK c) 0

theorem State.startTest_eq (hg : s.gateEnabled (c / 2) = true) (hf : s.portFenced c = false) :
    s.startTest c mode pattern = (s.testBegun c mode pattern).showTest (c / 2) mode := by
  unfold State.startTest
  rw [if_neg (by simp [hg, hf])]
  rfl

theorem State.get_testBegun_off (hs : a ≠ 0x100108 + 0x1000 * (c / 2) + 4 * (c % 2) ∨ 2 < lo ∧ lo ≤ hi)
    (hl : a < 0x100204 + 0x1000 * (c / 2) ∨ 0x100284 + 0x1000 * (c / 2) < a) (ht : a ≠ 0x100114 + 0x1000 * (c / 2)) :
    (s.testBegun c mode pattern).get ⟨a, hi, lo⟩ = s.get ⟨a, hi, lo⟩ := by
  simp (disch := omega) only [State.testBegun, linkFields, State.get_put_off]
  refine (State.each_eq (p := fun t => t.get ⟨a, hi, lo⟩) _ fun t n hn => ?_).trans ?_
  · have := dataLanes_bounds hn
    exact t.get_lanePrepared_off mode pattern _ n (by omega)
  · rw [State.setLink_get, s.get_setLinkState_off c _ hs]

theorem State.testBegun_link :
    (s.testBegun c mode pattern).link c = { s.link c with test := some ⟨mode, pattern, false⟩, trying := false } := by
  rw [State.testBegun, State.put_link]
  refine (State.each_p (fun t => t.link c) fun t n => t.lanePrepared_link mode pattern _ n c).trans ?_
  exact State.link_setLink_same ..

theorem State.linkState_testBegun (hf : s.portFenced c = false) : (s.testBegun c mode pattern).linkState c = linkTest := by
  have hst := s.linkState_setLinkState c linkTest hf
  simp only [State.linkState, linkFields] at hst
  simp (disch := omega) only [State.testBegun, State.linkState, linkFields, State.get_put_off]
  refine (State.each_eq (p := fun t => t.get _) _ fun t n hn => ?_).trans ?_
  · have := dataLanes_bounds hn
    exact t.get_lanePrepared_off mode pattern _ n (by omega)
  · rw [State.setLink_get, hst]
    rfl

theorem State.get_startTest_off (hg : s.gateEnabled (c / 2) = true) (hf : s.portFenced c = false)
    (hs : a ≠ 0x100108 + 0x1000 * (c / 2) + 4 * (c % 2) ∨ 2 < lo ∧ lo ≤ hi)
    (hl : a < 0x100204 + 0x1000 * (c / 2) ∨ 0x100284 + 0x1000 * (c / 2) < a) (ht : a ≠ 0x100114 + 0x1000 * (c / 2)) :
    (s.startTest c mode pattern).get ⟨a, hi, lo⟩ = s.get ⟨a, hi, lo⟩ := by
  rw [s.startTest_eq c mode pattern hg hf, State.get_showTest_off _ _ _ (.inl ht), s.get_testBegun_off c mode pattern hs hl ht]

/-- A started test is in state TEST and shows its mode. -/
theorem State.startTest_starts (hg : s.gateEnabled (c / 2) = true) (hf : s.portFenced c = false) :
    (s.startTest c mode pattern).linkState c = linkTest ∧
      ((s.startTest c mode pattern).link c).test = some ⟨mode, pattern, false⟩ := by
  have hst := s.linkState_testBegun c mode pattern hf
  rw [s.startTest_eq c mode pattern hg hf, State.showTest_link, State.testBegun_link]
  refine ⟨?_, rfl⟩
  rw [← hst]
  simp (disch := omega) only [State.linkState, linkFields, State.get_showTest_off]

theorem State.loopMode_startTest (hg : s.gateEnabled (c / 2) = true) (hf : s.portFenced c = false) (h0 : mode ≠ 0)
    (h8 : mode < 8) :
    (s.startTest c mode pattern).get (GATE.TEST_STATUS_LOOP_MODE (c / 2)) = mode := by
  rw [s.startTest_eq c mode pattern hg hf, State.showTest]
  simp (disch := omega) only [gateFields, State.get_put_at, if_neg h0]
  exact Nat.mod_eq_of_lt h8

@[simp] theorem State.startTest_engine (x : Nat) : (s.startTest c mode pattern).engine x = s.engine x :=
  State.startTest_keeps (engine_ignores x rfl) s c mode pattern

end

/-! ### The commands that start a test -/

section

variable (s : State) (c : Nat) {a hi lo : Nat}

theorem State.opcode_gate_kept {t u : State} {g op : Nat} (ht : t.get (HDR.CMD_STATUS_OPCODE (gatePage g)) = op)
    (h : u.get ⟨0x100014 + 0x1000 * g, 7, 0⟩ = t.get ⟨0x100014 + 0x1000 * g, 7, 0⟩) :
    u.get (HDR.CMD_STATUS_OPCODE (gatePage g)) = op := by
  rw [← ht]
  simp only [headerFields, pageAddrs, Nat.add_right_comm]
  exact h

theorem State.gateEnabled_accepted (g op : Nat) : (s.accepted g op).gateEnabled g = s.gateEnabled g := by
  simp (disch := omega) only [State.gateEnabled, State.on, headerFields, pageAddrs, State.get_accepted_off]

/-- A near-end loopback (R62). -/
theorem State.loopNearCmd_starts (mode pat : Nat) (hr : s.linkRefusal c = none) (hg : s.gateEnabled (c / 2) = true)
    (hf : s.portFenced c = false) (h1 : 1 ≤ pat) (h4 : pat ≤ 4) (hm : 1 ≤ mode) (hm' : mode < 8) :
    (s.loopNearCmd c mode pat).linkState c = linkTest ∧ ((s.loopNearCmd c mode pat).link c).test = some ⟨mode, pat, false⟩ ∧
      (s.loopNearCmd c mode pat).get (GATE.TEST_STATUS_LOOP_MODE (c / 2)) = mode ∧
      (s.loopNearCmd c mode pat).get (HDR.CMD_STATUS_OPCODE (gatePage (c / 2))) = 5 + mode := by
  have heq : s.loopNearCmd c mode pat = (s.accepted (c / 2) (5 + mode)).startTest c mode pat := by
    unfold State.loopNearCmd
    rw [hr]
    exact if_neg (by simp only [Bool.or_eq_true, decide_eq_true_eq]; omega)
  have hg' := (s.gateEnabled_accepted (c / 2) (5 + mode)).trans hg
  have hf' := (s.portFenced_accepted c (c / 2) (5 + mode)).trans hf
  have hop : (s.accepted (c / 2) (5 + mode)).get (HDR.CMD_STATUS_OPCODE (gatePage (c / 2))) = 5 + mode :=
    (s.opcode_accepted (c / 2) (5 + mode)).trans (Nat.mod_eq_of_lt (by omega))
  obtain ⟨hst, htest⟩ := State.startTest_starts _ c mode pat hg' hf'
  rw [heq]
  exact ⟨hst, htest, State.loopMode_startTest _ c mode pat hg' hf' (by omega) hm',
    State.opcode_gate_kept hop (State.get_startTest_off _ c mode pat hg' hf' (by omega) (by omega) (by omega))⟩

theorem State.portUp (h : s.portDown c = false) : s.portPresent c = true ∧ s.gateEnabled (c / 2) = true ∧
    s.engineFenced (c / 2) = false := by
  simpa [State.portDown, and_assoc] using h

/-- A test whose camera writes follow, on a port that is not down. -/
theorem State.testStarted (op mode pat : Nat) (hd : s.portDown c = false) (hf : s.portFenced c = false) :
    ((s.accepted (c / 2) op).startTest c mode pat).linkState c = linkTest ∧
      (((s.accepted (c / 2) op).startTest c mode pat).link c).test = some ⟨mode, pat, false⟩ ∧
      (((s.accepted (c / 2) op).startTest c mode pat).engine (c / 2)) = s.engine (c / 2) ∧
      ((s.accepted (c / 2) op).startTest c mode pat).portDown c = false ∧
      (∀ v, ((s.accepted (c / 2) op).startTest c mode pat).diWord c v = s.diWord c v) ∧
      ((s.accepted (c / 2) op).startTest c mode pat).loopPat (c / 2) = s.loopPat (c / 2) := by
  have hg' := (s.gateEnabled_accepted (c / 2) op).trans (s.portUp c hd).2.1
  have hf' := (s.portFenced_accepted c (c / 2) op).trans hf
  have hget {a hi lo : Nat} (h1 : a < 0x100014 + 0x1000 * (c / 2) ∨ 0x100284 + 0x1000 * (c / 2) < a ∨
      a = 0x100160 + 0x1000 * (c / 2)) :
      ((s.accepted (c / 2) op).startTest c mode pat).get ⟨a, hi, lo⟩ = s.get ⟨a, hi, lo⟩ := by
    rw [State.get_startTest_off _ c mode pat hg' hf' (by omega) (by omega) (by omega),
      s.get_accepted_off _ _ (by omega) (by omega)]
  obtain ⟨hst, htest⟩ := State.startTest_starts _ c mode pat hg' hf'
  refine ⟨hst, htest, by simp, ?_, fun v => State.diWord_of_get v ?_, ?_⟩
  · rw [← hd]
    exact State.portDown_of_get fun _ _ _ ha => hget (by omega)
  · simp only [bridgeFields]
    exact hget (by omega)
  · simp only [State.loopPat, laneFields]
    refine congrArg List.flatten (List.map_congr_left fun i _ => ?_)
    rw [hget (by omega)]

/-- The far-end loopback: LOOP_PAT goes into the buffer of the camera, then its loop is switched on (R63). -/
theorem State.loopFarCmd_starts (hr : s.farRefusal c = none) (hd : s.portDown c = false) (hf : s.portFenced c = false) :
    ∃ r1 r2 : Req, (s.loopFarCmd c).linkState c = linkTest ∧ ((s.loopFarCmd c).link c).test = some ⟨3, 4, false⟩ ∧
      ((s.loopFarCmd c).engine (c / 2)).reqs = (s.engine (c / 2)).reqs ++ [r1, r2] ∧ r1.purpose = .loopBuf ∧ r1.addr = 0x100 ∧
      r1.data = s.loopPat (c / 2) ∧ r2.purpose = .farLoop ∧ r2.addr = 0x1C ∧ r2.data = s.diWord c 1 := by
  have heq : s.loopFarCmd c = (((s.accepted (c / 2) 0x08).startTest c 3 4).deviceWrite c .loopBuf 0x100
      (((s.accepted (c / 2) 0x08).startTest c 3 4).loopPat (c / 2))).deviceWord c .farLoop 0x1C 1 := by
    unfold State.loopFarCmd
    rw [hr]
    rfl
  obtain ⟨hst, htest, heng, hdown, hword, hpat⟩ := s.testStarted c 0x08 3 4 hd hf
  rw [hpat] at heq
  have hdown2 := (State.portDown_enqueue _ c .loopBuf 1 2 0x100 (s.loopPat (c / 2)) 0 0).trans hdown
  rw [heq, State.deviceWrite_up _ c _ _ _ hdown, State.deviceWord_link _ c _ _ _ _ hdown2, State.enqueue_link,
    State.deviceWord_reqs _ c _ _ _ hdown2, State.enqueue_reqs, heng, List.append_assoc, State.diWord_enqueue, hword]
  simp only [State.linkState, linkFields] at hst ⊢
  rw [State.get_deviceWord_off _ c _ _ _ hdown2 (by omega), State.get_enqueue_off _ _ _ _ _ _ _ _ _ (by omega) (by omega)]
  exact ⟨_, _, hst, htest, rfl, rfl, rfl, rfl, rfl, rfl, rfl⟩

/-- A camera pattern: the selection of its generator is written (R64). -/
theorem State.camPrbsCmd_starts (pat : Nat) (h1 : 1 ≤ pat) (h3 : pat ≤ 3) (hr : s.farRefusal c = none)
    (hd : s.portDown c = false) (hf : s.portFenced c = false) :
    ∃ r : Req, (s.camPrbsCmd c pat).linkState c = linkTest ∧ ((s.camPrbsCmd c pat).link c).test = some ⟨4, pat, false⟩ ∧
      ((s.camPrbsCmd c pat).engine (c / 2)).reqs = (s.engine (c / 2)).reqs ++ [r] ∧ r.purpose = .prbsSel ∧ r.addr = 0x1C ∧
      r.data = s.diWord c (4 * pat) := by
  have heq : s.camPrbsCmd c pat = ((s.accepted (c / 2) 0x09).startTest c 4 pat).deviceWord c .prbsSel 0x1C (4 * pat) := by
    unfold State.camPrbsCmd
    rw [hr]
    exact if_neg (by simp only [Bool.or_eq_true, decide_eq_true_eq]; omega)
  obtain ⟨hst, htest, heng, hdown, hword, -⟩ := s.testStarted c 0x09 4 pat hd hf
  rw [heq, State.deviceWord_link _ c _ _ _ _ hdown, State.deviceWord_reqs _ c _ _ _ hdown, heng, hword]
  simp only [State.linkState, linkFields] at hst ⊢
  rw [State.get_deviceWord_off _ c _ _ _ hdown (by omega)]
  exact ⟨_, hst, htest, rfl, rfl, rfl, rfl⟩

/-! ### TEST_STOP (R50, R52) -/

/-- A stopped test before the port goes to CLOCK. -/
def State.testEnded : State :=
  ((((s.accepted (c / 2) 0x0A).endTest c).put (LNK.DLL_LOCK c) 0).put (LNK.DESKEW_DONE c) 0).huntLanes c

theorem State.testStopCmd_eq (h : s.linkState c = linkTest) :
    s.testStopCmd c = ((s.testEnded c).enterClock c).deviceWord c .testOff 0x1C 0 := by
  unfold State.testStopCmd
  rw [if_neg (by simp [h])]
  rfl

theorem State.get_testEnded_off
    (h1 : a < 0x100014 + 0x1000 * (c / 2) ∨ 0x100284 + 0x1000 * (c / 2) < a ∨ a = 0x100160 + 0x1000 * (c / 2)) :
    (s.testEnded c).get ⟨a, hi, lo⟩ = s.get ⟨a, hi, lo⟩ := by
  simp (disch := omega) only [State.testEnded, linkFields, State.get_huntLanes_off, State.get_put_off, State.get_endTest_off,
    State.get_accepted_off]

theorem State.testEnded_link : (s.testEnded c).link c = { s.link c with test := none } := by
  rw [State.testEnded, State.huntLanes_link, State.put_link, State.put_link, State.endTest_link, State.accepted_link]

theorem State.testEnded_engine (x : Nat) : (s.testEnded c).engine x = s.engine x := by
  simp [State.testEnded]

theorem State.reqs_enterClock (h : s.portDown c = false) :
    ((s.link c).discovered = true → ((s.enterClock c).engine (c / 2)).reqs = (s.engine (c / 2)).reqs) ∧
      ((s.link c).discovered = false → ∃ r : Req, r.purpose = .discMagic ∧ r.addr = 0 ∧
        ((s.enterClock c).engine (c / 2)).reqs = (s.engine (c / 2)).reqs ++ [r]) := by
  rw [s.enterClock_eq c]
  refine ⟨fun hd => ?_, fun hd => ?_⟩
  · rw [if_pos hd, State.toClock_engine]
  · obtain ⟨r, hp, ha, hr⟩ := (s.atClock c).startDiscovery_reqs c ((s.portDown_atClock c).trans h)
    rw [if_neg (by simp [hd])]
    exact ⟨r, hp, ha, by rw [hr, State.atClock, State.setLink_engine, State.toClock_engine]⟩

theorem State.testStopCmd_stops (h : s.linkState c = linkTest) (hd : s.portDown c = false) (hf : s.portFenced c = false) :
    ∃ r : Req, (s.testStopCmd c).linkState c = linkClock ∧ ((s.testStopCmd c).link c).test = none ∧
      ((s.testStopCmd c).engine (c / 2)).reqs = (((s.testEnded c).enterClock c).engine (c / 2)).reqs ++ [r] ∧
      r.purpose = .testOff ∧ r.addr = 0x1C ∧ r.data = s.diWord c 0 := by
  have hd' : (s.testEnded c).portDown c = false := by
    rw [← hd]
    exact State.portDown_of_get fun _ _ _ ha => s.get_testEnded_off c (by omega)
  have hf' : (s.testEnded c).portFenced c = false := by
    rw [← hf]
    exact State.portFenced_of_get fun _ _ _ ha => s.get_testEnded_off c (by omega)
  have hd2 : ((s.testEnded c).enterClock c).portDown c = false := by
    rw [← hd']
    exact State.portDown_of_get fun _ _ _ ha => State.get_enterClock_off _ c hd' (by omega) (by omega)
  have hword : ((s.testEnded c).enterClock c).diWord c 0 = s.diWord c 0 := by
    refine State.diWord_of_get 0 ?_
    simp only [bridgeFields]
    rw [State.get_enterClock_off _ c hd' (by omega) (by omega), s.get_testEnded_off c (by omega)]
  have hst := State.linkState_enterClock _ c hd' hf'
  rw [s.testStopCmd_eq c h, State.deviceWord_link _ c _ _ _ _ hd2, State.enterClock_link _ c hd', State.testEnded_link,
    State.deviceWord_reqs _ c _ _ _ hd2, hword]
  simp only [State.linkState, linkFields, true_and] at hst ⊢
  rw [State.get_deviceWord_off _ c _ _ _ hd2 (by omega)]
  exact ⟨_, hst, rfl, rfl, rfl, rfl⟩

theorem State.reqs_testStopCmd (h : s.linkState c = linkTest) (hd : s.portDown c = false) (hf : s.portFenced c = false) :
    ((s.link c).discovered = true → ∃ r : Req, (s.testStopCmd c).linkState c = linkClock ∧
        ((s.testStopCmd c).link c).test = none ∧
        ((s.testStopCmd c).engine (c / 2)).reqs = (s.engine (c / 2)).reqs ++ [r] ∧ r.purpose = .testOff ∧ r.addr = 0x1C ∧
        r.data = s.diWord c 0) ∧
      ((s.link c).discovered = false → ∃ r1 r2 : Req, (s.testStopCmd c).linkState c = linkClock ∧
        ((s.testStopCmd c).link c).test = none ∧ ((s.testStopCmd c).engine (c / 2)).reqs = (s.engine (c / 2)).reqs ++ [r1, r2] ∧
        r1.purpose = .discMagic ∧ r1.addr = 0 ∧ r2.purpose = .testOff ∧ r2.addr = 0x1C ∧ r2.data = s.diWord c 0) := by
  have hd' : (s.testEnded c).portDown c = false := by
    rw [← hd]
    exact State.portDown_of_get fun _ _ _ ha => s.get_testEnded_off c (by omega)
  obtain ⟨r, hst, htest, hreqs, hp, ha, hv⟩ := s.testStopCmd_stops c h hd hf
  obtain ⟨hyes, hno⟩ := State.reqs_enterClock (s.testEnded c) c hd'
  rw [s.testEnded_link, s.testEnded_engine] at hyes hno
  refine ⟨fun hdisc => ⟨r, hst, htest, by rw [hreqs, hyes hdisc], hp, ha, hv⟩, fun hdisc => ?_⟩
  obtain ⟨r1, hp1, ha1, hr1⟩ := hno hdisc
  exact ⟨r1, r, hst, htest, by rw [hreqs, hr1, List.append_assoc]; rfl, hp1, ha1, hp, ha, hv⟩

end

/-! ### The generators and checkers of raw patterns (R61, R432) -/

section

variable {n m x : Nat}

/-- The next state of the generator. -/
def prbsGen (n m x : Nat) : Nat := prbsShift n x (prbsNext n m x)

/-- The bit that the generator sends in a state. -/
def prbsOut (n x : Nat) : Nat := x / 2 ^ (n - 1) % 2

theorem prbsBits_succ (n m k x : Nat) : prbsBits n m (k + 1) x = (prbsOut n x == 1) :: prbsBits n m k (prbsGen n m x) := rfl

theorem prbsNext_lt (n m x : Nat) : prbsNext n m x < 2 := Nat.mod_lt _ (by decide)

theorem b2n_beq_one {v : Nat} (h : v < 2) : b2n (v == 1) = v := by
  interval_cases v <;> rfl

theorem prbsGen_lt (n m x : Nat) : prbsGen n m x < 2 ^ n := Nat.mod_lt _ (by positivity)

/-- The state of zeros is reached from itself alone. -/
theorem prbsGen_pos (hm : 0 < m) (hmn : m < n) (hx : 0 < x) (hlt : x < 2 ^ n) : 0 < prbsGen n m x := by
  have hn : 2 ^ n = 2 * 2 ^ (n - 1) := by rw [← pow_succ']; congr 1; omega
  have hb := prbsNext_lt n m x
  rw [prbsGen, prbsShift]
  by_contra h0
  have h0 : (x * 2 + prbsNext n m x) % 2 ^ n = 0 := by omega
  have hdvd := Nat.dvd_of_mod_eq_zero h0
  have hx' : x = 2 ^ (n - 1) ∧ prbsNext n m x = 0 := by
    obtain ⟨k, hk⟩ := hdvd
    have hk1 : k < 2 := by
      by_contra hge
      have := Nat.mul_le_mul_left (2 ^ n) (Nat.le_of_not_lt hge)
      omega
    interval_cases k <;> omega
  have hpow : 2 ^ (n - 1) / 2 ^ (m - 1) = 2 * 2 ^ (n - m - 1) := by
    rw [Nat.pow_div (by omega) (by decide), ← pow_succ']
    congr 1
    omega
  obtain ⟨hxv, hzero⟩ := hx'
  rw [prbsNext, hxv, Nat.div_self (by positivity), hpow] at hzero
  omega

/-- After j steps the state holds what is left of the first state above the j bits shifted in, the first of them topmost. -/
theorem prbsGen_iterate (n m x j : Nat) : ∃ e, e < 2 ^ j ∧ (prbsGen n m)^[j] x % 2 ^ n = (x * 2 ^ j + e) % 2 ^ n ∧
    (0 < j → e / 2 ^ (j - 1) = prbsNext n m x) := by
  induction j with
  | zero => exact ⟨0, by simp, by simp, by simp⟩
  | succ j ih =>
    obtain ⟨e, he, hs, htop⟩ := ih
    have hb := prbsNext_lt n m ((prbsGen n m)^[j] x)
    refine ⟨2 * e + prbsNext n m ((prbsGen n m)^[j] x), ?_, ?_, fun _ => ?_⟩
    · rw [pow_succ]
      omega
    · rw [Function.iterate_succ_apply', prbsGen, prbsShift, Nat.mod_mod, Nat.add_mod, Nat.mul_mod, hs, ← Nat.mul_mod,
        ← Nat.add_mod]
      congr 1
      ring
    · rw [Nat.add_sub_cancel]
      cases j with
      | zero =>
        have he0 : e = 0 := by simpa using he
        simp [he0]
      | succ j =>
        rw [pow_succ', ← Nat.div_div_eq_div_mul, show (2 * e + prbsNext n m ((prbsGen n m)^[j + 1] x)) / 2 = e by omega]
        exact htop (by omega)

theorem prbsGen_iterate_lt (hlt : x < 2 ^ n) (j : Nat) : (prbsGen n m)^[j] x < 2 ^ n := by
  cases j with
  | zero => exact hlt
  | succ j => rw [Function.iterate_succ_apply']; exact prbsGen_lt _ _ _

/-- The first n bits sent are those of the first state, the topmost first. -/
theorem prbsOut_seed (hlt : x < 2 ^ n) {j : Nat} (hj : j < n) :
    prbsOut n ((prbsGen n m)^[j] x) = x / 2 ^ (n - 1 - j) % 2 := by
  obtain ⟨e, he, hs, -⟩ := prbsGen_iterate n m x j
  rw [Nat.mod_eq_of_lt (prbsGen_iterate_lt hlt j)] at hs
  have hn : 2 ^ n = 2 ^ (n - 1) * 2 := by rw [← pow_succ]; congr 1; omega
  have hn1 : 2 ^ (n - 1) = 2 ^ j * 2 ^ (n - 1 - j) := by rw [← pow_add]; congr 1; omega
  rw [prbsOut, hs, hn, Nat.mod_mul_right_div_self, Nat.mod_mod, hn1, ← Nat.div_div_eq_div_mul, Nat.add_comm,
    Nat.add_mul_div_right _ _ (by positivity), Nat.div_eq_of_lt he, Nat.zero_add]

/-- Then the bit sent is the one that the first state shifts in. -/
theorem prbsOut_ahead (hn : 0 < n) (hlt : x < 2 ^ n) : prbsOut n ((prbsGen n m)^[n] x) = prbsNext n m x := by
  obtain ⟨e, he, hs, htop⟩ := prbsGen_iterate n m x n
  rw [Nat.mod_eq_of_lt (prbsGen_iterate_lt hlt n), Nat.add_comm, Nat.add_mul_mod_self_right, Nat.mod_eq_of_lt he] at hs
  rw [prbsOut, hs, htop hn, Nat.mod_eq_of_lt (prbsNext_lt n m x)]

/-! The checker on the bits of the generator -/

/-- The checker after j seed bits. -/
def seeded (n x j : Nat) : Checker := { reg := x / 2 ^ (n - j), seen := j }

/-- The checker after i bits without an error behind its seed. -/
def tracking (n r i : Nat) : Checker := { reg := r, seen := n, run := i }

theorem take_seeded (hlt : x < 2 ^ n) {j : Nat} (hj : j < n) :
    Checker.take n m (seeded n x j) (x / 2 ^ (n - 1 - j) % 2 == 1) = seeded n x (j + 1) := by
  have hb : b2n (x / 2 ^ (n - 1 - j) % 2 == 1) = x / 2 ^ (n - 1 - j) % 2 := b2n_beq_one (Nat.mod_lt _ (by decide))
  have hdiv : x / 2 ^ (n - j) = x / 2 ^ (n - 1 - j) / 2 := by
    rw [Nat.div_div_eq_div_mul, ← pow_succ]
    congr 2
    omega
  have hsub : n - (j + 1) = n - 1 - j := by omega
  have hreg : prbsShift n (x / 2 ^ (n - j)) (x / 2 ^ (n - 1 - j) % 2) = x / 2 ^ (n - (j + 1)) := by
    rw [prbsShift, hdiv, Nat.div_add_mod' _ 2, hsub]
    exact Nat.mod_eq_of_lt (lt_of_le_of_lt (Nat.div_le_self _ _) hlt)
  simp only [Checker.take, seeded, hb, hreg, Bool.false_eq_true, if_false, hj, if_true]

theorem take_tracking {r i : Nat} (hr : 0 < r) (hi : i + 1 ≠ 1024) :
    Checker.take n m (tracking n r i) (prbsNext n m r == 1) = tracking n (prbsGen n m r) (i + 1) := by
  have hb : b2n (prbsNext n m r == 1) = prbsNext n m r := b2n_beq_one (prbsNext_lt n m r)
  simp [Checker.take, tracking, hb, Nat.ne_of_gt hr, hi, prbsGen]

theorem take_tracking_locks {r : Nat} (hr : 0 < r) :
    (Checker.take n m (tracking n r 1023) (prbsNext n m r == 1)).locked = true ∧
      (Checker.take n m (tracking n r 1023) (prbsNext n m r == 1)).errs = 0 := by
  have hb : b2n (prbsNext n m r == 1) = prbsNext n m r := b2n_beq_one (prbsNext_lt n m r)
  simp [Checker.take, tracking, hb, Nat.ne_of_gt hr]

theorem foldl_take_seeded (hlt : x < 2 ^ n) (k j : Nat) (hj : j ≤ n) :
    (prbsBits n m (j + k) ((prbsGen n m)^[n - j] x)).foldl (Checker.take n m) (seeded n x (n - j)) =
      (prbsBits n m k ((prbsGen n m)^[n] x)).foldl (Checker.take n m) (seeded n x n) := by
  induction j with
  | zero => rw [Nat.zero_add, Nat.sub_zero]
  | succ j ih =>
    have hsub : n - (j + 1) + 1 = n - j := by omega
    rw [Nat.add_right_comm, prbsBits_succ, List.foldl_cons, prbsOut_seed hlt (by omega), take_seeded hlt (by omega), hsub,
      ← Function.iterate_succ_apply' (prbsGen n m), Nat.succ_eq_add_one, hsub]
    exact ih (by omega)

theorem foldl_take_tracking (hm : 0 < m) (hmn : m < n) (k : Nat) {r : Nat} (hr : 0 < r) (hlt : r < 2 ^ n) (hk : k < 1024) :
    ((prbsBits n m (k + 1) ((prbsGen n m)^[n] r)).foldl (Checker.take n m) (tracking n r (1023 - k))).locked = true ∧
      ((prbsBits n m (k + 1) ((prbsGen n m)^[n] r)).foldl (Checker.take n m) (tracking n r (1023 - k))).errs = 0 := by
  induction k generalizing r with
  | zero =>
    rw [prbsBits_succ, List.foldl_cons, prbsOut_ahead (by omega) hlt]
    exact take_tracking_locks hr
  | succ k ih =>
    have hsub : 1023 - (k + 1) + 1 = 1023 - k := by omega
    rw [prbsBits_succ, List.foldl_cons, prbsOut_ahead (by omega) hlt, take_tracking hr (by omega), hsub,
      ← Function.iterate_succ_apply' (prbsGen n m), Function.iterate_succ_apply]
    exact ih (prbsGen_pos hm hmn hr hlt) (prbsGen_lt n m r) (by omega)

/-- A fresh checker locks on n seed bits and 1,024 bits of the generator (R61). -/
theorem checker_locks (hm : 0 < m) (hmn : m < n) (hx : 0 < x) (hlt : x < 2 ^ n) :
    ((prbsBits n m (n + 1024) x).foldl (Checker.take n m) {}).locked = true ∧
      ((prbsBits n m (n + 1024) x).foldl (Checker.take n m) {}).errs = 0 := by
  have hseed := foldl_take_seeded (m := m) hlt 1024 n le_rfl
  have h0 : seeded n x (n - n) = {} := by
    rw [seeded, Nat.sub_self, Nat.sub_zero, Nat.div_eq_of_lt hlt]
  have hn : seeded n x n = tracking n x 0 := by
    rw [seeded, tracking, Nat.sub_self, pow_zero, Nat.div_one]
  rw [Nat.sub_self, Function.iterate_zero_apply, ← Nat.sub_self n, h0, hn] at hseed
  rw [hseed]
  exact foldl_take_tracking hm hmn 1023 hx hlt (by decide)

end

/-! ### Blocks at the checkers of a port under test (R61, R63, R71) -/

section

variable {s : State} {g n c : Nat} {x : PortTest} {a hi lo : Nat}

theorem State.testDone_eq (s : State) (c : Nat) (all : Bool) (h : (s.link c).test = some x) :
    s.testDone c all = if all && !x.done then
      (s.setLink c { s.link c with test := some { x with done := true } }).raise (gatePage (c / 2)) 7 else s := by
  unfold State.testDone
  rw [h]

theorem State.get_testDone_off (s : State) (c : Nat) (all : Bool) (h1 : a ≠ 0x100020 + 0x1000 * (c / 2)) (h2 : a < 0xFF8000) :
    (s.testDone c all).get ⟨a, hi, lo⟩ = s.get ⟨a, hi, lo⟩ := by
  unfold State.testDone
  split
  · split_ifs
    · rw [State.get_raise_off _ _ _ (by simp only [pageAddrs]; omega) h2, State.setLink_get]
    · rfl
  · rfl

/-- Raw bits taken in by the checker of a lane, before TEST_DONE. -/
def State.prbsTaken (s : State) (g n c : Nat) (k : Checker) : State :=
  (((s.adaptAll c n).onLane g n (fun y => { y with prbs := k })).addSat (GATE.LANE_PRBS_ERR g n) k.errs).putB
    (GATE.LANE_STATUS_PRBS_LOCK g n) k.locked

theorem State.on_prbsTaken (s : State) (g n c : Nat) (k : Checker) :
    (s.prbsTaken g n c k).on (GATE.LANE_STATUS_PRBS_LOCK g n) = k.locked := by
  have hb (b : Bool) : (b2n b % 2 == 1) = b := by cases b <;> rfl
  simp (disch := omega) only [State.prbsTaken, State.on, State.putB, laneFields, State.get_put_at]
  have hw : 31 + 1 - 31 = 1 := rfl
  rw [hw, pow_one, hb]

theorem State.prbsTaken_link (s : State) (g n c : Nat) (k : Checker) : (s.prbsTaken g n c k).link c = s.link c := by
  simp [State.prbsTaken]

theorem State.prbsBlock_eq (hport : s.portOfLane g n = some c) (ht : (s.link c).test = some x) (hm : x.mode ≠ 3)
    (hp : x.pattern ≤ 3) (bits : List Bool) :
    s.prbsBlock g n bits =
      (s.prbsTaken g n c ((s.lane g n).prbs.run_ x.pattern (s.rawBits g n x.mode bits))).testDone c
        (((s.prbsTaken g n c ((s.lane g n).prbs.run_ x.pattern (s.rawBits g n x.mode bits))).portLanes c).all (fun m =>
          (s.prbsTaken g n c ((s.lane g n).prbs.run_ x.pattern
          (s.rawBits g n x.mode bits))).on (GATE.LANE_STATUS_PRBS_LOCK g m))) := by
  unfold State.prbsBlock
  rw [hport]
  simp only [ht]
  rw [if_neg (by simp only [Bool.or_eq_true, decide_eq_true_eq]; omega)]
  rfl

theorem State.mem_portLanes_prbsTaken (hport : s.portOfLane g n = some c) (k : Checker) :
    n ∈ (s.prbsTaken g n c k).portLanes c := by
  obtain ⟨hg, hn⟩ := State.portOfLane_some hport
  have hn4 := (dataLanes_bounds hn).2
  rw [State.portLanes_of_get (s := s) fun a hi lo ha => ?_]
  · exact hn
  · simp (disch := omega) only [State.prbsTaken, State.putB, State.addSat, laneFields, State.onLane_get, State.get_put_off,
      State.get_adaptAll_off]

/-- Before every lane has locked, and after TEST_DONE, the bits change their lane alone. -/
theorem State.prbsBlock_lane (hport : s.portOfLane g n = some c) (ht : (s.link c).test = some x) (hm : x.mode ≠ 3)
    (hp : x.pattern ≤ 3) {bits : List Bool} {k : Checker}
    (hk : (s.lane g n).prbs.run_ x.pattern (s.rawBits g n x.mode bits) = k) (hd : k.locked = false ∨ x.done = true) :
    s.prbsBlock g n bits = s.prbsTaken g n c k := by
  have ht' : ((s.prbsTaken g n c k).link c).test = some x := by rw [s.prbsTaken_link, ht]
  rw [State.prbsBlock_eq hport ht hm hp bits, hk, State.testDone_eq _ c _ ht']
  refine if_neg fun hall => ?_
  simp only [Bool.and_eq_true, List.all_eq_true, Bool.not_eq_true'] at hall
  obtain ⟨hlock, hdone⟩ := hall
  rcases hd with hd | hd
  · have := hlock n (State.mem_portLanes_prbsTaken hport k)
    rw [s.on_prbsTaken, hd] at this
    exact Bool.false_ne_true this
  · rw [hd] at hdone
    cases hdone

theorem State.on_prbsBlock (hport : s.portOfLane g n = some c) (hg : g < 128) (ht : (s.link c).test = some x) (hm : x.mode ≠ 3)
    (hp : x.pattern ≤ 3) (bits : List Bool) :
    (s.prbsBlock g n bits).on (GATE.LANE_STATUS_PRBS_LOCK g n) =
      ((s.lane g n).prbs.run_ x.pattern (s.rawBits g n x.mode bits)).locked := by
  obtain ⟨hgc, hn⟩ := State.portOfLane_some hport
  have hn4 := (dataLanes_bounds hn).2
  rw [State.prbsBlock_eq hport ht hm hp bits, ← s.on_prbsTaken g n c]
  simp only [State.on, laneFields]
  rw [State.get_testDone_off _ c _ (by omega) (by omega)]

/-! A block of LOOP_PAT -/

theorem State.farBlock_eq (hport : s.portOfLane g n = some c) (ht : (s.link c).test = some x) (hm : x.mode = 3 ∨ x.pattern = 4)
    {block : List Byte} (hl : block.length = 256) :
    s.farBlock g n block =
      if (s.adaptAll c n).on (LNK.FAR_LOCK c) then
        (s.adaptAll c n).addSat (GATE.LANE_PRBS_ERR g n) (bitErrors block (s.loopPat g))
      else if block = s.loopPat g then
        let t := (s.adaptAll c n).onLane g n (fun y => { y with blockOk := true })
        if (t.portLanes c).all (fun m => (t.lane g m).blockOk) then (t.put (LNK.FAR_LOCK c) 1).testDone c true else t
      else s.adaptAll c n := by
  have hok : ¬ (decide (block.length ≠ 256) || !(decide (x.mode = 3) || decide (x.pattern = 4))) = true := by
    rcases hm with h | h <;> simp [hl, h]
  unfold State.farBlock
  rw [hport]
  simp only [ht]
  rw [if_neg hok]

theorem State.farLock_adaptAll (s : State) (c n : Nat) : (s.adaptAll c n).on (LNK.FAR_LOCK c) = s.on (LNK.FAR_LOCK c) := by
  simp (disch := omega) only [State.on, linkFields, State.get_adaptAll_off]

/-- Once locked, a block counts its bit errors. -/
theorem State.farBlock_locked (hport : s.portOfLane g n = some c) (ht : (s.link c).test = some x)
    (hm : x.mode = 3 ∨ x.pattern = 4) {block : List Byte} (hl : block.length = 256) (hf : s.on (LNK.FAR_LOCK c) = true) :
    s.farBlock g n block = (s.adaptAll c n).addSat (GATE.LANE_PRBS_ERR g n) (bitErrors block (s.loopPat g)) := by
  rw [State.farBlock_eq hport ht hm hl, s.farLock_adaptAll, if_pos hf]

/-- The first good block of the last lane locks the port. -/
theorem State.farBlock_locks (hport : s.portOfLane g n = some c) (hg : g < 128) (ht : (s.link c).test = some x)
    (hm : x.mode = 3 ∨ x.pattern = 4) {block : List Byte} (hl : block.length = 256) (hf : s.on (LNK.FAR_LOCK c) = false)
    (hb : block = s.loopPat g) (hlen : n < (s.gate g).lanes.length)
    (hall : ∀ m ∈ s.portLanes c, m ≠ n → (s.lane g m).blockOk = true) : (s.farBlock g n block).on (LNK.FAR_LOCK c) = true := by
  obtain ⟨hgc, hn⟩ := State.portOfLane_some hport
  have hlanes : ((s.adaptAll c n).onLane g n (fun y => { y with blockOk := true })).portLanes c = s.portLanes c :=
    State.portLanes_of_get fun a hi lo ha => by rw [State.onLane_get, s.get_adaptAll_off c n (by omega)]
  have hok : (((s.adaptAll c n).onLane g n (fun y => { y with blockOk := true })).portLanes c).all (fun m =>
      (((s.adaptAll c n).onLane g n (fun y => { y with blockOk := true })).lane g m).blockOk) = true := by
    rw [hlanes, List.all_eq_true]
    intro m hmem
    by_cases hmn : m = n
    · subst hmn
      rw [State.lane_onLane_same _ _ _ _ (by rwa [State.adaptAll_gate])]
    · rw [State.lane_onLane_ne _ _ _ hmn, State.lane_of_gate_eq m (s.adaptAll_gate c n g)]
      exact hall m hmem hmn
  rw [State.farBlock_eq hport ht hm hl, s.farLock_adaptAll, if_neg (by simp [hf]), if_pos hb]
  simp only []
  rw [if_pos hok]
  simp only [State.on, linkFields]
  rw [State.get_testDone_off _ c _ (by omega) (by omega), State.get_put_at _ _ (by omega)]
  have hw : c % 2 + 8 + 1 - (c % 2 + 8) = 1 := by omega
  rw [hw]
  rfl

end

/-- Settles O20, by what each command starts, the run of a checker on its generator, and the branches of a block in a test. -/
theorem linkTestCommandsComplete : Obligations.LinkTestCommandsComplete := by
  refine ⟨?_, ?_, ?_⟩
  · intro s g p c hh hf
    have hg : c / 2 = g := portNo_div g p
    refine ⟨fun hr hge pat h1 h4 => ?_, fun hr hd => ⟨?_, fun pat h1 h3 => ?_⟩, fun hst hd => ?_⟩
    · rw [← hg] at hge ⊢
      exact ⟨⟨_, congrArg Host.Outcome.next (s.when_true _ hh),
          s.loopNearCmd_starts c 1 pat hr hge hf h1 h4 (by decide) (by decide)⟩,
        ⟨_, congrArg Host.Outcome.next (s.when_true _ hh),
          s.loopNearCmd_starts c 2 pat hr hge hf h1 h4 (by decide) (by decide)⟩⟩
    · obtain ⟨r1, r2, h⟩ := s.loopFarCmd_starts c hr hd hf
      rw [hg] at h
      exact ⟨_, r1, r2, congrArg Host.Outcome.next (s.when_true _ hh), h⟩
    · obtain ⟨r, h⟩ := s.camPrbsCmd_starts c pat h1 h3 hr hd hf
      rw [hg] at h
      exact ⟨_, r, congrArg Host.Outcome.next (s.when_true _ hh), h⟩
    · obtain ⟨hyes, hno⟩ := s.reqs_testStopCmd c hst hd hf
      rw [hg] at hyes hno
      refine ⟨fun hdisc => ?_, fun hdisc => ?_⟩
      · obtain ⟨r, h⟩ := hyes hdisc
        exact ⟨_, r, congrArg Host.Outcome.next (s.when_true _ hh), h⟩
      · obtain ⟨r1, r2, h⟩ := hno hdisc
        exact ⟨_, r1, r2, congrArg Host.Outcome.next (s.when_true _ hh), h⟩
  · intro pattern hpat x hx hlt
    have htaps : 0 < (prbsTaps pattern).2 ∧ (prbsTaps pattern).2 < (prbsTaps pattern).1 := by
      unfold prbsTaps
      split_ifs <;> decide
    exact checker_locks htaps.1 htaps.2 hx hlt
  · intro s g n c x hrun hport ht
    have hexec (f : State → State) :
        Host.Outcome.next (s.when s.running f) = (.next (f s) : Host.Outcome State Fault Refusal) :=
      congrArg Host.Outcome.next (s.when_true f hrun)
    refine ⟨fun hm hp bits => ⟨fun hd => ?_, ?_⟩, fun hm block hl => ⟨fun hf => ?_, fun hf hb hlen hall => ?_⟩⟩
    · exact (hexec _).trans (congrArg Host.Outcome.next (State.prbsBlock_lane hport ht hm hp rfl hd))
    · exact ⟨_, hexec _, State.on_prbsBlock hport g.isLt ht hm hp bits⟩
    · exact (hexec _).trans (congrArg Host.Outcome.next (State.farBlock_locked hport ht hm hl hf))
    · exact ⟨_, hexec _, State.farBlock_locks hport g.isLt ht hm hl hf hb hlen hall⟩

end Sys2Proof.Machine
end

section
/-!
PROOFS. The power states of gates and slices (R55, R57 to R59, R398 to R403; O45).
-/

namespace Sys2Proof.Machine

section

variable (s : State) {a hi lo : Nat}

/-! ### Wake budgets (R398, R404) -/

theorem State.get_sliceWake_off (k : Nat) (h : a ≠ 0x200064 + 0x1000 * k) :
    (s.sliceWake k).get ⟨a, hi, lo⟩ = s.get ⟨a, hi, lo⟩ := by
  simp only [State.sliceWake]
  split_ifs
  · rfl
  · rfl
  · simp (disch := omega) only [sliceFields, State.get_put_off, State.setSlice_get]

theorem State.get_budgetWake_off (k : Nat) (h : a ≠ 0x200064 + 0x1000 * k) :
    (s.budgetWake k).get ⟨a, hi, lo⟩ = s.get ⟨a, hi, lo⟩ := by
  unfold State.budgetWake
  split_ifs
  · exact s.get_sliceWake_off k h
  · rfl

theorem State.gateBudget_writeBudget (n : Nat) {us : Nat} (h : us ≤ 1000000) :
    (s.writeBudget .gate n us).get (GATE.PWR_BUDGET n) = us := by
  have hput : (s.put ⟨0x100060 + 0x1000 * n, 19, 0⟩ us).get ⟨0x100060 + 0x1000 * n, 19, 0⟩ = us := by
    rw [State.get_put_at _ _ (by omega)]
    exact Nat.mod_eq_of_lt (by omega)
  simp only [State.writeBudget]
  rw [if_neg (by omega), (gateFields n).1]
  split_ifs
  · rw [State.get_gateWake_off _ _ (by omega), hput]
  · exact hput

theorem State.sliceBudget_writeBudget (n : Nat) {us : Nat} (h : us ≤ 1000000) :
    (s.writeBudget .slice n us).get (SLICE.PWR_BUDGET n) = us := by
  simp only [State.writeBudget]
  rw [if_neg (by omega)]
  simp (disch := omega) only [sliceFields, State.get_budgetWake_off, State.get_put_at]
  exact Nat.mod_eq_of_lt (by omega)

theorem State.writeBudget_refused {p : Page} (n : Nat) {us : Nat} (hp : p = .gate ∨ p = .slice) (h : 1000000 < us) :
    s.writeBudget p n us = s.refuse (pageAddr p n) 0xB1 := by
  rcases hp with rfl | rfl <;> exact if_pos h

theorem budget_field (v : Word) : getBits v 19 0 = v.toNat % 2 ^ 20 := by
  simp [getBits]

theorem State.onPage_eq {page : Nat} {p : Page} {n : Nat} (h : hdrPage (page * 0x1000) = some (p, n))
    (f : State → Page → Nat → State) : s.onPage page f = f s p n := by
  simp only [State.onPage, h]

/-! ### Gates (R57 to R59, R399, R402) -/

variable (g : Nat)

theorem gateBudget_lt (us : Nat) : gateBudget us < 4 := by
  unfold gateBudget
  split_ifs <;> decide

/-- An entry begins. -/
theorem State.gateEnter_begins (h : s.gateMayRest g = true) :
    (s.gateEnter g).get (GATE.PWR_STATE_TARGET g) = gateBudget (s.get (GATE.PWR_BUDGET g)) ∧
      (s.gateEnter g).on (GATE.PWR_STATE_IN_TRANSITION g) = true ∧ ((s.gateEnter g).gate g).stepping = true := by
  have hlt := gateBudget_lt (s.get (GATE.PWR_BUDGET g))
  unfold State.gateEnter
  rw [if_pos h, State.gate_setGate_same]
  simp only [gateFields] at hlt
  simp (disch := omega) only [State.on, gateFields, State.setGate_get, State.get_put_off, State.get_put_at, and_true]
  exact ⟨Nat.mod_eq_of_lt hlt, rfl⟩

/-- A gate a state deeper, its DLLs off in COLD. -/
def State.gateDeeper : State :=
  let t := s.put (GATE.PWR_STATE_STATE g) (s.get (GATE.PWR_STATE_STATE g) + 1)
  if s.get (GATE.PWR_STATE_STATE g) + 1 = 3 then
    (t.put (GATE.LINK_STATUS_A_DLL_LOCK g) 0).put (GATE.LINK_STATUS_B_DLL_LOCK g) 0 else t

theorem State.state_gateDeeper (h : s.get (GATE.PWR_STATE_STATE g) < 3) :
    (s.gateDeeper g).get (GATE.PWR_STATE_STATE g) = s.get (GATE.PWR_STATE_STATE g) + 1 := by
  have hput : (s.put (GATE.PWR_STATE_STATE g) (s.get (GATE.PWR_STATE_STATE g) + 1)).get (GATE.PWR_STATE_STATE g) =
      s.get (GATE.PWR_STATE_STATE g) + 1 := by
    simp only [gateFields] at h
    simp (disch := omega) only [gateFields, State.get_put_at]
    exact Nat.mod_eq_of_lt (by omega)
  simp only [State.gateDeeper]
  split_ifs
  · simp (disch := omega) only [gateFields, State.get_put_off] at hput ⊢
    exact hput
  · exact hput

theorem State.gateStep_eq (hs : (s.gate g).stepping = true) (hw : (s.gate g).wake = false) :
    s.gateStep g = if s.get (GATE.PWR_STATE_STATE g) + 1 = s.get (GATE.PWR_STATE_TARGET g) then
      ((s.gateDeeper g).setGate g { s.gate g with stepping := false }).put (GATE.PWR_STATE_IN_TRANSITION g) 0
      else s.gateDeeper g := by
  unfold State.gateStep
  exact (if_neg (by simp [hs])).trans (if_neg (show ¬ (s.gate g).wake = true by simp [hw]))

/-- An entry goes down a state with each step, and ends at its target. -/
theorem State.gateStep_steps (hs : (s.gate g).stepping = true) (hw : (s.gate g).wake = false)
    (h : s.get (GATE.PWR_STATE_STATE g) < 3) :
    (s.gateStep g).get (GATE.PWR_STATE_STATE g) = s.get (GATE.PWR_STATE_STATE g) + 1 ∧
      (s.get (GATE.PWR_STATE_TARGET g) = s.get (GATE.PWR_STATE_STATE g) + 1 →
        (s.gateStep g).on (GATE.PWR_STATE_IN_TRANSITION g) = false ∧ ((s.gateStep g).gate g).stepping = false) := by
  have hst := s.state_gateDeeper g h
  rw [s.gateStep_eq g hs hw]
  refine ⟨?_, fun ht => ?_⟩
  · rw [← hst]
    split_ifs
    · simp (disch := omega) only [gateFields, State.get_put_off, State.setGate_get]
    · rfl
  · rw [if_pos ht.symm, State.put_gate, State.gate_setGate_same]
    simp (disch := omega) only [State.on, gateFields, State.get_put_at, and_true]
    rfl

/-- An exit that has no lanes to confirm ends in ACTIVE (R58). -/
theorem State.gateExit_ends (offsets : List (Option (Fin 40))) (hw : (s.gate g).wake = true) (hs : (s.gate g).stepping = false)
    (h : s.get (GATE.PWR_STATE_STATE g) < 2) :
    (s.gateExit g offsets).gateActive g = true ∧ ((s.gateExit g offsets).gate g).wake = false ∧
      (s.gateExit g offsets).get (GATE.PWR_EXITS g) = (s.get (GATE.PWR_EXITS g) + 1) % 2 ^ 32 := by
  have heq : s.gateExit g offsets = ((((s.put (GATE.PWR_STATE_STATE g) 0).put (GATE.PWR_STATE_TARGET g) 0).put
      (GATE.PWR_STATE_IN_TRANSITION g) 0).setGate g { s.gate g with wake := false }).inc (GATE.PWR_EXITS g) := by
    unfold State.gateExit
    rw [if_neg (by simp [hw, hs])]
    simp only [show ¬ 2 ≤ s.get (GATE.PWR_STATE_STATE g) by omega, show ¬ s.get (GATE.PWR_STATE_STATE g) = 3 by omega, if_false]
  rw [heq, State.inc, State.add, State.put_gate, State.gate_setGate_same]
  simp (disch := omega) only [State.gateActive, State.on, gateFields, State.get_put_off, State.get_put_at, State.setGate_get,
    and_true]
  rfl

/-- A data symbol at a WARM gate wakes it (R403). -/
theorem State.warmSymbol_eq (lane c : Nat) (w next : BitVec 40) (hst : s.get (GATE.PWR_STATE_STATE g) = 1)
    (hport : s.portOfLane g lane = some c) :
    s.warmSymbol g lane w next = if s.receiving c && (s.lookAt g lane w next false).other then
      (s.slag c (s.lookAt g lane w next false).data).gateWake g else s := by
  unfold State.warmSymbol
  rw [if_neg (by simp [hst]), hport]

theorem gateLatency_ne_zero {st : Nat} (h : st ≠ 0) : gateLatency st ≠ 0 := by
  unfold gateLatency
  rw [if_neg h]
  split_ifs <;> decide

/-- A pending instant wakes its gate in time (R402). -/
theorem State.wakeAhead_gate {t8 : Nat} (h : s.nextInstant ([2 * g, 2 * g + 1].filter s.portPresent) = some t8)
    (hd : s.gateDepth g ≠ 0) : s.wakeAhead false g = (s.reach (t8 - gateLatency (s.gateDepth g))).gateWake g := by
  unfold State.wakeAhead
  simp only [Bool.false_eq_true, if_false, h, gateLatency_ne_zero hd]

end

/-! ### Slices (R400, R401, R403) -/

section

variable (s : State) (k : Nat) {a hi lo : Nat}

theorem sliceBudget_lt (us : Nat) : sliceBudget us < 4 := by
  unfold sliceBudget
  split_ifs <;> decide

/-- An entry begins. -/
theorem State.sliceEnter_begins (h : s.sliceMayRest k = true) :
    (s.sliceEnter k).get (SLICE.PWR_STATE_TARGET k) = sliceBudget (s.sliceBudgetUs k) ∧
      (s.sliceEnter k).on (SLICE.PWR_STATE_IN_TRANSITION k) = true ∧ ((s.sliceEnter k).slice k).stepping = true := by
  have hlt := sliceBudget_lt (s.sliceBudgetUs k)
  unfold State.sliceEnter
  rw [if_pos h, State.slice_setSlice_same]
  simp (disch := omega) only [State.on, sliceFields, State.setSlice_get, State.get_put_off, State.get_put_at, and_true]
  exact ⟨Nat.mod_eq_of_lt hlt, rfl⟩

theorem State.get_sliceSwitch_off (on : Bool) (h : a ≠ 0x2140 + 4 * ((256 + k) / 32)) :
    (s.sliceSwitch k on).get ⟨a, hi, lo⟩ = s.get ⟨a, hi, lo⟩ := by
  simp (disch := omega) only [State.sliceSwitch, State.putBit, otherFields, State.get_put_off]

/-- The switch of a slice that opens takes its domain off. -/
theorem State.domainOn_sliceSwitch : (s.sliceSwitch k false).domainOn (256 + k) = false := by
  simp (disch := omega) only [State.domainOn, State.sliceSwitch, State.putBit, otherFields, State.get_put_at,
    Bool.false_eq_true, if_false]
  rw [bitOf_mod (by omega), bitOf_clearBitN_same]

theorem State.domainOn_of_get {s t : State} {d : Nat}
    (h : t.get ⟨0x2140 + 4 * (d / 32), 31, 0⟩ = s.get ⟨0x2140 + 4 * (d / 32), 31, 0⟩) : t.domainOn d = s.domainOn d := by
  simp only [State.domainOn, otherFields, h]

/-- A slice a state deeper, its switch open in OFF. -/
def State.sliceDeeper : State :=
  let t := s.put (SLICE.PWR_STATE_STATE k) (s.get (SLICE.PWR_STATE_STATE k) + 1)
  if s.get (SLICE.PWR_STATE_STATE k) + 1 = 2 then
    (t.sliceSwitch k false).peerReset (slicePage k :: (s.servedPorts k).map camPage) else t

theorem State.state_sliceDeeper (hk : k < 33) (h : s.get (SLICE.PWR_STATE_STATE k) < 2) :
    (s.sliceDeeper k).get (SLICE.PWR_STATE_STATE k) = s.get (SLICE.PWR_STATE_STATE k) + 1 := by
  have hput : (s.put (SLICE.PWR_STATE_STATE k) (s.get (SLICE.PWR_STATE_STATE k) + 1)).get (SLICE.PWR_STATE_STATE k) =
      s.get (SLICE.PWR_STATE_STATE k) + 1 := by
    simp only [sliceFields] at h
    simp (disch := omega) only [sliceFields, State.get_put_at]
    exact Nat.mod_eq_of_lt (by omega)
  simp only [State.sliceDeeper]
  split_ifs
  · simp (disch := omega) only [sliceFields, State.get_peerReset_off, State.get_sliceSwitch_off] at hput ⊢
    exact hput
  · exact hput

theorem State.domainOn_sliceDeeper (h : s.get (SLICE.PWR_STATE_STATE k) = 1) :
    (s.sliceDeeper k).domainOn (256 + k) = false := by
  simp only [State.sliceDeeper]
  rw [if_pos (by omega), State.domainOn_of_get (State.get_peerReset_off _ _ (by omega)), State.domainOn_sliceSwitch]

theorem State.sliceStep_eq (hs : (s.slice k).stepping = true) (hw : (s.slice k).wake = false) :
    s.sliceStep k = if s.get (SLICE.PWR_STATE_STATE k) + 1 = s.get (SLICE.PWR_STATE_TARGET k) then
      ((s.sliceDeeper k).setSlice k { s.slice k with stepping := false }).put (SLICE.PWR_STATE_IN_TRANSITION k) 0
      else s.sliceDeeper k := by
  unfold State.sliceStep
  exact (if_neg (by simp [hs])).trans (if_neg (show ¬ (s.slice k).wake = true by simp [hw]))

/-- An entry goes down a state with each step, and in OFF the switch is open. -/
theorem State.sliceStep_steps (hk : k < 33) (hs : (s.slice k).stepping = true) (hw : (s.slice k).wake = false)
    (h : s.get (SLICE.PWR_STATE_STATE k) < 2) :
    (s.sliceStep k).get (SLICE.PWR_STATE_STATE k) = s.get (SLICE.PWR_STATE_STATE k) + 1 ∧
      (s.get (SLICE.PWR_STATE_STATE k) = 1 → (s.sliceStep k).domainOn (256 + k) = false) := by
  have hst := s.state_sliceDeeper k hk h
  rw [s.sliceStep_eq k hs hw]
  refine ⟨?_, fun h1 => ?_⟩
  · rw [← hst]
    split_ifs
    · simp (disch := omega) only [sliceFields, State.get_put_off, State.setSlice_get]
    · rfl
  · rw [← s.domainOn_sliceDeeper k h1]
    split_ifs
    · refine State.domainOn_of_get ?_
      simp (disch := omega) only [sliceFields, State.get_put_off, State.setSlice_get]
    · rfl

/-! The copies that an exit from OFF loads -/

theorem State.get_wakeChannel_low (c : Nat) (h : a < 0x740000) : (s.wakeChannel c).get ⟨a, hi, lo⟩ = s.get ⟨a, hi, lo⟩ := by
  have hput : (s.putBit (HBM.HBM_PWR_STATUS (c / 32)) (c % 32) false).get ⟨a, hi, lo⟩ = s.get ⟨a, hi, lo⟩ := by
    simp (disch := omega) only [State.putBit, otherFields, State.get_put_off]
  rw [← hput]
  exact (get_ignores _ rfl : Ignores (fun t => t.get ⟨a, hi, lo⟩) [.supply]).supply rfl _ _

theorem State.get_touch_low (b n : Nat) (h : a < 0x740000) : (s.touch b n).get ⟨a, hi, lo⟩ = s.get ⟨a, hi, lo⟩ := by
  unfold State.touch
  split_ifs
  · exact State.each_p (fun t => t.get ⟨a, hi, lo⟩) fun t i => t.get_wakeChannel_low _ h
  · rfl

theorem State.get_reloadColumns_low (c : Nat) (h : a < 0x740000) : (s.reloadColumns c).get ⟨a, hi, lo⟩ = s.get ⟨a, hi, lo⟩ := by
  refine State.each_p (fun t => t.get ⟨a, hi, lo⟩) fun t p => ?_
  simp only []
  split_ifs
  · rw [State.get_raise_off _ _ _ (by simp only [camPage]; omega) (by omega), State.setCam_get]
  · rw [State.setCam_get, t.get_touch_low _ _ h]

/-- A slice that is ON again, before the copies of its ports are loaded. -/
def State.sliceRestored : State :=
  ((((s.put (SLICE.PWR_STATE_STATE k) 0).put (SLICE.PWR_STATE_TARGET k) 0).put (SLICE.PWR_STATE_IN_TRANSITION k) 0).setSlice k
    { s.slice k with wake := false }).inc (SLICE.PWR_EXITS k)

theorem State.sliceExit_eq (hw : (s.slice k).wake = true) (hs : (s.slice k).stepping = false) (hf : s.sliceFenced k = false) :
    s.sliceExit k = if s.get (SLICE.PWR_STATE_STATE k) = 2 then
      ((s.sliceRestored k).sliceSwitch k true).each (((s.sliceRestored k).servedPorts k).filter (s.sliceRestored k).portEnabled)
        (fun t c => t.reloadColumns c)
      else s.sliceRestored k := by
  unfold State.sliceExit
  exact if_neg (by simp [hw, hs, hf])

theorem State.get_sliceExit_low (hw : (s.slice k).wake = true) (hs : (s.slice k).stepping = false)
    (hf : s.sliceFenced k = false) (h : a < 0x740000) (h' : a ≠ 0x2140 + 4 * ((256 + k) / 32)) :
    (s.sliceExit k).get ⟨a, hi, lo⟩ = (s.sliceRestored k).get ⟨a, hi, lo⟩ := by
  rw [s.sliceExit_eq k hw hs hf]
  split_ifs
  · refine (State.each_p (fun t => t.get ⟨a, hi, lo⟩) fun t c => t.get_reloadColumns_low c h).trans ?_
    exact State.get_sliceSwitch_off _ k true h'
  · rfl

/-- An exit ends in ON. -/
theorem State.sliceExit_ends (hk : k < 33) (hw : (s.slice k).wake = true) (hs : (s.slice k).stepping = false)
    (hf : s.sliceFenced k = false) :
    (s.sliceExit k).sliceOn k = true ∧ (s.sliceExit k).get (SLICE.PWR_EXITS k) = (s.get (SLICE.PWR_EXITS k) + 1) % 2 ^ 32 := by
  simp only [State.sliceOn, State.on, sliceFields]
  rw [s.get_sliceExit_low k hw hs hf (by omega) (by omega), s.get_sliceExit_low k hw hs hf (by omega) (by omega),
    s.get_sliceExit_low k hw hs hf (by omega) (by omega)]
  simp (disch := omega) only [State.sliceRestored, State.inc, State.add, sliceFields, State.get_put_off, State.get_put_at,
    State.setSlice_get, and_true]
  rfl

end

/-- Settles O45, by what each step of an entry, an exit and a cause of exit writes. -/
theorem powerStateCommandsComplete : Obligations.PowerStateCommandsComplete := by
  have hnext {s : State} {b : Bool} (f : State → State) (h : b = true) :
      (Host.Outcome.next (s.when b f) : Host.Outcome State Fault Refusal) = .next (f s) := congrArg _ (s.when_true f h)
  refine ⟨?_, ?_, ?_⟩
  · intro s page v p n hh hpage us
    have hexec : exec (.pwrBudgetWrite page v) s = .next (s.writeBudget p n us) := by
      refine (hnext _ hh).trans ?_
      rw [s.onPage_eq hpage, budget_field]
    rw [hexec]
    refine ⟨fun hp hus => by rw [s.writeBudget_refused n hp hus], fun hp hus => ?_, fun hp hus => ?_⟩
    · exact ⟨_, rfl, hp ▸ s.gateBudget_writeBudget n hus⟩
    · exact ⟨_, rfl, hp ▸ s.sliceBudget_writeBudget n hus⟩
  · intro s g hrun hpow
    have hon : (s.running && s.gatePowered g) = true := by simp [hrun, hpow]
    refine ⟨fun h => ⟨_, hnext _ hon, s.gateEnter_begins g h⟩, fun hs hw h => ⟨_, hnext _ hon, s.gateStep_steps g hs hw h⟩,
      fun offsets hw hs h => ⟨_, hnext _ hon, s.gateExit_ends g offsets hw hs h⟩, ?_, fun t8 h hd => ?_⟩
    · intro lane w next c hst hport r
      have hexec := (hnext (·.warmSymbol g lane w next) hon).trans
        (congrArg Host.Outcome.next (s.warmSymbol_eq g lane c w next hst hport))
      refine ⟨fun hr ho => ?_, fun h => ?_⟩
      · exact hexec.trans (congrArg Host.Outcome.next (if_pos (by rw [Bool.and_eq_true]; exact ⟨hr, ho⟩)))
      · refine hexec.trans (congrArg Host.Outcome.next (if_neg fun hc => ?_))
        rw [Bool.and_eq_true] at hc
        rcases h with h | h
        · rw [h] at hc; exact Bool.false_ne_true hc.1
        · exact Bool.false_ne_true (h.symm.trans hc.2)
    · have hon' : (s.running && (!false || decide (g.val < 33))) = true := by simp [hrun]
      exact (hnext _ hon').trans (congrArg Host.Outcome.next (s.wakeAhead_gate g h hd))
  · intro s k hrun
    exact ⟨fun h => ⟨_, hnext _ hrun, s.sliceEnter_begins k h⟩,
      fun hs hw h => ⟨_, hnext _ hrun, s.sliceStep_steps k k.isLt hs hw h⟩,
      fun hw hs hf => ⟨_, hnext _ hrun, s.sliceExit_ends k k.isLt hw hs hf⟩⟩
end Sys2Proof.Machine
end

section
/-!
PROOFS. Line payloads: the bytes and the bits of a payload spell one number, of which pixel i takes bits b·i up (R81; O57).
-/

namespace Sys2Proof.Machine

/-! ### Byte strings as numbers (R9) -/

theorem leNat_eq_ofDigits (l : List Byte) : leNat l = Nat.ofDigits 256 (l.map BitVec.toNat) := by
  induction l with
  | nil => rfl
  | cons b l ih => simp only [leNat, List.foldr_cons, List.map_cons, Nat.ofDigits_cons] at ih ⊢; rw [ih]

theorem toNat_lt_of_mem {l : List Byte} : ∀ d ∈ l.map BitVec.toNat, d < 256 := by
  intro d hd
  obtain ⟨b, -, rfl⟩ := List.mem_map.mp hd
  exact b.isLt

/-- Bytes off .. off + n - 1 of a string are a window on its number. -/
theorem leAt_eq (l : List Byte) (off n : Nat) : leAt l off n = leNat l / 256 ^ off % 256 ^ n := by
  simp only [leAt, leNat_eq_ofDigits, List.map_take, List.map_drop]
  rw [Nat.ofDigits_div_pow_eq_ofDigits_drop off (by decide) _ toNat_lt_of_mem,
    Nat.ofDigits_mod_pow_eq_ofDigits_take n (by decide) _ fun d hd => toNat_lt_of_mem d (List.mem_of_mem_drop hd)]

/-! ### Bit strings as numbers -/

/-- The number that a bit string spells, least significant bit first. -/
def bitsVal (l : List Bool) : Nat := Nat.ofDigits 2 (l.map b2n)

theorem bitsVal_eq_foldr (l : List Bool) : l.foldr (fun x acc => b2n x + 2 * acc) 0 = bitsVal l := by
  induction l with
  | nil => rfl
  | cons x l ih => simp only [List.foldr_cons, bitsVal, List.map_cons, Nat.ofDigits_cons] at ih ⊢; rw [ih]

theorem bitsVal_append (l m : List Bool) : bitsVal (l ++ m) = bitsVal l + 2 ^ l.length * bitsVal m := by
  simp only [bitsVal, List.map_append, Nat.ofDigits_append, List.length_map]

theorem bitsVal_lt (l : List Bool) : bitsVal l < 2 ^ l.length := by
  have hd : ∀ d ∈ l.map b2n, d < 2 := by
    intro d hd
    obtain ⟨x, -, rfl⟩ := List.mem_map.mp hd
    cases x <;> decide
  simpa [bitsVal] using Nat.ofDigits_lt_base_pow_length (by decide) hd

/-- The low b bits of a number spell it. -/
theorem bitsVal_bitOf (b v : Nat) : bitsVal ((List.range b).map (bitOf v)) = v % 2 ^ b := by
  induction b with
  | zero => simp [bitsVal, Nat.mod_one]
  | succ b ih =>
    have hb : bitsVal [bitOf v b] = v / 2 ^ b % 2 := by
      rcases Nat.mod_two_eq_zero_or_one (v / 2 ^ b) with h | h <;> simp [bitsVal, bitOf, h, b2n]
    rw [List.range_succ, List.map_append, bitsVal_append, ih, List.map_singleton, hb, List.length_map, List.length_range,
      Nat.pow_succ, Nat.mod_mul]

/-! ### Packing -/

theorem chunksAux_cons {α : Type} (n f : Nat) (x : α) (l : List α) :
    chunksAux n (f + 1) (x :: l) = (x :: l).take n :: chunksAux n f ((x :: l).drop n) := rfl

theorem chunksAux_length {α : Type} {n : Nat} (hn : 0 < n) (f : Nat) (l : List α) (h : l.length ≤ f) :
    (chunksAux n f l).length = ceilDiv l.length n := by
  have hnil : (n - 1) / n = 0 := Nat.div_eq_of_lt (by omega)
  induction f generalizing l with
  | zero => simp [List.eq_nil_of_length_eq_zero (Nat.le_zero.mp h), chunksAux, ceilDiv, hnil]
  | succ f ih =>
    cases l with
    | nil => simp [chunksAux, ceilDiv, hnil]
    | cons x l =>
      have hlen : (List.drop n (x :: l)).length = l.length + 1 - n := by simp
      rw [chunksAux_cons, List.length_cons, ih _ (by simp only [List.length_cons] at h; omega), hlen, ceilDiv, ceilDiv,
          List.length_cons]
      rcases Nat.lt_or_ge l.length n with hlt | hge
      · rw [Nat.sub_eq_zero_of_le hlt, Nat.zero_add, hnil, Nat.div_eq_of_lt_le (k := 1) (by omega) (by omega)]
      · rw [← Nat.add_div_right _ hn]
        congr 1
        omega

/-- The bytes of a bit string spell the number that the bits spell. -/
theorem leNat_chunksAux (f : Nat) (l : List Bool) (h : l.length ≤ f) :
    leNat ((chunksAux 8 f l).map fun c => BitVec.ofNat 8 (c.foldr (fun x acc => b2n x + 2 * acc) 0)) = bitsVal l := by
  induction f generalizing l with
  | zero => rw [List.eq_nil_of_length_eq_zero (Nat.le_zero.mp h)]; rfl
  | succ f ih =>
    cases l with
    | nil => rfl
    | cons x l =>
      have hbyte : bitsVal ((x :: l).take 8) < 2 ^ 8 :=
        (bitsVal_lt _).trans_le (Nat.pow_le_pow_right (by decide) (List.length_take_le 8 _))
      have hrest := ih ((x :: l).drop 8) (by simp only [List.length_drop, List.length_cons] at h ⊢; omega)
      have hsplit := bitsVal_append ((x :: l).take 8) ((x :: l).drop 8)
      rw [List.take_append_drop] at hsplit
      rw [chunksAux_cons, List.map_cons, leNat, List.foldr_cons, ← leNat, hrest, bitsVal_eq_foldr, BitVec.toNat_ofNat,
        Nat.mod_eq_of_lt hbyte, hsplit]
      rcases Nat.lt_or_ge (x :: l).length 8 with hlt | hge
      · rw [List.drop_eq_nil_of_le hlt.le]; rfl
      · rw [List.length_take_of_le hge]; rfl

/-- The bits of a line of pixels of b bits, in the order of the payload. -/
def pixelBits (b : Nat) (l : List Nat) : List Bool := (l.map (fun v => (List.range b).map (bitOf v))).flatten

theorem pixelBits_length (b : Nat) (l : List Nat) : (pixelBits b l).length = l.length * b := by
  induction l with
  | nil => simp [pixelBits]
  | cons v l ih =>
    rw [pixelBits, List.map_cons, List.flatten_cons, ← pixelBits, List.length_append, ih]
    simp [Nat.add_mul, Nat.add_comm]

theorem leNat_packPixels (b : Nat) (l : List Nat) : leNat (packPixels b l) = bitsVal (pixelBits b l) :=
  leNat_chunksAux _ _ le_rfl

theorem packPixels_length (b : Nat) (l : List Nat) : (packPixels b l).length = expectedBytes l.length b := by
  rw [packPixels, List.length_map, chunks, chunksAux_length (by decide) _ _ le_rfl]
  exact congrArg (ceilDiv · 8) (pixelBits_length b l)

/-! ### Unpacking -/

/-- Pixel i of a line stands at bits b·i up of the number of its bits. -/
theorem bitsVal_pixelBits {b : Nat} {l : List Nat} {i : Nat} (h : i < l.length) :
    bitsVal (pixelBits b l) / 2 ^ (b * i) % 2 ^ b = l[i] % 2 ^ b := by
  induction l generalizing i with
  | nil => exact absurd h (Nat.not_lt_zero i)
  | cons v l ih =>
    have hcons : bitsVal (pixelBits b (v :: l)) = v % 2 ^ b + 2 ^ b * bitsVal (pixelBits b l) := by
      rw [pixelBits, List.map_cons, List.flatten_cons, bitsVal_append, bitsVal_bitOf, List.length_map, List.length_range]
      rfl
    cases i with
    | zero => rw [hcons, Nat.mul_zero, Nat.pow_zero, Nat.div_one, Nat.add_mul_mod_self_left, Nat.mod_mod, List.getElem_cons_zero]
    | succ i =>
      rw [hcons, Nat.mul_succ, Nat.add_comm (b * i), Nat.pow_add, ← Nat.div_div_eq_div_mul,
        Nat.add_mul_div_left _ _ (by positivity), Nat.div_eq_of_lt (Nat.mod_lt _ (by positivity)), Nat.zero_add,
        ih (Nat.lt_of_succ_lt_succ h), List.getElem_cons_succ]

/-- Three bytes hold a pixel of at most 16 bits wherever it begins. -/
theorem leAt_pixel (l : List Byte) (bit b : Nat) (hb : b ≤ 16) :
    leAt l (bit / 8) 3 / 2 ^ (bit % 8) % 2 ^ b = leNat l / 2 ^ bit % 2 ^ b := by
  have hbytes : ∀ k : Nat, (256 : Nat) ^ k = 2 ^ (8 * k) := fun k => by rw [Nat.pow_mul]
  have h24 : 8 * 3 = bit % 8 + (24 - bit % 8) := by omega
  have hbit : bit = 8 * (bit / 8) + bit % 8 := by omega
  rw [leAt_eq, hbytes, hbytes, h24, Nat.pow_add, Nat.mod_mul_right_div_self, Nat.div_div_eq_div_mul, ← Nat.pow_add, ← hbit,
    Nat.mod_mod_of_dvd _ (Nat.pow_dvd_pow 2 (by omega))]

/-- Settles O57: packing strings the pixels' bits together, and a payload is read back by the number it spells. -/
theorem pixelsRoundTrip : Obligations.PixelsRoundTrip := by
  intro b l _ hb hl
  refine ⟨packPixels_length b l, List.ext_getElem (by simp [unpackPixels]) fun i h _ => ?_⟩
  have hi : i < l.length := by simpa [unpackPixels] using h
  simp only [unpackPixels, List.getElem_map, List.getElem_range]
  rw [leAt_pixel _ _ _ hb, leNat_packPixels, bitsVal_pixelBits hi, Nat.mod_eq_of_lt (hl _ (List.getElem_mem hi))]

end Sys2Proof.Machine
end

section
/-!
PROOFS. Link injections (R107, R108, R112; O28).
-/

namespace Sys2Proof.Machine

/-- Fields of a gate's page that an injection reads or writes. -/
theorem injectionFields (g : Nat) :
    GATE.INJ_CFG_OP g = ⟨0x100128 + 0x1000 * g, 3, 0⟩ ∧
    GATE.INJ_STATUS_REAL_SEEN g = ⟨0x10012C + 0x1000 * g, 2, 2⟩ ∧
    GATE.INJ_STATUS_DONE g = ⟨0x10012C + 0x1000 * g, 1, 1⟩ ∧
    GATE.INJ_STATUS_ARMED g = ⟨0x10012C + 0x1000 * g, 0, 0⟩ := by
  simp only [GATE.INJ_CFG_OP, GATE.INJ_STATUS_REAL_SEEN, GATE.INJ_STATUS_DONE, GATE.INJ_STATUS_ARMED, gatePage, Fld.mk.injEq,
    and_true]
  omega

section

variable (s : State) (g : Nat)

/-! ### INJECT -/

theorem State.injRefusal_absent (h : s.portPresent (portNo g (s.get (GATE.INJ_CFG_PORT g))) = false) :
    s.injRefusal g = some 0x21 := by
  simp only [portNo] at h
  simp [State.injRefusal, h]

theorem State.injRefusal_notReady (h : s.portPresent (portNo g (s.get (GATE.INJ_CFG_PORT g))) = true)
    (hr : s.linkState (portNo g (s.get (GATE.INJ_CFG_PORT g))) ≠ linkReady) : s.injRefusal g = some 0x24 := by
  simp only [portNo] at h hr
  simp [State.injRefusal, h, hr]

theorem State.injRefusal_armed (h : s.portPresent (portNo g (s.get (GATE.INJ_CFG_PORT g))) = true)
    (hr : s.linkState (portNo g (s.get (GATE.INJ_CFG_PORT g))) = linkReady) (h0 : s.get (GATE.INJ_CFG_OP g) ≠ 0)
    (h6 : s.get (GATE.INJ_CFG_OP g) ≤ 6) (hn : s.get (GATE.INJ_CFG_COUNT g) ≠ 0) (ha : s.on (GATE.INJ_STATUS_ARMED g) = true) :
    s.injRefusal g = some 0x28 := by
  simp only [portNo] at h hr
  simp [State.injRefusal, h, hr, h0, Nat.not_lt.mpr h6, hn, ha]

theorem State.injectCmd_refused {code : Nat} (h : s.injRefusal g = some code) : s.injectCmd g = s.refuse (gatePage g) code := by
  simp only [State.injectCmd, h]

/-- An accepted INJECT: the injection is armed, and its status starts afresh. -/
theorem State.injectCmd_accepted (h : s.injRefusal g = none) :
    (s.injectCmd g).on (GATE.INJ_STATUS_ARMED g) = true ∧ (s.injectCmd g).on (GATE.INJ_STATUS_DONE g) = false ∧
      (s.injectCmd g).on (GATE.INJ_STATUS_REAL_SEEN g) = false ∧ ((s.injectCmd g).gate g).inj = .armed ∧
      (s.injectCmd g).get (HDR.CMD_STATUS_OPCODE (gatePage g)) = 0x10 := by
  have hop := s.opcode_accepted g 0x10
  simp only [State.accepted, headerFields, pageAddrs] at hop
  simp (disch := omega) [State.injectCmd, h, State.on, injectionFields, headerFields, pageAddrs, State.get_put_off,
    State.get_put_at, hop]

/-! ### INJ_CANCEL -/

theorem State.injCancelCmd_refused (h : s.on (GATE.INJ_STATUS_ARMED g) = false) :
    s.injCancelCmd g = s.refuse (gatePage g) 0x2A := by
  simp [State.injCancelCmd, h]

theorem State.injCancelCmd_eq (h : s.on (GATE.INJ_STATUS_ARMED g) = true) :
    s.injCancelCmd g = ((s.accepted g 0x11).put (GATE.INJ_STATUS_ARMED g) 0).setGate g
      { ((s.accepted g 0x11).put (GATE.INJ_STATUS_ARMED g) 0).gate g with inj := .idle } := by
  simp only [State.injCancelCmd, h, Bool.not_true, Bool.false_eq_true, if_false, State.accepted]

theorem State.injCancelCmd_accepted (h : s.on (GATE.INJ_STATUS_ARMED g) = true) :
    (s.injCancelCmd g).on (GATE.INJ_STATUS_ARMED g) = false ∧ ((s.injCancelCmd g).gate g).inj = .idle ∧
      (s.injCancelCmd g).get (HDR.CMD_STATUS_OPCODE (gatePage g)) = 0x11 := by
  have hop := s.opcode_accepted g 0x11
  simp only [headerFields, pageAddrs] at hop
  rw [s.injCancelCmd_eq g h]
  simp (disch := omega) [State.on, injectionFields, headerFields, pageAddrs, State.get_put_off, State.get_put_at, hop]

/-! ### An armed injection meets its target -/

/-- The registers when an injection takes its first packet. -/
def State.injDone : State := ((s.put (GATE.INJ_STATUS_ARMED g) 0).put (GATE.INJ_STATUS_DONE g) 1).raise (gatePage g) 15

theorem State.injActs_eq (hg : g < 128) (h : (s.gate g).inj = .armed) : ∃ u : State, (∀ f, u.get f = (s.injDone g).get f) ∧
    s.injActs g = u.setGate g { u.gate g with inj := if s.get (GATE.INJ_CFG_OP g) = 1 then .idle else .acting } := by
  have hop : (s.injDone g).get (GATE.INJ_CFG_OP g) = s.get (GATE.INJ_CFG_OP g) := by
    simp only [injectionFields]
    rw [State.injDone, State.get_raise_off _ _ _ (by simp only [pageAddrs]; omega) (by omega)]
    simp (disch := omega) only [injectionFields, State.get_put_off]
  have hacts : s.injActs g = if (s.injDone g).get (GATE.INJ_CFG_OP g) = 1 then _ else _ := if_neg (by simp [h])
  rw [hacts, hop]
  split
  · exact ⟨(s.injDone g).onLane g _ _, fun _ => rfl, rfl⟩
  · exact ⟨s.injDone g, fun _ => rfl, rfl⟩

theorem State.injActs_done (hg : g < 128) (h : (s.gate g).inj = .armed) :
    (s.injActs g).on (GATE.INJ_STATUS_ARMED g) = false ∧ (s.injActs g).on (GATE.INJ_STATUS_DONE g) = true ∧
      (s.injActs g).bitAt (HDR.IRQ_STAT (gatePage g)) 15 = true ∧
      ((s.injActs g).gate g).inj = if s.get (GATE.INJ_CFG_OP g) = 1 then .idle else .acting := by
  obtain ⟨u, hu, hacts⟩ := s.injActs_eq g hg h
  have hoff {hi lo : Nat} : (s.injDone g).get ⟨0x10012C + 0x1000 * g, hi, lo⟩ =
      ((s.put (GATE.INJ_STATUS_ARMED g) 0).put (GATE.INJ_STATUS_DONE g) 1).get ⟨0x10012C + 0x1000 * g, hi, lo⟩ :=
    State.get_raise_off _ _ _ (by simp only [pageAddrs]; omega) (by omega)
  rw [hacts]
  refine ⟨?_, ?_, ?_, by rw [State.gate_setGate_same]⟩
  · simp (disch := omega) [State.on, hu, injectionFields, hoff, State.get_put_off, State.get_put_at]
  · simp (disch := omega) [State.on, hu, injectionFields, hoff, State.get_put_at]
  · rw [State.setGate_bitAt, State.bitAt, hu]
    exact State.bitAt_raise_same _ (by decide) (by simp only [pageAddrs]; omega)

end

/-! ### The commands -/

/-- The INJECT commands, one for each operation. -/
theorem exec_inject {s : State} {g : Fin 128} {x : Instr × Nat}
    (hx : x ∈ [(Instr.dropSymbols g, 1), (.dropLine g, 2), (.corruptSymbol g, 3), (.corruptHdrCrc g, 4), (.corruptPayCrc g, 5),
      (.reorder g, 6)]) (hh : s.hostOn = true) (hop : s.get (GATE.INJ_CFG_OP g) = x.2) :
    exec x.1 s = .next (s.injectCmd g) ∧ 1 ≤ x.2 ∧ x.2 ≤ 6 := by
  have hnext {op : Nat} (h : s.get (GATE.INJ_CFG_OP g) = op) :
      (Host.Outcome.next (s.injectOp g op) : Host.Outcome State Fault Refusal) = .next (s.injectCmd g) :=
    congrArg _ (s.when_true _ (by simp [hh, h]))
  simp only [List.mem_cons, List.not_mem_nil, or_false] at hx
  rcases hx with rfl | rfl | rfl | rfl | rfl | rfl <;> exact ⟨hnext hop, by simp⟩

/-- Settles O28, by what INJECT, INJ_CANCEL and the meeting with the target write. -/
theorem injectionCommandsComplete : Obligations.InjectionCommandsComplete := by
  have hnext {s : State} {b : Bool} (f : State → State) (h : b = true) :
      (Host.Outcome.next (s.when b f) : Host.Outcome State Fault Refusal) = .next (f s) := congrArg _ (s.when_true f h)
  intro s g
  refine ⟨fun x hx hh hop => ?_, fun hh ha => ⟨_, hnext _ hh, s.injCancelCmd_accepted g ha⟩,
    fun hh ha => (hnext _ hh).trans (congrArg _ (s.injCancelCmd_refused g ha)),
    fun hr hi => ⟨_, hnext _ hr, s.injActs_done g g.isLt hi⟩⟩
  obtain ⟨hexec, h1, h6⟩ := exec_inject hx hh hop
  refine ⟨fun h => ⟨_, hexec, s.injectCmd_accepted g h⟩, fun hp => ?_, fun hp hl => ?_, fun hp hl hn ha => ?_⟩
  · rw [hexec, s.injectCmd_refused g (s.injRefusal_absent g hp)]
  · rw [hexec, s.injectCmd_refused g (s.injRefusal_notReady g hp hl)]
  · rw [hexec, s.injectCmd_refused g (s.injRefusal_armed g hp hl (by omega) (by omega) hn ha)]

end Sys2Proof.Machine
end

section
/-!
PROOFS. The control lane of a gate: requests, trigger pairs and grants (R88 to R91, R93, R112, R332, R334; O22).
-/

namespace Sys2Proof.Machine

/-! ### Parts that the operations leave -/

theorem out_ignores {l : List Part} (h : l.contains .out = false) : Ignores State.out l :=
  fun _ _ k => k .out (by simpa using h)

theorem cam_ignores (c : Nat) {l : List Part} (h : l.contains .cams = false) : Ignores (fun s => s.cam c) l := by
  intro s t k
  have hc : t.cams = s.cams := k .cams (by simpa using h)
  simp only [State.cam, hc]

theorem slice_ignores (x : Nat) {l : List Part} (h : l.contains .slices = false) : Ignores (fun s => s.slice x) l := by
  intro s t k
  have hs : t.slices = s.slices := k .slices (by simpa using h)
  simp only [State.slice, hs]

@[simp] theorem State.inc_engine (s : State) (f : Fld) (g : Nat) : (s.inc f).engine g = s.engine g := (rfl)
@[simp] theorem State.inc_link (s : State) (f : Fld) (c : Nat) : (s.inc f).link c = s.link c := (rfl)
@[simp] theorem State.inc_cam (s : State) (f : Fld) (c : Nat) : (s.inc f).cam c = s.cam c := (rfl)
@[simp] theorem State.inc_slice (s : State) (f : Fld) (k : Nat) : (s.inc f).slice k = s.slice k := (rfl)

/-- Fields of a gate's page that tell of its control lane. -/
theorem controlLaneFields (g : Nat) :
    GATE.CTL_ERR_GRANT_OVERRUN g = ⟨0x10014C + 0x1000 * g, 31, 16⟩ ∧
    GATE.CTL_ERR_CRC g = ⟨0x10014C + 0x1000 * g, 15, 0⟩ ∧
    GATE.TRIG_LATE g = ⟨0x100150 + 0x1000 * g, 31, 0⟩ := by
  simp only [GATE.CTL_ERR_GRANT_OVERRUN, GATE.CTL_ERR_CRC, GATE.TRIG_LATE, gatePage, Fld.mk.injEq, and_true]
  omega

section

variable (s : State) {g : Nat}

/-! ### Requests (R87, R332, R342) -/

theorem State.endLock_out (c : Nat) : (s.endLock c).out = s.out := State.endLock_keeps (out_ignores rfl) s c

/-- The end of a lock leaves the requests and the turn of the round robin. -/
theorem State.endLock_engine (c : Nat) : ((s.endLock c).engine (c / 2)).reqs = (s.engine (c / 2)).reqs ∧
    ((s.endLock c).engine (c / 2)).turn = (s.engine (c / 2)).turn := by
  simp only [State.endLock]
  split <;> simp

theorem State.onReq_engine (r : Req) (f : Req → Req) : (s.onReq r f).engine (r.port / 2) = { s.engine (r.port / 2) with
    reqs := (s.engine (r.port / 2)).reqs.map (fun q => if q.port = r.port && q.tag = r.tag then f q else q) } :=
  State.engine_setEngine_same ..

/-- A request of a port whose slot is free leaves as it is, and awaits its response. -/
theorem State.sendReq_sends {r : Req} (hslot : s.slotOf r.port = none) :
    (s.sendReq r).out = .lanePacket (r.port / 2) r.packet :: s.out ∧
      (∀ q ∈ ((s.sendReq r).engine (r.port / 2)).reqs, q.port = r.port → q.tag = r.tag → q.state = .outstanding) ∧
      ((s.sendReq r).engine (r.port / 2)).turn = (s.engine (r.port / 2)).turn := by
  let u := (s.onReq r (fun q => { q with state := .outstanding, len := r.len })).emit (.lanePacket (r.port / 2) r.packet)
  have hsend : s.sendReq r = if r.purpose = .unlock then u.endLock r.port else u := by
    simp [State.sendReq, State.holdsSe, hslot, u]
  have hengine : u.engine (r.port / 2) = _ := s.onReq_engine r _
  have hreqs : ∀ q ∈ (u.engine (r.port / 2)).reqs, q.port = r.port → q.tag = r.tag → q.state = .outstanding := by
    rw [hengine]
    intro q hq hp ht
    obtain ⟨x, -, rfl⟩ := List.mem_map.mp hq
    split at hp <;> rename_i hx
    · simp [hx]
    · rw [if_neg hx] at ht
      simp [hp, ht] at hx
  have hturn : (u.engine (r.port / 2)).turn = (s.engine (r.port / 2)).turn := by rw [hengine]
  rw [hsend]
  split
  · obtain ⟨hr, ht⟩ := u.endLock_engine r.port
    exact ⟨u.endLock_out r.port, hr ▸ hreqs, ht.trans hturn⟩
  · exact ⟨rfl, hreqs, hturn⟩

theorem State.sendNext_sends {r : Req} {turn : Option Nat} (he : s.eligible g = some (r, turn)) (hp : r.port / 2 = g)
    (hslot : s.slotOf r.port = none) :
    (s.sendNext g).out = .lanePacket g r.packet :: s.out ∧
      (∀ q ∈ ((s.sendNext g).engine g).reqs, q.port = r.port → q.tag = r.tag → q.state = .outstanding) ∧
      ((s.sendNext g).engine g).turn = turn.elim (s.engine g).turn (fun k => (k + 1) % 4) := by
  obtain ⟨hout, hreqs, hturn⟩ := s.sendReq_sends hslot
  rw [hp] at hout hreqs hturn
  cases turn with
  | none => simp only [State.sendNext, he]; exact ⟨hout, hreqs, hturn⟩
  | some k => simp only [State.sendNext, he, State.engine_setEngine_same]; exact ⟨hout, hreqs, rfl⟩

/-! ### Trigger pairs (R90, R91, R93) -/

/-- A pair leaves in its slot or in the first free one after it. -/
def State.pairSent (p : TrigPair) (g used : Nat) : State :=
  ((s.setEngine g { s.engine g with pairs := (s.engine g).pairs.erase p, nextSlot := used + 16 }).reach used).emit
    (.trigPair g (p.t % 8 * 32 + p.port * 16 + p.action) used)

theorem State.sendPair_inSlot {p : TrigPair} (hp : s.nextPair g = some p) (h : (s.engine g).nextSlot ≤ p.t - p.t % 8 + 8) :
    s.sendPair g = s.pairSent p g (p.t - p.t % 8 + 8) := by
  simp only [State.sendPair, hp, Nat.max_eq_left h, if_true, State.pairSent]

theorem State.sendPair_late {p : TrigPair} (hp : s.nextPair g = some p) (h : p.t - p.t % 8 + 8 < (s.engine g).nextSlot) :
    ∃ f, s.sendPair g = ((s.pairSent p g (s.engine g).nextSlot).inc (GATE.TRIG_LATE g)).onRecord (2 * g + p.port) p.shot f := by
  simp only [State.sendPair, hp, Nat.max_eq_right h.le, if_neg (Nat.ne_of_gt h), State.pairSent]
  exact ⟨_, rfl⟩

theorem State.sendPair_counts {p : TrigPair} (hp : s.nextPair g = some p) (h : p.t - p.t % 8 + 8 < (s.engine g).nextSlot) :
    (s.sendPair g).out = .trigPair g (p.t % 8 * 32 + p.port * 16 + p.action) (s.engine g).nextSlot :: s.out ∧
      (s.sendPair g).get (GATE.TRIG_LATE g) = (s.get (GATE.TRIG_LATE g) + 1) % 2 ^ 32 ∧
      ((s.sendPair g).engine g).nextSlot = (s.engine g).nextSlot + 16 := by
  obtain ⟨f, hsend⟩ := s.sendPair_late hp h
  rw [hsend, State.onRecord_keeps (out_ignores rfl), State.onRecord_keeps (get_ignores _ rfl),
    State.onRecord_keeps (engine_ignores g rfl)]
  refine ⟨rfl, ?_, ?_⟩
  · simp only [State.inc, State.add, controlLaneFields]
    rw [State.get_put_at _ _ (by omega)]
    rfl
  · simp [State.pairSent]

theorem State.sendPair_out {p : TrigPair} (hp : s.nextPair g = some p) :
    ∃ slot, (s.sendPair g).out = .trigPair g (p.t % 8 * 32 + p.port * 16 + p.action) slot :: s.out := by
  rcases Nat.lt_or_ge (p.t - p.t % 8 + 8) (s.engine g).nextSlot with h | h
  · exact ⟨_, (s.sendPair_counts hp h).1⟩
  · exact ⟨_, by rw [s.sendPair_inSlot hp h]; rfl⟩

/-! ### Packet boundaries (R332) -/

theorem State.boundary_request (hg : (s.engine g).grant = none) (hp : s.nextPair g = none) : s.boundary g = s.sendNext g := by
  simp [State.boundary, hg, hp]

theorem State.boundary_pair {p : TrigPair} (hg : (s.engine g).grant = none) (hp : s.nextPair g = some p) (ht : p.t ≤ s.now) :
    s.boundary g = s.sendPair g := by
  simp [State.boundary, hg, hp, ht]

/-! ### Grants (R88, R89, R334) -/

theorem State.issueGrant_issues {laneTime : Bool} (hg : (s.engine g).grant = none) (ha : s.awaited g ≠ [])
    (hf : s.engineFenced g = false) (he : s.eligible g = none ∨ laneTime = true) :
    s.issueGrant g laneTime =
      (s.setEngine g { s.engine g with grant := some (s.grantCode g) }).emit (.laneGrant g (s.grantCode g)) := by
  have hlane : ((s.eligible g).isSome && !laneTime) = false := by rcases he with h | h <;> simp [h]
  simp [State.issueGrant, hg, ha, hf, hlane]

theorem State.grantOverrun_counts (hg : g < 128) : ((s.grantOverrun g).engine g).grant = none ∧
    (s.grantOverrun g).get (GATE.CTL_ERR_GRANT_OVERRUN g) = (s.get (GATE.CTL_ERR_GRANT_OVERRUN g) + 1) % 2 ^ 16 ∧
    (s.grantOverrun g).bitAt (HDR.IRQ_STAT (gatePage g)) 12 = true := by
  refine ⟨by simp [State.grantOverrun, State.endGrant], ?_, State.bitAt_raise_same _ (by decide)
      (by simp only [pageAddrs]; omega)⟩
  simp only [State.grantOverrun, State.inc, State.add, controlLaneFields]
  rw [State.get_raise_off _ _ _ (by simp only [pageAddrs]; omega) (by omega), State.get_put_at _ _ (by omega)]
  rfl

end

/-- Settles O22, by what a packet boundary, a trigger slot and a grant do to the engine. -/
theorem controlLaneCommandsComplete : Obligations.ControlLaneCommandsComplete := by
  intro s g hrun
  have hnext {b : Bool} (f : State → State) (h : b = true) :
      (Host.Outcome.next (s.when b f) : Host.Outcome State Fault Refusal) = .next (f s) := congrArg _ (s.when_true f h)
  refine ⟨fun r turn hg hp he hport hslot => ?_, fun p hg hp ht => ?_, fun p hp => ⟨fun h => ?_, fun h => ?_⟩,
    fun laneTime hg ha hf he => ?_, fun hg => ?_⟩
  · obtain ⟨hout, hreqs, hturn⟩ := s.sendNext_sends he hport hslot
    exact ⟨_, (hnext _ hrun).trans (by rw [s.boundary_request hg hp]), hout, hreqs, by rw [hturn]; cases turn <;> rfl⟩
  · obtain ⟨slot, hout⟩ := s.sendPair_out hp
    exact ⟨_, slot, (hnext _ hrun).trans (by rw [s.boundary_pair hg hp ht]), hout⟩
  · exact (hnext _ hrun).trans (congrArg _ (s.sendPair_inSlot hp h))
  · exact ⟨_, hnext _ hrun, s.sendPair_counts hp h⟩
  · exact (hnext _ hrun).trans (congrArg _ (s.issueGrant_issues hg ha hf he))
  · have hon : (s.running && s.granted g) = true := by simp [hrun, State.granted, Option.isSome_iff_ne_none, hg]
    exact ⟨hnext _ hon, _, hnext _ hon, s.grantOverrun_counts g.isLt⟩

end Sys2Proof.Machine
end

section
/-!
PROOFS. Responses in a grant (R87, R326, R327, R330, R337, R340, R343, R345, R347, R430; O23).
-/

namespace Sys2Proof.Machine

/-! ### CRC values fit their width (R429) -/

theorem reverseBits_lt (w v : Nat) : reverseBits w v < 2 ^ w := by
  unfold reverseBits
  induction w with
  | zero => simp
  | succ w ih =>
    rw [List.range_succ, List.foldl_append, List.foldl_cons, List.foldl_nil, Nat.pow_succ]
    have hbit : v / 2 ^ w % 2 < 2 := Nat.mod_lt _ (by decide)
    omega

theorem crcBit_lt {a : CrcAlg} (hpoly : a.poly < 2 ^ a.w) (r : Nat) : crcBit a r < 2 ^ a.w := by
  have hmod : r * 2 % 2 ^ a.w < 2 ^ a.w := Nat.mod_lt _ (by positivity)
  unfold crcBit
  split
  · exact Nat.xor_lt_two_pow hmod hpoly
  · exact hmod

theorem crcBytes_lt {a : CrcAlg} (hpoly : a.poly < 2 ^ a.w) {r : Nat} (hr : r < 2 ^ a.w) (l : List Byte) :
    crcBytes a r l < 2 ^ a.w := by
  induction l generalizing r with
  | nil => exact hr
  | cons d l ih => exact ih (crcBit_lt hpoly _)

theorem crcFinal_lt {a : CrcAlg} {r : Nat} (hr : r < 2 ^ a.w) : crcFinal a r < 2 ^ a.w := by
  unfold crcFinal
  refine Nat.xor_lt_two_pow ?_ (Nat.mod_lt _ (by positivity))
  split
  · exact reverseBits_lt _ _
  · exact hr

theorem crcOf_lt {alg : Nat} (h : (crcAlg alg).poly < 2 ^ (crcAlg alg).w) (l : List Byte) : crcOf alg l < 2 ^ (crcAlg alg).w :=
  crcFinal_lt (crcBytes_lt h (Nat.mod_lt _ (by positivity)) l)

theorem crc16_lt (l : List Byte) : crc16 l < 2 ^ 16 := crcOf_lt (alg := 2) (by decide) l

theorem crc32_lt (l : List Byte) : crc32 l < 2 ^ 32 := crcOf_lt (alg := 0) (by decide) l

/-! ### Good and bad responses (R87, R327, R430) -/

theorem rspOk_good {classes : List Nat} {head : Nat → List Byte} {k : Nat} {h : BitVec 16} {data : List Byte} {d : BitVec 32}
    (hk : k ∈ classes) (hh : h = BitVec.ofNat 16 (crc16 (head k))) (hd : data = [] ∨ d = BitVec.ofNat 32 (crc32 data)) :
    rspOk classes head h.toNat data d.toNat = true := by
  have hhdr : classes.any (fun k => crc16 (head k) == h.toNat) = true :=
    List.any_eq_true.mpr ⟨k, hk, by rw [hh, BitVec.toNat_ofNat, Nat.mod_eq_of_lt (crc16_lt _), beq_self_eq_true]⟩
  rcases hd with rfl | rfl
  · simp [rspOk, hhdr]
  · rw [rspOk, hhdr, BitVec.toNat_ofNat, Nat.mod_eq_of_lt (crc32_lt data)]; simp

theorem rspOk_badHeader {classes : List Nat} {head : Nat → List Byte} {h : BitVec 16} {data : List Byte} {d : Nat}
    (hh : ∀ k ∈ classes, h ≠ BitVec.ofNat 16 (crc16 (head k))) : rspOk classes head h.toNat data d = false := by
  have hhdr : classes.any (fun k => crc16 (head k) == h.toNat) = false := by
    refine List.any_eq_false.mpr fun k hk hcrc => hh k hk ?_
    rw [beq_iff_eq.mp hcrc, BitVec.ofNat_toNat, BitVec.setWidth_eq]
  simp [rspOk, hhdr]

theorem rspOk_badData {classes : List Nat} {head : Nat → List Byte} {h : Nat} {data : List Byte} {d : BitVec 32}
    (hdata : data ≠ [])
    (hd : d ≠ BitVec.ofNat 32 (crc32 data)) : rspOk classes head h data d.toNat = false := by
  have hcrc : crc32 data ≠ d.toNat := fun e => hd (by rw [e, BitVec.ofNat_toNat, BitVec.setWidth_eq])
  simp [rspOk, hdata, hcrc]

/-! ### Fields -/

/-- Fields of the page of a section engine that responses of both ports read or write. -/
theorem engineFields (g : Nat) :
    BRG.BRG_CFG_RETRY_MAX g = ⟨0x180100 + 0x1000 * g, 3, 0⟩ ∧
    BRG.LOG_HEAD g = ⟨0x180110 + 0x1000 * g, 5, 0⟩ ∧
    BRG.LOG_COUNT g = ⟨0x180114 + 0x1000 * g, 31, 0⟩ ∧
    BRG.SE_SEEN g = ⟨0x18011C + 0x1000 * g, 31, 0⟩ := by
  simp only [BRG.BRG_CFG_RETRY_MAX, BRG.LOG_HEAD, BRG.LOG_COUNT, BRG.SE_SEEN, brgPage, Fld.mk.injEq, and_true]
  omega

theorem logField (g i : Nat) : BRG.LOG g i = ⟨0x180800 + 0x1000 * g + 4 * i, 31, 0⟩ := by
  simp only [BRG.LOG, brgPage, Fld.mk.injEq, and_true]
  omega

/-- Fields of port p in the page of a section engine that responses read or write. -/
theorem responseFields (g p : Nat) :
    BRG.FENCE_FAIL g p = ⟨0x180148 + 0x1000 * g + 0x40 * p, 30, 30⟩ ∧
    BRG.FAIL_TAG g p = ⟨0x18014C + 0x1000 * g + 0x40 * p, 15, 0⟩ ∧
    BRG.PORT_STATUS_LOCKED g p = ⟨0x180150 + 0x1000 * g + 0x40 * p, 31, 31⟩ ∧
    BRG.PORT_STATUS_LOCK_PENDING g p = ⟨0x180150 + 0x1000 * g + 0x40 * p, 30, 30⟩ ∧
    BRG.PORT_STATUS_PCW_BUSY g p = ⟨0x180150 + 0x1000 * g + 0x40 * p, 29, 29⟩ ∧
    BRG.CAM_IDENT g p = ⟨0x180158 + 0x1000 * g + 0x40 * p, 31, 0⟩ ∧
    BRG.POLL_LAST g p = ⟨0x180170 + 0x1000 * g + 0x40 * p, 31, 0⟩ ∧
    BRG.NAK_COUNT g p = ⟨0x180174 + 0x1000 * g + 0x40 * p, 31, 0⟩ ∧
    BRG.TIMEOUT_COUNT g p = ⟨0x180178 + 0x1000 * g + 0x40 * p, 31, 0⟩ := by
  simp only [BRG.FENCE_FAIL, BRG.FAIL_TAG, BRG.PORT_STATUS_LOCKED, BRG.PORT_STATUS_LOCK_PENDING, BRG.PORT_STATUS_PCW_BUSY,
    BRG.CAM_IDENT, BRG.POLL_LAST, BRG.NAK_COUNT, BRG.TIMEOUT_COUNT, brgPage, Fld.mk.injEq, and_true]
  omega

/-! ### Bits that an event leaves -/

theorem bitOf_setBitN_ne {v n m : Nat} (hmn : m ≠ n) : bitOf (setBitN v n) m = bitOf v m := by
  unfold setBitN
  split
  · rfl
  · rename_i h
    simp only [bitOf, beq_iff_eq] at h ⊢
    rcases Nat.lt_or_gt_of_ne hmn with hlt | hgt
    · have hp : 2 ^ n = 2 ^ m * (2 * 2 ^ (n - m - 1)) := by rw [← Nat.pow_succ', ← Nat.pow_add]; congr 1; omega
      rw [hp, Nat.add_mul_div_left _ _ (by positivity), Nat.add_mul_mod_self_left]
    · have hp : 2 ^ m = 2 ^ n * (2 * 2 ^ (m - n - 1)) := by rw [← Nat.pow_succ', ← Nat.pow_add]; congr 1; omega
      have hhalf : (v / 2 ^ n + 1) / 2 = v / 2 ^ n / 2 := by omega
      rw [hp, ← Nat.div_div_eq_div_mul, ← Nat.div_div_eq_div_mul, Nat.add_div_right _ (by positivity),
        ← Nat.div_div_eq_div_mul, ← Nat.div_div_eq_div_mul, hhalf]

/-- Setting a bit clears none. -/
theorem bitOf_setBitN_of {v m : Nat} (n : Nat) (h : bitOf v m = true) : bitOf (setBitN v n) m = true := by
  rcases eq_or_ne m n with rfl | hmn
  · exact bitOf_setBitN_same v m
  · rw [bitOf_setBitN_ne hmn, h]

/-- An event leaves the bits of IRQ_STAT that are set. -/
theorem State.bitAt_raise_of (s : State) {page m : Nat} (n : Nat) (hm : m < 32) (hpba : page + 0x20 < 0xFF8000)
    (h : s.bitAt (HDR.IRQ_STAT page) m = true) : (s.raise page n).bitAt (HDR.IRQ_STAT page) m = true := by
  have hf : (HDR.IRQ_STAT page).ok := by simp [Fld.ok, HDR.IRQ_STAT]
  have hv : (HDR.IRQ_STAT page).addr ≠ (PBA.PENDING (s.get (HDR.IRQ_VEC page))).addr := by
    simp only [otherFields, HDR.IRQ_STAT]; omega
  have hst : (s.raise page n).get (HDR.IRQ_STAT page) = setBitN (s.get (HDR.IRQ_STAT page)) n % 2 ^ 32 := by
    simp only [State.raise]
    split
    · rw [State.requestVector, State.get_put_addr _ _ _ _ hv, State.get_put_same _ _ _ hf]; rfl
    · rw [State.get_put_same _ _ _ hf]; rfl
  rw [State.bitAt, hst, bitOf_mod hm]
  exact bitOf_setBitN_of n h

section

variable (s : State)

/-! ### The error log (R348) -/

theorem State.get_logEntry_off (c addr : Nat) (data : List Byte) (tag cause source cstatus len : Nat) {a hi lo : Nat}
    (h : a < 0x180110 + 0x1000 * (c / 2) ∨ 0x180114 + 0x1000 * (c / 2) < a ∧ a < 0x180800 + 0x1000 * (c / 2)) :
    (s.logEntry c addr data tag cause source cstatus len).get ⟨a, hi, lo⟩ = s.get ⟨a, hi, lo⟩ := by
  simp only [State.logEntry, State.inc, State.add, engineFields, logField]
  rw [State.get_put_off _ _ (.inl (by omega)), State.get_put_off _ _ (.inl (by omega))]
  exact State.each_p (State.get · ⟨a, hi, lo⟩) fun t k => State.get_put_off _ _ (.inl (by omega))

theorem State.logEntry_counts (c addr : Nat) (data : List Byte) (tag cause source cstatus len : Nat) :
    (s.logEntry c addr data tag cause source cstatus len).get (BRG.LOG_COUNT (c / 2)) =
      (s.get (BRG.LOG_COUNT (c / 2)) + 1) % 2 ^ 32 := by
  simp only [State.logEntry, State.inc, State.add, engineFields, logField]
  rw [State.get_put_at _ _ (by omega), State.get_put_off _ _ (.inl (by omega)),
    State.each_p (State.get · ⟨0x180114 + 0x1000 * (c / 2), 31, 0⟩) fun t k => State.get_put_off _ _ (.inl (by omega))]

/-! ### Ends of requests (R330, R338, R340) -/

theorem State.dropReq_engine (r : Req) : (s.dropReq r).engine (r.port / 2) = { s.engine (r.port / 2) with
    reqs := (s.engine (r.port / 2)).reqs.filter (fun q => !(q.port == r.port && q.tag == r.tag)) } :=
  State.engine_setEngine_same ..

theorem State.admitReads_idle {c : Nat} (h : (s.engine (c / 2)).reads = []) : s.admitReads c = s := by
  simp [State.admitReads, h, State.each]

/-- The completion of a host read that has ended (R340). -/
def State.readCompletion (g : Nat) (r : HostRead) : Emission :=
  if r.bad then s.failedCompletion g r else .completion r.id false ((r.addrs.filterMap id).map (fun a => tget r.got a 0))

theorem State.each_emit_engine {α : Type} (l : List α) (f : α → Emission) (g : Nat) :
    (s.each l (fun t x => t.emit (f x))).engine g = s.engine g :=
  State.each_p (State.engine · g) fun _ _ => rfl

/-- An engine whose host reads have all ended their pieces and waits completes them. -/
theorem State.settleReads_done {g : Nat} (h : ∀ r ∈ (s.engine g).reads, (r.pieces == 0 && r.waits.isEmpty) = true) :
    s.settleReads g = (s.setEngine g { s.engine g with reads := [] }).each (s.engine g).reads
      (fun t r => t.emit (s.readCompletion g r)) := by
  have hdone : (s.engine g).reads.filter (fun r => r.pieces == 0 && r.waits.isEmpty) = (s.engine g).reads :=
    List.filter_eq_self.mpr h
  have hleft : (s.engine g).reads.filter (fun r => !(r.pieces == 0 && r.waits.isEmpty)) = [] :=
    List.filter_eq_nil_iff.mpr fun r hr => by simp [h r hr]
  let t := (s.setEngine g { s.engine g with reads := [] }).each (s.engine g).reads (fun t r => t.emit (s.readCompletion g r))
  have hreads : (t.engine g).reads = [] := by rw [State.each_emit_engine, State.engine_setEngine_same]
  have hadmit : s.settleReads g = (t.admitReads (2 * g)).admitReads (2 * g + 1) := by
    simp only [State.settleReads, hdone, hleft]
    rfl
  have hA : 2 * g / 2 = g := by omega
  have hB : (2 * g + 1) / 2 = g := by omega
  rw [hadmit, t.admitReads_idle (c := 2 * g) (by rw [hA, hreads]), t.admitReads_idle (by rw [hB, hreads])]

/-- An engine without host reads has none to complete. -/
theorem State.settleReads_idle {g : Nat} (h : (s.engine g).reads = []) : s.settleReads g = s.setEngine g (s.engine g) := by
  rw [s.settleReads_done (by simp [h]), h]
  have heta : { s.engine g with reads := [] } = s.engine g := by rw [← h]
  rw [heta]; rfl

/-- The end of a write leaves an engine without host reads as it is, and all the registers. -/
theorem State.writeEnded_idle (c tag : Nat) (h : (s.engine (c / 2)).reads = []) :
    (s.writeEnded c tag).engine (c / 2) = s.engine (c / 2) ∧ (s.writeEnded c tag).regs = s.regs := by
  have heta : { s.engine (c / 2) with reads := [] } = s.engine (c / 2) := by rw [← h]
  simp only [State.writeEnded, h, List.map_nil, heta]
  rw [State.settleReads_idle _ (by rw [State.engine_setEngine_same, h])]
  exact ⟨by simp, rfl⟩

theorem State.get_of_regs {s t : State} (h : t.regs = s.regs) (f : Fld) : t.get f = s.get f := by
  simp only [State.get, State.word, h]

theorem State.dropReq_reads (r : Req) (h : (s.engine (r.port / 2)).reads = []) :
    ((s.dropReq r).engine (r.port / 2)).reads = [] := by
  rw [s.dropReq_engine, h]

/-! ### Writes and locks complete (R330, R343, R347) -/

theorem State.writeDone_eq {g c tag : Nat} {r : Req} (ho : s.outstanding c tag = some r) (hop : r.op ≠ 2) :
    s.writeDone g c tag true = s.completeWrite r := by
  simp [State.writeDone, ho, hop]

section

variable {r : Req} (hidle : (s.engine (r.port / 2)).reads = [])

include hidle in
theorem State.completeWrite_host (hop : r.op = 1) (hp : r.purpose = .hostWrite) :
    ((s.completeWrite r).engine (r.port / 2)).reqs =
        (s.engine (r.port / 2)).reqs.filter (fun q => !(q.port == r.port && q.tag == r.tag)) ∧
      (s.completeWrite r).regs = s.regs := by
  have hcomplete : s.completeWrite r = (s.dropReq r).writeEnded r.port r.tag := by
    simp [State.completeWrite, hop, State.ackOutcome, hp]
  obtain ⟨hengine, hregs⟩ := (s.dropReq r).writeEnded_idle r.port r.tag (s.dropReq_reads r hidle)
  rw [hcomplete, hengine, hregs, s.dropReq_engine]
  exact ⟨rfl, rfl⟩

include hidle in
theorem State.completeWrite_pc (hc : r.port < 256) (hop : r.op = 1) (hp : r.purpose = .pcWrite) :
    (s.completeWrite r).on (BRG.PORT_STATUS_PCW_BUSY (r.port / 2) (r.port % 2)) = false ∧
      (s.completeWrite r).bitAt (HDR.IRQ_STAT (brgPage (r.port / 2))) 7 = true := by
  let t := ((s.dropReq r).put (BRG.PORT_STATUS_PCW_BUSY (r.port / 2) (r.port % 2)) 0).raise (brgPage (r.port / 2)) 7
  have hcomplete : s.completeWrite r = t.writeEnded r.port r.tag := by simp [State.completeWrite, hop, State.ackOutcome, hp, t]
  have hreads : (t.engine (r.port / 2)).reads = [] := by
    simp only [t, State.raise_engine, State.put_engine, s.dropReq_reads r hidle]
  have hregs := (t.writeEnded_idle r.port r.tag hreads).2
  simp only [State.on, State.bitAt, hcomplete, State.get_of_regs hregs]
  refine ⟨?_, State.bitAt_raise_same _ (by decide) (by simp only [pageAddrs]; omega)⟩
  simp only [t, responseFields]
  rw [State.get_raise_off _ _ _ (by simp only [pageAddrs]; omega) (by omega), State.get_put_at _ _ (by omega)]
  rfl

theorem State.completeWrite_lock (hc : r.port < 256) (hop : r.op = 6) (hp : r.purpose = .lock) :
    (s.completeWrite r).on (BRG.PORT_STATUS_LOCKED (r.port / 2) (r.port % 2)) = true ∧
      (s.completeWrite r).on (BRG.PORT_STATUS_LOCK_PENDING (r.port / 2) (r.port % 2)) = false ∧
      (s.completeWrite r).bitAt (HDR.IRQ_STAT (brgPage (r.port / 2))) 8 = true := by
  let t := (((s.dropReq r).put (BRG.PORT_STATUS_LOCK_PENDING (r.port / 2) (r.port % 2)) 0).put
    (BRG.PORT_STATUS_LOCKED (r.port / 2) (r.port % 2)) 1).raise (brgPage (r.port / 2)) 8
  have hcomplete : s.completeWrite r = t := by simp [State.completeWrite, hop, State.ackOutcome, hp, t]
  rw [hcomplete]
  refine ⟨?_, ?_, State.bitAt_raise_same _ (by decide) (by simp only [pageAddrs]; omega)⟩ <;>
  simp only [t, State.on, responseFields] <;>
  rw [State.get_raise_off _ _ _ (by simp only [pageAddrs]; omega) (by omega)] <;>
  simp (disch := omega) [State.get_put_off, State.get_put_at]

/-! ### Failed requests (R330, R337) -/

/-- A request that fails has left its engine; one that timed out is counted, and its tag stays held (R328). -/
def State.reqEnded (r : Req) (cause : Nat) : State :=
  if cause = 5 then
    let u := (s.dropReq r).inc (BRG.TIMEOUT_COUNT (r.port / 2) (r.port % 2))
    u.setEngine (r.port / 2) { u.engine (r.port / 2) with recent := (r.port, r.tag, u.now) :: (u.engine (r.port / 2)).recent }
  else s.dropReq r

/-- A failed request is logged and reported. -/
def State.reqReported (r : Req) (cause cstatus : Nat) : State :=
  ((s.reqEnded r cause).logEntry r.port r.addr (if r.op = 1 then r.data else []) r.tag cause r.purpose.source cstatus
    r.pieceLen).reportFail r.port r.tag r.op

theorem State.failReq_write (cause cstatus : Nat) (hop : r.op = 1) : s.failReq r cause cstatus =
    ((s.reqReported r cause cstatus).failOutcome r).writeEnded r.port r.tag := if_pos hop

theorem State.failReq_other (cause cstatus : Nat) (hop : r.op ≠ 1) : s.failReq r cause cstatus =
    (s.reqReported r cause cstatus).failOutcome r := if_neg hop

theorem State.get_reportFail_off (c tag op : Nat) {a hi lo : Nat} (hpba : a < 0xFF8000) (hi' : a ≠ 0x180020 + 0x1000 * (c / 2))
    (hf : a ≠ 0x180148 + 0x1000 * (c / 2) + 0x40 * (c % 2)) (ht : a ≠ 0x18014C + 0x1000 * (c / 2) + 0x40 * (c % 2)) :
    (s.reportFail c tag op).get ⟨a, hi, lo⟩ = s.get ⟨a, hi, lo⟩ := by
  simp only [State.reportFail, responseFields]
  split_ifs
  · exact State.get_raise_off _ _ _ (by simp only [pageAddrs]; omega) hpba
  · rw [State.get_raise_off _ _ _ (by simp only [pageAddrs]; omega) hpba, State.get_put_off _ _ (.inl ht),
      State.get_put_off _ _ (.inl hf)]
  · exact State.get_raise_off _ _ _ (by simp only [pageAddrs]; omega) hpba
  · rfl

/-- A failed write shows in FENCE and in the page's events. -/
theorem State.reportFail_write {c : Nat} (tag : Nat) (hc : c < 256) :
    (s.reportFail c tag 1).on (BRG.FENCE_FAIL (c / 2) (c % 2)) = true ∧
      (s.reportFail c tag 1).bitAt (HDR.IRQ_STAT (brgPage (c / 2))) 0 = true := by
  refine ⟨?_, State.bitAt_raise_same _ (by decide) (by simp only [pageAddrs]; omega)⟩
  simp only [State.reportFail, if_true, State.on, responseFields]
  rw [State.get_raise_off _ _ _ (by simp only [pageAddrs]; omega) (by omega)]
  split
  · assumption
  · simp (disch := omega) [State.get_put_off, State.get_put_at]

theorem State.reqReported_write (cause cstatus : Nat) (hc : r.port < 256) (hop : r.op = 1) :
    (s.reqReported r cause cstatus).on (BRG.FENCE_FAIL (r.port / 2) (r.port % 2)) = true ∧
      (s.reqReported r cause cstatus).bitAt (HDR.IRQ_STAT (brgPage (r.port / 2))) 0 = true := by
  rw [State.reqReported, hop]
  exact State.reportFail_write _ _ hc

theorem State.reportFail_read (c tag : Nat) : s.reportFail c tag 2 = s.raise (brgPage (c / 2)) 1 := by
  simp [State.reportFail]

theorem State.reqReported_counts (cause cstatus : Nat) (hc : r.port < 256) :
    (s.reqReported r cause cstatus).get (BRG.LOG_COUNT (r.port / 2)) = (s.get (BRG.LOG_COUNT (r.port / 2)) + 1) % 2 ^ 32 := by
  have hlog := (s.reqEnded r cause).logEntry_counts r.port r.addr (if r.op = 1 then r.data else []) r.tag cause r.purpose.source
    cstatus r.pieceLen
  have hended : (s.reqEnded r cause).get (BRG.LOG_COUNT (r.port / 2)) = s.get (BRG.LOG_COUNT (r.port / 2)) := by
    simp only [State.reqEnded, engineFields, State.inc, State.add, responseFields]
    split
    · rw [State.setEngine_get, State.get_put_off _ _ (.inl (by omega))]
      rfl
    · rfl
  rw [← hended, ← hlog]
  simp only [State.reqReported, engineFields]
  exact State.get_reportFail_off _ _ _ _ (by omega) (by omega) (by omega) (by omega)

theorem State.reqReported_counter_off (cause cstatus : Nat) {a : Nat} (hc : r.port < 256)
    (h : a = 0x180174 + 0x1000 * (r.port / 2) + 0x40 * (r.port % 2) ∨
      a = 0x180178 + 0x1000 * (r.port / 2) + 0x40 * (r.port % 2)) :
    (s.reqReported r cause cstatus).get ⟨a, 31, 0⟩ = (s.reqEnded r cause).get ⟨a, 31, 0⟩ := by
  rw [State.reqReported, State.get_reportFail_off _ _ _ _ (by omega) (by omega) (by omega) (by omega)]
  exact State.get_logEntry_off _ _ _ _ _ _ _ _ _ (by omega)

/-- The failure of a request counts as no NAK, and as a time-out where it is one. -/
theorem State.reqReported_counters (cause cstatus : Nat) (hc : r.port < 256) :
    (s.reqReported r cause cstatus).get (BRG.NAK_COUNT (r.port / 2) (r.port % 2)) =
        s.get (BRG.NAK_COUNT (r.port / 2) (r.port % 2)) ∧
      (cause = 5 → (s.reqReported r cause cstatus).get (BRG.TIMEOUT_COUNT (r.port / 2) (r.port % 2)) =
        (s.get (BRG.TIMEOUT_COUNT (r.port / 2) (r.port % 2)) + 1) % 2 ^ 32) := by
  simp only [responseFields]
  rw [s.reqReported_counter_off cause cstatus hc (.inl rfl), s.reqReported_counter_off cause cstatus hc (.inr rfl)]
  simp only [State.reqEnded, State.inc, State.add, responseFields]
  refine ⟨?_, fun h => ?_⟩
  · split
    · rw [State.setEngine_get, State.get_put_off _ _ (.inl (by omega))]
      rfl
    · rfl
  · rw [if_pos h, State.setEngine_get, State.get_put_at _ _ (by omega)]
    rfl

include hidle in
theorem State.reqReported_reads (cause cstatus : Nat) : ((s.reqReported r cause cstatus).engine (r.port / 2)).reads = [] := by
  have hreport {t : State} (tag op : Nat) : (t.reportFail r.port tag op).engine (r.port / 2) = t.engine (r.port / 2) :=
    State.reportFail_keeps (engine_ignores _ rfl) ..
  rw [State.reqReported, hreport, State.logEntry_keeps (engine_ignores _ rfl)]
  simp only [State.reqEnded]
  split
  · simp [s.dropReq_reads r hidle]
  · exact s.dropReq_reads r hidle

include hidle in
/-- A write of the host that fails is reported and logged, and its owner's outcome changes no register. -/
theorem State.failReq_host (cause cstatus : Nat) (hc : r.port < 256) (hop : r.op = 1) (hp : r.purpose = .hostWrite) :
    (s.failReq r cause cstatus).get (BRG.NAK_COUNT (r.port / 2) (r.port % 2)) =
        s.get (BRG.NAK_COUNT (r.port / 2) (r.port % 2)) ∧
      (cause = 5 → (s.failReq r cause cstatus).get (BRG.TIMEOUT_COUNT (r.port / 2) (r.port % 2)) =
        (s.get (BRG.TIMEOUT_COUNT (r.port / 2) (r.port % 2)) + 1) % 2 ^ 32) ∧
      (s.failReq r cause cstatus).on (BRG.FENCE_FAIL (r.port / 2) (r.port % 2)) = true ∧
      (s.failReq r cause cstatus).bitAt (HDR.IRQ_STAT (brgPage (r.port / 2))) 0 = true ∧
      (s.failReq r cause cstatus).get (BRG.LOG_COUNT (r.port / 2)) = (s.get (BRG.LOG_COUNT (r.port / 2)) + 1) % 2 ^ 32 := by
  have hregs : (s.failReq r cause cstatus).regs = (s.reqReported r cause cstatus).regs := by
    rw [s.failReq_write cause cstatus hop]
    simp only [State.failOutcome, hp]
    exact (State.writeEnded_idle _ _ _ (s.reqReported_reads hidle cause cstatus)).2
  obtain ⟨hfence, hirq⟩ := s.reqReported_write cause cstatus hc hop
  obtain ⟨hnak, htimeout⟩ := s.reqReported_counters cause cstatus hc
  simp only [State.on, State.bitAt, State.get_of_regs hregs] at hfence hirq ⊢
  exact ⟨hnak, htimeout, hfence, hirq, s.reqReported_counts cause cstatus hc⟩

/-- A poll that fails is reported as a failed read and as a failed poll (R345). -/
theorem State.failReq_poll (cause cstatus : Nat) (hc : r.port < 256) (hop : r.op = 2) (hp : r.purpose = .poll) :
    (s.failReq r cause cstatus).bitAt (HDR.IRQ_STAT (brgPage (r.port / 2))) 1 = true ∧
      (s.failReq r cause cstatus).bitAt (HDR.IRQ_STAT (brgPage (r.port / 2))) 6 = true := by
  have hfail : (s.failReq r cause cstatus) = (s.reqReported r cause cstatus).raise (brgPage (r.port / 2)) 6 := by
    rw [s.failReq_other cause cstatus (by simp [hop]), State.failOutcome, hp]
  rw [hfail, State.reqReported, hop, State.reportFail_read]
  have hpba : brgPage (r.port / 2) + 0x20 < 0xFF8000 := by simp only [pageAddrs]; omega
  exact ⟨State.bitAt_raise_of _ _ (by decide) hpba (State.bitAt_raise_same _ (by decide) hpba),
    State.bitAt_raise_same _ (by decide) hpba⟩

end

/-! ### Reads answered (R326, R340, R345) -/

theorem State.abandonedPiece_idle {r : Req} {key : Nat} (h : (s.engine (r.port / 2)).reads = [])
    (hp : r.purpose = .hostRead key) :
    s.abandonedPiece r = true := by
  simp [State.abandonedPiece, hp, h]

theorem State.abandonedPiece_other {r : Req} (hp : ∀ key, r.purpose ≠ .hostRead key) : s.abandonedPiece r = false := by
  unfold State.abandonedPiece
  split
  · exact absurd ‹_› (hp _)
  · rfl

section

variable {g c tag : Nat} {r : Req} {se : Bool} {data : List Byte} (ho : s.outstanding c tag = some r) (hop : r.op = 2)

include ho hop

theorem State.readData_abandoned (h : s.abandonedPiece r = true) : s.readData g c tag se data true =
    if se then (s.dropReq r).logSeLost c r.addr r.tag r.len [] else s.dropReq r := by
  simp [State.readData, ho, hop, h]

theorem State.readData_answers (h : s.abandonedPiece r = false) (hlen : data.length = r.len) :
    s.readData g c tag se data true = s.readDone r se data := by
  simp [State.readData, ho, hop, h, hlen]

theorem State.readData_misfits (h : s.abandonedPiece r = false) (hlen : data.length ≠ r.len) :
    s.readData g c tag se data true = s.failReq r 6 0 := by
  simp [State.readData, ho, hop, h, hlen]

end

/-- Bytes marked SE that nothing holds are counted (R342). -/
def State.seSeen (g : Nat) (se : Bool) : State := if se then s.inc (BRG.SE_SEEN g) else s

theorem State.get_seSeen_off (g : Nat) (se : Bool) {a hi lo : Nat} (h : a ≠ 0x18011C + 0x1000 * g) :
    (s.seSeen g se).get ⟨a, hi, lo⟩ = s.get ⟨a, hi, lo⟩ := by
  simp only [State.seSeen, State.inc, State.add, engineFields]
  split
  · exact State.get_put_off _ _ (.inl h)
  · rfl

theorem State.seSeen_engine (g x : Nat) (se : Bool) : (s.seSeen g se).engine x = s.engine x := by
  unfold State.seSeen
  split
  · exact State.inc_engine ..
  · rfl

theorem State.diValue_of_get {s t : State} {c : Nat} (l : List Byte)
    (h : t.get (BRG.PORT_CFG_BE (c / 2) (c % 2)) = s.get (BRG.PORT_CFG_BE (c / 2) (c % 2))) : t.diValue c l = s.diValue c l := by
  unfold State.diValue State.on
  rw [h]

theorem State.diValue_seSeen (r : Req) (se : Bool) (data : List Byte) :
    ((s.dropReq r).seSeen (r.port / 2) se).diValue r.port data = s.diValue r.port data :=
  State.diValue_of_get _ (by simp only [bridgeFields]; rw [State.get_seSeen_off _ _ _ (by omega)]; rfl)

theorem State.polled_reads {c : Nat} (data : List Byte) (hc : c < 256) :
    (s.polled c data).get (BRG.POLL_LAST (c / 2) (c % 2)) = s.diValue c data % 2 ^ 32 ∧
      ((s.polled c data).engine (c / 2)).reqs = (s.engine (c / 2)).reqs := by
  let e := s.engine (c / 2)
  let t := (s.put (BRG.POLL_LAST (c / 2) (c % 2)) (s.diValue c data)).setEngine (c / 2)
    (if c % 2 = 0 then { e with polledA := true } else { e with polledB := true })
  have hlast : t.get (BRG.POLL_LAST (c / 2) (c % 2)) = s.diValue c data % 2 ^ 32 := by
    simp only [t, State.setEngine_get, responseFields]
    exact State.get_put_at _ _ (by omega)
  have hreqs : (t.engine (c / 2)).reqs = (s.engine (c / 2)).reqs := by
    simp only [t, State.engine_setEngine_same]
    split <;> rfl
  have hpolled : s.polled c data = t.raise (brgPage (c / 2)) (4 + c % 2) ∨ s.polled c data = t := ite_eq_or_eq _ _ _
  rcases hpolled with h | h <;> rw [h]
  · refine ⟨?_, by rw [State.raise_engine, hreqs]⟩
    rw [← hlast]
    simp only [responseFields]
    exact State.get_raise_off _ _ _ (by simp only [pageAddrs]; omega) (by omega)
  · exact ⟨hlast, hreqs⟩

theorem State.readDone_poll {r : Req} (se : Bool) (data : List Byte) (hc : r.port < 256) (hp : r.purpose = .poll) :
    (s.readDone r se data).get (BRG.POLL_LAST (r.port / 2) (r.port % 2)) = s.diValue r.port data % 2 ^ 32 ∧
      ((s.readDone r se data).engine (r.port / 2)).reqs =
        (s.engine (r.port / 2)).reqs.filter (fun q => !(q.port == r.port && q.tag == r.tag)) := by
  have hdone : s.readDone r se data = ((s.dropReq r).seSeen (r.port / 2) se).polled r.port data := by
    simp only [State.readDone, hp, State.seSeen]
  rw [hdone]
  obtain ⟨hlast, hreqs⟩ := ((s.dropReq r).seSeen (r.port / 2) se).polled_reads data hc
  exact ⟨by rw [hlast, s.diValue_seSeen], by rw [hreqs, State.seSeen_engine, s.dropReq_engine]⟩

theorem State.readDone_ident {r : Req} (se : Bool) (data : List Byte) (hc : r.port < 256) (hp : r.purpose = .discIdent) :
    (s.readDone r se data).get (BRG.CAM_IDENT (r.port / 2) (r.port % 2)) = s.diValue r.port data % 2 ^ 32 ∧
      (s.readDone r se data).get (BRG.PORT_STATUS_DISC (r.port / 2) (r.port % 2)) = 1 ∧
      (s.readDone r se data).bitAt (HDR.IRQ_STAT (brgPage (r.port / 2))) 9 = true := by
  have hdone : s.readDone r se data = ((((s.dropReq r).seSeen (r.port / 2) se).put (BRG.CAM_IDENT (r.port / 2) (r.port % 2))
      (s.diValue r.port data)).put (BRG.PORT_STATUS_DISC (r.port / 2) (r.port % 2)) 1).raise (brgPage (r.port / 2)) 9 := by
    rw [← s.diValue_seSeen r se data]
    simp only [State.readDone, hp, State.discovered, reduceCtorEq, if_false]
    rfl
  rw [hdone]
  refine ⟨?_, ?_, State.bitAt_raise_same _ (by decide) (by simp only [pageAddrs]; omega)⟩ <;>
  simp only [responseFields, bridgeFields] <;>
  rw [State.get_raise_off _ _ _ (by simp only [pageAddrs]; omega) (by omega)] <;>
  simp (disch := omega) [State.get_put_off, State.get_put_at]

/-- The last piece of a host read that waits for nothing else completes it. -/
theorem State.readDone_last {r : Req} {x : HostRead} {data : List Byte} (hp : r.purpose = .hostRead x.key)
    (hreads : (s.engine (r.port / 2)).reads = [x]) (hpieces : x.pieces = 1) (hwaits : x.waits = []) (hbad : x.bad = false)
    (hwant : r.want = r.len) (hlen : data.length = r.len) :
    ((s.readDone r false data).engine (r.port / 2)).reads = [] ∧
      (s.readDone r false data).out = .completion x.id false ((x.addrs.filterMap id).map (fun a =>
        tget (x.got ++ (List.range data.length).map (fun i => (r.addr + i, data.getD i 0))) a 0)) :: s.out := by
  let cells : List (Nat × Byte) := (List.range data.length).map (fun i => (r.addr + i, data.getD i 0))
  have hcells : cells.length = r.want := by simp [cells, hwant, hlen]
  let t := (s.dropReq r).onRead (r.port / 2) x.key (fun y => { y with got := y.got ++ cells, pieces := y.pieces - 1 })
  have hdone : s.readDone r false data = t.settleReads (r.port / 2) := by
    simp only [State.readDone, hp, State.gather]
    rw [show List.drop r.want _ = [] from List.drop_eq_nil_of_le hcells.le,
      show List.take r.want _ = cells from List.take_of_length_le hcells.le]
    rfl
  have hone : (t.engine (r.port / 2)).reads = [{ x with got := x.got ++ cells, pieces := 0 }] := by
    simp [t, State.onRead, s.dropReq_engine, hreads, hpieces]
  rw [hdone, t.settleReads_done (by simp [hone, hwaits]), hone]
  refine ⟨by rw [State.each_emit_engine, State.engine_setEngine_same], ?_⟩
  have hcompletion : t.readCompletion (r.port / 2) { x with got := x.got ++ cells, pieces := 0 } =
      .completion x.id false ((x.addrs.filterMap id).map (fun a => tget (x.got ++ cells) a 0)) := by
    simp [State.readCompletion, hbad]
  exact congrArg (· :: s.out) hcompletion

/-! ### NAKs (R330) -/

section

variable {c tag status : Nat} {r : Req} (g : Nat) (ho : s.outstanding c tag = some r) (hp : ∀ key, r.purpose ≠ .hostRead key)

include ho hp

theorem State.nak_fails (h4 : status ≠ 4) (h3 : status ≠ 3) : s.nak g c tag status true =
    (s.inc (BRG.NAK_COUNT g (c % 2))).failReq r status status := by
  simp [State.nak, ho, State.abandonedPiece_other _ hp, h4, h3]

theorem State.nak_crc (h : r.crcTries < 3) : s.nak g c tag 4 true =
    (s.inc (BRG.NAK_COUNT g (c % 2))).onReq r (fun q => { q with state := .queued, crcTries := q.crcTries + 1 }) := by
  simp [State.nak, ho, State.abandonedPiece_other _ hp, h]

theorem State.nak_busy (h : r.busyTries < s.get (BRG.BRG_CFG_RETRY_MAX g)) : s.nak g c tag 3 true =
    (s.inc (BRG.NAK_COUNT g (c % 2))).onReq r (fun q => { q with state := .busyWait, busyTries := q.busyTries + 1 }) := by
  have hmax : (s.inc (BRG.NAK_COUNT g (c % 2))).get (BRG.BRG_CFG_RETRY_MAX g) = s.get (BRG.BRG_CFG_RETRY_MAX g) := by
    simp only [State.inc, State.add, responseFields, engineFields]
    exact State.get_put_off _ _ (.inl (by omega))
  simp [State.nak, ho, State.abandonedPiece_other _ hp, hmax, h]

end

end

/-! ### Lost bytes of an abandoned piece (R340, R342) -/

theorem State.logSeLost_counts (s : State) {c : Nat} (addr tag len : Nat) (data : List Byte) (hc : c < 256) :
    (s.logSeLost c addr tag len data).bitAt (HDR.IRQ_STAT (brgPage (c / 2))) 2 = true ∧
      (s.logSeLost c addr tag len data).get (BRG.LOG_COUNT (c / 2)) = (s.get (BRG.LOG_COUNT (c / 2)) + 1) % 2 ^ 32 := by
  rw [← s.logEntry_counts c addr data tag 11 1 0 len, State.logSeLost]
  refine ⟨State.bitAt_raise_same _ (by decide) (by simp only [pageAddrs]; omega), ?_⟩
  simp only [engineFields]
  exact State.get_raise_off _ _ _ (by simp only [pageAddrs]; omega) (by omega)

theorem State.readData_lost (s : State) {g c tag : Nat} {r : Req} (data : List Byte) (ho : s.outstanding c tag = some r)
    (hop : r.op = 2) (ha : s.abandonedPiece r = true) (hr : r.port < 256) (se : Bool) :
    (s.readData g c tag se data true).out = s.out ∧
      ((s.readData g c tag se data true).engine (r.port / 2)).reqs =
        (s.engine (r.port / 2)).reqs.filter (fun q => !(q.port == r.port && q.tag == r.tag)) ∧
      (se = false → (s.readData g c tag se data true).regs = s.regs) ∧
      (se = true → c = r.port → (s.readData g c tag se data true).bitAt (HDR.IRQ_STAT (brgPage (r.port / 2))) 2 = true ∧
        (s.readData g c tag se data true).get (BRG.LOG_COUNT (r.port / 2)) =
          (s.get (BRG.LOG_COUNT (r.port / 2)) + 1) % 2 ^ 32) := by
  rw [s.readData_abandoned ho hop ha]
  cases se with
  | false =>
    rw [if_neg Bool.false_ne_true]
    exact ⟨rfl, by rw [s.dropReq_engine], fun _ => rfl, nofun⟩
  | true =>
    have hlost {β : Type} {q : State → β} (h : Ignores q [.regs]) :
        q ((s.dropReq r).logSeLost c r.addr r.tag r.len []) = q (s.dropReq r) :=
      State.logSeLost_keeps h ..
    rw [if_pos rfl]
    refine ⟨hlost (out_ignores rfl), ?_, nofun, fun _ h => ?_⟩
    · rw [hlost (engine_ignores _ rfl), s.dropReq_engine]
    · rw [h]
      exact State.logSeLost_counts _ _ _ _ _ hr

/-! ### The commands -/

section

variable {s : State} {g : Fin 128} (p : Fin 2) (tag : Fin 65536) (addr : Word) (hrun : s.running = true)
  (hg : (s.engine g).grant ≠ none)

theorem State.granted_of (hrun : s.running = true) (hg : (s.engine g).grant ≠ none) : (s.running && s.granted g) = true := by
  simp [hrun, State.granted, Option.isSome_iff_ne_none, hg]

include hrun hg

theorem exec_writeDoneRsp (h : BitVec 16) : exec (.writeDoneRsp g p tag addr h) s = .next (s.writeDone g (portNo g p) tag
    (rspOk [3] (rspHead 4 p 0 tag addr.toNat 0 0) h.toNat [] (0 : BitVec 32).toNat)) :=
  congrArg _ (s.when_true _ (State.granted_of hrun hg))

theorem exec_readDataRsp (se : Bool) (data : List Byte) (h : BitVec 16) (d : BitVec 32) :
    exec (.readDataRsp g p tag se addr data h d) s = .next (s.readData g (portNo g p) tag se data
      (rspOk [3, 4] (rspHead 3 p (b2n se) tag addr.toNat data.length 0) h.toNat data d.toNat)) :=
  congrArg _ (s.when_true _ (State.granted_of hrun hg))

theorem exec_nakRsp (st : Fin 5) (h : BitVec 16) (hst : st ≠ 0) : exec (.nakRsp g p tag st addr h) s =
    .next (s.nak g (portNo g p) tag st
      (rspOk [3, 4] (rspHead 5 p 0 tag addr.toNat 0 st) h.toNat [] (0 : BitVec 32).toNat)) := by
  have hst' : (st.val != 0) = true := by simpa using fun e => hst (Fin.ext e)
  exact congrArg _ (s.when_true _ (by rw [State.granted_of hrun hg, hst']; rfl))

end

/-- Settles O23, by what a good and a bad response do to the request that they match. -/
theorem responseCommandsComplete : Obligations.ResponseCommandsComplete := by
  intro s g p tag addr c head hWrite hRead hNak dCrc hrun hg
  have hpm : p.val % 2 = p := by omega
  have hhead : ∀ cls op se len st, head cls op se len st = rspHead op p se tag addr.toNat len st cls := by
    intro cls op se len st
    simp only [head, rspHead, hpm]
  have hc : c < 256 := portNo_lt g p
  have hdiv : c / 2 = g := portNo_div g p
  have hmod : c % 2 = p := portNo_mod g p
  -- The four kinds of a good response.
  have hW : exec (.writeDoneRsp g p tag addr hWrite) s = .next (s.writeDone g c tag true) := by
    rw [exec_writeDoneRsp p tag addr hrun hg, rspOk_good (k := 3) (by simp) (by simp only [hWrite, hhead]) (.inl rfl)]
  have hR : ∀ se data k, (k = 3 ∨ k = 4) → exec (.readDataRsp g p tag se addr data (hRead k se data) (dCrc data)) s =
      .next (s.readData g c tag se data true) := by
    intro se data k hk
    rw [exec_readDataRsp p tag addr hrun hg, rspOk_good (k := k) (by simpa using hk) (by simp only [hRead, hhead]) (.inr rfl)]
  have hN : ∀ (st : Fin 5) k, st ≠ 0 → (k = 3 ∨ k = 4) → exec (.nakRsp g p tag st addr (hNak k st)) s =
      .next (s.nak g c tag st true) := by
    intro st k hst hk
    rw [exec_nakRsp p tag addr hrun hg st _ hst, rspOk_good (k := k) (by simpa using hk) (by simp only [hNak, hhead]) (.inl rfl)]
  have hT : exec (.responseTimeout g p tag) s = .next (s.responseTimeout c tag) := congrArg _ (s.when_true _ hrun)
  refine ⟨?_, ?_, ?_, ?_, ?_⟩
  -- A bad response (R330).
  · rintro bad rfl
    refine ⟨fun h hh => ?_, fun se data h d hbad => ?_, fun st h hst h3 h4 => ?_⟩
    · rw [exec_writeDoneRsp p tag addr hrun hg, rspOk_badHeader (by simpa [hhead, hWrite] using hh)]
      rfl
    · rw [exec_readDataRsp p tag addr hrun hg]
      rcases hbad with hh | ⟨hdata, hd⟩
      · rw [rspOk_badHeader (by simpa [hhead, hRead] using hh)]
        rfl
      · rw [rspOk_badData hdata hd]
        rfl
    · have hbad : ∀ k ∈ [3, 4], h ≠ BitVec.ofNat 16 (crc16 (rspHead 5 p 0 tag addr.toNat 0 st k)) := by
        intro k hk
        rw [← hhead]
        rcases (by simpa using hk : k = 3 ∨ k = 4) with rfl | rfl
        · exact h3
        · exact h4
      rw [exec_nakRsp p tag addr hrun hg st _ hst, rspOk_badHeader hbad]
      rfl
  -- A response that matches nothing (R330).
  · intro ho
    refine ⟨?_, fun se data k hk => ?_, fun st k hst hk => ?_, ?_⟩
    · rw [hW, State.writeDone, ho]; rfl
    · rw [hR se data k hk, State.readData, ho]; rfl
    · rw [hN st k hst hk, State.nak, ho]; rfl
    · rw [hT, State.responseTimeout, ho]
  -- A response to a request of an engine without host reads.
  · intro r ho hport htag hreads
    have hidle : (s.engine (r.port / 2)).reads = [] := by rw [hport, hdiv, hreads]
    have hr : r.port < 256 := hport ▸ hc
    have hrd : r.port / 2 = g := by rw [hport, hdiv]
    have hrm : r.port % 2 = p := by rw [hport, hmod]
    refine ⟨fun hop hp => ⟨_, hW.trans (congrArg _ (s.writeDone_eq ho (by simp [hop]))), ?_⟩,
      fun hop hp => ⟨_, hW.trans (congrArg _ (s.writeDone_eq ho (by simp [hop]))), ?_⟩,
      fun hop hp => ⟨_, hW.trans (congrArg _ (s.writeDone_eq ho (by simp [hop]))), ?_⟩,
      fun hop hp se data hlen => ?_, fun hop hp se data hlen => ?_, fun hop hp se data hlen => ?_, fun key hop hp se data => ?_,
      fun hp hop st hst => ?_, fun hp hop => ?_⟩
    · have h := s.completeWrite_host hidle hop hp
      rwa [hrd] at h
    · have h := s.completeWrite_pc hidle hr hop hp
      rwa [hrd, hrm] at h
    · have h := s.completeWrite_lock hr hop hp
      rwa [hrd, hrm] at h
    · have ha := s.abandonedPiece_other (r := r) (by simp [hp])
      have h := s.readDone_poll se data hr hp
      rw [hrd, hrm, hport] at h
      rw [hR se data 4 (.inr rfl), s.readData_answers ho hop ha hlen]
      exact ⟨_, rfl, h.1, by rw [hport]; exact h.2⟩
    · have ha := s.abandonedPiece_other (r := r) (by simp [hp])
      have h := s.readDone_ident se data hr hp
      rw [hrd, hrm, hport] at h
      rw [hR se data 3 (.inl rfl), s.readData_answers ho hop ha hlen]
      exact ⟨_, rfl, h⟩
    · have ha := s.abandonedPiece_other (r := r) (by simp [hp])
      have h := s.failReq_poll 6 0 hr hop hp
      rw [hrd] at h
      rw [hR se data 4 (.inr rfl), s.readData_misfits ho hop ha hlen]
      exact ⟨_, rfl, h⟩
    · have h := s.readData_lost (g := g) data ho hop (s.abandonedPiece_idle hidle hp) hr se
      rw [hrd] at h
      obtain ⟨hout, hreqs, hplain, hlost⟩ := h
      exact ⟨_, hR se data 3 (.inl rfl), hout, hreqs, hplain, fun hse => hlost hse hport.symm⟩
    · have hst0 : st ≠ 0 ∧ st.val ≠ 3 ∧ st.val ≠ 4 := by rcases hst with rfl | rfl <;> decide
      have hnak : s.nak g c tag st true = (s.inc (BRG.NAK_COUNT g p)).failReq r st st := by
        rw [s.nak_fails g ho (by simp [hp]) hst0.2.2 hst0.2.1, hmod]
      have h := (s.inc (BRG.NAK_COUNT g p)).failReq_host (r := r) (by rw [State.inc_engine, hidle]) st st hr hop hp
      rw [hrd, hrm] at h
      obtain ⟨hcount, -, hfence, hirq, hlog⟩ := h
      refine ⟨_, (hN st 3 hst0.1 (.inl rfl)).trans (congrArg _ hnak), hcount.trans ?_, hfence, hirq, hlog.trans ?_⟩
      · simp only [State.inc, State.add, responseFields]
        exact State.get_put_at _ _ (by omega)
      · simp only [State.inc, State.add, responseFields, engineFields]
        rw [State.get_put_off _ _ (.inl (by omega))]
    · have h := s.failReq_host hidle 5 0 hr hop hp
      rw [hrd, hrm] at h
      obtain ⟨-, hcount, hfence, hirq, hlog⟩ := h
      refine ⟨_, hT.trans (congrArg _ ?_), hcount rfl, hfence, hirq, hlog⟩
      simp only [State.responseTimeout, ho]
  -- The last piece of a host read.
  · intro r x data ho hport hop hp hreads hpieces hwaits hbad hwant hlen
    have hrd : r.port / 2 = g := by rw [hport, hdiv]
    have ha : s.abandonedPiece r = false := by simp [State.abandonedPiece, hp, hrd, hreads]
    have h := s.readDone_last hp (hrd ▸ hreads) hpieces hwaits hbad hwant hlen
    rw [hrd] at h
    rw [hR false data 3 (.inl rfl), s.readData_answers ho hop ha hlen]
    exact ⟨_, rfl, h⟩
  -- A request that is sent again (R330).
  · intro r ho hport htag hp
    refine ⟨fun h => (hN 4 3 (by decide) (.inl rfl)).trans (congrArg _ ?_),
      fun h => (hN 3 3 (by decide) (.inl rfl)).trans (congrArg _ ?_)⟩
    · have hnak := s.nak_crc g ho (by simp [hp]) h
      rwa [hmod] at hnak
    · have hnak := s.nak_busy g ho (by simp [hp]) h
      rwa [hmod] at hnak

end Sys2Proof.Machine
end

section
/-!
PROOFS. Frame check of FS, lines and FE (R96, R100, R101, R127, R237, R238, R247; O32).
-/

namespace Sys2Proof.Machine

@[simp] theorem State.cam_setCam_same (s : State) (c : Nat) (v : CamSt) : (s.setCam c v).cam c = v := tget_tput_same ..

@[simp] theorem State.raise_cam (s : State) (page n c : Nat) : (s.raise page n).cam c = s.cam c :=
  State.raise_keeps (cam_ignores c rfl) s page n

@[simp] theorem State.raise_slice (s : State) (page n k : Nat) : (s.raise page n).slice k = s.slice k :=
  State.raise_keeps (slice_ignores k rfl) s page n

section

variable (s : State)

/-! ### The head of the intake leaves it -/

theorem State.popFc_fc {k : Nat} {i : FcItem} {rest : List FcItem} (h : (s.slice k).fc = i :: rest) :
    ((s.popFc k).slice k).fc = rest := by
  simp [State.popFc, h]

/-! ### Binding (R237, R238, R247) -/

theorem State.markMissing_frames (c n : Nat) : ((s.markMissing c n).cam c).frames = (s.cam c).frames := by
  let t := s.setSched c { s.sched c with outst := (s.sched c).outst.filter (fun p => p.1 != n) }
  have ht : (((t.flagRecord c n 2).inc (CAM.FC_MISSING_FRAME c)).raise (gatePage (c / 2)) 11).cam c = t.cam c := by
    rw [State.raise_cam, State.inc_cam, State.flagRecord_keeps (cam_ignores c rfl)]
  have hframes : (t.cam c).frames = (s.cam c).frames := by simp [t, State.setSched]
  rw [← hframes, ← ht]
  exact ite_p (fun u => (u.cam c).frames) (congrArg CamSt.frames (State.pushPacket_keeps (cam_ignores c rfl) ..)) rfl

/-- What an FS fixes for its frame but for its binding. -/
def Frame.fixed (fr : Frame) : Nat × Nat × Bool × List (Nat × Word) × Nat := (fr.c, fr.id, fr.closed, fr.latch, fr.fstat)

theorem State.bindFrame_binds (fr : Frame) (n : Nat) (mismatch : Bool) (landed : Nat) :
    (s.bindFrame fr n mismatch landed).2.fixed = fr.fixed ∧ (s.bindFrame fr n mismatch landed).2.bound = true ∧
      (s.bindFrame fr n mismatch landed).2.shot = n ∧
      (((s.bindFrame fr n mismatch landed).1.cam fr.c).frames = (s.cam fr.c).frames) ∧
      ((s.bindFrame fr n mismatch landed).1.sched fr.c).outst = (s.sched fr.c).outst.filter (fun p => p.1 != n) := by
  have hcam : (s.bindFrame fr n mismatch landed).1.cam fr.c =
      { s.cam fr.c with sched := { s.sched fr.c with outst := (s.sched fr.c).outst.filter (fun p => p.1 != n) } } := by
    simp only [State.bindFrame]
    rw [State.onRecord_keeps (cam_ignores fr.c rfl), State.setSched, State.cam_setCam_same]
  rw [State.sched, hcam]
  exact ⟨rfl, rfl, rfl, rfl, rfl⟩

theorem State.bindAtFs_fixes (fr : Frame) (m : Marker) :
    (s.bindAtFs fr m).2.fixed = fr.fixed ∧ ((s.bindAtFs fr m).1.cam fr.c).frames = (s.cam fr.c).frames := by
  cases hchoice : if s.groupFenced fr.c then none else bindChoice (s.sched fr.c).outst m.hdrOk m.echo with
  | none =>
    simp only [State.bindAtFs, hchoice, Frame.fixed]
    exact ⟨trivial, trivial⟩
  | some x =>
    let u := s.each x.2.1 (fun t y => t.markMissing fr.c y)
    have hat : s.bindAtFs fr m = u.bindFrame fr x.1 x.2.2 m.landed := by simp only [State.bindAtFs, hchoice, u]
    obtain ⟨hfixed, -, -, hframes, -⟩ := u.bindFrame_binds fr x.1 x.2.2 m.landed
    rw [hat]
    exact ⟨hfixed, hframes.trans (State.each_p (fun t => (t.cam fr.c).frames) fun t y => t.markMissing_frames fr.c y)⟩

theorem State.bindAtFs_none (fr : Frame) (m : Marker) (h : (s.sched fr.c).outst = []) :
    (s.bindAtFs fr m).2.bound = fr.bound ∧ bitOf (s.bindAtFs fr m).2.xstat 4 = true := by
  have hnone : (if s.groupFenced fr.c then none else bindChoice (s.sched fr.c).outst m.hdrOk m.echo) = none := by
    rw [h]; exact ite_self _
  simp only [State.bindAtFs, hnone]
  exact ⟨trivial, bitOf_setBitN_same _ _⟩

theorem bindChoice_one (n : Nat) (sy hdrOk : Bool) (echo : Nat) :
    ∃ mismatch, bindChoice [(n, sy)] hdrOk echo = some (n, [], mismatch) := by
  simp only [bindChoice]
  split
  · exact ⟨_, rfl⟩
  · by_cases h : (sy && n % 65536 == echo) = true
    · exact ⟨false, by simp [List.findIdx?_cons, h]⟩
    · exact ⟨true, by simp [List.findIdx?_cons, h]⟩

theorem State.bindAtFs_one (fr : Frame) (m : Marker) {n : Nat} {sy : Bool} (h : (s.sched fr.c).outst = [(n, sy)])
    (hf : s.groupFenced fr.c = false) :
    (s.bindAtFs fr m).2.bound = true ∧ (s.bindAtFs fr m).2.shot = n ∧ ((s.bindAtFs fr m).1.sched fr.c).outst = [] := by
  obtain ⟨mismatch, hbind⟩ := bindChoice_one n sy m.hdrOk m.echo
  have hat : s.bindAtFs fr m = s.bindFrame fr n mismatch m.landed := by
    simp only [State.bindAtFs, hf, h, hbind, Bool.false_eq_true, if_false, State.each]
    rfl
  obtain ⟨-, hbound, hshot, -, houtst⟩ := s.bindFrame_binds fr n mismatch m.landed
  rw [hat]
  exact ⟨hbound, hshot, by rw [houtst, h]; simp⟩

end

/-! ### What else a frame fixes at its FS (R154 to R159, R182, R192, R193, R249) -/

/-- What an FS fixes for its frame, and its shot. -/
def Frame.binding (fr : Frame) : (Nat × Nat × Bool × List (Nat × Word) × Nat) × Bool × Nat := (fr.fixed, fr.bound, fr.shot)

/-- A stage of the opening of a frame of port c that keeps its binding, the port's frames and its outstanding shots. -/
structure KeepsBinding (c : Nat) (a b : State × Frame) : Prop where
  binding : b.2.binding = a.2.binding
  unbound : bitOf a.2.xstat 4 = true → bitOf b.2.xstat 4 = true
  frames : (b.1.cam c).frames = (a.1.cam c).frames
  outst : (b.1.sched c).outst = (a.1.sched c).outst

theorem KeepsBinding.trans {c : Nat} {x y z : State × Frame} (h : KeepsBinding c x y) (k : KeepsBinding c y z) :
    KeepsBinding c x z :=
  ⟨k.binding.trans h.binding, k.unbound ∘ h.unbound, k.frames.trans h.frames, k.outst.trans h.outst⟩

theorem KeepsBinding.port {c : Nat} {a b : State × Frame} (h : KeepsBinding c a b) : b.2.c = a.2.c :=
  congrArg (·.1.1) h.binding

/-- A stage that keeps bindings, after others. -/
theorem KeepsBinding.then {c : Nat} {x a : State × Frame} (h : KeepsBinding c x a) (hx : x.2.c = c)
    {f : State → Frame → State × Frame} (hf : ∀ s fr, KeepsBinding fr.c (s, fr) (f s fr)) : KeepsBinding c x (f a.1 a.2) :=
  h.trans ((h.port.trans hx) ▸ hf a.1 a.2)

theorem KeepsBinding.ite {c : Nat} {x a b : State × Frame} {p : Prop} [Decidable p] (ha : KeepsBinding c x a)
    (hb : KeepsBinding c x b) : KeepsBinding c x (if p then a else b) := by
  split
  · exact ha
  · exact hb

section

variable (s : State) (fr : Frame)

theorem State.noRef_keepsBinding (cause : Nat) {c : Nat} (hc : fr.c = c) : KeepsBinding c (s, fr) (s.noRef fr cause) := by
  subst hc
  have hcam : (s.noRef fr cause).1.cam fr.c = s.cam fr.c := by simp [State.noRef]
  refine ⟨by simp only [Frame.binding, Frame.fixed, State.noRef], ?_, by rw [hcam], by rw [State.sched, hcam]; rfl⟩
  simp only [State.noRef]
  exact bitOf_setBitN_of 0

theorem State.refAtFs_keepsBinding : KeepsBinding fr.c (s, fr) (s.refAtFs fr) := by
  let t := s.setCam fr.c { s.cam fr.c with first := false, resetDue := false }
  have hframes : (t.cam fr.c).frames = (s.cam fr.c).frames := by simp [t]
  have houtst : (t.sched fr.c).outst = (s.sched fr.c).outst := by simp [t, State.sched]
  simp only [State.refAtFs]
  refine .ite ⟨rfl, id, hframes, houtst⟩ (.ite ?_ (.trans ?_ (State.noRef_keepsBinding _ _ _ rfl)))
  · exact ⟨by simp only [Frame.binding, Frame.fixed], id, by simp, by simp [State.sched]⟩
  · exact ⟨by simp only [Frame.binding, Frame.fixed], id, by simp, by simp [State.sched]⟩

theorem State.bankAtFs_keepsBinding : KeepsBinding fr.c (s, fr) (s.bankAtFs fr) := by
  simp only [State.bankAtFs]
  refine .ite ⟨by simp only [Frame.binding, Frame.fixed], id, rfl, rfl⟩ ?_
  cases s.chooseBank fr.c with
  | some b => exact ⟨by simp only [Frame.binding, Frame.fixed], id, by simp, by simp [State.sched]⟩
  | none =>
    let t := (s.inc (CAM.STAT_SKIP fr.c)).raise (camPage fr.c) 11
    have hcam : (if fr.bound = true then t.flagRecord fr.c fr.shot 8 else t).cam fr.c = s.cam fr.c :=
      (ite_p (State.cam · fr.c) (State.flagRecord_keeps (cam_ignores _ rfl) ..) rfl).trans (by simp [t])
    exact ⟨by simp only [Frame.binding, Frame.fixed], id, by rw [hcam], by simp only [State.sched]; rw [hcam]⟩

theorem State.applyWindows_cam (c : Nat) : ((s.applyWindows c).cam c).frames = (s.cam c).frames ∧
    ((s.applyWindows c).cam c).sched = (s.cam c).sched := by
  unfold State.applyWindows
  split <;> simp

theorem State.windowsAtFs_keepsBinding : KeepsBinding fr.c (s, fr) (s.windowsAtFs fr) := by
  obtain ⟨hframes, hsched⟩ := s.applyWindows_cam fr.c
  have hcam {a b : Nat} {f h : Fld} :
      (((s.applyWindows fr.c).put f a).put h b).cam fr.c = (s.applyWindows fr.c).cam fr.c := by simp
  simp only [State.windowsAtFs]
  exact ⟨by simp only [Frame.binding, Frame.fixed], id, by rw [hcam, hframes], by rw [State.sched, hcam, hsched]; rfl⟩

theorem State.columnsAtFs_keepsBinding : KeepsBinding fr.c (s, fr) (s.columnsAtFs fr) := by
  simp only [State.columnsAtFs]
  split
  · exact ⟨by simp only [Frame.binding, Frame.fixed], id, by simp, by simp [State.sched]⟩
  · exact ⟨by simp only [Frame.binding, Frame.fixed], id, rfl, rfl⟩

/-- Everything a frame fixes at its FS after its binding. -/
def State.stagesAtFs : State × Frame :=
  let a := s.refAtFs fr
  let a := a.1.bankAtFs a.2
  let a := a.1.windowsAtFs a.2
  a.1.columnsAtFs a.2

theorem State.stagesAtFs_keepsBinding : KeepsBinding fr.c (s, fr) (s.stagesAtFs fr) :=
  (((s.refAtFs_keepsBinding fr).then rfl State.bankAtFs_keepsBinding).then rfl State.windowsAtFs_keepsBinding).then rfl
    State.columnsAtFs_keepsBinding

/-- The frame of an FS before it is bound. -/
def State.newFrame (c id : Nat) (m : Marker) : Frame :=
  let bits := (if m.fmtOk then [] else [10]) ++ (if m.hdrOk then [] else [13])
  { c := c, id := id, shot := 0, latch := s.latchRegs c, fstat := bits.foldl setBitN 0, reported := !bits.isEmpty,
    allTagged := m.fmtOk && (m.hdrOk || m.tagged) }

theorem State.newFrame_fstat (c id : Nat) (m : Marker) :
    bitOf (s.newFrame c id m).fstat 10 = !m.fmtOk ∧ bitOf (s.newFrame c id m).fstat 13 = !m.hdrOk := by
  cases hf : m.fmtOk <;> cases hh : m.hdrOk <;> simp [State.newFrame, hf, hh] <;> decide

/-- An FS opens a frame (R237, R238, R247). -/
theorem State.openAtFs_opens (c id : Nat) (m : Marker) : ∃ f : Frame,
    ((s.openAtFs c id m).cam c).frames = (s.cam c).frames ++ [f] ∧ f.fixed = (s.newFrame c id m).fixed ∧
      ((s.sched c).outst = [] → f.bound = false ∧ bitOf f.xstat 4 = true) ∧
      ∀ n sy, (s.sched c).outst = [(n, sy)] → s.groupFenced c = false → f.bound = true ∧ f.shot = n ∧
        ((s.openAtFs c id m).sched c).outst = [] := by
  let fr := s.newFrame c id m
  let a := s.bindAtFs fr m
  let b := a.1.stagesAtFs a.2
  have hopen : s.openAtFs c id m = b.1.setCam c { b.1.cam c with frames := (b.1.cam c).frames ++ [b.2] } := rfl
  obtain ⟨hfixed, hframes⟩ := s.bindAtFs_fixes fr m
  have hport : a.2.c = c := congrArg Prod.fst hfixed
  have hkeeps : KeepsBinding c a b := hport ▸ State.stagesAtFs_keepsBinding a.1 a.2
  have hsched : ((s.openAtFs c id m).sched c).outst = (a.1.sched c).outst := by
    rw [hopen, ← hkeeps.outst, State.sched, State.cam_setCam_same]; rfl
  refine ⟨b.2, ?_, (congrArg Prod.fst hkeeps.binding).trans hfixed, fun h => ?_, fun n sy h hf => ?_⟩
  · rw [hopen, State.cam_setCam_same]
    exact congrArg (· ++ [b.2]) (hkeeps.frames.trans hframes)
  · obtain ⟨hbound, hxstat⟩ := s.bindAtFs_none fr m h
    exact ⟨(congrArg (·.2.1) hkeeps.binding).trans hbound, hkeeps.unbound hxstat⟩
  · obtain ⟨hbound, hshot, houtst⟩ := s.bindAtFs_one fr m h hf
    exact ⟨(congrArg (·.2.1) hkeeps.binding).trans hbound, (congrArg (·.2.2) hkeeps.binding).trans hshot, hsched.trans houtst⟩

end

/-! ### Fields of a port's page, and events of pages of any address -/

theorem camFields (c : Nat) :
    CAM.FMT_HEIGHT c = ⟨0x800108 + 0x4000 * c, 23, 0⟩ ∧ CAM.FC_PAD_LINES c = ⟨0x800198 + 0x4000 * c, 31, 0⟩ ∧
    CAM.FC_LINE_ORDER c = ⟨0x80019C + 0x4000 * c, 31, 0⟩ ∧ CAM.FC_SHORT_FRAME c = ⟨0x8001A0 + 0x4000 * c, 31, 0⟩ ∧
    CAM.FC_LONG_FRAME c = ⟨0x8001A4 + 0x4000 * c, 31, 0⟩ ∧ CAM.FC_ABANDONED c = ⟨0x8001A8 + 0x4000 * c, 31, 0⟩ ∧
    CAM.FC_ORPHAN c = ⟨0x8001B4 + 0x4000 * c, 31, 0⟩ := by
  simp only [CAM.FMT_HEIGHT, CAM.FC_PAD_LINES, CAM.FC_LINE_ORDER, CAM.FC_SHORT_FRAME, CAM.FC_LONG_FRAME, CAM.FC_ABANDONED,
    CAM.FC_ORPHAN, camPage, Fld.mk.injEq, and_true]
  omega

theorem padLinesField (c : Nat) : CAM.FC_PAD_LINES c = ⟨0x800198 + 0x4000 * c, 31, 0⟩ := (camFields c).2.1

theorem lineOrderField (c : Nat) : CAM.FC_LINE_ORDER c = ⟨0x80019C + 0x4000 * c, 31, 0⟩ := (camFields c).2.2.1

theorem shortFrameField (c : Nat) : CAM.FC_SHORT_FRAME c = ⟨0x8001A0 + 0x4000 * c, 31, 0⟩ := (camFields c).2.2.2.1

theorem longFrameField (c : Nat) : CAM.FC_LONG_FRAME c = ⟨0x8001A4 + 0x4000 * c, 31, 0⟩ := (camFields c).2.2.2.2.1

theorem abandonedField (c : Nat) : CAM.FC_ABANDONED c = ⟨0x8001A8 + 0x4000 * c, 31, 0⟩ := (camFields c).2.2.2.2.2.1

theorem orphanField (c : Nat) : CAM.FC_ORPHAN c = ⟨0x8001B4 + 0x4000 * c, 31, 0⟩ := (camFields c).2.2.2.2.2.2

theorem realSeenField (g : Nat) : GATE.INJ_STATUS_REAL_SEEN g = ⟨0x10012C + 0x1000 * g, 2, 2⟩ := (injectionFields g).2.1

/-- The pending bit that an event may set lies in the words of the vectors. -/
theorem State.vector_lt (s : State) (page : Nat) : s.get (HDR.IRQ_VEC page) < 2048 := s.get_lt _

/-- An event changes IRQ_STAT and pending bits alone, whatever its page. -/
theorem State.get_raise_outside (s : State) (page n : Nat) {a hi lo : Nat} (ha : a ≠ page + 0x20)
    (hpba : a < 0xFF8000 ∨ 0xFF8100 ≤ a) : (s.raise page n).get ⟨a, hi, lo⟩ = s.get ⟨a, hi, lo⟩ := by
  have hlt := s.vector_lt page
  have hv : a ≠ (PBA.PENDING (s.get (HDR.IRQ_VEC page))).addr := by simp only [otherFields]; omega
  simp only [State.raise]
  split
  · rw [State.requestVector, State.get_put_addr _ _ _ _ hv, State.get_put_addr _ _ _ _ ha]
  · rw [State.get_put_addr _ _ _ _ ha]

theorem State.bitAt_word (s : State) (a n : Nat) : s.bitAt ⟨a, 31, 0⟩ n = (s.get ⟨a, n, n⟩ == 1) := by
  have hw := (s.word a).isLt
  have hle : (s.word a).toNat < 2 ^ (31 + 1 - 0) := hw
  simp only [State.bitAt, State.get, getBits, bitOf, pow_zero, Nat.div_one, Nat.mod_eq_of_lt hle, Nat.add_sub_cancel_left,
      pow_one]

/-- The vector of an event sets bits only. -/
theorem State.bitAt_requestVector (s : State) (a v : Nat) {n : Nat} (hn : n < 32) (h : s.bitAt ⟨a, 31, 0⟩ n = true) :
    (s.requestVector v).bitAt ⟨a, 31, 0⟩ n = true := by
  rw [State.bitAt_word] at h ⊢
  rw [State.requestVector, (otherFields v).2.1]
  by_cases hsame : a = 0xFF8000 + 4 * (v / 32) ∧ n = v % 32
  · obtain ⟨rfl, rfl⟩ := hsame
    rw [State.get_put_at _ _ ⟨le_rfl, hn⟩, Nat.add_sub_cancel_left]
    rfl
  · rw [State.get_put_off _ _ (by omega), h]

/-- An event sets its bit of IRQ_STAT, whatever its page. -/
theorem State.bitAt_raise (s : State) (page : Nat) {n : Nat} (hn : n < 32) :
    (s.raise page n).bitAt (HDR.IRQ_STAT page) n = true := by
  have hf : (HDR.IRQ_STAT page).ok := by simp [Fld.ok, HDR.IRQ_STAT]
  have hput : (s.put (HDR.IRQ_STAT page) (setBitN (s.get (HDR.IRQ_STAT page)) n)).bitAt (HDR.IRQ_STAT page) n = true := by
    rw [State.bitAt, State.get_put_same _ _ _ hf]
    exact (bitOf_mod hn).trans (bitOf_setBitN_same _ _)
  simp only [State.raise]
  split
  · exact State.bitAt_requestVector _ _ _ hn hput
  · exact hput

/-! ### Frames of a port -/

/-- A list with the elements of one key replaced, searched for what the new element and the first found satisfy. -/
theorem find?_replace {α : Type} {p : α → Bool} {key : α → Nat} {x y : α} (hy : p y = true) :
    ∀ {l : List α}, l.find? p = some x → (l.map fun z => if key z = key x then y else z).find? p = some y
  | z :: l, h => by
    by_cases hz : key z = key x
    · simp [hz, hy]
    · have hp : p z = false := by
        by_contra hp
        rw [List.find?_cons_of_pos (Bool.eq_true_of_not_eq_false hp)] at h
        exact hz (congrArg key (Option.some.inj h))
      rw [List.find?_cons_of_neg (by simp [hp])] at h
      rw [List.map_cons, if_neg hz, List.find?_cons_of_neg (by simp [hp]), find?_replace hy h]

section

variable (s : State) {c : Nat} {fr : Frame}

theorem State.putFrame_cam (hc : fr.c = c) : (s.putFrame fr).cam c = { s.cam c with
    frames := (s.cam c).frames.map fun f => if f.id = fr.id then fr else f } := by
  subst hc
  rw [State.putFrame, State.cam_setCam_same]

theorem State.openFrame_mem (h : s.openFrame c = some fr) : fr ∈ (s.cam c).frames := List.mem_of_find?_eq_some h

theorem State.openFrame_open (h : s.openFrame c = some fr) : fr.closed = false := by simpa using List.find?_some h

/-- The open frame put anew stays the open frame. -/
theorem State.openFrame_putFrame {f : Frame} (h : s.openFrame c = some fr) (hc : f.c = c) (hid : f.id = fr.id)
    (hopen : f.closed = false) : (s.putFrame f).openFrame c = some f := by
  rw [State.openFrame, s.putFrame_cam hc, hid]
  exact find?_replace (key := Frame.id) (by simp [hopen]) h

theorem State.mem_putFrame (h : s.openFrame c = some fr) {f : Frame} (hc : f.c = c) (hid : f.id = fr.id) :
    f ∈ ((s.putFrame f).cam c).frames := by
  rw [s.putFrame_cam hc]
  exact List.mem_map.mpr ⟨fr, s.openFrame_mem h, if_pos hid.symm⟩

theorem State.putFrame_only (hc : fr.c = c) {f : Frame} (h : f ∈ ((s.putFrame fr).cam c).frames) (hid : f.id = fr.id) :
    f = fr := by
  rw [s.putFrame_cam hc] at h
  obtain ⟨g, -, rfl⟩ := List.mem_map.mp h
  by_cases hg : g.id = fr.id
  · exact if_pos hg
  · rw [if_neg hg] at hid
    exact absurd hid hg

/-! ### Closure (R100, R101) -/

theorem State.sealCheck_cam (b : Nat) : ((s.sealCheck c b).cam c).frames = (s.cam c).frames ∧
    ((s.sealCheck c b).cam c).camStatus = (s.cam c).camStatus := by
  have hset (v : RefBuf) : ((s.setRefBuf c b v).cam c).frames = (s.cam c).frames ∧
      ((s.setRefBuf c b v).cam c).camStatus = (s.cam c).camStatus := by
    rw [State.setRefBuf, State.cam_setCam_same]
    by_cases hb : b = 0 <;> simp [hb]
  exact ⟨ite_p (fun t => (t.cam c).frames) (hset _).1 rfl, ite_p (fun t => (t.cam c).camStatus) (hset _).2 rfl⟩

theorem State.sealBoth_cam : ((s.sealBoth c).cam c).frames = (s.cam c).frames ∧
    ((s.sealBoth c).cam c).camStatus = (s.cam c).camStatus := by
  obtain ⟨hframes0, hstatus0⟩ := s.sealCheck_cam (c := c) 0
  obtain ⟨hframes1, hstatus1⟩ := (s.sealCheck c 0).sealCheck_cam (c := c) 1
  exact ⟨hframes1.trans hframes0, hstatus1.trans hstatus0⟩

/-- The open frame closes: it alone of its number stands in the port, closed. -/
theorem State.closeFrame_closes (bits : List Nat) (cut : Bool) (h : s.openFrame c = some fr) (hc : fr.c = c) :
    ((s.closeFrame c bits cut).cam c).camStatus = (s.cam c).camStatus ∧
      ∀ f ∈ ((s.closeFrame c bits cut).cam c).frames, f.id = fr.id → f.closed = true ∧ f.cut = cut := by
  let v := fr.closingStat bits
  let g : Frame := { fr with fstat := v, closed := true, cut := cut }
  let t := s.putFrame g
  let u := if fr.bound then
      t.onRecord c fr.shot (fun r => { r with fstat := v, flags := setBitN r.flags 1, frameOpen := false }) else t
  let w := if bitOf v 3 || bitOf v 5 || bitOf v 6 then u.raise (gatePage (c / 2)) 11 else u
  have hclose : s.closeFrame c bits cut = w.sealBoth c := by simp only [State.closeFrame, h]; rfl
  have hu : u.cam c = t.cam c := ite_p (State.cam · c) (State.onRecord_keeps (cam_ignores c rfl) ..) rfl
  have hw : w.cam c = t.cam c := (ite_p (State.cam · c) (u.raise_cam ..) rfl).trans hu
  obtain ⟨hframes, hstatus⟩ := w.sealBoth_cam (c := c)
  rw [hclose, hframes, hstatus, hw]
  refine ⟨by rw [s.putFrame_cam (fr := g) hc], fun f hf hid => ?_⟩
  obtain rfl := s.putFrame_only (fr := g) hc hf hid
  exact ⟨rfl, rfl⟩

/-! ### The checks of an FE (R98, R100) -/

theorem Frame.report_keeps (fr : Frame) (bad clean : Bool) : (fr.report bad clean).c = fr.c ∧ (fr.report bad clean).id = fr.id ∧
    (fr.report bad clean).closed = fr.closed := by
  cases bad <;> exact ⟨rfl, rfl, rfl⟩

theorem Frame.feChecks_keeps (fr : Frame) (m : Marker) : (fr.feChecks m).c = fr.c ∧ (fr.feChecks m).id = fr.id ∧
    (fr.feChecks m).closed = fr.closed := by
  simp only [Frame.feChecks]
  split <;> simp only [Frame.report_keeps, and_self]

theorem Frame.feChecks_status (fr : Frame) {m : Marker} (h : m.hdrOk = true) : (fr.feChecks m).camStatus = m.status := by
  simp only [Frame.feChecks, h, Bool.not_true, Bool.false_eq_true, if_false]

end

/-! ### Frame check (R100, R101, R127) -/

theorem State.get_noteReal_off (s : State) (g : Nat) (altered : Bool) (ks : List Check) {a hi lo : Nat}
    (h : a ≠ 0x10012C + 0x1000 * g) : (s.noteReal g altered ks).get ⟨a, hi, lo⟩ = s.get ⟨a, hi, lo⟩ := by
  refine ite_p (State.get · _) ?_ rfl
  rw [realSeenField, State.get_put_off _ _ (.inl h)]

theorem State.get_noteFe_off (s : State) (c : Nat) (m : Marker) {a hi lo : Nat} (h : a ≠ 0x10012C + 0x1000 * (c / 2)) :
    (s.noteFe c m).get ⟨a, hi, lo⟩ = s.get ⟨a, hi, lo⟩ := by
  refine ite_p (State.get · _) rfl ?_
  rw [State.get_noteReal_off _ _ _ _ h, State.get_noteReal_off _ _ _ _ h]

theorem State.get_noteGapReal_off (s : State) (c : Nat) (p : Bool × Bool) {a hi lo : Nat} (h : a ≠ 0x10012C + 0x1000 * (c / 2)) :
    (s.noteGapReal c p).get ⟨a, hi, lo⟩ = s.get ⟨a, hi, lo⟩ := by
  refine ite_p (State.get · _) ?_ rfl
  rw [realSeenField, State.get_put_off _ _ (.inl h)]

theorem State.portH_noteFe (s : State) (c : Nat) (m : Marker) : (s.noteFe c m).portH c = s.portH c := by
  simp only [State.portH, camFields]
  exact s.get_noteFe_off c m (by omega)

section

variable (s : State) {c : Nat} {fr : Frame}

/-- A frame closed by its FE after its last line (R100, R101). -/
theorem State.closeByFe_complete {f : Frame} (h : s.openFrame c = some fr) (hc : f.c = c) (hid : f.id = fr.id)
    (hopen : f.closed = false) (hmine : (s.link c).frameNo = f.id) (hall : s.portH c ≤ (s.link c).e) :
    ((s.closeByFe c f).link c).open_ = false ∧ ((s.closeByFe c f).cam c).camStatus = f.camStatus ∧
      ∀ x ∈ ((s.closeByFe c f).cam c).frames, x.id = f.id → x.closed = true ∧ x.cut = false := by
  let t := s.setCam c { s.cam c with camStatus := f.camStatus }
  let g : Frame := { f with ended := true }
  have hclose : s.closeByFe c f = ((t.putFrame g).closeFrame c [] false).intakeClosed c := by
    have hnot : ((s.link c).frameNo == f.id && decide ((s.link c).e < t.portH c)) = false := by
      simp only [Bool.and_eq_false_iff, decide_eq_false_iff_not, not_lt]
      exact .inr hall
    rw [State.closeByFe, if_neg (by rw [hnot]; exact Bool.false_ne_true), if_pos (by rw [hmine]; exact beq_self_eq_true _)]
  have ht : t.openFrame c = some fr := by rw [← h, State.openFrame, State.cam_setCam_same]; rfl
  obtain ⟨hstatus, hframes⟩ := (t.putFrame g).closeFrame_closes [] false (t.openFrame_putFrame ht (f := g) hc hid hopen) hc
  rw [hclose, State.intakeClosed, link_setLink_same, State.setLink_cam]
  refine ⟨rfl, ?_, hframes⟩
  rw [hstatus, t.putFrame_cam (fr := g) hc]
  exact congrArg CamSt.camStatus (s.cam_setCam_same ..)

/-- A frame whose FE came early: its missing lines become due as pad lines (R100, R127). -/
theorem State.closeByFe_short {f : Frame} (hc : f.c = c) (hmine : (s.link c).frameNo = f.id) (hshort : (s.link c).e < s.portH c) :
    ((s.closeByFe c f).link c).closing = true ∧ ((s.closeByFe c f).link c).pads = s.portH c - (s.link c).e ∧
      (s.closeByFe c f).get (CAM.FC_SHORT_FRAME c) = (s.get (CAM.FC_SHORT_FRAME c) + 1) % 2 ^ 32 ∧
      ∀ x ∈ ((s.closeByFe c f).cam c).frames, x.id = f.id → x.ended = true ∧ bitOf x.fstat 3 = true := by
  let t := s.setCam c { s.cam c with camStatus := f.camStatus }
  let gap := (s.link c).gapTagged (s.portH c)
  let g : Frame := { f.report true (!gap.1) with fstat := setBitN f.fstat 3, ended := true }
  let u := (t.noteGapReal c gap).putFrame g
  let v := u.setLink c { s.link c with pads := s.portH c - (s.link c).e, closing := true }
  have hclose : s.closeByFe c f = v.inc (CAM.FC_SHORT_FRAME c) := by
    have hyes : ((s.link c).frameNo == f.id && decide ((s.link c).e < t.portH c)) = true := by
      rw [hmine, beq_self_eq_true]
      exact decide_eq_true hshort
    rw [State.closeByFe, if_pos hyes]
    rfl
  have hget : v.get (CAM.FC_SHORT_FRAME c) = s.get (CAM.FC_SHORT_FRAME c) := by
    simp only [v, u, State.setLink_get, camFields]
    exact (State.get_of_regs rfl _).trans (t.get_noteGapReal_off c gap (by omega))
  rw [hclose, State.inc_link, State.inc_cam, State.setLink_cam, link_setLink_same]
  refine ⟨rfl, rfl, ?_, fun x hx hid => ?_⟩
  · rw [State.inc, State.add, hget, shortFrameField c, State.get_put_at _ _ (by omega)]
  · obtain rfl := State.putFrame_only _ (fr := g) hc hx hid
    exact ⟨rfl, bitOf_setBitN_same _ _⟩

theorem State.enterLine_enters (h : s.openFrame c = some fr) (hc : fr.c = c) (hended : fr.ended = false) (x : Landed)
    (cnt : Nat) :
    ∃ f ∈ ((s.enterLine c fr x cnt).cam c).frames, f.id = fr.id ∧ f.closed = false ∧ f.entered = fr.entered ++
      [⟨if x.replace then (match fr.entered.getLast? with | some l => l.pix | none => s.padPixels c) else x.pixels,
        x.flags, cnt⟩] := by
  simp only [State.enterLine, hended, Bool.false_and, Bool.false_eq_true, if_false]
  exact ⟨_, s.mem_putFrame h hc rfl, rfl, (s.openFrame_open h : fr.closed = false), rfl⟩

/-- An FE without a frame (R127). -/
theorem State.orphanFe_counts (m : Marker) (l : LinkSt) {t : State}
    (ht : t = (((s.setLink c l).slag c m.bodyLen).inc (CAM.FC_ORPHAN c)).raise (gatePage (c / 2)) 10) :
    t.get (CAM.FC_ORPHAN c) = (s.get (CAM.FC_ORPHAN c) + 1) % 2 ^ 32 ∧
      t.get (CAM.FC_SLAG_BYTES c) = (s.get (CAM.FC_SLAG_BYTES c) + m.bodyLen) % 2 ^ 32 ∧
      t.bitAt (HDR.IRQ_STAT (gatePage (c / 2))) 10 = true := by
  subst ht
  refine ⟨?_, ?_, State.bitAt_raise _ _ (by decide)⟩
  · rw [orphanField c, State.get_raise_outside _ _ _ (by simp only [pageAddrs]; omega) (by omega), State.inc, State.add,
      State.get_put_at _ _ (by omega), State.slag, State.add, (otherFields c).1, State.get_put_off _ _ (by omega)]
    rfl
  · rw [(otherFields c).1, State.get_raise_outside _ _ _ (by simp only [pageAddrs]; omega) (by omega), State.inc, State.add,
      orphanField c, State.get_put_off _ _ (by omega), State.slag, State.add, (otherFields c).1,
      State.get_put_at _ _ (by omega)]
    rfl

end

/-- Settles O32, frame check: FS by the binding and the stages that keep it, lines and FE by the frame put in its place. -/
theorem frameCheckCommandsComplete : Obligations.FrameCheckCommandsComplete := by
  intro s k c rest hserves
  have hnext (f : State → State) :
      (Host.Outcome.next (s.when (s.sliceServes k) f) : Host.Outcome State Fault Refusal) = .next (f s) :=
    congrArg _ (s.when_true f hserves)
  have hlink : ((s.popFc k).link c) = s.link c := rfl
  refine ⟨fun id m hfc hen hfenced => ?_, fun n cnt x fr hfc hopen hc hended => ?_, fun m fr hfc hopen hc hmine => ?_,
    fun m hfc hopen => ?_⟩
  · let t := s.popFc k
    have hcheck : s.fsCheck k = t.openAtFs c id m := by
      have hon : (!t.portEnabled c || t.portFenced c) = false := by
        rw [show t.portEnabled c = true from hen, show t.portFenced c = false from hfenced]; rfl
      simp only [State.fsCheck, hfc]
      exact if_neg (by rw [hon]; exact Bool.false_ne_true)
    obtain ⟨f, hframes, hfixed, hnone, hone⟩ := t.openAtFs_opens c id m
    obtain ⟨hfmt, hhdr⟩ := t.newFrame_fstat c id m
    simp only [Frame.fixed, Prod.mk.injEq] at hfixed
    obtain ⟨hc, hid, hclosed, hlatch, hfstat⟩ := hfixed
    refine ⟨_, f, (hnext (·.fsCheck k)).trans (congrArg _ hcheck), ?_, hframes, hc, hid, hclosed, hlatch, hfstat ▸ hfmt,
      hfstat ▸ hhdr, hnone, hone⟩
    rw [State.openAtFs_keeps (slice_ignores k rfl), s.popFc_fc hfc]
  · have hcheck : s.lineCheck k = (s.popFc k).enterLine c fr x cnt := by
      have : (s.popFc k).openFrame c = some fr := hopen
      simp only [State.lineCheck, hfc, this]
    refine ⟨_, (hnext (·.lineCheck k)).trans (congrArg _ hcheck), ?_, (s.popFc k).enterLine_enters hopen hc hended x cnt⟩
    rw [State.enterLine_keeps (slice_ignores k rfl), s.popFc_fc hfc]
  · let t := (s.popFc k).noteFe c m
    obtain ⟨hfc', hid, hclosed⟩ := fr.feChecks_keeps m
    have hcheck : s.feCheck k = t.closeByFe c (fr.feChecks m) := by
      have : (s.popFc k).openFrame c = some fr := hopen
      simp only [State.feCheck, hfc, this]
      rfl
    have hslice : ((t.closeByFe c (fr.feChecks m)).slice k).fc = rest := by
      rw [State.closeByFe_keeps (slice_ignores k rfl), State.noteFe_keeps (slice_ignores k rfl), s.popFc_fc hfc]
    have hlink : t.link c = s.link c := State.noteFe_keeps (link_ignores c rfl) ..
    have hH : t.portH c = s.portH c := (s.popFc k).portH_noteFe c m
    have hmine' : (t.link c).frameNo = (fr.feChecks m).id := by rw [hlink, hid, hmine]
    have hport : (fr.feChecks m).c = c := hfc'.trans hc
    refine ⟨fun hall => ?_, fun hshort => ?_⟩
    · have ht : t.openFrame c = some fr := by
        rw [State.openFrame, State.noteFe_keeps (cam_ignores c rfl)]; exact hopen
      obtain ⟨hintake, hstatus, hframes⟩ := t.closeByFe_complete ht hport hid (hclosed.trans (s.openFrame_open hopen)) hmine'
        (by rw [hlink, hH]; exact hall)
      exact ⟨_, (hnext (·.feCheck k)).trans (congrArg _ hcheck), hslice, hintake,
        fun hok => hstatus.trans (fr.feChecks_status hok), hid ▸ hframes⟩
    · obtain ⟨hclosing, hpads, hcount, hframes⟩ := t.closeByFe_short hport hmine' (by rw [hlink, hH]; exact hshort)
      refine ⟨_, (hnext (·.feCheck k)).trans (congrArg _ hcheck), hslice, hclosing, by rw [hpads, hlink, hH], hcount.trans ?_,
        hid ▸ hframes⟩
      rw [shortFrameField c, State.get_noteFe_off _ _ _ (by omega)]
      rfl
  · have hcheck : s.feCheck k = ((((s.popFc k).setLink c { s.link c with closing := false }).slag c m.bodyLen).inc
        (CAM.FC_ORPHAN c)).raise (gatePage (c / 2)) 10 := by
      have : (s.popFc k).openFrame c = none := hopen
      simp only [State.feCheck, hfc, this]
      rfl
    refine ⟨_, (hnext (·.feCheck k)).trans (congrArg _ hcheck), ?_, State.orphanFe_counts (s.popFc k) m _ rfl⟩
    rw [State.raise_slice, State.inc_slice, State.slag_keeps (slice_ignores k rfl), State.setLink_slice, s.popFc_fc hfc]

end Sys2Proof.Machine
end

section
/-!
PROOFS. A packet on its way to the riser: the port that hears it and takes it as it was sent, and FS and FE packets landing
(R79, R83, R96, R97, R100, R107, R121, R403; O25).
-/

namespace Sys2Proof.Machine

theorem now_ignores {l : List Part} (h : l.contains .time = false) : Ignores State.now l :=
  fun _ _ k => congrArg TimeSt.ns (k .time (by simpa using h))

/-! ### A port that has heard a packet (R46, R403) -/

section

variable (s : State) (c : Nat)

/-- The state in which a packet is taken in: its K27.7 has waked the gate, and its symbols may have adapted the lanes. -/
def State.heardAt : State := (s.gateWake (c / 2)).packetSymbols c

theorem State.get_packetSymbols_off {a hi lo : Nat} (h : a < 0x100224 + 0x1000 * (c / 2) ∨ 0x100290 + 0x1000 * (c / 2) ≤ a) :
    (s.packetSymbols c).get ⟨a, hi, lo⟩ = s.get ⟨a, hi, lo⟩ := by
  refine State.each_eq (p := fun t => t.get ⟨a, hi, lo⟩) s fun t n hn => ?_
  obtain ⟨h1, h4⟩ := State.lanesOf_bounds hn
  rw [State.onLane_get, State.get_adaptAll_off]
  omega

/-- What a packet changes before it is read: the power state of its gate and the receivers of its lanes. -/
theorem State.get_heardAt_off {a hi lo : Nat}
    (h : a < 0x100224 + 0x1000 * (c / 2) ∧ a ≠ 0x100064 + 0x1000 * (c / 2) ∨ 0x100290 + 0x1000 * (c / 2) ≤ a) :
    (s.heardAt c).get ⟨a, hi, lo⟩ = s.get ⟨a, hi, lo⟩ := by
  rw [State.heardAt, State.get_packetSymbols_off _ _ (by omega), State.get_gateWake_off _ _ (by omega)]

theorem State.heardAt_keeps {β : Type} {p : State → β} (h : Ignores p [.regs, .gates, .fresh]) : p (s.heardAt c) = p s := by
  rw [State.heardAt, State.packetSymbols_keeps h, State.gateWake_keeps (h.mono (by decide))]

@[simp] theorem State.heardAt_link (x : Nat) : (s.heardAt c).link x = s.link x := s.heardAt_keeps c (link_ignores x rfl)

/-- Without ADAPT_ALL the symbols of a packet change no register. -/
theorem State.packetSymbols_regs (hadapt : s.on (LNK.ADAPT_ALL c) = false) : (s.packetSymbols c).regs = s.regs := by
  have hstep : ∀ (l : List Nat) (t : State), t.regs = s.regs →
      (t.each l fun t n => (t.adaptAll c n).onLane (c / 2) n fun x => { x with rd := none }).regs = s.regs := by
    intro l
    induction l with
    | nil => exact fun _ ht => ht
    | cons n l ih =>
      refine fun t ht => ih _ ?_
      have hoff : t.on (LNK.ADAPT_ALL c) = false := by rw [← hadapt, State.on, State.on, State.get_of_regs ht]
      exact (congrArg State.regs (t.adaptAll_off c n hoff) : _).trans ht
  exact hstep _ s rfl

/-- Where the gate is ACTIVE and ADAPT_ALL is 0, a packet changes no register before it is read. -/
theorem State.heardAt_regs (hactive : s.gateActive (c / 2) = true) (hadapt : s.on (LNK.ADAPT_ALL c) = false) :
    (s.heardAt c).regs = s.regs := by
  have hwake : s.gateWake (c / 2) = s := by rw [State.gateWake, if_pos (by rw [hactive]; rfl)]
  rw [State.heardAt, hwake, s.packetSymbols_regs c hadapt]

theorem State.word_of_regs {s t : State} (h : t.regs = s.regs) (a : Nat) : t.word a = s.word a := by
  simp only [State.word, h]

/-- Adding nothing to a register leaves every word. -/
theorem State.word_add_zero (a b : Nat) : (s.add ⟨a, 31, 0⟩ 0).word b = s.word b := by
  have hsame : s.add ⟨a, 31, 0⟩ 0 = s.setWord a (s.word a) := by
    rw [State.add, Nat.add_zero, State.get, getBits_word, State.put_word]
  rw [hsame]
  by_cases h : b = a
  · subst h; exact State.word_setWord_same ..
  · exact State.word_setWord_ne _ _ _ _ h

theorem State.lanesOf_heardAt : (s.heardAt c).lanesOf c = s.lanesOf c :=
  State.lanesOf_of_get fun _ _ _ ha => s.get_heardAt_off c (by omega)

/-- Waking and the symbols of a packet leave the injection of the gate and the displacement of its lanes. -/
theorem State.heardAt_gate : ((s.heardAt c).gate (c / 2)).inj = (s.gate (c / 2)).inj ∧
    ((s.heardAt c).gate (c / 2)).held = (s.gate (c / 2)).held ∧
    ∀ n, ((s.heardAt c).lane (c / 2) n).dropNow = (s.lane (c / 2) n).dropNow := by
  have hwake : ((s.gateWake (c / 2)).gate (c / 2)).inj = (s.gate (c / 2)).inj ∧
      ((s.gateWake (c / 2)).gate (c / 2)).held = (s.gate (c / 2)).held := by
    simp only [State.gateWake]
    split_ifs <;> simp
  refine ⟨Eq.trans ?_ hwake.1, Eq.trans ?_ hwake.2, fun n => Eq.trans ?_ (congrArg LaneSt.dropNow (s.gateWake_lane _ n))⟩
  · exact State.each_p (fun t => (t.gate (c / 2)).inj) fun t n => by simp [State.onLane]
  · exact State.each_p (fun t => (t.gate (c / 2)).held) fun t n => by simp [State.onLane]
  · refine State.each_p (fun t => (t.lane (c / 2) n).dropNow) fun t m => ?_
    have hlane : (t.adaptAll c m).lane (c / 2) n = t.lane (c / 2) n := State.lane_of_gate_eq n (t.adaptAll_gate c m _)
    rw [← hlane]
    exact State.lane_onLane_keeps (t.adaptAll c m) (c / 2) m n (f := fun x => { x with rd := none }) (q := LaneSt.dropNow)
      fun _ => rfl

/-! ### A port where nothing alters what comes (R44, R103, R105, R107, R116) -/

/-- What a plain port is. -/
structure State.Plain : Prop where
  receiving : s.receiving c = true
  ready : s.linkState c = linkReady
  enabled : s.portEnabled c = true
  unfenced : s.portFenced c = false
  unmasked : (s.link c).mask = .none
  heeded : (s.link c).voidNext = false
  idle : (s.gate (c / 2)).inj = .idle
  unheld : (s.gate (c / 2)).held = none
  placed : ∀ n ∈ s.lanesOf c, (s.lane (c / 2) n).dropNow = 0

theorem State.plain_of_plainPort {s : State} {c : Nat} (h : s.plainPort c = true) : s.Plain c := by
  simp only [State.plainPort, Bool.and_eq_true, beq_iff_eq, Bool.not_eq_true', List.all_eq_true] at h
  obtain ⟨⟨⟨⟨⟨⟨⟨⟨hreceiving, hready⟩, henabled⟩, hfenced⟩, hmask⟩, hvoid⟩, hidle⟩, hheld⟩, hlanes⟩ := h
  exact ⟨hreceiving, hready, henabled, hfenced, hmask, hvoid, hidle, hheld, hlanes⟩

variable {s c}

theorem State.Plain.unquenched (h : s.Plain c) : s.quenched = false := by
  have hr := h.receiving
  simp only [State.receiving, State.portLive, State.running, Bool.and_eq_true, Bool.not_eq_true'] at hr
  obtain ⟨⟨⟨⟨⟨⟨⟨-, hquench⟩, -⟩, -⟩, -⟩, -⟩, -⟩, -⟩ := hr
  exact hquench

/-- A plain port stays plain while it hears a packet, but for receiving. -/
theorem State.heardAt_linkState : (s.heardAt c).linkState c = s.linkState c ∧
    (s.heardAt c).portEnabled c = s.portEnabled c ∧ (s.heardAt c).portFenced c = s.portFenced c := by
  refine ⟨?_, ?_, ?_⟩
  · simp only [State.linkState, linkFields]
    exact s.get_heardAt_off c (by omega)
  · simp only [State.portEnabled, State.on, headerFields, camPage]
    rw [s.get_heardAt_off c (by omega)]
  · exact State.portFenced_of_get fun _ _ _ ha => s.get_heardAt_off c (by omega)

/-- An idle injection leaves a packet as it is (R107). -/
theorem State.injected_plain (hidle : (s.gate (c / 2)).inj = .idle) (hheld : (s.gate (c / 2)).held = none)
    (hlanes : ∀ n ∈ s.lanesOf c, (s.lane (c / 2) n).dropNow = 0) (body : List Byte) :
    s.injected c body = s.arrive c body body := by
  have hacts : s.injActs (c / 2) = s := by rw [State.injActs, if_pos (by rw [hidle]; decide)]
  have hdisplace : s.displace c body = (body, s) := by
    rw [State.displace]
    exact if_pos (List.all_eq_true.mpr fun n hn => beq_iff_eq.mpr (hlanes n hn))
  have hidle' : (s.gate (c / 2)).inj ≠ .acting := by rw [hidle]; decide
  simp only [State.injected, hacts, ite_self, hidle', decide_false, Bool.false_and, Bool.false_eq_true, if_false, hheld,
      hdisplace]

/-- A plain port receives a packet as it was sent. -/
theorem State.receive_plain (h : s.Plain c) (body : List Byte) :
    (s.gateWake (c / 2)).receive c body = (s.heardAt c).arrive c body body := by
  obtain ⟨hready, -, hfenced⟩ := s.heardAt_linkState (c := c)
  obtain ⟨hinj, hheld, hlanes⟩ := s.heardAt_gate c
  have hinjected := State.injected_plain (s := s.heardAt c) (c := c) (hinj.trans h.idle) (hheld.trans h.unheld)
    (fun n hn => (hlanes n).trans (h.placed n (s.lanesOf_heardAt c ▸ hn))) body
  have hlink := s.heardAt_link c c
  rw [← hinjected]
  simp only [State.heardAt] at hready hfenced hlink ⊢
  simp only [State.receive, hlink, hready, hfenced, h.heeded, h.unmasked, h.ready, h.unfenced, Bool.false_eq_true, if_false,
    Bool.or_self, bne_self_eq_false]

/-- A packet of its type on a plain port is received (R403). -/
theorem State.packetOf_received {g p : Nat} (h : s.Plain (2 * g + p)) {type : Nat → Bool} {body : List Byte}
    (ht : type (byteAt body 0) = true) : s.packetOf g p type body = (s.gateWake g).receive (2 * g + p) body := by
  rw [State.packetOf, State.heard, if_neg (by rw [h.unquenched]; exact Bool.false_ne_true)]
  exact s.when_true _ (by rw [h.receiving, ht]; rfl)

/-- A packet of its type on a plain port arrives as it was sent. -/
theorem State.packetOf_plain {g p : Nat} (h : s.Plain c) (hc : c = 2 * g + p) (hp : p < 2) {type : Nat → Bool} {body : List Byte}
    (ht : type (byteAt body 0) = true) : s.packetOf g p type body = (s.heardAt c).arrive c body body := by
  subst hc
  have hg : (2 * g + p) / 2 = g := by omega
  rw [State.packetOf_received h ht, ← State.receive_plain h, hg]

end

/-! ### Packets whose checks pass (R79, R83, R96, R97, R121) -/

theorem extraBytes_self (n k : Nat) : extraBytes n k k = 0 := by
  rw [extraBytes, Nat.sub_self]
  exact ite_self 0

theorem hdrChecks_of {body : List Byte} {k : Nat} (hlen : k + 2 ≤ body.length) (hcrc : crc16 (body.take k) = leAt body k 2) :
    hdrChecks body k = true := by
  rw [hdrChecks, decide_eq_true hlen, hcrc, beq_self_eq_true, Bool.and_self]

theorem parsePacket_fs (n : Nat) {body : List Byte} (ht : byteAt body 0 = 1) (hlen : body.length = 14)
    (hcrc : crc16 (body.take 12) = leAt body 12 2) : parsePacket n body = { kind := .fs, hdrOk := true } := by
  simp only [parsePacket, ht, if_true, hdrChecks_of (k := 12) (by omega) hcrc, hlen, extraBytes_self]

theorem parsePacket_fe (n : Nat) {body : List Byte} (ht : byteAt body 0 = 3) (hlen : body.length = 12)
    (hcrc : crc16 (body.take 10) = leAt body 10 2) : parsePacket n body = { kind := .fe, hdrOk := true } := by
  have h31 : ¬ (3 : Nat) = 1 := by decide
  simp only [parsePacket, ht, h31, if_false, if_true, hdrChecks_of (k := 10) (by omega) hcrc, hlen, extraBytes_self]

section

variable (s : State) (c : Nat)

theorem State.noteReal_unaltered (g : Nat) (ks : List Check) : s.noteReal g false ks = s := if_neg Bool.false_ne_true

/-- An FS or FE packet whose header checks arrives at an enabled port. -/
theorem State.arrive_marker {body : List Byte} {k : PktKind} (hk : k = .fs ∨ k = .fe) (henabled : s.portEnabled c = true)
    (hparse : parsePacket (s.lanesOf c).length body = { kind := k, hdrOk := true }) : s.arrive c body body =
      (s.slag c 0).landMarker c { kind := k, hdrOk := true } { kind := k, hdrOk := true } body body.length false := by
  obtain ⟨hvoid, hline⟩ : k ≠ .void ∧ k ≠ .line := by rcases hk with rfl | rfl <;> decide
  simp only [State.arrive, hparse, State.countChecks, hvoid, hline, henabled, if_false, Bool.not_true, Bool.false_eq_true,
    decide_false, Bool.or_self, Nat.sub_zero, ne_eq, not_true_eq_false]

theorem State.landMarker_fs {body : List Byte} {n : Nat} (hroom : (s.link c).markers < 16) : ∃ m : Marker,
    let t := s.landMarker c { kind := .fs, hdrOk := true } { kind := .fs, hdrOk := true } body n false
    (t.link c).riser = (s.link c).riser ++ [.marker m] ∧ m.isFs = true ∧ m.hdrOk = true ∧ m.echo = leAt body 2 2 ∧
      m.fmtOk = s.fsMatches c body ∧ m.landed = s.now ∧ (t.link c).fsSince = true ∧ (t.link c).valid = 0 ∧ t.regs = s.regs := by
  simp only [State.landMarker, State.noteReal_unaltered, if_neg (Nat.not_le.mpr hroom), if_true, State.land, link_setLink_same]
  exact ⟨_, rfl, rfl, rfl, rfl, rfl, rfl, trivial, trivial, rfl⟩

theorem State.landMarker_fe {body : List Byte} {n : Nat} (hroom : (s.link c).markers < 16) : ∃ m : Marker,
    let t := s.landMarker c { kind := .fe, hdrOk := true } { kind := .fe, hdrOk := true } body n false
    (t.link c).riser = (s.link c).riser ++ [.marker m] ∧ m.isFs = false ∧ m.hdrOk = true ∧
      m.fcrcPresent = bitOf (byteAt body 1) 0 ∧ m.lineCount = leAt body 2 3 ∧ m.status = byteAt body 5 ∧
      m.frameCrc = leAt body 6 4 ∧ m.valid = (s.link c).valid ∧ m.crc = crc32 (((s.link c).pays.map Prod.snd).flatten) ∧
      t.regs = s.regs := by
  have hne : ¬ PktKind.fe = PktKind.fs := by decide
  simp only [State.landMarker, State.noteReal_unaltered, if_neg (Nat.not_le.mpr hroom), hne, if_false, State.land,
    link_setLink_same]
  exact ⟨_, rfl, rfl, rfl, rfl, rfl, rfl, rfl, rfl, rfl, rfl⟩

theorem State.landMarker_full {p q : Parsed} {body : List Byte} {n : Nat} (hfull : 16 ≤ (s.link c).markers) :
    s.landMarker c p q body n false = (s.slag c n).riserOvf c := by
  simp only [State.landMarker, State.noteReal_unaltered, if_pos hfull]

/-! ### Overflows (R120, R121) -/

/-- Fields of a gate's page that the packets of port c count. -/
theorem packetFields (c : Nat) :
    LNK.HDR_CRC_ERR c = ⟨0x100140 + 0x1000 * (c / 2), 16 * (c % 2) + 15, 16 * (c % 2)⟩ ∧
    LNK.PAY_CRC_ERR c = ⟨0x100144 + 0x1000 * (c / 2), 16 * (c % 2) + 15, 16 * (c % 2)⟩ ∧
    LNK.RISER_OVF c = ⟨0x100168 + 0x1000 * (c / 2), 16 * (c % 2) + 15, 16 * (c % 2)⟩ ∧
    LNK.RISER_HWM c = ⟨0x10016C + 0x1000 * (c / 2), 16 * (c % 2) + 8, 16 * (c % 2)⟩ := by
  rcases Nat.mod_two_eq_zero_or_one c with h | h <;>
  simp only [LNK.HDR_CRC_ERR, LNK.PAY_CRC_ERR, LNK.RISER_OVF, LNK.RISER_HWM, portFld, h] <;>
  simp [GATE.HDR_CRC_ERR_A, GATE.HDR_CRC_ERR_B, GATE.PAY_CRC_ERR_A, GATE.PAY_CRC_ERR_B, GATE.RISER_OVF_OVF_A,
    GATE.RISER_OVF_OVF_B, GATE.RISER_HWM_HWM_A, GATE.RISER_HWM_HWM_B, gatePage] <;> omega

theorem payCrcErrField (c : Nat) : LNK.PAY_CRC_ERR c = ⟨0x100144 + 0x1000 * (c / 2), 16 * (c % 2) + 15, 16 * (c % 2)⟩ :=
  (packetFields c).2.1

theorem riserOvfField (c : Nat) : LNK.RISER_OVF c = ⟨0x100168 + 0x1000 * (c / 2), 16 * (c % 2) + 15, 16 * (c % 2)⟩ :=
  (packetFields c).2.2.1

theorem riserHwmField (c : Nat) : LNK.RISER_HWM c = ⟨0x10016C + 0x1000 * (c / 2), 16 * (c % 2) + 8, 16 * (c % 2)⟩ :=
  (packetFields c).2.2.2

/-- A counter of 16 bits that an event goes with. -/
theorem State.get_countRaise {a lo : Nat} (page n : Nat) (hlo : lo + 15 < 32) (ha : a ≠ page + 0x20) (hpba : a < 0xFF8000) :
    ((s.inc ⟨a, lo + 15, lo⟩).raise page n).get ⟨a, lo + 15, lo⟩ = (s.get ⟨a, lo + 15, lo⟩ + 1) % 2 ^ 16 := by
  rw [State.get_raise_off _ _ _ ha hpba, State.inc, State.add, State.get_put_at _ _ ⟨by omega, hlo⟩]
  congr 2
  omega

theorem State.riserOvf_counts (hc : c < 256) :
    (s.riserOvf c).get (LNK.RISER_OVF c) = (s.get (LNK.RISER_OVF c) + 1) % 2 ^ 16 ∧
      (s.riserOvf c).bitAt (HDR.IRQ_STAT (gatePage (c / 2))) 16 = true := by
  refine ⟨?_, State.bitAt_raise _ _ (by decide)⟩
  simp only [State.riserOvf, packetFields]
  exact s.get_countRaise _ _ (by omega) (by simp only [pageAddrs]; omega) (by omega)

@[simp] theorem State.riserOvf_link (x : Nat) : (s.riserOvf c).link x = s.link x := by
  rw [State.riserOvf, raise_link, State.inc_link]

@[simp] theorem State.slag_link (n x : Nat) : (s.slag c n).link x = s.link x := State.slag_keeps (link_ignores x rfl) s c n

theorem State.word_slag_zero (a : Nat) : (s.slag c 0).word a = s.word a := by
  rw [State.slag, (otherFields c).1]
  exact s.word_add_zero _ a

theorem State.get_slag_off (n : Nat) {a hi lo : Nat} (h : a ≠ 0x8001B8 + 0x4000 * c) :
    (s.slag c n).get ⟨a, hi, lo⟩ = s.get ⟨a, hi, lo⟩ := by
  rw [State.slag, State.add, (otherFields c).1, State.get_put_off _ _ (.inl h)]

end

theorem State.fsMatches_of_get {s t : State} {c : Nat} (body : List Byte)
    (h : ∀ a hi lo, 0x800100 + 0x4000 * c ≤ a → a ≤ 0x800108 + 0x4000 * c → t.get ⟨a, hi, lo⟩ = s.get ⟨a, hi, lo⟩) :
    t.fsMatches c body = s.fsMatches c body := by
  simp only [State.fsMatches, State.portW, State.portH, CAM.FMT_CFG_FRAME_FORMAT, CAM.FMT_CFG_PIXEL_FORMAT, CAM.FMT_WIDTH,
    CAM.FMT_HEIGHT, camPage]
  rw [h _ _ _ (by omega) (by omega), h _ _ _ (by omega) (by omega), h _ _ _ (by omega) (by omega), h _ _ _ (by omega) (by omega)]

/-- Settles O25, FS and FE packets: a plain port takes them as sent, and the marker queue has room or overflows. -/
theorem markerPacketsLand : Obligations.MarkerPacketsLand := by
  intro s g p body c plain hport
  have h : s.Plain c := State.plain_of_plainPort hport
  have hc : c < 256 := portNo_lt g p
  have hg : c / 2 = g := portNo_div g p
  let u := s.heardAt c
  let v := u.slag c 0
  have hlink : v.link c = s.link c := (u.slag_link c 0 c).trans (s.heardAt_link c c)
  have henabled : u.portEnabled c = true := (s.heardAt_linkState (c := c)).2.1.trans h.enabled
  have hplain {t : State} (ht : t.regs = v.regs) : plain t := by
    intro hactive hadapt a
    rw [State.word_of_regs ht, State.word_slag_zero, State.word_of_regs (s.heardAt_regs c (by rwa [hg]) hadapt)]
  have hget {a hi lo : Nat} (ha : 0x100290 + 0x1000 * (c / 2) ≤ a ∨ a = 0x100168 + 0x1000 * (c / 2))
      (hoff : a ≠ 0x8001B8 + 0x4000 * c) : v.get ⟨a, hi, lo⟩ = s.get ⟨a, hi, lo⟩ :=
    (u.get_slag_off c 0 hoff).trans (s.get_heardAt_off c (by omega))
  refine ⟨fun ht hlen hcrc => ?_, fun ht hlen hcrc hroom => ?_⟩
  · have hexec : exec (.fsPacket g p body) s = .next (u.arrive c body body) :=
      congrArg _ (State.packetOf_plain h rfl p.isLt (by rw [ht]; rfl))
    rw [hexec, u.arrive_marker c (.inl rfl) henabled (parsePacket_fs _ ht hlen hcrc)]
    refine ⟨fun hroom => ?_, fun hfull => ?_⟩
    · obtain ⟨m, hriser, hfs, hhdr, hecho, hfmt, hlanded, hsince, hvalid, hregs⟩ :=
        v.landMarker_fs c (body := body) (n := body.length) (by rwa [hlink])
      refine ⟨_, m, rfl, by rw [hriser, hlink], hfs, hhdr, hecho, ?_, ?_, hsince, hvalid, hplain hregs⟩
      · rw [hfmt]
        exact State.fsMatches_of_get body fun a hi lo h1 h2 => hget (by omega) (by omega)
      · rw [hlanded]
        exact (State.slag_keeps (now_ignores rfl) u c 0).trans (s.heardAt_keeps c (now_ignores rfl))
    · rw [v.landMarker_full c (by rwa [hlink])]
      obtain ⟨hovf, hirq⟩ := (v.slag c body.length).riserOvf_counts c hc
      refine ⟨_, rfl, by rw [State.riserOvf_link, State.slag_link, hlink], ?_, hg ▸ hirq⟩
      rw [hovf, riserOvfField, State.get_slag_off _ _ _ (by omega), hget (by omega) (by omega)]
  · have hexec : exec (.fePacket g p body) s = .next (u.arrive c body body) :=
      congrArg _ (State.packetOf_plain h rfl p.isLt (by rw [ht]; rfl))
    rw [hexec, u.arrive_marker c (.inr rfl) henabled (parsePacket_fe _ ht hlen hcrc)]
    obtain ⟨m, hriser, hfe, hhdr, hpresent, hcount, hstatus, hframe, hvalid, hpays, hregs⟩ :=
      v.landMarker_fe c (body := body) (n := body.length) (by rwa [hlink])
    exact ⟨_, m, rfl, by rw [hriser, hlink], hfe, hhdr, hpresent, hcount, hstatus, hframe, by rw [hvalid, hlink],
      by rw [hpays, hlink], hplain hregs⟩

end Sys2Proof.Machine
end

section
/-!
PROOFS. Line packets, packets of unknown types and K30.7 in a packet (R75, R76, R78, R82, R96, R97, R99, R100, R120; O26).
-/

namespace Sys2Proof.Machine

/-! ### How a port is set up -/

/-- The registers that say how the lines of port c are taken are the same. -/
def State.SameSetup (s t : State) (c : Nat) : Prop :=
  ∀ a hi lo, (a = 0x100120 + 0x1000 * (c / 2) ∨ a = 0x100160 + 0x1000 * (c / 2) ∨
    0x800100 + 0x4000 * c ≤ a ∧ a < 0x800198 + 0x4000 * c) → t.get ⟨a, hi, lo⟩ = s.get ⟨a, hi, lo⟩

section

variable {s t : State} {c : Nat} (h : s.SameSetup t c)

include h

theorem State.SameSetup.portW : t.portW c = s.portW c := by
  simp only [State.portW, CAM.FMT_WIDTH, camPage]
  rw [h _ _ _ (by omega)]

theorem State.SameSetup.portH : t.portH c = s.portH c := by
  simp only [State.portH, CAM.FMT_HEIGHT, camPage]
  rw [h _ _ _ (by omega)]

theorem State.SameSetup.portBits : t.portBits c = s.portBits c := by
  simp only [State.portBits, CAM.FMT_CFG_PIXEL_FORMAT, camPage]
  rw [h _ _ _ (by omega)]

theorem State.SameSetup.portE : t.portE c = s.portE c := by simp only [State.portE, h.portW, h.portBits]

theorem State.SameSetup.lineBlocks : t.lineBlocks c = s.lineBlocks c := by simp only [State.lineBlocks, h.portE]

theorem State.SameSetup.padPixels : t.padPixels c = s.padPixels c := by
  simp only [State.padPixels, State.padValue, h.portW, h.portBits, CAM.FC_PAD, camPage]
  rw [h _ _ _ (by omega)]

theorem State.SameSetup.riserPart : t.riserPart c = s.riserPart c := by
  simp only [State.riserPart, State.gateMode, gateFields, GATE.GATE_CFG_RISER_SPLIT_A, gatePage]
  rw [h _ _ _ (by omega), h _ _ _ (by omega)]

theorem State.SameSetup.crcPolicy : t.get (GATE.CHECK_CFG_CRC_POLICY (c / 2)) = s.get (GATE.CHECK_CFG_CRC_POLICY (c / 2)) := by
  simp only [GATE.CHECK_CFG_CRC_POLICY, gatePage]
  rw [h _ _ _ (by omega)]

end

/-! ### Holds and wakes of slices leave the registers of gates (R160, R161, R404) -/

section

variable (s : State) (c : Nat)

theorem holdingField (c : Nat) : CAM.NR_STATUS_HOLDING c = ⟨0x800224 + 0x4000 * c, 0, 0⟩ := by
  rw [CAM.NR_STATUS_HOLDING, camPage, Nat.add_right_comm]

theorem missLinesField (c : Nat) : CAM.NR_MISS_LINES c = ⟨0x800244 + 0x4000 * c, 31, 0⟩ := by
  rw [CAM.NR_MISS_LINES, camPage, Nat.add_right_comm]

theorem holdsField (c : Nat) : CAM.NR_HOLDS c = ⟨0x800248 + 0x4000 * c, 31, 0⟩ := by
  rw [CAM.NR_HOLDS, camPage, Nat.add_right_comm]

/-- IRQ_STAT of a gate. -/
theorem irqStatField (g : Nat) : HDR.IRQ_STAT (gatePage g) = ⟨0x100020 + 0x1000 * g, 31, 0⟩ := by
  rw [HDR.IRQ_STAT, gatePage, Nat.add_right_comm]

/-- What the holds of a port may write. -/
theorem State.get_holdCheck_off {a hi lo : Nat} (hpage : a ≠ 0x800020 + 0x4000 * c) (hstatus : a ≠ 0x800224 + 0x4000 * c)
    (hmiss : a ≠ 0x800244 + 0x4000 * c) (hholds : a ≠ 0x800248 + 0x4000 * c) (hpba : a < 0xFF8000) :
    (s.holdCheck c).get ⟨a, hi, lo⟩ = s.get ⟨a, hi, lo⟩ := by
  have hends (t : State) : (t.holdEnds c).get ⟨a, hi, lo⟩ = t.get ⟨a, hi, lo⟩ := by
    rw [State.holdEnds, State.get_raise_off _ _ _ (by simp only [camPage]; omega) hpba, State.inc, State.add, missLinesField c,
      State.get_put_off _ _ (.inl hmiss), holdingField, State.get_put_off _ _ (.inl hstatus)]
    rfl
  refine ite_p (State.get · _) (ite_p (State.get · _) rfl ?_) ?_
  · have hbegins : ∀ t, (t = s ∨ t = (s.inc (CAM.NR_HOLDS c)).put (CAM.NR_STATUS_HOLDING c) 1) →
        t.get ⟨a, hi, lo⟩ = s.get ⟨a, hi, lo⟩ := by
      rintro t (rfl | rfl)
      · rfl
      · rw [holdingField, State.get_put_off _ _ (.inl hstatus), State.inc, State.add, holdsField c,
          State.get_put_off _ _ (.inl hholds)]
    exact ite_p (State.get · _) ((hends _).trans (hbegins _ (ite_eq_or_eq _ _ _))) (hbegins _ (ite_eq_or_eq _ _ _))
  · rw [holdingField, State.get_put_off _ _ (.inl hstatus)]

/-- A line goes to the riser, with the bytes of it that are slag; the holds of the port and the slice take note. -/
def State.takeIn (gone : Nat) (item : Landed) : State :=
  let used := (s.link c).used + item.blocks
  let t := (s.slag c gone).land c (.line item)
  let t := (t.setLink c { t.link c with used := used }).put (LNK.RISER_HWM c) (max (t.get (LNK.RISER_HWM c)) used)
  (t.holdCheck c).sliceWake (t.serving c)

theorem State.takeIn_link (gone : Nat) (item : Landed) : (s.takeIn c gone item).link c =
    { s.link c with riser := (s.link c).riser ++ [.line item], used := (s.link c).used + item.blocks } := by
  rw [State.takeIn, State.sliceWake_keeps (link_ignores c rfl), State.holdCheck_keeps (link_ignores c rfl),
    State.put_keeps (link_ignores c rfl), link_setLink_same, State.land, link_setLink_same, State.slag_link]

theorem State.get_takeIn_off (gone : Nat) (item : Landed) {a hi lo : Nat} (ha : a < 0x200000)
    (hhwm : a ≠ 0x10016C + 0x1000 * (c / 2)) : (s.takeIn c gone item).get ⟨a, hi, lo⟩ = s.get ⟨a, hi, lo⟩ := by
  rw [State.takeIn, State.get_sliceWake_off _ _ (by omega),
    State.get_holdCheck_off _ _ (by omega) (by omega) (by omega) (by omega) (by omega), riserHwmField c,
    State.get_put_off _ _ (.inl hhwm), State.setLink_get, State.land, State.setLink_get, State.get_slag_off _ _ _ (by omega)]

end

/-! ### Line packets whose header checks (R82, R96, R97, R99, R100, R120) -/

/-- A line packet whose header checks, with its expected payload. -/
def lineParsed (body : List Byte) (e : Nat) : Parsed :=
  { kind := .line, hdrOk := true, num := leAt body 2 3, payload := (body.drop 9).take e,
    payOk := crc32 ((body.drop 9).take e) == leAt body (9 + e) 4 }

theorem parsePacket_line (n : Nat) {body : List Byte} {e : Nat} (ht : byteAt body 0 = 2) (hclear : byteAt body 1 % 2 = 0)
    (he : leAt body 5 2 = e) (hlen : body.length = 13 + e) (hcrc : crc16 (body.take 7) = leAt body 7 2) :
    parsePacket n body = lineParsed body e := by
  have h21 : ¬ (2 : Nat) = 1 := by decide
  have h23 : ¬ (2 : Nat) = 3 := by decide
  have hsus : bitOf (byteAt body 1) 0 = false := by simp [bitOf, hclear]
  simp only [parsePacket, ht, h21, h23, if_false, if_true, hdrChecks_of (k := 7) (by omega) hcrc, he, hlen, extraBytes_self, hsus,
    le_refl, decide_true, Bool.true_and, lineParsed]

theorem lineParsed_length {body : List Byte} {e : Nat} (hlen : body.length = 13 + e) :
    (lineParsed body e).payload.length = e := by
  simp only [lineParsed, List.length_take, List.length_drop]
  omega

/-- The line that lands of a packet with its expected payload, as its CRC and CRC_POLICY say (R97). -/
def State.lineItem (s : State) (c : Nat) (p : Parsed) (n : Nat) : Landed :=
  let failsAt (policy : Nat) : Bool := !p.payOk && s.get (GATE.CHECK_CFG_CRC_POLICY (c / 2)) == policy
  let item : Landed :=
    { num := some p.num,
      pixels := if failsAt 2 then s.padPixels c else unpackPixels (s.portW c) (s.portBits c) p.payload,
      flags := ((if failsAt 0 then [0] else []) ++ (if failsAt 1 then [1] else []) ++
        (if failsAt 2 then [2] else [])).foldl setBitN 0,
      payFail := !p.payOk, replace := failsAt 1, bodyLen := n - (if failsAt 2 then s.portE c else 0), blocks := s.lineBlocks c }
  item.report [⟨!p.payOk, !p.payOk⟩]

theorem Landed.report_soundBeside (l : Landed) (bad : Bool) :
    l.report [⟨false, false⟩, ⟨bad, bad⟩, ⟨false, false⟩, ⟨false, false⟩] = l.report [⟨bad, bad⟩] := by
  cases bad <;> rfl

theorem State.lineItem_blocks (s : State) (c : Nat) (p : Parsed) (n : Nat) : (s.lineItem c p n).blocks = s.lineBlocks c := by
  rw [State.lineItem]
  cases p.payOk <;> rfl

theorem State.lineItem_sound (s : State) (c : Nat) {p : Parsed} (n : Nat) (h : p.payOk = true) : s.lineItem c p n =
    { num := some p.num, pixels := unpackPixels (s.portW c) (s.portBits c) p.payload, bodyLen := n,
      blocks := s.lineBlocks c } := by
  simp only [State.lineItem, h, Bool.not_true, Bool.false_and, Bool.false_eq_true, if_false, Nat.sub_zero]
  rfl

theorem State.lineItem_failed (s : State) (c : Nat) {p : Parsed} (n : Nat) (h : p.payOk = false)
    (hpolicy : s.get (GATE.CHECK_CFG_CRC_POLICY (c / 2)) ≤ 2) :
    let policy := s.get (GATE.CHECK_CFG_CRC_POLICY (c / 2))
    (s.lineItem c p n).num = some p.num ∧ (s.lineItem c p n).payFail = true ∧ (s.lineItem c p n).flags = 2 ^ policy ∧
      (s.lineItem c p n).replace = (policy == 1) ∧ (s.lineItem c p n).reported = true ∧
      (policy = 2 → (s.lineItem c p n).pixels = s.padPixels c) := by
  simp only [State.lineItem, h, Bool.not_false, Bool.true_and]
  generalize s.get (GATE.CHECK_CFG_CRC_POLICY (c / 2)) = policy at hpolicy ⊢
  interval_cases policy
  · exact ⟨rfl, rfl, rfl, rfl, rfl, nofun⟩
  · exact ⟨rfl, rfl, rfl, rfl, rfl, nofun⟩
  · exact ⟨rfl, rfl, rfl, rfl, rfl, fun _ => rfl⟩

section

variable (s : State) (c : Nat)

theorem State.countLine_link (p q : Parsed) : ((s.countLine c p q).link c).riser = (s.link c).riser ∧
    ((s.countLine c p q).link c).used = (s.link c).used ∧
    ((s.countLine c p q).link c).valid = (s.link c).valid + b2n p.hdrOk := by
  rw [State.countLine, link_setLink_same]
  exact ⟨rfl, rfl, rfl⟩

theorem State.countLine_get (p q : Parsed) (f : Fld) : (s.countLine c p q).get f = s.get f := by
  rw [State.countLine, State.setLink_get]

theorem State.landLine_lands {p : Parsed} {n : Nat} (hroom : (s.link c).used + s.lineBlocks c ≤ s.riserPart c)
    (hhdr : p.hdrOk = true)
    (hsus : p.suspect = false) (hlen : p.payload.length = s.portE c) : ∃ gone,
    s.landLine c p p n false = (s.countLine c p p).takeIn c gone (s.lineItem c p n) := by
  let t := s.countLine c p p
  have hrules : t.lengthRules c p.payload = (unpackPixels (s.portW c) (s.portBits c) p.payload, []) := by
    simp only [State.lengthRules, show t.portE c = s.portE c from rfl, hlen, lt_irrefl, if_false, le_refl, if_true]
    rw [List.take_of_length_le hlen.le]
    rfl
  have hE : t.portE c = s.portE c := rfl
  have hpad : t.padPixels c = s.padPixels c := rfl
  have hpolicy : t.get (GATE.CHECK_CFG_CRC_POLICY (c / 2)) = s.get (GATE.CHECK_CFG_CRC_POLICY (c / 2)) := rfl
  simp only [State.landLine, if_neg (Nat.not_lt.mpr hroom), State.noteReal_unaltered]
  rw [show s.countLine c p p = t from rfl]
  simp only [hrules, hE, hlen, lt_irrefl, if_false, List.isEmpty_nil, if_true, hhdr, hsus, hpad, hpolicy, Bool.not_true,
      Bool.false_or, Bool.true_and,
    Nat.sub_self, Nat.zero_add, Nat.min_self, ne_eq, not_true_eq_false, decide_false, List.append_nil]
  simp only [State.takeIn, State.lineItem_blocks, Landed.report_soundBeside]
  simp only [State.lineItem]
  exact ⟨_, rfl⟩

theorem State.landLine_full {p : Parsed} {n : Nat} (hfull : s.riserPart c < (s.link c).used + s.lineBlocks c) :
    s.landLine c p p n false = (s.slag c n).riserOvf c := by
  simp only [State.landLine, State.noteReal_unaltered, if_pos hfull]

/-! ### The checker's reports (R96, R97) -/

theorem State.get_countRaise_off {f : Fld} (page n : Nat) {a hi lo : Nat} (hf : a ≠ f.addr) (ha : a ≠ page + 0x20)
    (hpba : a < 0xFF8000) : ((s.inc f).raise page n).get ⟨a, hi, lo⟩ = s.get ⟨a, hi, lo⟩ := by
  rw [State.get_raise_off _ _ _ ha hpba]
  exact State.get_put_addr s f ⟨a, hi, lo⟩ _ hf

theorem State.get_countChecks_off (p : Parsed) {a hi lo : Nat} (hirq : a ≠ 0x100020 + 0x1000 * (c / 2))
    (hcounters : a < 0x100140 + 0x1000 * (c / 2) ∨ 0x100148 + 0x1000 * (c / 2) < a) (hpba : a < 0xFF8000) :
    (s.countChecks c p).get ⟨a, hi, lo⟩ = s.get ⟨a, hi, lo⟩ := by
  have hpage : a ≠ gatePage (c / 2) + 0x20 := by simp only [pageAddrs]; omega
  refine ite_p (State.get · _) ?_ (ite_p (State.get · _) ?_ (ite_p (State.get · _) ?_ rfl))
  · exact s.get_countRaise_off _ _ (by simp only [linkFields]; omega) hpage hpba
  · exact s.get_countRaise_off _ _ (by simp only [packetFields]; omega) hpage hpba
  · exact s.get_countRaise_off _ _ (by simp only [packetFields]; omega) hpage hpba

/-- The port has heard the packet and counted its checks. -/
def State.checkedAt (p : Parsed) : State := ((s.heardAt c).countChecks c p).slag c 0

theorem State.get_slag_zero (f : Fld) : (s.slag c 0).get f = s.get f := by simp only [State.get, State.word_slag_zero]

theorem State.get_checkedAt_off (p : Parsed) {a hi lo : Nat}
    (hheard : a < 0x100224 + 0x1000 * (c / 2) ∧ a ≠ 0x100064 + 0x1000 * (c / 2) ∨ 0x100290 + 0x1000 * (c / 2) ≤ a)
    (hirq : a ≠ 0x100020 + 0x1000 * (c / 2))
    (hcounters : a < 0x100140 + 0x1000 * (c / 2) ∨ 0x100148 + 0x1000 * (c / 2) < a) (hpba : a < 0xFF8000) :
    (s.checkedAt c p).get ⟨a, hi, lo⟩ = s.get ⟨a, hi, lo⟩ := by
  rw [State.checkedAt, State.get_slag_zero, State.get_countChecks_off _ _ _ hirq hcounters hpba, State.get_heardAt_off _ _ hheard]

theorem State.checkedAt_link (p : Parsed) : (s.checkedAt c p).link c = s.link c := by
  rw [State.checkedAt, State.slag_link, State.countChecks_keeps (link_ignores c rfl), State.heardAt_link]

theorem State.checkedAt_setup (p : Parsed) (hc : c < 256) : s.SameSetup (s.checkedAt c p) c :=
  fun _ _ _ h => s.get_checkedAt_off c p (by omega) (by omega) (by omega) (by omega)

/-- A line packet whose header checks arrives at a plain port. -/
theorem State.arrive_line {body : List Byte} {e : Nat} (hc : c < 256) (henabled : s.portEnabled c = true)
    (hparse : parsePacket ((s.heardAt c).lanesOf c).length body = lineParsed body e) :
    (s.heardAt c).arrive c body body =
      (s.checkedAt c (lineParsed body e)).landLine c (lineParsed body e) (lineParsed body e) body.length false := by
  have hon : ((s.heardAt c).countChecks c (lineParsed body e)).portEnabled c = true := by
    rw [← henabled]
    simp only [State.portEnabled, State.on, headerFields, camPage]
    rw [State.get_countChecks_off _ _ _ (by omega) (by omega) (by omega), State.get_heardAt_off _ _ (by omega)]
  have hkind : (lineParsed body e).kind = .line := rfl
  have hextra : (lineParsed body e).extra = 0 := rfl
  have hne : ¬ PktKind.line = PktKind.void := by decide
  simp only [State.arrive, hparse, hon, hkind, hextra, hne, if_false, if_true, Bool.not_true, Bool.false_eq_true,
    decide_false, Bool.or_self, Nat.sub_zero, ne_eq, not_true_eq_false, State.checkedAt]

theorem State.checkedAt_badPayload {p : Parsed} (hc : c < 256) (hkind : p.kind ≠ .void) (hhdr : p.hdrOk = true)
    (hpay : p.payOk = false) : (s.checkedAt c p).get (LNK.PAY_CRC_ERR c) = (s.get (LNK.PAY_CRC_ERR c) + 1) % 2 ^ 16 ∧
      (s.checkedAt c p).bitAt (HDR.IRQ_STAT (gatePage (c / 2))) 9 = true := by
  have hcount : (s.heardAt c).countChecks c p = ((s.heardAt c).inc (LNK.PAY_CRC_ERR c)).raise (gatePage (c / 2)) 9 := by
    simp only [State.countChecks, hkind, hhdr, hpay, if_false, if_true, Bool.not_true, Bool.not_false, Bool.false_eq_true]
  refine ⟨?_, ?_⟩
  · rw [State.checkedAt, State.get_slag_zero, hcount, payCrcErrField c,
      State.get_countRaise _ _ _ (by omega) (by simp only [pageAddrs]; omega) (by omega), State.get_heardAt_off _ _ (by omega)]
  · rw [State.bitAt, State.checkedAt, State.get_slag_zero, hcount]
    exact State.bitAt_raise _ _ (by decide)

/-! ### Void packets (R73, R76, R78, R120) -/

theorem parsePacket_unknown (n : Nat) {body : List Byte} (ht : byteAt body 0 = 0 ∨ 4 ≤ byteAt body 0)
    (h : hdrChecks body 12 = true ∨ hdrChecks body 7 = true ∨ hdrChecks body 10 = true) :
    parsePacket n body = { kind := .void, hdrOk := true } := by
  have h1 : byteAt body 0 ≠ 1 := by omega
  have h2 : byteAt body 0 ≠ 2 := by omega
  have h3 : byteAt body 0 ≠ 3 := by omega
  have hany : (hdrChecks body 12 || hdrChecks body 7 || hdrChecks body 10) = true := by simpa [or_assoc] using h
  simp only [parsePacket, h1, h2, h3, if_false, hany, if_true]

theorem State.arrive_unknown {body : List Byte}
    (hparse : parsePacket (s.lanesOf c).length body = { kind := .void, hdrOk := true }) :
    s.arrive c body body = (s.protoErr c).slag c body.length := by
  simp only [State.arrive, hparse, State.countChecks, if_true, decide_true, Bool.or_true, ne_eq, not_true_eq_false, decide_false,
    State.noteReal_unaltered]

theorem State.protoErr_counts (hc : c < 256) :
    (s.protoErr c).get (LNK.PROTO_ERR c) = (s.get (LNK.PROTO_ERR c) + 1) % 2 ^ 16 ∧
      (s.protoErr c).bitAt (HDR.IRQ_STAT (gatePage (c / 2))) 10 = true := by
  refine ⟨?_, State.bitAt_raise _ _ (by decide)⟩
  simp only [State.protoErr, linkFields]
  exact s.get_countRaise _ _ (by omega) (by simp only [pageAddrs]; omega) (by omega)

theorem State.get_protoErr_off {a hi lo : Nat} (hcounter : a ≠ 0x100148 + 0x1000 * (c / 2))
    (hirq : a ≠ 0x100020 + 0x1000 * (c / 2))
    (hpba : a < 0xFF8000) : (s.protoErr c).get ⟨a, hi, lo⟩ = s.get ⟨a, hi, lo⟩ :=
  s.get_countRaise_off _ _ (by simp only [linkFields]; omega) (by simp only [pageAddrs]; omega) hpba

@[simp] theorem State.protoErr_link (x : Nat) : (s.protoErr c).link x = s.link x := by
  rw [State.protoErr, raise_link, State.inc_link]

theorem State.slag_counts (n : Nat) : (s.slag c n).get (CAM.FC_SLAG_BYTES c) = (s.get (CAM.FC_SLAG_BYTES c) + n) % 2 ^ 32 := by
  rw [State.slag, State.add, (otherFields c).1, State.get_put_at _ _ (by omega)]

/-- A reservation that ends with its packet leaves the items of the riser, and counters but those of the riser and of holds. -/
theorem State.get_reserveBriefly_off (hc : c < 256) {a hi lo : Nat}
    (ha : a = 0x100148 + 0x1000 * (c / 2) ∨ a = 0x8001B8 + 0x4000 * c) :
    (s.reserveBriefly c).get ⟨a, hi, lo⟩ = s.get ⟨a, hi, lo⟩ := by
  refine ite_p (State.get · _) ?_ ?_
  · exact s.get_countRaise_off _ _ (by simp only [packetFields]; omega) (by simp only [pageAddrs]; omega) (by omega)
  · rw [State.setLink_get, State.get_holdCheck_off _ _ (by omega) (by omega) (by omega) (by omega) (by omega),
      riserHwmField c, State.get_put_off _ _ (.inl (by omega)), State.setLink_get]

theorem State.reserveBriefly_riser : ((s.reserveBriefly c).link c).riser = (s.link c).riser := by
  refine ite_p (fun t => (t.link c).riser) (by rw [State.riserOvf_link]) ?_
  rw [link_setLink_same, State.holdCheck_keeps (link_ignores c rfl), State.put_keeps (link_ignores c rfl), link_setLink_same]

/-- A packet that is void: slag and a protocol error (R76). -/
theorem State.voidPacket_counts (hc : c < 256) (body : List Byte) : ((s.voidPacket c body).link c).riser = (s.link c).riser ∧
    (s.voidPacket c body).get (LNK.PROTO_ERR c) = (s.get (LNK.PROTO_ERR c) + 1) % 2 ^ 16 ∧
    (s.voidPacket c body).get (CAM.FC_SLAG_BYTES c) = (s.get (CAM.FC_SLAG_BYTES c) + body.length) % 2 ^ 32 := by
  let t := (s.slag c body.length).protoErr c
  have hvoid : s.voidPacket c body = t ∨ s.voidPacket c body = t.reserveBriefly c := (ite_eq_or_eq _ _ _).symm
  have hriser : (t.link c).riser = (s.link c).riser := by rw [State.protoErr_link, State.slag_link]
  have hproto : t.get (LNK.PROTO_ERR c) = (s.get (LNK.PROTO_ERR c) + 1) % 2 ^ 16 := by
    rw [((s.slag c body.length).protoErr_counts c hc).1]
    simp only [linkFields]
    rw [State.get_slag_off _ _ _ (by omega)]
  have hslag : t.get (CAM.FC_SLAG_BYTES c) = (s.get (CAM.FC_SLAG_BYTES c) + body.length) % 2 ^ 32 := by
    rw [← s.slag_counts c body.length, (otherFields c).1, State.get_protoErr_off _ _ (by omega) (by omega) (by omega)]
  rcases hvoid with h | h
  · exact ⟨by rw [h, hriser], by rw [h, hproto], by rw [h, hslag]⟩
  · refine ⟨by rw [h, State.reserveBriefly_riser, hriser], ?_, ?_⟩
    · rw [h, ← hproto]
      simp only [linkFields]
      exact t.get_reserveBriefly_off c hc (.inl rfl)
    · rw [h, ← hslag, (otherFields c).1]
      exact t.get_reserveBriefly_off c hc (.inr rfl)

end

/-! ### K30.7 in a packet of a plain port (R75, R76) -/

section

variable {s : State} {c : Nat}

theorem State.injectVoid_plain (hidle : (s.gate (c / 2)).inj = .idle) (body : List Byte) : s.injectVoid c body = s := by
  have hacts : s.injActs (c / 2) = s := by rw [State.injActs, if_pos (by rw [hidle]; decide)]
  have hidle' : (s.gate (c / 2)).inj ≠ .acting := by rw [hidle]; decide
  simp only [State.injectVoid, hacts, ite_self, hidle', decide_false, Bool.false_and, Bool.false_eq_true, if_false]

theorem State.overlong_gateWake (body : List Byte) : (s.gateWake (c / 2)).overlong c body = s.overlong c body := by
  simp only [State.overlong]
  rw [State.lanesOf_of_get fun _ _ _ ha => s.get_gateWake_off _ (by omega)]

theorem State.abort_plain {g p : Nat} (h : s.Plain (2 * g + p)) (body : List Byte) :
    s.heard (2 * g + p) body (fun t => t.when (t.receiving (2 * g + p)) fun t => (t.gateWake g).abortPacket (2 * g + p) body) =
      (s.gateWake g).abortPacket (2 * g + p) body := by
  rw [State.heard, if_neg (by rw [h.unquenched]; exact Bool.false_ne_true)]
  exact s.when_true _ h.receiving

theorem State.abortPacket_voids (h : s.Plain c) {body : List Byte} (hover : s.overlong c body = false) :
    (s.gateWake (c / 2)).abortPacket c body = (s.heardAt c).voidPacket c body := by
  have hover' : (s.gateWake (c / 2)).overlong c body = false := (State.overlong_gateWake body).trans hover
  have hfenced : (s.gateWake (c / 2)).portFenced c = false :=
    (State.portFenced_of_get fun _ _ _ _ => s.get_gateWake_off _ (by omega)).trans h.unfenced
  have hready : (s.gateWake (c / 2)).linkState c = linkReady := by
    rw [← h.ready]
    simp only [State.linkState, linkFields]
    exact s.get_gateWake_off _ (by omega)
  have hinject : (s.heardAt c).injectVoid c body = s.heardAt c := State.injectVoid_plain ((s.heardAt_gate c).1.trans h.idle) body
  rw [State.heardAt] at hinject ⊢
  simp only [State.abortPacket, hover', hfenced, hready, State.gateWake_link, h.heeded, Bool.false_and, Bool.or_self, if_false,
    bne_self_eq_false, Bool.false_eq_true, hinject]

theorem State.abortPacket_received (h : s.Plain c) {body : List Byte} (hover : s.overlong c body = true) :
    (s.gateWake (c / 2)).abortPacket c body = (s.gateWake (c / 2)).receive c body := by
  have hover' : (s.gateWake (c / 2)).overlong c body = true := (State.overlong_gateWake body).trans hover
  rw [State.abortPacket]
  exact if_pos (by rw [hover', State.gateWake_link, h.heeded]; exact Bool.or_true _)

end

/-- Settles O26, line packets and packets of other types, each as the port hears it, checks it and takes it in. -/
theorem linePacketsLand : Obligations.LinePacketsLand := by
  intro s g p body c
  have hc : c < 256 := portNo_lt g p
  have hg : c / 2 = g := portNo_div g p
  let u := s.heardAt c
  have hlink : u.link c = s.link c := s.heardAt_link c c
  have hget {a hi lo : Nat} (ha : a = 0x100148 + 0x1000 * (c / 2) ∨ a = 0x8001B8 + 0x4000 * c) :
      u.get ⟨a, hi, lo⟩ = s.get ⟨a, hi, lo⟩ := s.get_heardAt_off c (by omega)
  have hproto : u.get (LNK.PROTO_ERR c) = s.get (LNK.PROTO_ERR c) := by simp only [linkFields]; exact hget (.inl rfl)
  have hslag : u.get (CAM.FC_SLAG_BYTES c) = s.get (CAM.FC_SLAG_BYTES c) := by simp only [otherFields]; exact hget (.inr rfl)
  refine ⟨fun hport ht hclear he hlen hcrc => ?_, fun hport ht hchecks => ?_, fun hport => ?_⟩
  -- A line whose header checks (R97, R99, R100, R120).
  · have h : s.Plain c := State.plain_of_plainPort hport
    let q := lineParsed body (s.portE c)
    let v := s.checkedAt c q
    have hsetup : s.SameSetup v c := s.checkedAt_setup c q hc
    have hv : v.link c = s.link c := s.checkedAt_link c q
    have hexec : exec (.linePacket g p body) s = .next (v.landLine c q q body.length false) := by
      have hpacket : s.packetOf g p (fun t => t == 2) body = u.arrive c body body :=
        State.packetOf_plain h rfl p.isLt (by rw [ht]; rfl)
      rw [s.arrive_line c hc h.enabled (parsePacket_line _ ht hclear he hlen hcrc)] at hpacket
      exact congrArg _ hpacket
    have hroom : (v.link c).used + v.lineBlocks c = (s.link c).used + s.lineBlocks c := by rw [hv, hsetup.lineBlocks]
    have hlands (hle : (s.link c).used + s.lineBlocks c ≤ s.riserPart c) : ∃ gone,
        v.landLine c q q body.length false = (v.countLine c q q).takeIn c gone (v.lineItem c q body.length) :=
      v.landLine_lands c (by rwa [hroom, hsetup.riserPart]) rfl rfl (by rw [hsetup.portE, lineParsed_length hlen])
    obtain ⟨hriser, hused, hvalid⟩ := v.countLine_link c q q
    rw [hexec]
    refine ⟨fun hle hpay => ?_, fun hle hpay hpolicy => ?_, fun hfull => ?_⟩
    · obtain ⟨gone, hland⟩ := hlands hle
      have hitem := v.lineItem_sound c (p := q) body.length (beq_iff_eq.mpr hpay)
      rw [hsetup.portW, hsetup.portBits, hsetup.lineBlocks] at hitem
      refine ⟨_, rfl, ?_, ?_, ?_⟩ <;> rw [hland, State.takeIn_link, hitem]
      · exact congrArg (· ++ _) (hriser.trans (congrArg LinkSt.riser hv))
      · exact congrArg (· + _) (hused.trans (congrArg LinkSt.used hv))
      · exact hvalid.trans (congrArg (LinkSt.valid · + 1) hv)
    · obtain ⟨gone, hland⟩ := hlands hle
      have hbad : q.payOk = false := beq_eq_false_iff_ne.mpr hpay
      have hcrcPolicy : v.get (GATE.CHECK_CFG_CRC_POLICY (c / 2)) = s.get (GATE.CHECK_CFG_CRC_POLICY g) := by
        rw [hsetup.crcPolicy, hg]
      obtain ⟨hnum, hfail, hflags, hreplace, hreported, hpixels⟩ := v.lineItem_failed c body.length hbad (by rwa [hcrcPolicy])
      obtain ⟨hcount, hirq⟩ := s.checkedAt_badPayload c hc (p := q) nofun rfl hbad
      rw [hcrcPolicy] at hflags hreplace hpixels
      refine ⟨_, _, rfl, ?_, hnum, hfail, hflags, hreplace, hreported, fun h2 => (hpixels h2).trans hsetup.padPixels, ?_, ?_⟩
      · rw [hland, State.takeIn_link]
        exact congrArg (· ++ _) (hriser.trans (congrArg LinkSt.riser hv))
      · rw [hland, ← hcount, payCrcErrField c, State.get_takeIn_off _ _ _ _ (by omega) (by omega), State.countLine_get]
      · rw [hland, ← hg, ← hirq, State.bitAt, State.bitAt, irqStatField,
          State.get_takeIn_off _ _ _ _ (by omega) (by omega), State.countLine_get]
    · have hland := v.landLine_full c (p := q) (n := body.length) (by rwa [hroom, hsetup.riserPart])
      refine ⟨_, rfl, ?_, ?_, ?_, ?_, ?_⟩ <;> rw [hland]
      · rw [State.riserOvf_link, State.slag_link, hv]
      · rw [State.riserOvf_link, State.slag_link, hv]
      · rw [State.riserOvf_link, State.slag_link, hv]
      · rw [((v.slag c body.length).riserOvf_counts c hc).1, riserOvfField c, State.get_slag_off _ _ _ (by omega),
          State.get_checkedAt_off _ _ _ (by omega) (by omega) (by omega) (by omega)]
      · have hoff : ((v.slag c body.length).riserOvf c).get (CAM.FC_SLAG_BYTES c) =
            (v.slag c body.length).get (CAM.FC_SLAG_BYTES c) := by
          rw [(otherFields c).1]
          exact State.get_countRaise_off _ _ _ (by simp only [packetFields]; omega) (by simp only [pageAddrs]; omega) (by omega)
        rw [hoff, State.slag_counts, (otherFields c).1,
          State.get_checkedAt_off _ _ _ (by omega) (by omega) (by omega) (by omega)]
  -- A packet of an unknown type (R78).
  · have h : s.Plain c := State.plain_of_plainPort hport
    have hexec : exec (.unknownTypePacket g p body) s = .next ((u.protoErr c).slag c body.length) := by
      rw [← u.arrive_unknown c (parsePacket_unknown _ ht hchecks)]
      exact congrArg _ (State.packetOf_plain h rfl p.isLt (by simpa [Nat.lt_iff_add_one_le] using ht))
    obtain ⟨hcount, hirq⟩ := u.protoErr_counts c hc
    refine ⟨_, hexec, by rw [State.slag_link, State.protoErr_link, hlink], ?_, ?_, ?_⟩
    · rw [← hproto, ← hcount]
      simp only [linkFields]
      rw [State.get_slag_off _ _ _ (by omega)]
    · rw [← hg, ← hirq, State.bitAt, State.bitAt, irqStatField, State.get_slag_off _ _ _ (by omega)]
    · rw [State.slag_counts, ← hslag, (otherFields c).1, State.get_protoErr_off _ _ (by omega) (by omega) (by omega)]
  -- K30.7 (R75, R76).
  · have h : s.Plain c := State.plain_of_plainPort hport
    have hexec : exec (.abortSymbol g p body) s = .next ((s.gateWake (c / 2)).abortPacket c body) := by
      rw [hg]
      exact congrArg _ (State.abort_plain h body)
    refine ⟨fun hover => ?_, fun hover => ?_⟩
    · obtain ⟨hriser, hcount, hbytes⟩ := u.voidPacket_counts c hc body
      rw [hexec, State.abortPacket_voids h hover]
      exact ⟨_, rfl, by rw [hriser, hlink], by rw [hcount, hproto], by rw [hbytes, hslag]⟩
    · have hreceived : exec (.abortSymbol g p body) s = .next ((s.gateWake g).receive c body) := by
        rw [hexec, State.abortPacket_received h hover, hg]
      have hpacket {type : Nat → Bool} (ht : type (byteAt body 0) = true) :
          (Host.Outcome.next ((s.gateWake g).receive c body) : Host.Outcome State Fault Refusal) =
            .next (s.packetOf g p type body) :=
        congrArg _ (State.packetOf_received h ht).symm
      refine ⟨hreceived, fun ht => ?_, fun ht => ?_, fun ht => ?_⟩ <;> rw [hreceived]
      · exact hpacket (type := fun t => t == 1) (by rw [ht]; rfl)
      · exact hpacket (type := fun t => t == 2) (by rw [ht]; rfl)
      · exact hpacket (type := fun t => t == 3) (by rw [ht]; rfl)

end Sys2Proof.Machine
end

section
/-!
PROOFS. A turn of the intake arbiter (R99, R100, R123, R124, R126, R127, R161; O31).
-/

namespace Sys2Proof.Machine

/-! ### The arbiter's choice (R123, R126, R161) -/

/-- The one element of a list that a test holds of is found. -/
theorem find?_only {α : Type} {p : α → Bool} {l : List α} {x : α} (hx : x ∈ l) (hp : p x = true)
    (honly : ∀ y ∈ l, p y = true → y = x) : l.find? p = some x := by
  cases h : l.find? p with
  | none => exact absurd hp (by simpa using List.find?_eq_none.mp h x hx)
  | some y => rw [honly y (List.mem_of_find?_eq_some h) (List.find?_some h)]

theorem refValid_addr (c b : Nat) :
    (refValid c b).addr = 0x800228 + 0x4000 * c ∨ (refValid c b).addr = 0x80022C + 0x4000 * c := by
  rcases ite_eq_or_eq (b = 0) (CAM.NR_REF_VALID0 c) (CAM.NR_REF_VALID1 c) with hb | hb <;>
  · rw [refValid, hb]
    simp only [CAM.NR_REF_VALID0, CAM.NR_REF_VALID1, camPage]
    omega

theorem State.refCount_of_get {s t : State} {c : Nat} (hcam : t.cam c = s.cam c)
    (hget : ∀ b, t.get (refValid c b) = s.get (refValid c b)) : t.refCount c = s.refCount c := by
  simp only [State.refCount, State.openFrame, hcam, hget]

/-- States that differ in NR_STATUS_HOLDING of ports alone. -/
structure State.SameButHolding (s t : State) : Prop where
  link : ∀ c, t.link c = s.link c
  cam : ∀ c, t.cam c = s.cam c
  slice : ∀ k, t.slice k = s.slice k
  field : ∀ f : Fld, (∀ d, f.addr ≠ 0x800224 + 0x4000 * d) → t.get f = s.get f

theorem State.SameButHolding.refl (s : State) : s.SameButHolding s := ⟨fun _ => rfl, fun _ => rfl, fun _ => rfl, fun _ _ => rfl⟩

theorem State.SameButHolding.trans {s t u : State} (h : s.SameButHolding t) (k : t.SameButHolding u) : s.SameButHolding u :=
  ⟨fun c => (k.link c).trans (h.link c), fun c => (k.cam c).trans (h.cam c), fun x => (k.slice x).trans (h.slice x),
    fun f hf => (k.field f hf).trans (h.field f hf)⟩

section

variable {s t : State} (h : s.SameButHolding t)

include h

theorem State.SameButHolding.setup (c : Nat) : s.SameSetup t c := fun a _ _ _ => h.field ⟨a, _, _⟩ fun d => by dsimp only; omega

theorem State.SameButHolding.gapMax (c : Nat) : t.get (CAM.FC_CFG_GAP_MAX c) = s.get (CAM.FC_CFG_GAP_MAX c) :=
  h.field _ fun d => by simp only [CAM.FC_CFG_GAP_MAX, camPage]; omega

theorem State.SameButHolding.mode (c : Nat) : t.get (CAM.NR_CTRL_MODE c) = s.get (CAM.NR_CTRL_MODE c) :=
  h.field _ fun d => by simp only [CAM.NR_CTRL_MODE, camPage]; omega

theorem State.SameButHolding.refValid (c b : Nat) : t.get (refValid c b) = s.get (refValid c b) :=
  h.field _ fun d => by rcases refValid_addr c b with hb | hb <;> rw [hb] <;> omega

theorem State.SameButHolding.openFrame (c : Nat) : t.openFrame c = s.openFrame c := by
  simp only [State.openFrame, h.cam]

theorem State.SameButHolding.needsHold (c : Nat) : t.needsHold c = s.needsHold c := by
  simp only [State.needsHold, State.nextLine, State.heldLine, State.refBuf, h.openFrame, h.link, h.cam, (h.setup c).portH,
      h.gapMax, h.refValid]

theorem State.SameButHolding.refCount (c : Nat) : t.refCount c = s.refCount c :=
  State.refCount_of_get (h.cam c) (h.refValid c)

theorem State.SameButHolding.itemReady (k c : Nat) : t.itemReady k c = s.itemReady k c := by
  have henabled : t.portEnabled c = s.portEnabled c := by
    simp only [State.portEnabled, State.on]
    rw [h.field _ fun d => by simp only [headerFields, camPage]; omega]
  simp only [State.itemReady, State.markerBusy, State.lineFree, henabled, h.openFrame, h.needsHold, h.link, h.cam, h.slice,
      h.mode]

end

/-- A port at which no hold begins changes NR_STATUS_HOLDING alone. -/
theorem State.holdCheck_quiet {s : State} {c : Nat} (h : s.needsHold c = true → (s.cam c).holdOver = true) :
    s.SameButHolding (s.holdCheck c) := by
  by_cases hn : s.needsHold c = true
  · rw [State.holdCheck, if_pos hn, if_pos (h hn)]
    exact .refl s
  · rw [State.holdCheck, if_neg hn]
    refine ⟨fun d => State.put_keeps (link_ignores d rfl) .., fun d => State.put_keeps (cam_ignores d rfl) ..,
      fun k => State.put_keeps (slice_ignores k rfl) .., fun f hf => State.get_put_addr _ _ f _ ?_⟩
    rw [holdingField]
    exact hf c

theorem State.eachHoldCheck_quiet {s : State} : ∀ {l : List Nat} {t : State},
    (∀ c ∈ l, s.needsHold c = true → (s.cam c).holdOver = true) → s.SameButHolding t → s.SameButHolding (t.each l State.holdCheck)
  | [], _, _, ht => ht
  | c :: l, t, h, ht => by
    have hc : t.needsHold c = true → (t.cam c).holdOver = true := by
      rw [ht.needsHold, ht.cam]
      exact h c List.mem_cons_self
    exact State.eachHoldCheck_quiet (t := t.holdCheck c) (fun d hd => h d (List.mem_cons_of_mem _ hd))
      (ht.trans (State.holdCheck_quiet hc))

/-- The state in which port number i of slice k takes its turn. -/
def State.chosen (s : State) (k i : Nat) : State := s.setSlice k { s.slice k with last := i }

/-- The arbiter takes the turn of the one port that has an item ready. -/
theorem State.intake_only {s : State} {k i c : Nat} (hi : i < 8) (hc : (s.servedPorts k)[i]? = some c)
    (hready : s.itemReady k c = true)
    (honly : ∀ j < 8, j ≠ i → ∀ d, (s.servedPorts k)[j]? = some d → s.itemReady k d = false)
    (hholds : ∀ d ∈ s.servedPorts k, s.needsHold d = true → (s.cam d).holdOver = true) :
    ∃ t : State, s.SameButHolding t ∧ s.intake k = ((t.chosen k i).turnOf k c).holdCheck c := by
  let t := s.each (s.servedPorts k) State.holdCheck
  have ht : s.SameButHolding t := State.eachHoldCheck_quiet hholds (.refl s)
  have horder (n : Nat) : (n + 1 + (i + 8 - (n + 1) % 8) % 8) % 8 = i := by omega
  have hintake : s.intake k = ((t.chosen k i).turnOf k c).holdCheck c := by
    simp only [State.intake]
    rw [find?_only (x := i)]
    · simp only [hc]
      rfl
    · exact List.mem_map.mpr ⟨(i + 8 - ((t.slice k).last + 1) % 8) % 8, List.mem_range.mpr (Nat.mod_lt _ (by decide)), horder _⟩
    · simp only [hc]
      exact (ht.itemReady k c).trans hready
    · intro j hj hp
      obtain ⟨x, -, rfl⟩ := List.mem_map.mp hj
      by_contra hne
      cases hd : (s.servedPorts k)[((t.slice k).last + 1 + x) % 8]? with
      | none => simp [hd, t] at hp
      | some d =>
        have hnot := honly _ (Nat.mod_lt _ (by decide)) hne d hd
        rw [← ht.itemReady] at hnot
        simp [hd, t, hnot] at hp
  exact ⟨t, ht, hintake⟩

/-- The ports of slices are ports. -/
theorem State.servedPorts_lt {s : State} {k i c : Nat} (hk : k < 33) (hi : i < 8) (hc : (s.servedPorts k)[i]? = some c) :
    c < 256 := by
  have hfor : s.get SLICE.SPARE_STATUS_FOR < 32 := s.get_lt _
  have hgroup : ∀ g, s.servedGroup k = some g → g < 32 := by
    intro g hg
    simp only [State.servedGroup] at hg
    split_ifs at hg <;> simp only [Option.some.injEq] at hg <;> omega
  simp only [State.servedPorts] at hc
  cases hg : s.servedGroup k with
  | none => simp [hg] at hc
  | some g =>
    have := hgroup g hg
    simp [hg, hi] at hc
    omega

/-! ### What a turn does to its port and its slice -/

/-- From s to t, port c goes over to l, and items go to frame check in slice k. -/
structure State.Turned (s t : State) (k c : Nat) (l : LinkSt) (items : List FcItem) : Prop where
  link : t.link c = l
  fc : (t.slice k).fc = (s.slice k).fc ++ items
  last : (t.slice k).last = (s.slice k).last

theorem State.Turned.trans {s t u : State} {k c : Nat} {l m : LinkSt} {a b : List FcItem} (h : s.Turned t k c l a)
    (g : t.Turned u k c m b) : s.Turned u k c m (a ++ b) :=
  ⟨g.link, by rw [g.fc, h.fc, List.append_assoc], g.last.trans h.last⟩

/-- An operation that leaves the slice. -/
theorem State.Turned.quiet {s t : State} {k c : Nat} {l : LinkSt} (hlink : t.link c = l) (hslice : t.slice k = s.slice k) :
    s.Turned t k c l [] := ⟨hlink, by rw [hslice, List.append_nil], by rw [hslice]⟩

section

variable (s : State) (k c : Nat)

theorem State.toCheck_turned (i : FcItem) : s.Turned (s.toCheck k i) k c (s.link c) [i] :=
  ⟨rfl, by rw [State.toCheck, slice_setSlice_same], by rw [State.toCheck, slice_setSlice_same]⟩

theorem State.setLink_turned (l : LinkSt) : s.Turned (s.setLink c l) k c l [] :=
  .quiet (link_setLink_same ..) (s.setLink_slice ..)

/-- The line that a turn carries, with REF_MISS where its hold ended with lines missing (R161). -/
def State.missed (x : Landed) : Landed := if (s.cam c).holdOver = true then { x with flags := setBitN x.flags 6 } else x

theorem State.carry_turned (n : Nat) (x : Landed) :
    s.Turned (s.carry k c n x) k c (s.link c) [.line c n (s.missed c x) (s.refCount c)] := by
  refine (s.toCheck_turned k c (.line c n (s.missed c x) (s.refCount c))).trans (.quiet ?_ ?_)
  · rw [State.carry, State.put_keeps (link_ignores c rfl)]; rfl
  · rw [State.carry, State.put_keeps (slice_ignores k rfl)]; rfl

theorem State.get_carry_off (n : Nat) (x : Landed) {a hi lo : Nat} (h : a ≠ 0x800224 + 0x4000 * c) :
    (s.carry k c n x).get ⟨a, hi, lo⟩ = s.get ⟨a, hi, lo⟩ := by
  rw [State.carry, holdingField, State.get_put_off _ _ (.inl h)]
  rfl

variable {s} {x : Landed} {m : Marker} {rest : List RItem}

theorem State.popRiser_line (h : (s.link c).riser = .line x :: rest) :
    s.popRiser c = s.setLink c { s.link c with riser := rest, used := (s.link c).used - x.blocks } := by
  rw [State.popRiser, h]

theorem State.popRiser_marker (h : (s.link c).riser = .marker m :: rest) :
    s.popRiser c = s.setLink c { s.link c with riser := rest } := by
  rw [State.popRiser, h]

/-! ### FE (R100, R127) -/

/-- No FE stands at the head of the items. -/
def noFe (rest : List RItem) : Prop := ∀ m r, rest = .marker m :: r → m.isFs = true

theorem State.feBehind_none (h : noFe (s.link c).riser) : s.feBehind k c = s := by
  rw [State.feBehind]
  cases hr : (s.link c).riser with
  | nil => rfl
  | cons i r =>
    cases i with
    | marker m => exact if_pos (h m r hr)
    | line x => rfl

theorem State.feBehind_fe (h : (s.link c).riser = .marker m :: rest) (hfe : m.isFs = false) :
    s.feBehind k c = s.takeFe k c m := by
  simp only [State.feBehind, h, hfe, Bool.false_eq_true, if_false]

theorem State.takeFe_turned (h : (s.link c).riser = .marker m :: rest) (habandoned : (s.link c).abandoned = false) :
    s.Turned (s.takeFe k c m) k c { s.link c with riser := rest, closing := (s.link c).open_ }
      [.fe c (if m.implied then none else some m)] := by
  let t := s.setLink c { s.link c with riser := rest }
  have ht : t.link c = { s.link c with riser := rest } := link_setLink_same ..
  have htake : s.takeFe k c m = (t.toCheck k (.fe c (if m.implied then none else some m))).setLink c
      { s.link c with riser := rest, closing := (s.link c).open_ } := by
    rw [State.takeFe, State.popRiser_marker c h, ht]
    exact if_neg (by rw [show LinkSt.abandoned _ = false from habandoned]; exact Bool.false_ne_true)
  rw [htake]
  exact ((s.setLink_turned k c _).trans (t.toCheck_turned k c _)).trans (State.setLink_turned _ k c _)

/-- The first FE after an abandoned frame is consumed as slag (R100). -/
theorem State.takeFe_consumed (h : (s.link c).riser = .marker m :: rest) (habandoned : (s.link c).abandoned = true)
    (hgone : (s.link c).feGone = false) :
    s.Turned (s.takeFe k c m) k c { s.link c with riser := rest, feGone := (s.link c).feGone || !m.implied } [] ∧
      (s.takeFe k c m).get (CAM.FC_SLAG_BYTES c) = (s.get (CAM.FC_SLAG_BYTES c) + m.bodyLen) % 2 ^ 32 := by
  let t := s.setLink c { s.link c with riser := rest }
  have ht : t.link c = { s.link c with riser := rest } := link_setLink_same ..
  have htake : s.takeFe k c m =
      (t.setLink c { s.link c with riser := rest, feGone := (s.link c).feGone || !m.implied }).slag c m.bodyLen := by
    rw [State.takeFe, State.popRiser_marker c h, ht]
    refine if_pos ?_
    rw [show LinkSt.abandoned _ = true from habandoned, show LinkSt.feGone _ = false from hgone]
    exact Bool.or_true _
  rw [htake]
  refine ⟨.quiet (by rw [State.slag_link, link_setLink_same]) (State.slag_keeps (slice_ignores k rfl) ..), ?_⟩
  rw [State.slag_counts, State.setLink_get, State.setLink_get]

/-! ### Lines (R99, R100, R122, R127) -/

/-- A pad line that is due. -/
def State.padLine (s : State) (c : Nat) : Landed :=
  let inj := (s.link c).injGap.contains ((s.link c).frameNo, (s.link c).e)
  { num := some (s.link c).e, pixels := s.padPixels c, flags := if inj then 36 else 4, reported := true, allTagged := inj }

theorem State.takePad_turned : ∃ l : LinkSt,
    s.Turned (s.takePad k c) k c l [.line c (s.link c).e (s.missed c (s.padLine c)) (s.refCount c)] ∧
    l.e = (s.link c).e + 1 ∧ l.pads = (s.link c).pads - 1 ∧ l.riser = (s.link c).riser :=
  ⟨_, (s.carry_turned k c _ _).trans (State.setLink_turned _ k c _), rfl, rfl, rfl⟩

theorem State.get_takePad_off {a hi lo : Nat} (h : a ≠ 0x800224 + 0x4000 * c) :
    (s.takePad k c).get ⟨a, hi, lo⟩ = s.get ⟨a, hi, lo⟩ := by
  rw [State.takePad, State.setLink_get, State.get_carry_off _ _ _ _ _ h]

/-- A line that is discarded (R100, R112). -/
theorem State.dropLine_turned (h : (s.link c).riser = .line x :: rest) (f : Fld) (i : FcItem) :
    s.Turned (s.dropLine k c f i x) k c { s.link c with riser := rest, used := (s.link c).used - x.blocks } [i] := by
  let t := ((((s.popRiser c).slag c x.bodyLen).inc f).raise (gatePage (c / 2)) 10)
  have hlink : t.link c = { s.link c with riser := rest, used := (s.link c).used - x.blocks } := by
    rw [raise_link, State.inc_link, State.slag_link, State.popRiser_line c h, link_setLink_same]
  have hslice : t.slice k = s.slice k := by
    rw [State.raise_slice, State.inc_slice, State.slag_keeps (slice_ignores k rfl), State.popRiser_keeps (slice_ignores k rfl)]
  exact (State.Turned.quiet hlink hslice).trans (hlink ▸ t.toCheck_turned k c i)

theorem State.toCheck_get (i : FcItem) (f : Fld) : (s.toCheck k i).get f = s.get f :=
  State.toCheck_keeps (get_ignores f rfl) s k i

theorem State.popRiser_get (f : Fld) : (s.popRiser c).get f = s.get f := State.popRiser_keeps (get_ignores f rfl) s c

/-- What the line that is discarded counts; o is the place of the counter in the port's page. -/
theorem State.dropLine_counts {o : Nat} (hc : c < 256) (i : FcItem) (ho : o < 0x1B8) (ho' : 0x20 < o) :
    (s.dropLine k c ⟨0x800000 + o + 0x4000 * c, 31, 0⟩ i x).get ⟨0x800000 + o + 0x4000 * c, 31, 0⟩ =
        (s.get ⟨0x800000 + o + 0x4000 * c, 31, 0⟩ + 1) % 2 ^ 32 ∧
      (s.dropLine k c ⟨0x800000 + o + 0x4000 * c, 31, 0⟩ i x).get (CAM.FC_SLAG_BYTES c) =
        (s.get (CAM.FC_SLAG_BYTES c) + x.bodyLen) % 2 ^ 32 ∧
      (s.dropLine k c ⟨0x800000 + o + 0x4000 * c, 31, 0⟩ i x).bitAt (HDR.IRQ_STAT (gatePage (c / 2))) 10 = true := by
  refine ⟨?_, ?_, ?_⟩
  · rw [State.dropLine, State.toCheck_get, State.get_raise_off _ _ _ (by simp only [pageAddrs]; omega) (by omega), State.inc,
      State.add, State.get_put_at _ _ (by omega), State.get_slag_off _ _ _ (by omega), State.popRiser_get]
  · rw [State.dropLine, State.toCheck_get, (otherFields c).1, State.get_countRaise_off _ _ _ (by dsimp only; omega)
      (by simp only [pageAddrs]; omega) (by omega), ← (otherFields c).1, State.slag_counts, State.popRiser_get]
  · rw [State.dropLine, State.bitAt, State.toCheck_get]
    exact State.bitAt_raise _ _ (by decide)

section

variable (hopen : (s.link c).open_ = true) (habandoned : (s.link c).abandoned = false)

include hopen habandoned

/-- A line of the open frame, by its number. -/
theorem State.takeLine_open : s.takeLine k c x =
    if s.portH c ≤ x.num.getD (s.link c).e then (s.dropLine k c (CAM.FC_LONG_FRAME c) (.drop c .long) x).feBehind k c
    else if x.num.getD (s.link c).e < (s.link c).e then
      (s.dropLine k c (CAM.FC_LINE_ORDER c)
        (.drop c (.order ((s.link c).injGap.contains ((s.link c).frameNo, x.num.getD (s.link c).e)))) x).feBehind k c
    else if x.num.getD (s.link c).e = (s.link c).e then
      let t := (s.popRiser c).carry k c (x.num.getD (s.link c).e) x
      (t.setLink c { t.link c with e := x.num.getD (s.link c).e + 1 }).feBehind k c
    else if x.num.getD (s.link c).e - (s.link c).e ≤ s.get (CAM.FC_CFG_GAP_MAX c) then
      ((s.add (CAM.FC_PAD_LINES c) (x.num.getD (s.link c).e - (s.link c).e)).setLink c
        { s.link c with pads := x.num.getD (s.link c).e - (s.link c).e }).takePad k c
    else
      let gap := (s.link c).gapTagged (x.num.getD (s.link c).e)
      let t := (s.noteGapReal c gap).dropLine k c (CAM.FC_ABANDONED c) (.abandon c gap.1) x
      ((t.setLink c { t.link c with open_ := false, abandoned := true, feGone := false }).endHold c).feBehind k c := by
  simp only [State.takeLine, hopen, habandoned, Bool.not_true, Bool.false_eq_true, if_false]

variable (h : (s.link c).riser = .line x :: rest)

include h

/-- The next line of the open frame goes on, and an FE behind it may follow. -/
theorem State.takeLine_next (hn : x.num.getD (s.link c).e = (s.link c).e) (hH : (s.link c).e < s.portH c) : ∃ t : State,
    s.takeLine k c x = t.feBehind k c ∧ s.Turned t k c
      { s.link c with riser := rest, used := (s.link c).used - x.blocks, e := (s.link c).e + 1 }
      [.line c (s.link c).e (s.missed c x) (s.refCount c)] := by
  let l : LinkSt := { s.link c with riser := rest, used := (s.link c).used - x.blocks }
  let u := s.setLink c l
  let v := u.carry k c (s.link c).e x
  have hcarry := u.carry_turned k c (s.link c).e x
  rw [show u.link c = l from link_setLink_same ..] at hcarry
  have hv : s.Turned v k c l [.line c (s.link c).e (s.missed c x) (s.refCount c)] := (s.setLink_turned k c l).trans hcarry
  rw [State.takeLine_open k c hopen habandoned, if_neg (by omega), if_neg (by omega), if_pos hn, hn, State.popRiser_line c h]
  refine ⟨_, rfl, hv.trans ?_⟩
  rw [show (u.carry k c (s.link c).e x).link c = l from hv.link]
  exact v.setLink_turned k c _

omit h in
/-- Lines are missing: the first pad line goes on, and the others become due (R100). -/
theorem State.takeLine_gap (hlt : (s.link c).e < x.num.getD (s.link c).e) (hH : x.num.getD (s.link c).e < s.portH c)
    (hgap : x.num.getD (s.link c).e - (s.link c).e ≤ s.get (CAM.FC_CFG_GAP_MAX c)) :
    ∃ l : LinkSt, s.Turned (s.takeLine k c x) k c l [.line c (s.link c).e (s.missed c (s.padLine c)) (s.refCount c)] ∧
      l.e = (s.link c).e + 1 ∧ l.pads = x.num.getD (s.link c).e - (s.link c).e - 1 ∧ l.riser = (s.link c).riser ∧
      (s.takeLine k c x).get (CAM.FC_PAD_LINES c) =
        (s.get (CAM.FC_PAD_LINES c) + (x.num.getD (s.link c).e - (s.link c).e)) % 2 ^ 32 := by
  let n := x.num.getD (s.link c).e
  let m : LinkSt := { s.link c with pads := n - (s.link c).e }
  let u := (s.add (CAM.FC_PAD_LINES c) (n - (s.link c).e)).setLink c m
  have htake : s.takeLine k c x = u.takePad k c := by
    rw [State.takeLine_open k c hopen habandoned, if_neg (by omega), if_neg (by omega), if_neg (by omega), if_pos hgap]
  have hu : u.link c = m := link_setLink_same ..
  have hoff (f : Fld) (hf : f.addr ≠ 0x800198 + 0x4000 * c) : u.get f = s.get f := by
    rw [State.setLink_get, State.add]
    exact State.get_put_addr _ _ f _ (by rw [padLinesField c]; exact hf)
  have hsetup : s.SameSetup u c := fun a _ _ ha => hoff ⟨a, _, _⟩ (by dsimp only; omega)
  have hcam : u.cam c = s.cam c := (State.setLink_cam ..).trans (State.add_keeps (cam_ignores c rfl) s _ _)
  have hslice : u.slice k = s.slice k := (State.setLink_slice ..).trans (State.add_keeps (slice_ignores k rfl) s _ _)
  have href : u.refCount c = s.refCount c := State.refCount_of_get hcam fun b => hoff _ (by
    rcases refValid_addr c b with hb | hb <;> rw [hb] <;> omega)
  have hpad : u.padLine c = s.padLine c := by
    simp only [State.padLine, hu, hsetup.padPixels, m]
  have hmissed : u.missed c (s.padLine c) = s.missed c (s.padLine c) := by rw [State.missed, hcam, State.missed]
  obtain ⟨l, hturned, he, hpads, hriser⟩ := u.takePad_turned k c
  rw [hpad, href, hmissed, hu] at hturned
  rw [hu] at he hpads hriser
  rw [htake]
  refine ⟨l, (State.Turned.quiet hu hslice).trans hturned, he, hpads, hriser, ?_⟩
  rw [padLinesField c, State.get_takePad_off _ _ (by omega), State.setLink_get, ← padLinesField c, State.add,
    padLinesField c, State.get_put_at _ _ (by omega)]

/-- A gap that is too long abandons the frame (R100). -/
theorem State.takeLine_abandons (hc : c < 256) (hlt : (s.link c).e < x.num.getD (s.link c).e)
    (hH : x.num.getD (s.link c).e < s.portH c)
    (hgap : s.get (CAM.FC_CFG_GAP_MAX c) < x.num.getD (s.link c).e - (s.link c).e) : ∃ t : State,
    s.takeLine k c x = t.feBehind k c ∧ s.Turned t k c
      { s.link c with riser := rest, used := (s.link c).used - x.blocks, open_ := false, abandoned := true, feGone := false }
      [.abandon c ((s.link c).gapTagged (x.num.getD (s.link c).e)).1] ∧
    t.get (CAM.FC_ABANDONED c) = (s.get (CAM.FC_ABANDONED c) + 1) % 2 ^ 32 := by
  let gap := (s.link c).gapTagged (x.num.getD (s.link c).e)
  let l : LinkSt := { s.link c with riser := rest, used := (s.link c).used - x.blocks }
  let u := s.noteGapReal c gap
  let v := u.dropLine k c (CAM.FC_ABANDONED c) (.abandon c gap.1) x
  let w := v.setLink c { v.link c with open_ := false, abandoned := true, feGone := false }
  have htake : s.takeLine k c x = (w.endHold c).feBehind k c := by
    rw [State.takeLine_open k c hopen habandoned, if_neg (by omega), if_neg (by omega), if_neg (by omega), if_neg (by omega)]
  have hu : u.link c = s.link c := State.noteGapReal_keeps (link_ignores c rfl) ..
  have hv : u.Turned v k c { u.link c with riser := rest, used := (u.link c).used - x.blocks } [.abandon c gap.1] :=
    u.dropLine_turned k c (hu ▸ h) _ _
  rw [hu] at hv
  refine ⟨w.endHold c, htake, ?_, ?_⟩
  · have hw : v.Turned w k c _ [] := v.setLink_turned k c _
    rw [hv.link] at hw
    refine ((State.Turned.quiet hu (State.noteGapReal_keeps (slice_ignores k rfl) ..)).trans hv).trans (hw.trans (.quiet ?_ ?_))
    · rw [State.endHold_keeps (link_ignores c rfl)]
      exact hw.link
    · exact State.endHold_keeps (slice_ignores k rfl) w c
  · have hcount : v.get (CAM.FC_ABANDONED c) = (u.get (CAM.FC_ABANDONED c) + 1) % 2 ^ 32 := by
      have hfield : CAM.FC_ABANDONED c = ⟨0x800000 + 0x1A8 + 0x4000 * c, 31, 0⟩ := abandonedField c
      simp only [v, hfield]
      exact (u.dropLine_counts k c hc _ (by omega) (by omega)).1
    rw [State.endHold, State.setCam_get, holdingField, abandonedField c, State.get_put_off _ _ (.inl (by omega)),
      State.setLink_get, ← abandonedField c, hcount, abandonedField c, State.get_noteGapReal_off _ _ _ (by omega)]

/-- A line out of place is discarded (R100). -/
theorem State.takeLine_drops (hc : c < 256)
    (hout : s.portH c ≤ x.num.getD (s.link c).e ∨ x.num.getD (s.link c).e < (s.link c).e) :
    ∃ t : State, s.takeLine k c x = t.feBehind k c ∧
      s.Turned t k c { s.link c with riser := rest, used := (s.link c).used - x.blocks }
        [.drop c (if s.portH c ≤ x.num.getD (s.link c).e then .long
          else .order ((s.link c).injGap.contains ((s.link c).frameNo, x.num.getD (s.link c).e)))] ∧
      t.get (CAM.FC_SLAG_BYTES c) = (s.get (CAM.FC_SLAG_BYTES c) + x.bodyLen) % 2 ^ 32 ∧
      t.bitAt (HDR.IRQ_STAT (gatePage (c / 2))) 10 = true := by
  rw [State.takeLine_open k c hopen habandoned]
  by_cases hlong : s.portH c ≤ x.num.getD (s.link c).e
  · have hfield : CAM.FC_LONG_FRAME c = ⟨0x800000 + 0x1A4 + 0x4000 * c, 31, 0⟩ := longFrameField c
    rw [if_pos hlong, if_pos hlong]
    refine ⟨_, rfl, s.dropLine_turned k c h _ _, ?_⟩
    rw [hfield]
    exact (s.dropLine_counts k c hc _ (by omega) (by omega)).2
  · have hfield : CAM.FC_LINE_ORDER c = ⟨0x800000 + 0x19C + 0x4000 * c, 31, 0⟩ := lineOrderField c
    rw [if_neg hlong, if_pos (by omega), if_neg hlong]
    refine ⟨_, rfl, s.dropLine_turned k c h _ _, ?_⟩
    rw [hfield]
    exact (s.dropLine_counts k c hc _ (by omega) (by omega)).2

end

end

/-! ### FS (R100, R123, R127) -/

section

variable {s : State} (k c : Nat) {m : Marker} {rest : List RItem}

/-- An FS opens its frame, and without a temporal filter the first line rides with it. -/
theorem State.openFs_opens (h : (s.link c).riser = .marker m :: rest) : ∃ (t : State) (l : LinkSt),
    s.openFs k c m = (if 2 ≤ s.get (CAM.NR_CTRL_MODE c) then t else t.lineBehind k c) ∧
      s.Turned t k c l [.fs c ((s.link c).frameNo + 1) m] ∧ l.open_ = true ∧ l.e = 0 ∧ l.abandoned = false ∧ l.riser = rest ∧
      (∀ f, t.get f = s.get f) ∧ t.cam c = s.cam c := by
  let u := s.setLink c { s.link c with riser := rest }
  let l : LinkSt := { u.link c with
    open_ := true, e := 0, frameNo := (s.link c).frameNo + 1, abandoned := false, feGone := false, pads := 0, closing := false,
    injGap := (s.link c).injGap.filter (fun p => decide ((s.link c).frameNo < p.1)) }
  let v := u.setLink c l
  have hu : u.link c = { s.link c with riser := rest } := link_setLink_same ..
  have hv : s.Turned v k c l [] := (s.setLink_turned k c _).trans (u.setLink_turned k c l)
  have ht := v.toCheck_turned k c (.fs c ((s.link c).frameNo + 1) m)
  rw [hv.link] at ht
  refine ⟨_, l, ?_, hv.trans ht, rfl, rfl, rfl, congrArg LinkSt.riser hu, fun _ => rfl, rfl⟩
  rw [State.openFs, State.popRiser_marker c h]
  rfl

theorem State.takeFs_closed (hopen : (s.link c).open_ = false) : s.takeFs k c m = s.openFs k c m := by
  rw [State.takeFs, if_pos (by rw [hopen]; rfl)]

/-- An FS behind an open frame with lines missing: they become due as pad lines. -/
theorem State.takeFs_short (hopen : (s.link c).open_ = true) (hshort : (s.link c).e < s.portH c) :
    s.Turned (s.takeFs k c m) k c { s.link c with closing := true } [.fe c none] := by
  rw [State.takeFs, if_neg (by rw [hopen]; exact Bool.false_ne_true), if_pos hshort]
  exact (s.toCheck_turned k c _).trans (State.setLink_turned _ k c _)

theorem State.takeFs_full (hopen : (s.link c).open_ = true) (hfull : s.portH c ≤ (s.link c).e) :
    s.takeFs k c m = (s.toCheck k (.fe c none)).openFs k c m := by
  rw [State.takeFs, if_neg (by rw [hopen]; exact Bool.false_ne_true), if_neg (Nat.not_lt.mpr hfull)]

theorem State.lineBehind_line {x : Landed} (h : (s.link c).riser = .line x :: rest) : s.lineBehind k c = s.takeLine k c x := by
  rw [State.lineBehind, h]

/-! ### A turn by the item ready -/

theorem State.turnOf_pads (h : (s.link c).pads ≠ 0) : s.turnOf k c = s.takePad k c := by
  rw [State.turnOf, if_pos (by simpa using h)]

theorem State.turnOf_line {x : Landed} (h0 : (s.link c).pads = 0) (h : (s.link c).riser = .line x :: rest) :
    s.turnOf k c = s.takeLine k c x := by
  rw [State.turnOf, if_neg (by simp [h0]), h]

theorem State.turnOf_fs (h0 : (s.link c).pads = 0) (h : (s.link c).riser = .marker m :: rest) (hfs : m.isFs = true) :
    s.turnOf k c = s.takeFs k c m := by
  rw [State.turnOf, if_neg (by simp [h0]), h]
  exact if_pos hfs

theorem State.turnOf_fe (h0 : (s.link c).pads = 0) (h : (s.link c).riser = .marker m :: rest) (hfe : m.isFs = false) :
    s.turnOf k c = s.takeFe k c m := by
  rw [State.turnOf, if_neg (by simp [h0]), h]
  exact if_neg (by rw [hfe]; exact Bool.false_ne_true)

end

/-- Settles O31, a turn of the intake arbiter: the holds change nothing it reads, and each item goes on as its operation says. -/
theorem intakeCommandCompletes : Obligations.IntakeCommandCompletes := by
  intro s k i c hserves hi hc hready honly hholds l fc missed noFe turn pad
  have hc256 : c < 256 := State.servedPorts_lt k.isLt hi hc
  obtain ⟨u, hu, hintake⟩ := State.intake_only hi hc hready honly hholds
  let v := u.chosen k i
  have hlink : v.link c = l := hu.link c
  have hslice : v.slice k = { s.slice k with last := i } := by
    simp only [v, State.chosen, State.slice_setSlice_same, hu.slice]
  have hget (f : Fld) (hf : ∀ d, f.addr ≠ 0x800224 + 0x4000 * d) : v.get f = s.get f := hu.field f hf
  have hH : v.portH c = s.portH c := (hu.setup c).portH
  have hmode : v.get (CAM.NR_CTRL_MODE c) = s.get (CAM.NR_CTRL_MODE c) := hu.mode c
  have hgap : v.get (CAM.FC_CFG_GAP_MAX c) = s.get (CAM.FC_CFG_GAP_MAX c) := hu.gapMax c
  have href : v.refCount c = s.refCount c := hu.refCount c
  have hmissed (x : Landed) : v.missed c x = missed x := by
    simp only [State.missed, missed, show v.cam c = s.cam c from hu.cam c]
  have hpad : v.padLine c = pad := by
    simp only [State.padLine, pad, hlink, show v.padPixels c = s.padPixels c from (hu.setup c).padPixels]
  -- A turn ends with the holds of the port, which leave its link and its slice.
  have hends {w : State} {m : LinkSt} {items : List FcItem} (hw : v.turnOf k c = w) (h : v.Turned w k c m items) :
      turn (w.holdCheck c) items ∧ (w.holdCheck c).link c = m := by
    have hslice' : (w.holdCheck c).slice k = w.slice k := State.holdCheck_keeps (slice_ignores k rfl) ..
    refine ⟨⟨?_, ?_, ?_⟩, (State.holdCheck_keeps (link_ignores c rfl) w c).trans h.link⟩
    · rw [← hw]
      exact congrArg _ ((s.when_true (·.intake k) hserves).trans hintake)
    · rw [hslice', h.fc, hslice]
    · rw [hslice', h.last, hslice]
  refine ⟨fun hpads => ?_, fun hpads => ⟨fun m rest hriser hfs => ?_, fun x rest hriser hopen habandoned => ?_,
    fun m rest hriser hfe => ?_⟩⟩
  -- A pad line that is due.
  · obtain ⟨m, hturned, he, hp, hr⟩ := v.takePad_turned k c
    rw [hpad, hmissed, href, hlink] at hturned
    rw [hlink] at he hp hr
    obtain ⟨ht, htl⟩ := hends (v.turnOf_pads k c (by rwa [hlink])) hturned
    exact ⟨_, ht, by rw [htl, he], by rw [htl, hp], by rw [htl, hr]⟩
  -- An FS.
  · have hturn : v.turnOf k c = v.takeFs k c m := v.turnOf_fs k c (by rwa [hlink]) (by rwa [hlink]) hfs
    refine ⟨fun hopen h2 => ?_, fun hopen h2 x r hrest hx hpos hno => ?_, fun hopen hshort => ?_, fun hopen hfull h2 => ?_⟩
    · obtain ⟨t, n, hopens, hturned, hon, he, -, hr, -⟩ := v.openFs_opens k c (m := m) (rest := rest) (by rwa [hlink])
      rw [if_pos (by rwa [hmode])] at hopens
      rw [hlink] at hturned
      obtain ⟨ht, htl⟩ := hends (hturn.trans ((v.takeFs_closed k c (by rwa [hlink])).trans hopens)) hturned
      exact ⟨_, ht, by rw [htl, hon], by rw [htl, he], by rw [htl, hr]⟩
    · obtain ⟨t, n, hopens, hturned, hon, he, habandoned, hr, htget, htcam⟩ :=
        v.openFs_opens k c (m := m) (rest := rest) (by rwa [hlink])
      rw [if_neg (by rw [hmode]; omega)] at hopens
      have htr : (t.link c).riser = .line x :: r := by rw [hturned.link, hr, hrest]
      have hte : (t.link c).e = 0 := by rw [hturned.link, he]
      obtain ⟨w, htake, hw⟩ := t.takeLine_next k c (by rw [hturned.link, hon]) (by rw [hturned.link, habandoned]) htr
        (by rw [hx, hte]; rfl) (by rw [hte, State.portH, htget]; exact (hH.symm ▸ hpos : 0 < v.portH c))
      have hwr : (w.link c).riser = r := by rw [hw.link]
      have htref : t.refCount c = s.refCount c := (State.refCount_of_get htcam fun b => htget _).trans href
      have htmissed : t.missed c x = missed x := by rw [← hmissed, State.missed, htcam, State.missed]
      have hfinal : v.turnOf k c = w := by
        rw [hturn, v.takeFs_closed k c (by rwa [hlink]), hopens, t.lineBehind_line k c htr, htake,
          w.feBehind_none k c (by rw [hwr]; exact hno)]
      have hall := hturned.trans hw
      rw [hte, htref, htmissed, hlink] at hall
      obtain ⟨ht, htl⟩ := hends hfinal hall
      exact ⟨_, ht, by rw [htl]; exact hturned.link ▸ hon, by rw [htl], by rw [htl]⟩
    · have hturned := v.takeFs_short k c (m := m) (by rwa [hlink]) (by rwa [hlink, hH])
      rw [hlink] at hturned
      obtain ⟨ht, htl⟩ := hends hturn hturned
      exact ⟨_, ht, by rw [htl], by rw [htl]⟩
    · have hchecked := v.toCheck_turned k c (.fe c none)
      rw [hlink] at hchecked
      obtain ⟨t, n, hopens, hturned, hon, he, -, hr, -⟩ :=
        (v.toCheck k (.fe c none)).openFs_opens k c (m := m) (rest := rest) (by rwa [hchecked.link])
      rw [if_pos (by rw [State.toCheck_get, hmode]; exact h2)] at hopens
      rw [hchecked.link] at hturned
      obtain ⟨ht, htl⟩ := hends (hturn.trans ((v.takeFs_full k c (by rwa [hlink]) (by rwa [hlink, hH])).trans hopens))
        (hchecked.trans hturned)
      exact ⟨_, ht, by rw [htl, hon], by rw [htl, he], by rw [htl, hr]⟩
  -- A line of the open frame.
  · intro n
    have hvr : (v.link c).riser = .line x :: rest := by rwa [hlink]
    have hvo : (v.link c).open_ = true := by rwa [hlink]
    have hva : (v.link c).abandoned = false := by rwa [hlink]
    have hturn : v.turnOf k c = v.takeLine k c x := v.turnOf_line k c (by rwa [hlink]) hvr
    have hn : x.num.getD (v.link c).e = n := by rw [hlink]
    refine ⟨fun hnext hlt => ?_, fun hlt hnH hmax => ?_, fun hlt hnH hmax hno => ?_, fun hout hno => ?_⟩
    · obtain ⟨w, htake, hw⟩ := v.takeLine_next k c hvo hva hvr (by rw [hn, hlink]; exact hnext) (by rwa [hlink, hH])
      rw [href, hmissed, hlink] at hw
      refine ⟨fun hno => ?_, fun m r hrest hfe => ?_⟩
      · obtain ⟨ht, htl⟩ := hends (hturn.trans (htake.trans (w.feBehind_none k c (by rw [hw.link]; exact hno)))) hw
        exact ⟨_, ht, by rw [htl], by rw [htl], by rw [htl]⟩
      · have hwr : (w.link c).riser = .marker m :: r := by rw [hw.link, ← hrest]
        have hfe' := w.takeFe_turned k c hwr (by rw [hw.link]; exact habandoned)
        obtain ⟨ht, htl⟩ := hends (hturn.trans (htake.trans (w.feBehind_fe k c hwr hfe))) (hw.trans hfe')
        exact ⟨_, ht, by rw [htl, hw.link], by rw [htl], by rw [htl, hw.link]; exact hopen⟩
    · obtain ⟨m, hturned, he, hp, hr, hcount⟩ := v.takeLine_gap k c hvo hva (x := x) (by rwa [hn, hlink]) (by rwa [hn, hH])
        (by rw [hn, hlink, hgap]; exact hmax)
      rw [hpad, hmissed, href, hlink] at hturned
      rw [hlink] at he hr
      obtain ⟨ht, htl⟩ := hends hturn hturned
      refine ⟨_, ht, by rw [htl, he], by rw [htl, hp, hn, hlink], by rw [htl, hr], ?_⟩
      rw [padLinesField c, State.get_holdCheck_off _ _ (by omega) (by omega) (by omega) (by omega) (by omega),
        ← padLinesField c, hcount, hn, hlink, hget _ fun d => by simp only [camFields]; omega]
    · obtain ⟨w, htake, hw, hcount⟩ := v.takeLine_abandons k c hvo hva hvr hc256 (by rwa [hn, hlink]) (by rwa [hn, hH])
        (by rw [hn, hlink, hgap]; exact hmax)
      rw [hn, hlink] at hw
      obtain ⟨ht, htl⟩ := hends (hturn.trans (htake.trans (w.feBehind_none k c (by rw [hw.link]; exact hno)))) hw
      refine ⟨_, ht, by rw [htl], by rw [htl], by rw [htl], ?_⟩
      rw [abandonedField c, State.get_holdCheck_off _ _ (by omega) (by omega) (by omega) (by omega) (by omega),
        ← abandonedField c, hcount, hget _ fun d => by simp only [camFields]; omega]
    · obtain ⟨w, htake, hw, hslag, hirq⟩ := v.takeLine_drops k c hvo hva hvr hc256 (by rw [hn, hH, hlink]; exact hout)
      rw [hn, hH, hlink] at hw
      obtain ⟨ht, htl⟩ := hends (hturn.trans (htake.trans (w.feBehind_none k c (by rw [hw.link]; exact hno)))) hw
      refine ⟨_, ht, by rw [htl], ?_, ?_⟩
      · rw [(otherFields c).1, State.get_holdCheck_off _ _ (by omega) (by omega) (by omega) (by omega) (by omega),
          ← (otherFields c).1, hslag, hget _ fun d => by simp only [otherFields]; omega]
      · rw [← hirq, State.bitAt, State.bitAt, irqStatField,
          State.get_holdCheck_off _ _ (by omega) (by omega) (by omega) (by omega) (by omega)]
  -- An FE.
  · have hvr : (v.link c).riser = .marker m :: rest := by rwa [hlink]
    have hturn : v.turnOf k c = v.takeFe k c m := v.turnOf_fe k c (by rwa [hlink]) hvr hfe
    refine ⟨fun habandoned => ?_, fun habandoned hgone => ?_⟩
    · have hturned := v.takeFe_turned k c hvr (by rwa [hlink])
      rw [hlink] at hturned
      obtain ⟨ht, htl⟩ := hends hturn hturned
      exact ⟨_, ht, by rw [htl], by rw [htl]⟩
    · obtain ⟨hturned, hslag⟩ := v.takeFe_consumed k c hvr (by rwa [hlink]) (by rwa [hlink])
      rw [hlink] at hturned
      obtain ⟨ht, htl⟩ := hends hturn hturned
      refine ⟨_, ht, by rw [htl], by rw [htl]; exact congrArg (· || !m.implied) hgone, ?_⟩
      rw [(otherFields c).1, State.get_holdCheck_off _ _ (by omega) (by omega) (by omega) (by omega) (by omega),
        ← (otherFields c).1, hslag, hget _ fun d => by simp only [otherFields]; omega]

end Sys2Proof.Machine
end

section
/-!
PROOFS. Gate modes, the enable and the disable of a gate (R114 to R116, R139, R326, R395, R420; O29).
-/

namespace Sys2Proof.Machine

/-! ### Fields and tables -/

/-- Fields of a gate's page that its mode and the split of its riser give values (R111, R139). -/
theorem gateModeFields (g : Nat) :
    GATE.LANE_MASK_MASK_A g = ⟨0x100124 + 0x1000 * g, 3, 0⟩ ∧
    GATE.LANE_MASK_MASK_B g = ⟨0x100124 + 0x1000 * g, 7, 4⟩ ∧
    GATE.GATE_CFG_RISER_SPLIT_A g = ⟨0x100160 + 0x1000 * g, 15, 8⟩ := by
  simp only [GATE.LANE_MASK_MASK_A, GATE.LANE_MASK_MASK_B, GATE.GATE_CFG_RISER_SPLIT_A, gatePage, Fld.mk.injEq, and_true]
  omega

theorem laneRoleField (g n : Nat) : GATE.LANE_STATUS_ROLE g n = ⟨0x100204 + 0x1000 * g + 0x20 * n, 4, 2⟩ := by
  simp only [GATE.LANE_STATUS_ROLE, gatePage, Fld.mk.injEq, and_true]
  omega

theorem State.link_setLink_ne (s : State) {c x : Nat} (v : LinkSt) (h : x ≠ c) : (s.setLink c v).link x = s.link x :=
  tget_tput_ne _ _ _ _ _ _ h

section

variable (s : State) (c : Nat) {a hi lo : Nat}

/-! ### What a port's operations leave of another port -/

theorem State.link_toDown_ne {x : Nat} (h : x ≠ c) : (s.toDown c).link x = s.link x := by
  simp [State.toDown, State.link_setLink_ne _ _ h]

theorem State.link_endTest_ne {x : Nat} (h : x ≠ c) : (s.endTest c).link x = s.link x := by
  unfold State.endTest
  split
  · rfl
  · rw [State.showTest_link, State.link_setLink_ne _ _ h]

@[simp] theorem State.toDown_engine (x : Nat) : (s.toDown c).engine x = s.engine x :=
  State.toDown_keeps (engine_ignores x rfl) s c

theorem State.emptyRiser_get (f : Fld) : (s.emptyRiser c).get f = s.get f := State.emptyRiser_keeps (get_ignores f rfl) s c

theorem State.emptyRiser_link : ((s.emptyRiser c).link c).riser = [] ∧ ((s.emptyRiser c).link c).used = 0 := by
  rw [State.emptyRiser, State.link_setLink_same]
  exact ⟨rfl, rfl⟩

theorem State.link_emptyRiser_ne {x : Nat} (h : x ≠ c) : (s.emptyRiser c).link x = s.link x := State.link_setLink_ne _ _ h

@[simp] theorem State.emptyRiser_engine (x : Nat) : (s.emptyRiser c).engine x = s.engine x :=
  State.emptyRiser_keeps (engine_ignores x rfl) s c

/-- A port that is down has nothing to fail where its engine holds no request and no read (R320). -/
theorem State.downCheck_idle (hq : (s.engine (c / 2)).reqs = []) (hr : (s.engine (c / 2)).reads = []) : s.downCheck c = s := by
  have hw : s.failWaiting c = s := by simp [State.failWaiting, State.each, hr]
  simp [State.downCheck, hw, hq, hr, State.failAll]

/-! ### The gate mode gives lanes their roles and full sets (R111, R115) -/

theorem State.get_assignLanes_off (g : Nat)
    (hn : a < 0x100204 + 0x1000 * g ∨ 0x100284 + 0x1000 * g < a ∨ a % 32 ≠ 4 ∨ lo ≤ hi ∧ (hi < 2 ∨ 4 < lo))
    (hm : a ≠ 0x100124 + 0x1000 * g) : (s.assignLanes g).get ⟨a, hi, lo⟩ = s.get ⟨a, hi, lo⟩ := by
  simp (disch := omega) only [State.assignLanes, gateModeFields, gateFields, State.get_put_off]
  refine State.each_eq (p := fun t => t.get ⟨a, hi, lo⟩) s fun t n hn => ?_
  have := List.mem_range.mp hn
  rw [laneRoleField, State.get_put_off _ _ (by omega)]

theorem State.masks_assignLanes (g : Nat) :
    (s.assignLanes g).get (GATE.LANE_MASK_MASK_A g) = fullMask (s.gateMode g) 0 ∧
      (s.assignLanes g).get (GATE.LANE_MASK_MASK_B g) = fullMask (s.gateMode g) 1 := by
  simp (disch := omega) only [State.assignLanes, gateModeFields, gateFields, State.get_put_off, State.get_put_at]
  exact ⟨Nat.mod_eq_of_lt (by simp only [fullMask]; split_ifs <;> decide), rfl⟩

theorem State.role_assignLanes (g : Nat) {n : Nat} (hn : n < 5) :
    (s.assignLanes g).get (GATE.LANE_STATUS_ROLE g n) = laneRole (s.gateMode g) n := by
  have hrole : laneRole (s.gateMode g) n % 2 ^ (4 + 1 - 2) = laneRole (s.gateMode g) n :=
    Nat.mod_eq_of_lt (by simp only [laneRole]; split_ifs <;> decide)
  simp only [State.assignLanes]
  rw [laneRoleField]
  simp (disch := omega) only [gateModeFields, gateFields, State.get_put_off]
  refine State.each_mem (P := fun t => t.get ⟨0x100204 + 0x1000 * g + 0x20 * n, 4, 2⟩ = laneRole (s.gateMode g) n) s
    (List.mem_range.mpr hn) (fun t => ?_) fun t m _ ht => ?_
  · rw [laneRoleField, State.get_put_at _ _ (by omega), hrole]
  · by_cases hm : m = n
    · rw [hm, laneRoleField, State.get_put_at _ _ (by omega), hrole]
    · rw [laneRoleField, State.get_put_off _ _ (by omega), ht]

/-! ### GATE_CFG_WRITE (R115, R139, R420) -/

/-- The registers of an accepted write of GATE_CFG. -/
def State.cfgWritten (g mode split : Nat) : State :=
  (s.put (GATE.GATE_CFG_GATE_MODE g) mode).put (GATE.GATE_CFG_RISER_SPLIT_A g) split

/-- Both ports of a gate in DOWN. -/
def State.portsDown (g : Nat) : State := (s.toDown (2 * g)).toDown (2 * g + 1)

/-- Both risers of a gate empty. -/
def State.risersEmpty (g : Nat) : State := (s.emptyRiser (2 * g)).emptyRiser (2 * g + 1)

theorem State.writeGateCfg_sameMode {g mode split : Nat} (hg : s.gateEnabled g = false) (h3 : mode ≠ 3) (h0 : split ≠ 0)
    (hm : mode = s.gateMode g) : s.writeGateCfg g mode split = s.cfgWritten g mode split := by
  simp [State.writeGateCfg, hg, h3, h0, ← hm, State.cfgWritten]

theorem State.writeGateCfg_newMode {g mode split : Nat} (hg : s.gateEnabled g = false) (h3 : mode ≠ 3) (h0 : split ≠ 0)
    (hm : mode ≠ s.gateMode g) (hq : (s.engine g).reqs = []) (hr : (s.engine g).reads = []) :
    s.writeGateCfg g mode split = (((s.cfgWritten g mode split).portsDown g).assignLanes g).risersEmpty g := by
  let t := (((s.cfgWritten g mode split).portsDown g).assignLanes g).risersEmpty g
  have hengine : t.engine g = s.engine g := by
    simp only [t, State.risersEmpty, State.emptyRiser_engine, State.assignLanes_keeps (engine_ignores g rfl), State.portsDown,
      State.toDown_engine, State.cfgWritten, State.put_engine]
  have hidle {c : Nat} (hc : c / 2 = g) : t.downCheck c = t :=
    t.downCheck_idle c (by rw [hc, hengine, hq]) (by rw [hc, hengine, hr])
  have hwrite : s.writeGateCfg g mode split = (t.downCheck (2 * g)).downCheck (2 * g + 1) := by
    simp [State.writeGateCfg, hg, h3, h0, hm, t, State.cfgWritten, State.portsDown, State.risersEmpty]
  rw [hwrite, hidle (by omega), hidle (by omega)]

theorem State.get_portsDown_off (g : Nat)
    (hl : a < 0x100108 + 0x1000 * g ∨ 0x10010C + 0x1000 * g < a)
    (hn : a < 0x100204 + 0x1000 * g ∨ 0x100284 + 0x1000 * g < a) :
    (s.portsDown g).get ⟨a, hi, lo⟩ = s.get ⟨a, hi, lo⟩ := by
  simp (disch := omega) only [State.portsDown, State.get_toDown_off]

theorem State.linkState_portsDown {g : Nat} (hc : c / 2 = g) (hf : s.portFenced c = false) :
    (s.portsDown g).linkState c = linkDown := by
  obtain rfl | rfl : c = 2 * g ∨ c = 2 * g + 1 := by omega
  · have h := s.linkState_toDown (2 * g) hf
    simp only [State.linkState, linkFields] at h ⊢
    rw [State.portsDown, State.get_toDown_off _ _ (by omega) (by omega), h]
  · refine State.linkState_toDown _ _ (Eq.trans ?_ hf)
    exact State.portFenced_of_get fun _ _ _ ha => s.get_toDown_off _ (by omega) (by omega)

theorem State.risersEmpty_link {g : Nat} (hc : c / 2 = g) :
    ((s.risersEmpty g).link c).riser = [] ∧ ((s.risersEmpty g).link c).used = 0 := by
  obtain rfl | rfl : c = 2 * g ∨ c = 2 * g + 1 := by omega
  · rw [State.risersEmpty, State.link_emptyRiser_ne _ _ (by omega)]
    exact s.emptyRiser_link _
  · exact (s.emptyRiser (2 * g)).emptyRiser_link _

/-- A new mode: the registers it sets, and both ports in DOWN with empty risers (R111, R115). -/
theorem State.writeGateCfg_entersMode {g mode split : Nat} (hg : s.gateEnabled g = false) (h3 : mode < 3) (h0 : split ≠ 0)
    (hsplit : split < 256) (hm : mode ≠ s.gateMode g) (hq : (s.engine g).reqs = []) (hr : (s.engine g).reads = []) :
    let t := s.writeGateCfg g mode split
    t.gateMode g = mode ∧ t.get (GATE.GATE_CFG_RISER_SPLIT_A g) = split ∧
      t.get (GATE.LANE_MASK_MASK_A g) = fullMask mode 0 ∧ t.get (GATE.LANE_MASK_MASK_B g) = fullMask mode 1 ∧
      (∀ n < 5, t.get (GATE.LANE_STATUS_ROLE g n) = laneRole mode n) ∧
      ∀ c, c / 2 = g →
        (t.link c).riser = [] ∧ (t.link c).used = 0 ∧ (s.portFenced c = false → t.linkState c = linkDown) := by
  let u := (s.cfgWritten g mode split).portsDown g
  have hget (f : Fld) : ((u.assignLanes g).risersEmpty g).get f = (u.assignLanes g).get f := by
    rw [State.risersEmpty, State.emptyRiser_get, State.emptyRiser_get]
  have hmode : u.gateMode g = mode := by
    simp (disch := omega) only [u, State.gateMode, gateFields, gateModeFields, State.cfgWritten, State.get_portsDown_off,
      State.get_put_off, State.get_put_at]
    exact Nat.mod_eq_of_lt (by omega)
  have hsplit' : u.get (GATE.GATE_CFG_RISER_SPLIT_A g) = split := by
    simp (disch := omega) only [u, gateModeFields, State.cfgWritten, State.get_portsDown_off, State.get_put_at]
    exact Nat.mod_eq_of_lt hsplit
  obtain ⟨hA, hB⟩ := u.masks_assignLanes g
  rw [s.writeGateCfg_newMode hg (by omega) h0 hm hq hr]
  refine ⟨?_, ?_, ?_, ?_, fun n hn => ?_, fun c hc => ?_⟩
  · rw [State.gateMode, hget, ← hmode, State.gateMode]
    simp (disch := omega) only [gateFields, State.get_assignLanes_off]
  · rw [hget, ← hsplit']
    simp (disch := omega) only [gateModeFields, State.get_assignLanes_off]
  · rw [hget, hA, hmode]
  · rw [hget, hB, hmode]
  · rw [hget, u.role_assignLanes g hn, hmode]
  · obtain ⟨hriser, hused⟩ := State.risersEmpty_link (u.assignLanes g) c hc
    refine ⟨hriser, hused, fun hf => ?_⟩
    rw [← State.linkState_portsDown (s.cfgWritten g mode split) c hc, State.linkState, hget, State.linkState]
    · simp (disch := omega) only [linkFields, State.get_assignLanes_off, u]
    · refine Eq.trans (State.portFenced_of_get fun a hi lo ha => ?_) hf
      simp (disch := omega) only [State.cfgWritten, gateFields, gateModeFields, State.get_put_off]

/-! ### GATE_ENABLE (R115, R326, R395) -/

/-- A port in DOWN may go to CLOCK (R50, R115). -/
def State.mayLeave : Bool :=
  s.linkState c == linkDown && s.on (LNK.CLOCK_OK c) && !(s.link c).heldDown && s.gateEnabled (c / 2) && s.portPresent c &&
    !s.portFenced c

theorem State.leaveDown_ite : s.leaveDown c = if s.mayLeave c then s.enterClock c else s := rfl

theorem State.linkState_leaveDown (he : s.engineFenced (c / 2) = false) :
    (s.leaveDown c).linkState c = if s.mayLeave c then linkClock else s.linkState c := by
  rw [State.leaveDown_ite]
  split
  case isTrue h =>
    simp only [State.mayLeave, Bool.and_eq_true, Bool.not_eq_true'] at h
    obtain ⟨⟨⟨-, hg⟩, hp⟩, hf⟩ := h
    exact s.linkState_enterClock c (by simp [State.portDown, hp, hg, he]) hf
  case isFalse => rfl

theorem State.link_leaveDown_ne (he : s.engineFenced (c / 2) = false) {x : Nat} (h : x ≠ c) :
    (s.leaveDown c).link x = s.link x := by
  obtain heq | ⟨hd, heq⟩ := s.leaveDown_eq c he
  · rw [heq]
  · have hclock : (s.toClock c).link x = s.link x := by
      rw [State.toClock, State.link_setLink_ne _ _ h, State.setLinkState_link]
    rw [heq, State.enterClock_eq]
    split_ifs
    · exact hclock
    · rw [State.startDiscovery_link _ c (by rwa [State.portDown_atClock]), State.atClock, State.link_setLink_ne _ _ h, hclock]

/-- What lets a port leave DOWN are fields of its gate and of its own page. -/
theorem State.mayLeave_of_get {s t : State} {c : Nat} (hl : (t.link c).heldDown = (s.link c).heldDown)
    (h : ∀ a hi lo, a = 0x100108 + 0x1000 * (c / 2) + 4 * (c % 2) ∨ a = 0x100008 + 0x1000 * (c / 2) ∨
      a = 0x100160 + 0x1000 * (c / 2) ∨ a = 0x800040 + 0x4000 * c → t.get ⟨a, hi, lo⟩ = s.get ⟨a, hi, lo⟩) :
    t.mayLeave c = s.mayLeave c := by
  have hf : t.portFenced c = s.portFenced c := State.portFenced_of_get fun a hi lo ha => h a hi lo (by omega)
  simp only [State.mayLeave, hl, hf, State.linkState, State.on, State.gateEnabled, State.portPresent, State.gateMode, linkFields,
    pageAddrs, headerFields, gateFields]
  rw [h _ _ _ (by omega), h _ _ _ (by omega), h _ _ _ (by omega), h _ _ _ (by omega)]

/-- The next CLOCK of the port starts the discovery of its camera (R326). -/
def State.undiscovered : State := s.setLink c { s.link c with discovered := false }

theorem State.link_undiscovered_ne {x : Nat} (h : x ≠ c) : (s.undiscovered c).link x = s.link x := s.link_setLink_ne _ h

theorem State.mayLeave_undiscovered : (s.undiscovered c).mayLeave c = s.mayLeave c :=
  State.mayLeave_of_get (by rw [State.undiscovered, State.link_setLink_same]) fun _ _ _ _ => rfl

/-- A port at the enable of its gate leaves DOWN at once where it may (R50). -/
def State.portStart : State := (s.undiscovered c).leaveDown c

theorem State.get_portStart_off (he : s.engineFenced (c / 2) = false)
    (hl : a ≠ 0x100108 + 0x1000 * (c / 2) + 4 * (c % 2) ∨ 2 < lo ∧ lo ≤ hi)
    (ha : a < 0x180148 + 0x1000 * (c / 2) + 0x40 * (c % 2) ∨ 0x180154 + 0x1000 * (c / 2) + 0x40 * (c % 2) < a) :
    (s.portStart c).get ⟨a, hi, lo⟩ = s.get ⟨a, hi, lo⟩ :=
  State.get_leaveDown_off _ c he hl ha

theorem State.link_portStart_ne (he : s.engineFenced (c / 2) = false) {x : Nat} (h : x ≠ c) :
    (s.portStart c).link x = s.link x :=
  (State.link_leaveDown_ne (s.undiscovered c) c he h).trans (s.link_undiscovered_ne c h)

theorem State.linkState_portStart (he : s.engineFenced (c / 2) = false) :
    (s.portStart c).linkState c = if s.mayLeave c then linkClock else s.linkState c := by
  rw [← s.mayLeave_undiscovered c]
  exact State.linkState_leaveDown (s.undiscovered c) c he

theorem State.engineFenced_of_get {s t : State} {g : Nat}
    (h : ∀ a hi lo, a = 0x180040 + 0x1000 * g → t.get ⟨a, hi, lo⟩ = s.get ⟨a, hi, lo⟩) :
    t.engineFenced g = s.engineFenced g := by
  simp only [State.engineFenced, State.on, pageAddrs, headerFields]
  rw [h _ _ _ (by omega)]

/-- Both ports of a gate start. -/
def State.portsStart (g : Nat) : State := (s.portStart (2 * g)).portStart (2 * g + 1)

section

variable {g : Nat} (he : s.engineFenced g = false)
include he

/-- The start of port A leaves the section engine as it is for port B. -/
theorem State.engineUp_portStarts :
    s.engineFenced (2 * g / 2) = false ∧ (s.portStart (2 * g)).engineFenced ((2 * g + 1) / 2) = false := by
  have heA : s.engineFenced (2 * g / 2) = false := by rwa [Nat.mul_div_cancel_left g two_pos]
  refine ⟨heA, ?_⟩
  rw [show (2 * g + 1) / 2 = g by omega, ← he]
  exact State.engineFenced_of_get fun _ _ _ ha => s.get_portStart_off _ heA (by omega) (by omega)

theorem State.get_portsStart_off (ha : a < 0x100108 + 0x1000 * g) :
    (s.portsStart g).get ⟨a, hi, lo⟩ = s.get ⟨a, hi, lo⟩ := by
  obtain ⟨heA, heB⟩ := s.engineUp_portStarts he
  rw [State.portsStart, State.get_portStart_off _ _ heB (by omega) (by omega),
    State.get_portStart_off _ _ heA (by omega) (by omega)]

/-- Neither port has a part in what the other does. -/
theorem State.linkState_portsStart (hc : c / 2 = g) :
    (s.portsStart g).linkState c = if s.mayLeave c then linkClock else s.linkState c := by
  obtain ⟨heA, heB⟩ := s.engineUp_portStarts he
  obtain rfl | rfl : c = 2 * g ∨ c = 2 * g + 1 := by omega
  · rw [← s.linkState_portStart (2 * g) heA]
    simp (disch := omega) only [State.portsStart, State.linkState, linkFields, State.get_portStart_off _ _ heB]
  · have hmay : (s.portStart (2 * g)).mayLeave (2 * g + 1) = s.mayLeave (2 * g + 1) :=
      State.mayLeave_of_get (by rw [s.link_portStart_ne _ heA (by omega)]) fun _ _ _ ha =>
        s.get_portStart_off _ heA (by omega) (by omega)
    rw [State.portsStart, State.linkState_portStart _ _ heB, hmay]
    simp (disch := omega) only [State.linkState, linkFields, s.get_portStart_off _ heA]

end

/-- An enable sets ENABLE, and each port that may goes to CLOCK. -/
theorem State.gateEnable_starts {g : Nat} (hg : s.gateEnabled g = false) (h1 : s.domainReady g = true)
    (h2 : s.domainReady (128 + g) = true) (he : s.engineFenced g = false) :
    (s.gateEnable g).gateEnabled g = true ∧ ∀ c, c / 2 = g → s.linkState c = linkDown → s.portFenced c = false →
      (s.on (LNK.CLOCK_OK c) = true → (s.link c).heldDown = false → s.portPresent c = true →
        (s.gateEnable g).linkState c = linkClock) ∧
      (s.on (LNK.CLOCK_OK c) = false → (s.gateEnable g).linkState c = linkDown) := by
  let u := s.put (HDR.CTRL_ENABLE (gatePage g)) 1
  have hu {a hi lo : Nat} (ha : a ≠ 0x100008 + 0x1000 * g) : u.get ⟨a, hi, lo⟩ = s.get ⟨a, hi, lo⟩ := by
    simp (disch := omega) only [u, headerFields, pageAddrs, State.get_put_off]
  have hon : u.gateEnabled g = true := by
    simp (disch := omega) only [u, State.gateEnabled, State.on, headerFields, pageAddrs, State.get_put_at]; rfl
  have he' : u.engineFenced g = false :=
    (State.engineFenced_of_get fun _ _ _ ha => hu (by omega)).trans he
  have hstart : s.gateEnable g = u.portsStart g := by
    simp only [State.gateEnable, hg, h1, h2, Bool.and_self, Bool.not_true, Bool.false_eq_true, if_false]
    rfl
  refine ⟨?_, fun c hc hd hf => ?_⟩
  · rw [hstart, ← hon]
    simp (disch := omega) only [State.gateEnabled, State.on, headerFields, pageAddrs, u.get_portsStart_off he']
  · have hd' : u.linkState c = linkDown := by
      rw [← hd]; simp (disch := omega) only [State.linkState, linkFields, hu]
    have hclock : u.on (LNK.CLOCK_OK c) = s.on (LNK.CLOCK_OK c) := by
      simp (disch := omega) only [State.on, linkFields, hu]
    have hpres : u.portPresent c = s.portPresent c := by
      simp (disch := omega) only [State.portPresent, State.gateMode, gateFields, hu]
    have hf' : u.portFenced c = false := (State.portFenced_of_get fun _ _ _ ha => hu (by omega)).trans hf
    rw [hstart, u.linkState_portsStart c he' hc, hd']
    refine ⟨fun hok hh hp => if_pos ?_, fun hok => if_neg ?_⟩
    · have hh' : (u.link c).heldDown = false := hh
      simp [State.mayLeave, hd', hclock, hok, hh', hc, hon, hpres, hp, hf']
    · simp [State.mayLeave, hclock, hok]

/-! ### GATE_DISABLE (R115, R116) -/

/-- A port stops with its gate: its test ends, and it is in DOWN with an empty riser. -/
def State.portStop : State := ((s.endTest c).toDown c).emptyRiser c

theorem State.get_portStop_off (ht : a ≠ 0x100114 + 0x1000 * (c / 2)) (hl : a ≠ 0x100108 + 0x1000 * (c / 2) + 4 * (c % 2))
    (hn : a < 0x100204 + 0x1000 * (c / 2) ∨ 0x100284 + 0x1000 * (c / 2) < a) :
    (s.portStop c).get ⟨a, hi, lo⟩ = s.get ⟨a, hi, lo⟩ := by
  rw [State.portStop, State.emptyRiser_get, State.get_toDown_off _ _ (.inl hl) (by omega), State.get_endTest_off _ _ (.inl ht)]

theorem State.link_portStop : ((s.portStop c).link c).riser = [] ∧ ((s.portStop c).link c).test = none := by
  rw [State.portStop, State.emptyRiser, State.link_setLink_same]
  refine ⟨rfl, ?_⟩
  rw [State.toDown_link, State.endTest_link]

theorem State.link_portStop_ne {x : Nat} (h : x ≠ c) : (s.portStop c).link x = s.link x := by
  rw [State.portStop, State.link_emptyRiser_ne _ _ h, State.link_toDown_ne _ _ h, State.link_endTest_ne _ _ h]

theorem State.linkState_portStop (hf : s.portFenced c = false) : (s.portStop c).linkState c = linkDown := by
  have h : ((s.endTest c).toDown c).linkState c = linkDown := by
    refine State.linkState_toDown _ c (Eq.trans ?_ hf)
    exact State.portFenced_of_get fun _ _ _ ha => s.get_endTest_off c (by omega)
  rw [← h, State.portStop, State.linkState, State.emptyRiser_get, State.linkState]

theorem State.portStop_engine (x : Nat) : (s.portStop c).engine x = s.engine x := by
  rw [State.portStop, State.emptyRiser_engine, State.toDown_engine, State.endTest_engine]

/-- Both ports stop: neither has a part in what the other does. -/
theorem State.portStops {g : Nat} (hc : c / 2 = g) :
    (((s.portStop (2 * g)).portStop (2 * g + 1)).link c).riser = [] ∧
      (((s.portStop (2 * g)).portStop (2 * g + 1)).link c).test = none ∧
      (s.portFenced c = false → ((s.portStop (2 * g)).portStop (2 * g + 1)).linkState c = linkDown) := by
  obtain rfl | rfl : c = 2 * g ∨ c = 2 * g + 1 := by omega
  · obtain ⟨hriser, htest⟩ := s.link_portStop (2 * g)
    rw [State.link_portStop_ne _ _ (by omega)]
    refine ⟨hriser, htest, fun hf => (Eq.trans ?_ (s.linkState_portStop _ hf))⟩
    simp (disch := omega) only [State.linkState, linkFields, State.get_portStop_off _ (2 * g + 1)]
  · obtain ⟨hriser, htest⟩ := (s.portStop (2 * g)).link_portStop (2 * g + 1)
    refine ⟨hriser, htest, fun hf => State.linkState_portStop _ _ (Eq.trans ?_ hf)⟩
    exact State.portFenced_of_get fun _ _ _ ha => s.get_portStop_off _ (by omega) (by omega) (by omega)

theorem State.gateDisable_eq {g : Nat} (hg : s.gateEnabled g = true) (hA : s.portEnabled (2 * g) = false)
    (hB : s.portEnabled (2 * g + 1) = false) (hq : (s.engine g).reqs = []) (hr : (s.engine g).reads = []) :
    let t := ((s.put (HDR.CTRL_ENABLE (gatePage g)) 0).portStop (2 * g)).portStop (2 * g + 1)
    s.gateDisable g = t.setGate g { t.gate g with held := none } := by
  let u := s.put (HDR.CTRL_ENABLE (gatePage g)) 0
  have hidle {t : State} {c : Nat} (ht : t.engine g = s.engine g) (hc : c / 2 = g) : t.downCheck c = t :=
    t.downCheck_idle c (by rw [hc, ht, hq]) (by rw [hc, ht, hr])
  have heA : (u.portStop (2 * g)).engine g = s.engine g := by rw [State.portStop_engine, State.put_engine]
  have heB : ((u.portStop (2 * g)).portStop (2 * g + 1)).engine g = s.engine g := by rw [State.portStop_engine, heA]
  have hboth : u.each [2 * g, 2 * g + 1] (fun t c => (((t.endTest c).toDown c).emptyRiser c).downCheck c) =
      (u.portStop (2 * g)).portStop (2 * g + 1) := by
    change ((((u.portStop (2 * g)).downCheck (2 * g))).portStop (2 * g + 1)).downCheck (2 * g + 1) = _
    rw [hidle heA (by omega), hidle heB (by omega)]
  simp only [State.gateDisable, hg, hA, hB, Bool.not_true, Bool.or_self, Bool.false_eq_true, if_false]
  rw [hboth]

/-- A disable clears ENABLE, and both ports stop. -/
theorem State.gateDisable_stops {g : Nat} (hg : s.gateEnabled g = true) (hA : s.portEnabled (2 * g) = false)
    (hB : s.portEnabled (2 * g + 1) = false) (hq : (s.engine g).reqs = []) (hr : (s.engine g).reads = []) :
    (s.gateDisable g).gateEnabled g = false ∧ ∀ c, c / 2 = g →
      ((s.gateDisable g).link c).riser = [] ∧ ((s.gateDisable g).link c).test = none ∧
        (s.portFenced c = false → (s.gateDisable g).linkState c = linkDown) := by
  let u := s.put (HDR.CTRL_ENABLE (gatePage g)) 0
  rw [s.gateDisable_eq hg hA hB hq hr]
  refine ⟨?_, fun c hc => ?_⟩
  · simp (disch := omega) only [State.gateEnabled, State.on, State.setGate_get, headerFields, pageAddrs, State.get_portStop_off,
      State.get_put_at]
    rfl
  · obtain ⟨hriser, htest, hdown⟩ := u.portStops c hc
    refine ⟨hriser, htest, fun hf => hdown (Eq.trans ?_ hf)⟩
    refine State.portFenced_of_get fun _ _ _ ha => ?_
    simp (disch := omega) only [u, headerFields, pageAddrs, State.get_put_off]

end

/-! ### The commands -/

theorem port_of_gate {g c : Nat} (h : c ∈ [2 * g, 2 * g + 1]) : c / 2 = g := by
  simp only [List.mem_cons, List.not_mem_nil, or_false] at h
  omega

/-- A command whose condition holds does what its rule says. -/
theorem next_when {s t : State} {b : Bool} (f : State → State) (hb : b = true) (h : f s = t) :
    (Host.Outcome.next (s.when b f) : Host.Outcome State Fault Refusal) = .next t :=
  congrArg _ ((s.when_true f hb).trans h)

/-- Settles O29, by what a new mode, an enable and a disable of a gate write, for one port beside the other. -/
theorem gateCommandsComplete : Obligations.GateCommandsComplete := by
  refine ⟨fun s g mode split hh hg h3 h0 => ⟨fun hm => ?_, fun hm hq hr => ?_⟩, fun s g hh hg h1 h2 he => ?_,
    fun s g hh hg hA hB hq hr => ?_⟩
  · exact next_when _ hh (s.writeGateCfg_sameMode hg h3 h0 hm)
  · obtain ⟨hmode, hsplit, hA, hB, hrole, hports⟩ := s.writeGateCfg_entersMode hg (by omega) h0 split.isLt hm hq hr
    exact ⟨_, next_when _ hh rfl, hmode, hsplit, hA, hB, hrole,
      fun c hc => hports c (port_of_gate hc)⟩
  · obtain ⟨hon, hports⟩ := s.gateEnable_starts hg h1 h2 he
    exact ⟨_, next_when _ hh rfl, hon, fun c hc => hports c (port_of_gate hc)⟩
  · obtain ⟨hoff, hports⟩ := s.gateDisable_stops hg hA hB hq hr
    exact ⟨_, next_when _ hh rfl, hoff, fun c hc => hports c (port_of_gate hc)⟩

end Sys2Proof.Machine
end

section
/-!
PROOFS. The enable and the disable of a camera port, the HBM limit and window commits (R116, R129, R136, R141, R154, R187, R192,
R233; O30).
-/

namespace Sys2Proof.Machine

/-! ### Fields -/

/-- Fields of a port's page that these commands touch. -/
theorem portCommandFields (c : Nat) :
    HDR.CTRL_ENABLE (camPage c) = ⟨0x800008 + 0x4000 * c, 0, 0⟩ ∧
    CAM.ADM_VEC c = ⟨0x800110 + 0x4000 * c, 31, 0⟩ ∧
    CAM.ADM_HBM c = ⟨0x800114 + 0x4000 * c, 31, 0⟩ ∧
    CAM.NR_STATUS_SUPPRESSED c = ⟨0x800224 + 0x4000 * c, 12, 12⟩ ∧
    CAM.NR_STATUS_HOLDING c = ⟨0x800224 + 0x4000 * c, 0, 0⟩ ∧
    CAM.WIN_STATUS_ACTIVE_COUNT c = ⟨0x800704 + 0x4000 * c, 22, 16⟩ ∧
    CAM.WIN_STATUS_PENDING c = ⟨0x800704 + 0x4000 * c, 0, 0⟩ ∧
    CAM.SCHED_CFG_EN c = ⟨0x800800 + 0x4000 * c, 31, 31⟩ ∧
    CAM.SHOT_STATUS_SYNC c = ⟨0x800828 + 0x4000 * c, 0, 0⟩ := by
  simp only [HDR.CTRL_ENABLE, CAM.ADM_VEC, CAM.ADM_HBM, CAM.NR_STATUS_SUPPRESSED, CAM.NR_STATUS_HOLDING,
    CAM.WIN_STATUS_ACTIVE_COUNT, CAM.WIN_STATUS_PENDING, CAM.SCHED_CFG_EN, CAM.SHOT_STATUS_SYNC, camPage, Fld.mk.injEq, and_true]
  omega

/-- The sums of demand that a slice and a seam show (R129, R141, R142). -/
theorem demandFields (x : Nat) :
    SLICE.ADM_LOAD x = ⟨0x200100 + 0x1000 * x, 31, 0⟩ ∧ SLICE.ADM_WIN x = ⟨0x200104 + 0x1000 * x, 31, 0⟩ ∧
    SEAM.ADM_VEC x = ⟨0x700140 + 0x4000 * x, 31, 0⟩ ∧ SEAM.ADM_HBM x = ⟨0x700144 + 0x4000 * x, 31, 0⟩ := by
  simp only [SLICE.ADM_LOAD, SLICE.ADM_WIN, SEAM.ADM_VEC, SEAM.ADM_HBM, slicePage, seamPage, Fld.mk.injEq, and_true]
  omega

theorem hbmTotalField : DEV.ADM_HBM_TOTAL = ⟨0x184, 31, 0⟩ := by decide

section

variable (s : State) (c : Nat) {a hi lo : Nat}

/-! ### Booking (R129, R137, R141) -/

/-- The total and the port's own registers, with the demand of port c booked. -/
def State.portBooked (d : Demand) : State :=
  ((s.put DEV.ADM_HBM_TOTAL (s.totalWith d c)).put (CAM.ADM_VEC c) (if d.on c then s.camVec c else 0)).put (CAM.ADM_HBM c)
    (if d.on c then s.portHbm c (d.wins c) else 0)

/-- The sums of the slice and of the seams stand below the pages of the ports. -/
theorem State.get_book (d : Demand) (hc : c < 256) (ha : 0x800000 ≤ a) :
    (s.book d c).get ⟨a, hi, lo⟩ = (s.portBooked c d).get ⟨a, hi, lo⟩ := by
  simp only [State.book]
  rw [State.each_eq (p := fun t => t.get ⟨a, hi, lo⟩)]
  · simp (disch := omega) only [demandFields, State.get_put_off]
    rfl
  · intro t u hu
    have hu4 : u < 4 := List.mem_range.mp (List.mem_filter.mp hu).1
    simp (disch := omega) only [demandFields, State.get_put_off]

theorem State.get_book_off (d : Demand) (hc : c < 256) (ha : 0x800000 ≤ a) (hv : a ≠ 0x800110 + 0x4000 * c)
    (hh : a ≠ 0x800114 + 0x4000 * c) : (s.book d c).get ⟨a, hi, lo⟩ = s.get ⟨a, hi, lo⟩ := by
  rw [s.get_book c d hc ha]
  simp (disch := omega) only [State.portBooked, hbmTotalField, portCommandFields, State.get_put_off]

theorem State.booked_book (d : Demand) (hc : c < 256) :
    (s.book d c).get (CAM.ADM_VEC c) = (if d.on c then s.camVec c else 0) % 2 ^ 32 ∧
      (s.book d c).get (CAM.ADM_HBM c) = (if d.on c then s.portHbm c (d.wins c) else 0) % 2 ^ 32 := by
  simp only [portCommandFields]
  rw [s.get_book c d hc (by omega), s.get_book c d hc (by omega)]
  simp (disch := omega) only [State.portBooked, portCommandFields, State.get_put_off, State.get_put_at, and_self]

@[simp] theorem State.book_cam (d : Demand) (x : Nat) : (s.book d c).cam x = s.cam x :=
  State.book_keeps (cam_ignores x rfl) s d c

@[simp] theorem State.book_link (d : Demand) (x : Nat) : (s.book d c).link x = s.link x :=
  State.book_keeps (link_ignores x rfl) s d c

@[simp] theorem State.emptyRiser_cam (x : Nat) : (s.emptyRiser c).cam x = s.cam x :=
  State.emptyRiser_keeps (cam_ignores x rfl) s c

/-! ### CAM_ENABLE (R116, R129, R136, R154) -/

theorem State.camEnable_refused {code : Nat} (he : s.portEnabled c = false) (h : s.camRefusal c = some code) :
    s.camEnable c = s.refuse (camPage c) code := by
  simp only [State.camEnable, he, h, Bool.false_eq_true, if_false]

theorem State.camRefusal_absent (hp : s.portPresent c = false) : s.camRefusal c = some 0x21 := by
  simp [State.camRefusal, hp]

theorem State.camRefusal_gateOff (hp : s.portPresent c = true) (hg : s.gateEnabled (c / 2) = false) :
    s.camRefusal c = some 0x4E := by
  simp [State.camRefusal, hp, hg]

/-- The registers of an enabled port. -/
def State.camBegun : State :=
  ((s.book (s.candidate c) c).put (HDR.CTRL_ENABLE (camPage c)) 1).putB (CAM.NR_STATUS_SUPPRESSED c) (s.refTooLarge c)

theorem State.camEnable_accepted (he : s.portEnabled c = false) (h : s.camRefusal c = none) :
    s.camEnable c = ((s.camBegun c).emptyRiser c).setCam c
      { (s.camBegun c).cam c with first := true, resetDue := false, holdOver := false } := by
  simp only [State.camEnable, he, h, Bool.false_eq_true, if_false, State.camBegun]
  rw [State.emptyRiser_cam]

theorem State.candidate_on : (s.candidate c).on c = true ∧ (s.candidate c).wins c = (s.cam c).wins :=
  ⟨if_pos rfl, if_pos rfl⟩

theorem State.registers_camBegun (hc : c < 256) :
    (s.camBegun c).portEnabled c = true ∧ (s.camBegun c).get (CAM.ADM_VEC c) = s.camVec c % 2 ^ 32 ∧
      (s.camBegun c).get (CAM.ADM_HBM c) = s.portHbm c (s.cam c).wins % 2 ^ 32 ∧
      (s.camBegun c).on (CAM.NR_STATUS_SUPPRESSED c) = s.refTooLarge c := by
  obtain ⟨hon, hwins⟩ := s.candidate_on c
  obtain ⟨hvec, hhbm⟩ := s.booked_book c (s.candidate c) hc
  rw [hon, if_pos rfl] at hvec hhbm
  rw [hwins] at hhbm
  simp only [portCommandFields] at hvec hhbm
  simp (disch := omega) only [State.camBegun, State.portEnabled, State.on, State.putB, portCommandFields, State.get_put_off,
    State.get_put_at, hvec, hhbm]
  cases s.refTooLarge c <;> decide

/-- An enable whose tests pass. -/
theorem State.camEnable_enables (hc : c < 256) (he : s.portEnabled c = false) (h : s.camRefusal c = none) :
    (s.camEnable c).portEnabled c = true ∧ ((s.camEnable c).link c).riser = [] ∧ ((s.camEnable c).link c).used = 0 ∧
      ((s.camEnable c).cam c).first = true ∧ (s.camEnable c).get (CAM.ADM_VEC c) = s.camVec c % 2 ^ 32 ∧
      (s.camEnable c).get (CAM.ADM_HBM c) = s.portHbm c (s.cam c).wins % 2 ^ 32 ∧
      (s.camEnable c).on (CAM.NR_STATUS_SUPPRESSED c) = s.refTooLarge c := by
  obtain ⟨hon, hvec, hhbm, hsup⟩ := s.registers_camBegun c hc
  obtain ⟨hriser, hused⟩ := (s.camBegun c).emptyRiser_link c
  have hget (f : Fld) : (s.camEnable c).get f = (s.camBegun c).get f := by
    rw [s.camEnable_accepted c he h, State.setCam_get, State.emptyRiser_get]
  have hlink : (s.camEnable c).link c = ((s.camBegun c).emptyRiser c).link c := by
    rw [s.camEnable_accepted c he h, State.setCam_link]
  rw [State.portEnabled, State.on, State.on, hget, hget, hget, hget, hlink]
  exact ⟨hon, hriser, hused, by rw [s.camEnable_accepted c he h, State.cam_setCam_same], hvec, hhbm, hsup⟩

/-! ### CAM_DISABLE (R129, R192, R233) -/

theorem State.get_applyWindows_off (ha : a < 0xFF8000) (hw : a ≠ 0x800704 + 0x4000 * c)
    (hi' : a ≠ 0x800020 + 0x4000 * c) : (s.applyWindows c).get ⟨a, hi, lo⟩ = s.get ⟨a, hi, lo⟩ := by
  unfold State.applyWindows
  split
  · rfl
  · rw [State.get_raise_off _ _ _ (by simp only [camPage]; omega) ha]
    simp (disch := omega) only [portCommandFields, State.get_put_off, State.setCam_get]

theorem State.get_schedClear_off (hs : a ≠ 0x800800 + 0x4000 * c) (hy : a ≠ 0x800828 + 0x4000 * c) :
    (s.schedClear c).get ⟨a, hi, lo⟩ = s.get ⟨a, hi, lo⟩ := by
  simp (disch := omega) only [State.schedClear, State.setSched, State.setCam_get, portCommandFields, State.get_put_off]

theorem State.schedOn_schedClear : (s.schedClear c).schedOn c = false := by
  simp (disch := omega) only [State.schedOn, State.on, State.schedClear, State.setSched, State.setCam_get, portCommandFields,
    State.get_put_off, State.get_put_at]
  rfl

theorem State.holding_cutFrame : (s.cutFrame c).on (CAM.NR_STATUS_HOLDING c) = false := by
  simp (disch := omega) only [State.cutFrame, State.endHold, State.on, State.setCam_get, portCommandFields, State.get_put_at]
  rfl

/-- A port that is cut: its frame, its riser and its schedule, with the window set that was pending (R129, R192, R233). -/
def State.camCut : State := ((((s.cutFrame c).dropRiser c).emptyRiser c).applyWindows c).schedClear c

/-- The demand without port c. -/
def State.demandWithout : Demand := s.demand.withPort c false []

theorem State.camDisable_eq (he : s.portEnabled c = true) :
    s.camDisable c = ((s.camCut c).book ((s.camCut c).demandWithout c) c).put (HDR.CTRL_ENABLE (camPage c)) 0 := by
  simp only [State.camDisable, he, Bool.not_true, Bool.false_eq_true, if_false, State.camCut, State.demandWithout]

theorem State.camCut_link : ((s.camCut c).link c).riser = [] := by
  rw [State.camCut, State.schedClear_keeps (link_ignores c rfl), State.applyWindows_keeps (link_ignores c rfl)]
  exact (State.emptyRiser_link _ c).1

theorem State.registers_camCut (hc : c < 256) :
    (s.camCut c).schedOn c = false ∧ (s.camCut c).on (CAM.NR_STATUS_HOLDING c) = false := by
  refine ⟨State.schedOn_schedClear _ c, ?_⟩
  rw [← s.holding_cutFrame c]
  simp (disch := omega) only [State.camCut, State.on, portCommandFields, State.get_schedClear_off, State.get_applyWindows_off,
    State.emptyRiser_get, State.get_dropRiser_off]

/-- A disable of an enabled port. -/
theorem State.camDisable_disables (hc : c < 256) (he : s.portEnabled c = true) :
    (s.camDisable c).portEnabled c = false ∧ ((s.camDisable c).link c).riser = [] ∧
      (s.camDisable c).get (CAM.ADM_VEC c) = 0 ∧ (s.camDisable c).get (CAM.ADM_HBM c) = 0 ∧
      (s.camDisable c).schedOn c = false ∧ (s.camDisable c).on (CAM.NR_STATUS_HOLDING c) = false := by
  let u := s.camCut c
  obtain ⟨hsched, hhold⟩ := s.registers_camCut c hc
  obtain ⟨hvec, hhbm⟩ := u.booked_book c (u.demandWithout c) hc
  have hoff : (u.demandWithout c).on c = false := if_pos rfl
  rw [hoff, if_neg Bool.false_ne_true] at hvec hhbm
  simp only [State.schedOn, State.on, portCommandFields] at hsched hhold hvec hhbm
  rw [s.camDisable_eq c he]
  refine ⟨?_, ?_, ?_, ?_, ?_, ?_⟩
  · simp (disch := omega) only [State.portEnabled, State.on, portCommandFields, State.get_put_at]
    rfl
  · rw [State.put_link, State.book_link, State.camCut_link]
  · simp (disch := omega) only [portCommandFields, State.get_put_off]
    exact hvec
  · simp (disch := omega) only [portCommandFields, State.get_put_off]
    exact hhbm
  · simp (disch := omega) only [State.schedOn, State.on, portCommandFields, State.get_put_off, State.get_book_off _ _ _ hc, hsched]
  · simp (disch := omega) only [State.on, portCommandFields, State.get_put_off, State.get_book_off _ _ _ hc, hhold]

/-! ### ADM_HBM_LIMIT_WRITE (R136) -/

theorem State.writeHbmLimit_eq (v : Nat) :
    (3200000 < v → s.writeHbmLimit v = s.refuse devPage 0x4D) ∧
    (v ≤ 3200000 → v < s.get DEV.ADM_HBM_TOTAL → s.writeHbmLimit v = s.refuse devPage 0x42) ∧
    (v ≤ 3200000 → s.get DEV.ADM_HBM_TOTAL ≤ v → s.writeHbmLimit v = s.put DEV.ADM_HBM_LIMIT v) := by
  refine ⟨fun h => if_pos h, fun h hlt => ?_, fun h hle => ?_⟩
  · rw [State.writeHbmLimit, if_neg h.not_gt, if_pos hlt]
  · rw [State.writeHbmLimit, if_neg h.not_gt, if_neg hle.not_gt]

/-! ### WIN_COMMIT (R187, R192) -/

theorem State.winCommit_refused {code : Nat} (h : s.commitRefusal c = some code) :
    s.winCommit c = s.refuse (camPage c) code := by
  simp only [State.winCommit, h]

theorem State.commitRefusal_pending (h : s.on (CAM.WIN_STATUS_PENDING c) = true) : s.commitRefusal c = some 0x51 := by
  simp only [State.commitRefusal, h, if_true]

theorem State.commitRefusal_invalid (h : s.on (CAM.WIN_STATUS_PENDING c) = false) {v : Win} (hv : v ∈ s.staged c)
    (hbad : v.valid (s.portW c) (s.portH c) (s.get (CAM.FMT_CFG_PIXEL_FORMAT c)) = false) : s.commitRefusal c = some 0x52 := by
  have hall : (s.staged c).all (fun v => v.valid (s.portW c) (s.portH c) (s.get (CAM.FMT_CFG_PIXEL_FORMAT c))) = false :=
    List.all_eq_false.mpr ⟨v, hv, by rw [hbad]; exact Bool.false_ne_true⟩
  simp only [State.commitRefusal, h, hall, Bool.false_eq_true, if_false, Bool.not_false, if_true]

/-- On a disabled port the staging set becomes active at once. -/
theorem State.winCommit_atOnce (h : s.commitRefusal c = none) (he : s.portEnabled c = false) :
    s.winCommit c = (s.setCam c { s.cam c with wins := s.staged c }).put (CAM.WIN_STATUS_ACTIVE_COUNT c) (s.staged c).length := by
  simp only [State.winCommit, h, he, Bool.false_eq_true, if_false]

/-- On an enabled port the staging set waits for the next FS. -/
theorem State.winCommit_waits (h : s.commitRefusal c = none) (he : s.portEnabled c = true) :
    ((s.winCommit c).cam c).pendWins = some (s.staged c) ∧ ((s.winCommit c).cam c).wins = (s.cam c).wins ∧
      (s.winCommit c).on (CAM.WIN_STATUS_PENDING c) = true := by
  let u := s.book (s.demand.withPort c true (s.staged c)) c
  have hwait : s.winCommit c = (u.setCam c { u.cam c with pendWins := some (s.staged c) }).put (CAM.WIN_STATUS_PENDING c) 1 := by
    simp only [State.winCommit, h, he, if_true, u]
  rw [hwait]
  refine ⟨?_, ?_, ?_⟩
  · rw [State.put_cam, State.cam_setCam_same]
  · rw [State.put_cam, State.cam_setCam_same, State.book_cam]
  · simp (disch := omega) only [State.on, portCommandFields, State.get_put_at]
    rfl

end

/-- Settles O30, by what an enable, a disable, a limit and a commit write, each on its accepted and its refused paths. -/
theorem portCommandsComplete : Obligations.PortCommandsComplete := by
  refine ⟨fun s c hh he => ⟨fun h => ?_, fun hp => ?_, fun hp hg => ?_, fun code h => ?_⟩,
    fun s c hh => ⟨fun he => ?_, fun he => ?_⟩, fun s v hh => ?_, fun s c hh => ⟨fun hp => ?_, fun hp hv => ?_, fun h he => ?_,
    fun h he => ?_⟩⟩
  · exact ⟨_, next_when _ hh rfl, s.camEnable_enables c c.isLt he h⟩
  · exact next_when _ hh (s.camEnable_refused c he (s.camRefusal_absent c hp))
  · exact next_when _ hh (s.camEnable_refused c he (s.camRefusal_gateOff c hp hg))
  · exact next_when _ hh (s.camEnable_refused c he h)
  · exact ⟨_, next_when _ hh rfl, s.camDisable_disables c c.isLt he⟩
  · exact next_when _ hh (by simp only [State.camDisable, he, Bool.not_false, if_true])
  · obtain ⟨hbig, hlow, hput⟩ := s.writeHbmLimit_eq v.toNat
    exact ⟨fun h => next_when _ hh (hbig h), fun h hlt => next_when _ hh (hlow h hlt), fun h hle => next_when _ hh (hput h hle)⟩
  · exact next_when _ hh (s.winCommit_refused c (s.commitRefusal_pending c hp))
  · obtain ⟨v, hmem, hbad⟩ := hv
    exact next_when _ hh (s.winCommit_refused c (s.commitRefusal_invalid c hp hmem hbad))
  · exact next_when _ hh (s.winCommit_atOnce c h he)
  · exact ⟨_, next_when _ hh rfl, s.winCommit_waits c h he⟩

end Sys2Proof.Machine
end

section
/-!
PROOFS. The enable and the disable of seam and mould units (R129, R134 to R136, R203, R210, R217, R218; O36).
-/

namespace Sys2Proof.Machine

/-! ### Fields -/

/-- Fields of a seam's page that these commands touch. -/
theorem seamFields (u : Nat) :
    HDR.CTRL_ENABLE (seamPage u) = ⟨0x700008 + 0x4000 * u, 0, 0⟩ ∧ SEAM.SEAM_LINE u = ⟨0x700118 + 0x4000 * u, 31, 0⟩ := by
  simp only [HDR.CTRL_ENABLE, SEAM.SEAM_LINE, seamPage, Fld.mk.injEq, and_true]
  omega

/-- Fields of a mould's page that these commands touch. -/
theorem mouldFields (m : Nat) :
    HDR.CTRL_ENABLE (mouldPage m) = ⟨0x710008 + 0x4000 * m, 0, 0⟩ ∧ MOULD.STALE_LO m = ⟨0x71012C + 0x4000 * m, 31, 0⟩ ∧
    MOULD.STALE_HI m = ⟨0x710130 + 0x4000 * m, 31, 0⟩ ∧ MOULD.NOFIT_LO m = ⟨0x710134 + 0x4000 * m, 31, 0⟩ ∧
    MOULD.NOFIT_HI m = ⟨0x710138 + 0x4000 * m, 31, 0⟩ ∧ MOULD.ADM_HBM m = ⟨0x71014C + 0x4000 * m, 31, 0⟩ := by
  simp only [HDR.CTRL_ENABLE, MOULD.STALE_LO, MOULD.STALE_HI, MOULD.NOFIT_LO, MOULD.NOFIT_HI, MOULD.ADM_HBM, mouldPage,
    Fld.mk.injEq, and_true]
  omega

@[simp] theorem State.seam_setSeam_same (s : State) (u : Nat) (v : SeamSt) : (s.setSeam u v).seam u = v := tget_tput_same ..

@[simp] theorem State.mould_setMould_same (s : State) (m : Nat) (v : MouldSt) : (s.setMould m v).mould m = v :=
  tget_tput_same ..

/-! ### Seam units (R134, R203, R210) -/

section

variable (s : State) (u : Nat)

theorem State.seamEnable_on (h : s.on (HDR.CTRL_ENABLE (seamPage u)) = true) : s.seamEnable u = s := if_pos h

theorem State.seamEnable_refused {code : Nat} (h : s.on (HDR.CTRL_ENABLE (seamPage u)) = false)
    (hr : s.seamRefusal u = some code) : s.seamEnable u = s.refuse (seamPage u) code := by
  simp only [State.seamEnable, h, hr, Bool.false_eq_true, if_false]

theorem State.seamDisable_off (h : s.on (HDR.CTRL_ENABLE (seamPage u)) = false) : s.seamDisable u = s := by
  simp only [State.seamDisable, h, Bool.not_false, if_true]

/-- The demand of seam u is booked. -/
def State.seamBooked : State :=
  ((s.put (SEAM.ADM_VEC u) (s.seamVec s.demand u)).put (SEAM.ADM_HBM u) (s.seamHbm s.demand u)).put DEV.ADM_HBM_TOTAL
    (s.get DEV.ADM_HBM_TOTAL + s.seamHbm s.demand u)

theorem State.seamEnable_accepted (h : s.on (HDR.CTRL_ENABLE (seamPage u)) = false) (hr : s.seamRefusal u = none) :
    s.seamEnable u = ((s.seamBooked u).put (HDR.CTRL_ENABLE (seamPage u)) 1).seamStart u := by
  simp only [State.seamEnable, h, hr, Bool.false_eq_true, if_false, State.seamBooked]

/-- An enable whose tests pass: the demand is booked and the store is empty. -/
theorem State.seamEnable_enables (h : s.on (HDR.CTRL_ENABLE (seamPage u)) = false) (hr : s.seamRefusal u = none) :
    let t := s.seamEnable u
    t.on (HDR.CTRL_ENABLE (seamPage u)) = true ∧ t.get (SEAM.ADM_VEC u) = s.seamVec s.demand u % 2 ^ 32 ∧
      t.get (SEAM.ADM_HBM u) = s.seamHbm s.demand u % 2 ^ 32 ∧
      t.get DEV.ADM_HBM_TOTAL = (s.get DEV.ADM_HBM_TOTAL + s.seamHbm s.demand u) % 2 ^ 32 ∧ t.get (SEAM.SEAM_LINE u) = 0 ∧
      (t.seam u).store = [] := by
  rw [s.seamEnable_accepted u h hr]
  simp (disch := omega) only [State.seamStart, State.seam_setSeam_same, State.setSeam_get, State.seamBooked, State.on, seamFields,
    demandFields, hbmTotalField, State.get_put_off, State.get_put_at, true_and, and_true]
  exact ⟨rfl, rfl⟩

/-- A disable: the demand is taken back. -/
theorem State.seamDisable_disables (h : s.on (HDR.CTRL_ENABLE (seamPage u)) = true) :
    let t := s.seamDisable u
    t.on (HDR.CTRL_ENABLE (seamPage u)) = false ∧ t.get (SEAM.ADM_VEC u) = 0 ∧ t.get (SEAM.ADM_HBM u) = 0 := by
  simp only [State.seamDisable, h, Bool.not_true, Bool.false_eq_true, if_false]
  simp (disch := omega) only [State.on, seamFields, demandFields, State.get_put_off, State.get_put_at]
  exact ⟨rfl, rfl, rfl⟩

end

/-! ### Mould units (R135, R217, R218) -/

section

variable (s : State) (m : Nat) {a hi lo : Nat}

theorem State.mouldEnable_on (h : s.on (HDR.CTRL_ENABLE (mouldPage m)) = true) : s.mouldEnable m = s := if_pos h

theorem State.mouldEnable_refused {code : Nat} (h : s.on (HDR.CTRL_ENABLE (mouldPage m)) = false)
    (hr : s.mouldRefusal m = some code) : s.mouldEnable m = s.refuse (mouldPage m) code := by
  simp only [State.mouldEnable, h, hr, Bool.false_eq_true, if_false]

theorem State.mouldDisable_off (h : s.on (HDR.CTRL_ENABLE (mouldPage m)) = false) : s.mouldDisable m = s := by
  simp only [State.mouldDisable, h, Bool.not_false, if_true]

/-- Tiles get their slots in ascending order, and a tile that does not fit is reported (R218): what neither changes stands at
the end. -/
theorem State.allocTiles_eq {β : Type} {p : State → β} (hslot : ∀ t n x, p (t.setTile m n x) = p t)
    (hnofit : ∀ t n, p ((t.putBit (tileBit (MOULD.NOFIT_LO m) (MOULD.NOFIT_HI m) n) (n % 32) true).raise (mouldPage m) 3) = p t)
    (l : List Nat) (off : Nat) : p (s.allocTiles m l off) = p s := by
  induction l generalizing s off with
  | nil => rfl
  | cons t rest ih =>
    simp only [State.allocTiles]
    split_ifs
    · exact ih s off
    · exact (ih _ _).trans (hslot ..)
    · exact (ih _ _).trans (hnofit ..)

theorem State.get_allocTiles_off (l : List Nat) (off : Nat) (hpba : a < 0xFF8000) (hirq : a ≠ 0x710020 + 0x4000 * m)
    (hlo : a ≠ 0x710134 + 0x4000 * m) (hhi : a ≠ 0x710138 + 0x4000 * m) :
    (s.allocTiles m l off).get ⟨a, hi, lo⟩ = s.get ⟨a, hi, lo⟩ := by
  refine s.allocTiles_eq m (p := fun t => t.get ⟨a, hi, lo⟩) (fun _ _ _ => rfl) (fun t n => ?_) l off
  have hbit : a ≠ (tileBit (MOULD.NOFIT_LO m) (MOULD.NOFIT_HI m) n).addr := by
    rw [tileBit]
    split_ifs <;> simp only [mouldFields] <;> omega
  rw [State.get_raise_off _ _ _ (by simp only [mouldPage]; omega) hpba, State.putBit, State.get_put_addr _ _ _ _ hbit]

theorem mould_ignores (x : Nat) {l : List Part} (h : l.contains .moulds = false) : Ignores (fun s => s.mould x) l := by
  intro s t k
  have hm : t.moulds = s.moulds := k .moulds (by simpa using h)
  simp only [State.mould, hm]

/-- Of what the unit holds the tiles alone change. -/
theorem State.allocTiles_mould (l : List Nat) (off : Nat) :
    ((s.allocTiles m l off).mould m).n = (s.mould m).n ∧ ((s.allocTiles m l off).mould m).reading = (s.mould m).reading := by
  refine Prod.ext_iff.mp (s.allocTiles_eq m (p := fun t => ((t.mould m).n, (t.mould m).reading)) (fun t n x => ?_)
    (fun t n => ?_) l off)
  · rw [State.setTile, State.mould_setMould_same]
  · rw [State.raise_keeps (mould_ignores m rfl), State.putBit_mould]

/-- The demand of mould m is booked. -/
def State.mouldBooked : State :=
  (s.put (MOULD.ADM_HBM m) (s.mouldHbm m)).put DEV.ADM_HBM_TOTAL (s.get DEV.ADM_HBM_TOTAL + s.mouldHbm m)

theorem State.mouldEnable_accepted (h : s.on (HDR.CTRL_ENABLE (mouldPage m)) = false) (hr : s.mouldRefusal m = none) :
    s.mouldEnable m = ((s.mouldBooked m).put (HDR.CTRL_ENABLE (mouldPage m)) 1).mouldStart m := by
  simp only [State.mouldEnable, h, hr, Bool.false_eq_true, if_false, State.mouldBooked]

/-- A start writes the masks NOFIT and STALE and the events of its page. -/
theorem State.get_mouldStart_off (hpba : a < 0xFF8000) (hirq : a ≠ 0x710020 + 0x4000 * m)
    (hmask : a < 0x71012C + 0x4000 * m ∨ 0x710138 + 0x4000 * m < a) :
    (s.mouldStart m).get ⟨a, hi, lo⟩ = s.get ⟨a, hi, lo⟩ := by
  rw [State.mouldStart, State.get_allocTiles_off _ _ _ _ hpba hirq (by omega) (by omega)]
  simp (disch := omega) only [State.setMould_get, mouldFields, State.get_put_off]

theorem State.mouldStart_mould : ((s.mouldStart m).mould m).n = 0 ∧ ((s.mouldStart m).mould m).reading = none := by
  obtain ⟨hn, hr⟩ := State.allocTiles_mould
    (((((s.put (MOULD.NOFIT_LO m) 0).put (MOULD.NOFIT_HI m) 0).put (MOULD.STALE_LO m) 0).put (MOULD.STALE_HI m) 0).setMould m
      { t0 := s.mouldT0 }) m (List.range 64) 0
  rw [State.mouldStart, hn, hr, State.mould_setMould_same]
  exact ⟨rfl, rfl⟩

/-- An enable whose tests pass: the demand is booked and readout starts with frame 0. -/
theorem State.mouldEnable_enables (hm : m < 8) (h : s.on (HDR.CTRL_ENABLE (mouldPage m)) = false)
    (hr : s.mouldRefusal m = none) :
    let t := s.mouldEnable m
    t.on (HDR.CTRL_ENABLE (mouldPage m)) = true ∧ t.get (MOULD.ADM_HBM m) = s.mouldHbm m % 2 ^ 32 ∧
      t.get DEV.ADM_HBM_TOTAL = (s.get DEV.ADM_HBM_TOTAL + s.mouldHbm m) % 2 ^ 32 ∧ (t.mould m).n = 0 ∧
      (t.mould m).reading = none := by
  rw [s.mouldEnable_accepted m h hr]
  simp (disch := omega) only [State.on, mouldFields, hbmTotalField, State.get_mouldStart_off, State.mouldStart_mould,
    State.mouldBooked, State.get_put_off, State.get_put_at, and_true]
  exact rfl

/-- A disable: the demand is taken back. -/
theorem State.mouldDisable_disables (h : s.on (HDR.CTRL_ENABLE (mouldPage m)) = true) :
    (s.mouldDisable m).on (HDR.CTRL_ENABLE (mouldPage m)) = false ∧ (s.mouldDisable m).get (MOULD.ADM_HBM m) = 0 := by
  simp only [State.mouldDisable, h, Bool.not_true, Bool.false_eq_true, if_false]
  simp (disch := omega) only [State.on, mouldFields, State.get_put_off, State.get_put_at]
  exact ⟨rfl, rfl⟩

end

/-- Settles O36, by what an enable books and starts and a disable takes back, for a seam and for a mould. -/
theorem unitEnableCommandsComplete : Obligations.UnitEnableCommandsComplete := by
  refine ⟨fun s u hh => ⟨fun h hr => ?_, fun code h hr => ?_, fun h => ⟨?_, ?_⟩, fun h => ?_⟩,
    fun s m hh => ⟨fun h hr => ?_, fun code h hr => ?_, fun h => ⟨?_, ?_⟩, fun h => ?_⟩⟩
  · exact ⟨_, next_when _ hh rfl, s.seamEnable_enables u h hr⟩
  · exact next_when _ hh (s.seamEnable_refused u h hr)
  · exact next_when _ hh (s.seamEnable_on u h)
  · exact ⟨_, next_when _ hh rfl, s.seamDisable_disables u h⟩
  · exact next_when _ hh (s.seamDisable_off u h)
  · exact ⟨_, next_when _ hh rfl, s.mouldEnable_enables m m.isLt h hr⟩
  · exact next_when _ hh (s.mouldEnable_refused m h hr)
  · exact next_when _ hh (s.mouldEnable_on m h)
  · exact ⟨_, next_when _ hh rfl, s.mouldDisable_disables m h⟩
  · exact next_when _ hh (s.mouldDisable_off m h)

end Sys2Proof.Machine
end

section
/-!
PROOFS. What the report of an uncorrectable HBM read reaches (R163, R210, R353 to R361, R371): registers of the DEV, LADLE, POUR
and HBM pages and pending bits, and no register or unit beside them.
-/

namespace Sys2Proof.Machine

/-- The registers that the report of an uncorrectable HBM read may write: those of the DEV, LADLE, POUR and HBM pages and the
pending bits. -/
def reportWrites (a : Nat) : Prop :=
  a < 0x1000 ∨ (0x300000 ≤ a ∧ a < 0x310000) ∨ (0x600000 ≤ a ∧ a < 0x601000) ∨ (0x740000 ≤ a ∧ a < 0x750000) ∨ 0xFF8000 ≤ a

/-- A function of the state that the report of an uncorrectable HBM read leaves: it depends on no part that the report changes,
and on no register that it writes. -/
structure Unreported {β : Type} (p : State → β) : Prop where
  parts : Ignores p [.supply, .cfg, .engines, .strobes, .banks, .faults, .smb, .fresh, .out]
  put : ∀ (t : State) (f : Fld) (v : Nat), reportWrites f.addr → p (t.put f v) = p t

theorem cam_unreported (c : Nat) : Unreported (fun s => s.cam c) :=
  ⟨cam_ignores c rfl, fun t f v _ => State.put_keeps (cam_ignores c rfl) t f v⟩

theorem get_unreported {a hi lo : Nat} (h : ¬ reportWrites a) : Unreported (fun s => s.get ⟨a, hi, lo⟩) :=
  ⟨get_ignores _ rfl, fun t f v hf => t.get_put_addr f ⟨a, hi, lo⟩ v fun (e : a = f.addr) => h (e ▸ hf)⟩

theorem channelOf_lt (a : Nat) : channelOf a < 128 := Nat.mod_lt _ (by decide)

theorem reportWrites_hbmPage {h o : Nat} (hh : h < 4) (ho : o < 0x1000) : reportWrites (hbmPage h + o) := by
  simp only [hbmPage, reportWrites]; omega

theorem reportWrites_ladlePage {b o : Nat} (hb : b < 16) (ho : o < 0x1000) : reportWrites (ladlePage b + o) := by
  simp only [ladlePage, reportWrites]; omega

/-! ### The stages of quench (R371, R372) -/

/-- What quench ends: strobes, the host's reads, trigger pairs and grants. -/
def State.quenchStops (s : State) : State :=
  let t := s.endStrobes
  let held : List HostRead := (t.engines.map (fun (x : Nat × EngineSt) => x.2.reads)).flatten
  let t := t.each held (fun t r => t.emit (.completion r.id false ((r.addrs.filterMap id).map (fun _ => 0xFF))))
  { t with engines := (t.engines.map (fun (x : Nat × EngineSt) =>
    (x.1, { x.2 with pairs := [], reads := [], grant := none }))).filter (fun x => x.2 != ({} : EngineSt)) }

/-- The registers that quench writes. -/
def State.quenchRecord (s : State) (cause page bit detail : Nat) (injected : Bool) : State :=
  let t := (s.put DEV.QUENCH_STATUS_QUENCHED 1).putB DEV.QUENCH_STATUS_INJECTED injected
  let t := (t.put DEV.QUENCH_STATUS_CAUSE cause).put DEV.QUENCH_STATUS_PAGE (page / 4096)
  let t := (t.put DEV.QUENCH_STATUS_BIT bit).put64 DEV.QUENCH_TIME_LO DEV.QUENCH_TIME_HI t.now
  let t := (t.put DEV.QUENCH_DETAIL detail).put POUR.POUR_STATUS_STOPPED 1
  t.each (List.range 4) (fun t h => t.put (HBM.HBM_PWR_STATUS h) 0xFFFFFFFF)

/-- How quench shows on the host link and to the SMBus: `before`, the alert conditions that were live. -/
def State.quenchReport (s : State) (before : Nat) : State :=
  let d := s.draw
  let d1 := d.2.draw
  let d2 := d1.2.draw
  let d3 := d2.2.draw
  let t := { d3.2 with cfg := { d3.2.cfg with aerUncor := true, aerHeader := [d.1, d1.1, d2.1, d3.1] } }
  let t := if t.cfg.fatalReporting then t.emit .errFatal else t
  t.latchAlerts before

theorem State.quench_eq (s : State) (cause page bit detail : Nat) (injected : Bool) :
    s.quench cause page bit detail injected = if s.quenched then s else
      (s.quenchStops.quenchRecord cause page bit detail injected).quenchReport s.alertLive := rfl

/-! ### The stages of the record of an occurrence (R353, R354, R358, R377) -/

/-- FAULT_STICKY and INJ_TAGGED take an occurrence. -/
def State.recordSticky (s : State) (page bit : Nat) (real : Bool) : State :=
  let was := s.bitAt (HDR.FAULT_STICKY page) bit
  let t := s.putBit (HDR.FAULT_STICKY page) bit true
  if real then t.putBit (HDR.FAULT_INJ_TAGGED page) bit false
  else if was then t else t.putBit (HDR.FAULT_INJ_TAGGED page) bit true

/-- FAULT_FIRST takes an occurrence of a class, where it is the first. -/
def State.recordFirst (s : State) (page cls bit detail : Nat) (real : Bool) : State :=
  if !s.firstTakes page bit real then s
  else
    let t := (s.put (HDR.FAULT_FIRST_VALID page) 1).putB (HDR.FAULT_FIRST_INJECTED page) (!real)
    let t := (t.put (HDR.FAULT_FIRST_CLASS page) cls).put (HDR.FAULT_FIRST_BIT page) bit
    (t.put (HDR.FAULT_FIRST_DETAIL page) detail).put64 (HDR.FAULT_FIRST_TIME_LO page) (HDR.FAULT_FIRST_TIME_HI page) t.now

/-- The event of an occurrence of a class. -/
def State.recordEvent (s : State) (page cls : Nat) : State :=
  if cls = 2 || (cls = 1 && s.on (HDR.FAULT_REACT_EVT_U page)) || (cls = 0 && s.on (HDR.FAULT_REACT_EVT_C page))
    then s.raise page 31 else s

/-- The correctable error that an occurrence of a class makes on the host link. -/
def State.recordAer (s : State) (page cls : Nat) : State :=
  if cls < 2 && s.on (HDR.FAULT_REACT_AER page) && !s.quenched then
    let t := { s with cfg := { s.cfg with aerCor := true } }
    if t.cfg.corReporting then t.emit .errCor else t
  else s

theorem State.occurRecord_eq (s : State) (page bit detail : Nat) (real : Bool) :
    s.occurRecord page bit detail real =
      (((s.recordSticky page bit real).recordFirst page (s.siteClass page bit) bit detail real).recordEvent page
        (s.siteClass page bit)).recordAer page (s.siteClass page bit) := rfl

/-! ### The reaction of a pseudo-channel (R355, R359, R365) -/

theorem State.reactUnit_channel (s : State) (page bit detail h i : Nat) (real : Bool) :
    s.reactUnit page bit detail real (.channel h i) = if s.unitFenced (.channel h i) then s else s.fenceChannel h i := by
  unfold State.reactUnit State.fenceUnit
  split
  · rfl
  · exact if_neg Bool.false_ne_true

/-- An uncorrectable read has its reaction at its pseudo-channel. -/
theorem State.occurReact_channel (s : State) (h i : Nat) (real : Bool) :
    s.occurReact .hbm h 1 i real = if s.quenched then s
      else if s.siteClass (hbmPage h) 1 = 2 then s.quench 1 (hbmPage h) 1 i (!real)
      else if s.siteClass (hbmPage h) 1 = 1 then s.reactUnit (hbmPage h) 1 i real (.channel h i) else s := by
  simp only [State.occurReact, pageAddr, siteUnits, State.each, reduceCtorEq, decide_false, Bool.false_and, Bool.false_eq_true,
    if_false]
  rfl

/-! ### Each operation of the report -/

section

variable {β : Type} {p : State → β} (hp : Unreported p) (s : State)

include hp

theorem Unreported.raise {page : Nat} (n : Nat) (h : reportWrites (page + 0x20)) : p (s.raise page n) = p s := by
  have hvec (v : Nat) : reportWrites (PBA.PENDING v).addr := by simp only [otherFields, reportWrites]; omega
  have hst (t : State) (v : Nat) : p (t.put (HDR.IRQ_STAT page) v) = p t := hp.put t _ v h
  exact ite_p p ((hp.put _ _ 1 (hvec _)).trans (hst _ _)) (hst _ _)

theorem Unreported.markFenced {page : Nat} (h : ∀ o < 0x1000, reportWrites (page + o)) : p (s.markFenced page) = p s :=
  (hp.raise _ 30 (h _ (by decide))).trans (hp.put s _ 1 (h _ (by decide)))

/-! ### The reactions: the fence of a pseudo-channel and quench (R359, R371) -/

theorem Unreported.fenceBank {b : Nat} (hb : b < 16) : p (s.fenceBank b) = p s := by
  refine ite_p p rfl ?_
  rw [State.setBank_keeps (hp.parts.mono rfl), hp.put _ _ _ (reportWrites_ladlePage hb (o := 0x11C) (by decide)),
    hp.markFenced _ fun _ => reportWrites_ladlePage hb]

theorem Unreported.fenceChannel {h : Nat} (i : Nat) (hh : h < 4) : p (s.fenceChannel h i) = p s := by
  refine (State.each_eq _ fun t b hb => hp.fenceBank t ?_).trans ?_
  · exact List.mem_range.mp (List.mem_filter.mp hb).1
  · exact (hp.markFenced _ fun _ => reportWrites_hbmPage hh).trans (hp.put s _ _ (reportWrites_hbmPage hh (o := 0x100) (by decide)))

theorem Unreported.quenchStops : p s.quenchStops = p s :=
  (hp.parts.engines rfl _ _).trans ((State.each_p p fun _ _ => State.emit_keeps (hp.parts.mono rfl) ..).trans
    (State.endStrobes_keeps (hp.parts.mono rfl) s))

theorem Unreported.quenchRecord (cause page bit detail : Nat) (injected : Bool) :
    p (s.quenchRecord cause page bit detail injected) = p s := by
  have hdev (t : State) (f : Fld) (v : Nat) (hf : f.addr < 0x1000) : p (t.put f v) = p t := hp.put t f v (.inl hf)
  have hpour (t : State) : p (t.put POUR.POUR_STATUS_STOPPED 1) = p t := hp.put t _ _ (.inr (.inr (.inl (by decide))))
  refine (State.each_eq _ fun t h hh =>
    hp.put t _ _ (reportWrites_hbmPage (List.mem_range.mp hh) (o := 0x108) (by decide))).trans ?_
  simp (disch := decide) only [State.putB, State.put64, hdev, hpour]

theorem Unreported.quenchReport (before : Nat) : p (s.quenchReport before) = p s := by
  have hdraw (t : State) : p t.draw.2 = p t := State.draw_keeps (hp.parts.mono rfl) t
  have haer (t : State) (k : CfgSpace) : p { t.draw.2.draw.2.draw.2.draw.2 with cfg := k } = p t := by
    rw [hp.parts.cfg rfl, hdraw, hdraw, hdraw, hdraw]
  refine (State.latchAlerts_keeps (hp.parts.mono rfl) _ _).trans ?_
  exact ite_p p ((State.emit_keeps (hp.parts.mono rfl) ..).trans (haer _ _)) (haer _ _)

theorem Unreported.quench (cause page bit detail : Nat) (injected : Bool) :
    p (s.quench cause page bit detail injected) = p s := by
  rw [State.quench_eq]
  exact ite_p p rfl ((hp.quenchReport ..).trans ((hp.quenchRecord ..).trans (hp.quenchStops s)))

theorem Unreported.reactUnit {h : Nat} (page bit detail i : Nat) (real : Bool) (hh : h < 4) :
    p (s.reactUnit page bit detail real (.channel h i)) = p s := by
  rw [State.reactUnit_channel]
  exact ite_p p rfl (hp.fenceChannel s i hh)

theorem Unreported.occurReact {h : Nat} (i : Nat) (real : Bool) (hh : h < 4) : p (s.occurReact .hbm h 1 i real) = p s := by
  rw [State.occurReact_channel]
  exact ite_p p rfl (ite_p p (hp.quench ..) (ite_p p (hp.reactUnit _ _ _ _ i real hh) rfl))

/-! ### The record -/

section

variable {page : Nat} (h : ∀ o < 0x1000, reportWrites (page + o))

include h

theorem Unreported.occurRecord (bit detail : Nat) (real : Bool) : p (s.occurRecord page bit detail real) = p s := by
  have hput (t : State) {o hi lo : Nat} (v : Nat) (ho : o < 0x1000) : p (t.put ⟨page + o, hi, lo⟩ v) = p t := hp.put t _ v (h o ho)
  have hsticky (v : Nat) : p (s.put (HDR.FAULT_STICKY page) v) = p s := hput s v (by decide)
  have htagged (t : State) (v : Nat) : p (t.put (HDR.FAULT_INJ_TAGGED page) v) = p t := hput t v (by decide)
  have hfirst (t : State) (cls : Nat) : p (t.recordFirst page cls bit detail real) = p t := by
    refine ite_p p rfl ?_
    exact (hput _ _ (by decide)).trans ((hput _ _ (by decide)).trans ((hput _ _ (by decide)).trans ((hput _ _ (by decide)).trans
      ((hput _ _ (by decide)).trans ((hput _ _ (by decide)).trans (hput _ _ (by decide)))))))
  have hevent (t : State) (cls : Nat) : p (t.recordEvent page cls) = p t := ite_p p (hp.raise t 31 (h _ (by decide))) rfl
  have haer (t : State) (cls : Nat) : p (t.recordAer page cls) = p t := by
    have hcfg := hp.parts.cfg rfl t { t.cfg with aerCor := true }
    exact ite_p p (ite_p p ((State.emit_keeps (hp.parts.mono rfl) ..).trans hcfg) hcfg) rfl
  rw [State.occurRecord_eq, haer, hevent, hfirst]
  exact ite_p p ((htagged _ _).trans (hsticky _)) (ite_p p (hsticky _) ((htagged _ _).trans (hsticky _)))

end

theorem Unreported.occur {h : Nat} (i : Nat) (real : Bool) (hh : h < 4) : p (s.occur .hbm h 1 i real) = p s := by
  simp only [State.occur]
  refine ite_p p (State.setLive_keeps (hp.parts.mono rfl) ..) ?_
  rw [hp.occurReact _ i real hh]
  refine (hp.occurRecord _ (fun _ => reportWrites_hbmPage hh) 1 i real).trans ?_
  exact ite_p p (State.setLive_keeps (hp.parts.mono rfl) ..) (State.noteEvent_keeps (hp.parts.mono rfl) ..)

/-- The report of an uncorrectable HBM read. -/
theorem Unreported.hbmUe (a : Nat) : p (s.hbmUe a) = p s := by
  have hh : channelOf a / 32 < 4 := by have := channelOf_lt a; omega
  have hpage (t : State) {o hi lo : Nat} (v : Nat) (ho : o < 0x1000) : p (t.put ⟨hbmPage (channelOf a / 32) + o, hi, lo⟩ v) = p t :=
    hp.put t _ v (reportWrites_hbmPage hh ho)
  have hclaim (t : State) (bit detail : Nat) (word : Option Nat) :
      p (t.claimInjection (hbmPage (channelOf a / 32)) bit detail word).2 = p t := by
    unfold State.claimInjection
    split
    · split
      · exact (hp.parts.faults rfl _ _).trans (hpage _ _ (by decide))
      · rfl
    · rfl
  refine (hp.occur _ _ _ hh).trans ((hclaim ..).trans ?_)
  exact (hpage _ _ (by decide)).trans ((hpage _ _ (by decide)).trans (hpage _ _ (by decide)))

end

end Sys2Proof.Machine
end

section
/-!
PROOFS. Noise reduction on lines: displacement, holds that time out, lines emitted, and reads and writes of the reference (R144,
R147, R150 to R156, R160 to R163; O33).
-/

namespace Sys2Proof.Machine

theorem causeField (c : Nat) : CAM.NR_STATUS_CAUSE c = ⟨0x800224 + 0x4000 * c, 19, 16⟩ := by
  rw [CAM.NR_STATUS_CAUSE, camPage, Nat.add_right_comm]

theorem lastDField (c : Nat) : CAM.NR_LAST_D c = ⟨0x800240 + 0x4000 * c, 31, 0⟩ := by
  rw [CAM.NR_LAST_D, camPage, Nat.add_right_comm]

theorem norefField (c : Nat) : CAM.NR_NOREF_FRAMES c = ⟨0x80024C + 0x4000 * c, 31, 0⟩ := by
  rw [CAM.NR_NOREF_FRAMES, camPage, Nat.add_right_comm]

theorem portEventsField (c : Nat) : HDR.IRQ_STAT (camPage c) = ⟨0x800020 + 0x4000 * c, 31, 0⟩ := by
  rw [HDR.IRQ_STAT, camPage, Nat.add_right_comm]

theorem toBits_lt (n : Nat) (x : Int) : toBits n x < 2 ^ n := by
  have hpos : (0 : Int) < (2 ^ n : Nat) := by positivity
  have := Int.emod_lt_of_pos x hpos
  have := Int.emod_nonneg x hpos.ne'
  unfold toBits
  omega

section

variable (s : State) {c : Nat} {fr : Frame}

/-! ### Frames in their port -/

/-- A frame put anew stands in its port. -/
theorem State.mem_putFrame_of_mem (h : fr ∈ (s.cam c).frames) {f : Frame} (hc : f.c = c) (hid : f.id = fr.id) :
    f ∈ ((s.putFrame f).cam c).frames := by
  rw [s.putFrame_cam hc]
  exact List.mem_map.mpr ⟨fr, h, if_pos hid.symm⟩

/-! ### What the holds and seals of a port leave (R155, R160) -/

theorem State.holdEnds_cam : (s.holdEnds c).cam c = { s.cam c with holdOver := true } := by
  rw [State.holdEnds, State.raise_cam, State.inc_cam, State.put_cam, State.cam_setCam_same]

/-- The holds of a port change nothing else that the port holds. -/
theorem State.holdCheck_cam : ∃ ended, (s.holdCheck c).cam c = { s.cam c with holdOver := ended } := by
  let t := if s.on (CAM.NR_STATUS_HOLDING c) then s else (s.inc (CAM.NR_HOLDS c)).put (CAM.NR_STATUS_HOLDING c) 1
  have ht : t.cam c = s.cam c := ite_p (State.cam · c) rfl ((State.put_cam ..).trans (s.inc_cam ..))
  unfold State.holdCheck
  split
  · split
    · exact ⟨(s.cam c).holdOver, rfl⟩
    · change ∃ ended, (if t.riserTight c then t.holdEnds c else t).cam c = _
      split
      · exact ⟨true, by rw [t.holdEnds_cam, ht]⟩
      · exact ⟨(s.cam c).holdOver, ht⟩
  · exact ⟨(s.cam c).holdOver, s.put_cam ..⟩

theorem State.bitAt_of_get {s t : State} {f : Fld} {n : Nat} (hget : t.get f = s.get f) (h : s.bitAt f n = true) :
    t.bitAt f n = true := by
  rw [State.bitAt, hget]; exact h

theorem State.bitAt_holdEnds (hc : c < 256) {n : Nat} (hn : n < 32) (h : s.bitAt (HDR.IRQ_STAT (camPage c)) n = true) :
    (s.holdEnds c).bitAt (HDR.IRQ_STAT (camPage c)) n = true := by
  refine State.bitAt_raise_of _ 0 hn (by simp only [camPage]; omega) (State.bitAt_of_get ?_ h)
  simp (disch := omega) only [State.inc, State.add, portEventsField, missLinesField, holdingField,
    State.get_put_off, State.setCam_get]

/-- The holds of a port leave its events. -/
theorem State.bitAt_holdCheck (hc : c < 256) {n : Nat} (hn : n < 32) (h : s.bitAt (HDR.IRQ_STAT (camPage c)) n = true) :
    (s.holdCheck c).bitAt (HDR.IRQ_STAT (camPage c)) n = true := by
  let t := if s.on (CAM.NR_STATUS_HOLDING c) then s else (s.inc (CAM.NR_HOLDS c)).put (CAM.NR_STATUS_HOLDING c) 1
  have hbegin : ((s.inc (CAM.NR_HOLDS c)).put (CAM.NR_STATUS_HOLDING c) 1).get (HDR.IRQ_STAT (camPage c)) =
      s.get (HDR.IRQ_STAT (camPage c)) := by
    simp (disch := omega) only [State.inc, State.add, portEventsField, holdsField, holdingField, State.get_put_off]
  have ht : t.bitAt (HDR.IRQ_STAT (camPage c)) n = true :=
    State.bitAt_of_get (ite_p (State.get · (HDR.IRQ_STAT (camPage c))) rfl hbegin) h
  have hstop : (s.put (CAM.NR_STATUS_HOLDING c) 0).get (HDR.IRQ_STAT (camPage c)) = s.get (HDR.IRQ_STAT (camPage c)) := by
    simp (disch := omega) only [portEventsField, holdingField, State.get_put_off]
  refine ite_p (State.bitAt · (HDR.IRQ_STAT (camPage c)) n) (ite_p (State.bitAt · (HDR.IRQ_STAT (camPage c)) n) h ?_)
    (State.bitAt_of_get hstop h)
  exact ite_p (State.bitAt · (HDR.IRQ_STAT (camPage c)) n) (t.bitAt_holdEnds hc hn ht) ht

/-- A hold that ends with lines missing (R161). -/
theorem State.holdEnds_ends (hc : c < 256) : (s.holdEnds c).on (CAM.NR_STATUS_HOLDING c) = false ∧
    ((s.holdEnds c).cam c).holdOver = true ∧
    (s.holdEnds c).get (CAM.NR_MISS_LINES c) = (s.get (CAM.NR_MISS_LINES c) + 1) % 2 ^ 32 ∧
    (s.holdEnds c).bitAt (HDR.IRQ_STAT (camPage c)) 0 = true := by
  refine ⟨?_, by rw [s.holdEnds_cam], ?_, State.bitAt_raise_same _ (by decide) (by simp only [camPage]; omega)⟩
  · rw [State.on, holdingField, State.holdEnds, State.get_raise_off _ _ _ (by simp only [camPage]; omega) (by omega)]
    simp (disch := omega) only [State.inc, State.add, missLinesField, holdingField, State.get_put_off, State.get_put_at]
    rfl
  · rw [missLinesField, State.holdEnds, State.get_raise_off _ _ _ (by simp only [camPage]; omega) (by omega)]
    simp (disch := omega) only [State.inc, State.add, missLinesField, holdingField, State.get_put_off, State.get_put_at,
      State.setCam_get]

/-! ### Displacement (R151, R158) -/

/-- The displacement of a frame is r.1; r.2: the cause it has to report, 0 for none. -/
def State.dispNoted (s : State) (c : Nat) (fr : Frame) (r : Int × Nat) : State × Frame :=
  let t := s.put (CAM.NR_LAST_D c) (toBits 32 r.1)
  let fr := { fr with dispDone := true, d16 := r.1 }
  if 2 ≤ fr.get (CAM.NR_CTRL_MODE c) && fr.cause == 0 && r.2 != 0 then t.noRef fr r.2 else (t, fr)

/-- The displacement of a frame and the cause to report, from the position of the frame and that of its reference, by the formula
of R151. -/
def Frame.dispResult (fr : Frame) (c : Nat) (formula : Int → Nat → Nat → Nat → Option (Int × Bool)) (ref : Option Nat) :
    Int × Nat :=
  if !fr.on (CAM.NR_CTRL_REG_EN c) then (0, 0)
  else match fr.pos, ref with
    | some p, some q =>
      match formula (sext 32 (fr.get (CAM.NR_REG_SCALE c))) (fr.get (CAM.NR_REG_MAX c)) p q with
      | some (d, true) => (d, 0)
      | some (d, false) => (d, 4)
      | none => (0, 4)
    | _, _ => (0, 5)

theorem State.displaceFrame_eq (h : s.frameAtDisp c = some fr) {r : Int × Nat}
    (hr : fr.dispResult c displacement (s.refPos c) = r) :
    s.displaceFrame c = ((s.dispNoted c fr r).1.putFrame (s.dispNoted c fr r).2).holdCheck c := by
  subst hr
  unfold State.displaceFrame
  rw [h]
  rfl

section

variable {formula : Int → Nat → Nat → Nat → Option (Int × Bool)}

theorem Frame.dispResult_unregistered (hreg : fr.on (CAM.NR_CTRL_REG_EN c) = false) (ref : Option Nat) :
    fr.dispResult c formula ref = (0, 0) := by
  simp only [Frame.dispResult, hreg, Bool.not_false, if_true]

theorem Frame.dispResult_registered (hreg : fr.on (CAM.NR_CTRL_REG_EN c) = true) {p q : Nat} (hp : fr.pos = some p) {d : Int}
    {inRange : Bool} (hd : formula (sext 32 (fr.get (CAM.NR_REG_SCALE c))) (fr.get (CAM.NR_REG_MAX c)) p q = some (d, inRange)) :
    fr.dispResult c formula (some q) = (d, if inRange then 0 else 4) := by
  cases inRange <;> simp only [Frame.dispResult, hreg, hp, hd, Bool.not_true, Bool.false_eq_true, if_false, if_true]

end

theorem State.noRef_get_lastD (cause : Nat) (hc : c < 256) (hfr : fr.c = c) :
    (s.noRef fr cause).1.get (CAM.NR_LAST_D c) = s.get (CAM.NR_LAST_D c) := by
  subst hfr
  rw [State.noRef, lastDField, State.get_raise_off _ _ _ (by simp only [camPage]; omega) (by omega)]
  simp (disch := omega) only [State.inc, State.add, causeField, norefField, State.get_put_off]

/-- The displacement shows in NR_LAST_D and in its frame. -/
theorem State.dispNoted_shows (hc : c < 256) (hfr : fr.c = c) (r : Int × Nat) :
    (s.dispNoted c fr r).1.get (CAM.NR_LAST_D c) = toBits 32 r.1 ∧ (s.dispNoted c fr r).1.cam c = s.cam c ∧
      (s.dispNoted c fr r).2.c = fr.c ∧ (s.dispNoted c fr r).2.id = fr.id ∧ (s.dispNoted c fr r).2.dispDone = true ∧
      (s.dispNoted c fr r).2.d16 = r.1 := by
  have hput : (s.put (CAM.NR_LAST_D c) (toBits 32 r.1)).get (CAM.NR_LAST_D c) = toBits 32 r.1 := by
    rw [lastDField, State.get_put_at _ _ (by omega)]
    exact Nat.mod_eq_of_lt (toBits_lt 32 r.1)
  unfold State.dispNoted
  dsimp only
  split
  · refine ⟨(State.noRef_get_lastD _ _ hc ?_).trans hput, ?_, rfl, rfl, rfl, rfl⟩
    · exact hfr
    · rw [State.noRef, State.raise_cam, State.inc_cam, State.put_cam, State.put_cam]
  · exact ⟨hput, s.put_cam .., rfl, rfl, rfl, rfl⟩

/-- A frame that has a cause to report takes it, is counted and raises its event (R158). -/
theorem State.dispNoted_reports (hc : c < 256) (hfr : fr.c = c) {r : Int × Nat} (hmode : 2 ≤ fr.get (CAM.NR_CTRL_MODE c))
    (hcause : fr.cause = 0) (hr : r.2 ≠ 0) : (s.dispNoted c fr r).2.cause = r.2 ∧
      (s.dispNoted c fr r).1.get (CAM.NR_NOREF_FRAMES c) = (s.get (CAM.NR_NOREF_FRAMES c) + 1) % 2 ^ 32 ∧
      (s.dispNoted c fr r).1.bitAt (HDR.IRQ_STAT (camPage c)) 1 = true := by
  subst hfr
  have hyes : (decide (2 ≤ fr.get (CAM.NR_CTRL_MODE fr.c)) && fr.cause == 0 && r.2 != 0) = true := by simp [hmode, hcause, hr]
  have hnoted : s.dispNoted fr.c fr r =
      (s.put (CAM.NR_LAST_D fr.c) (toBits 32 r.1)).noRef { fr with dispDone := true, d16 := r.1 } r.2 := if_pos hyes
  rw [hnoted]
  refine ⟨rfl, ?_, State.bitAt_raise_same _ (by decide) (by simp only [camPage]; omega)⟩
  rw [norefField, State.noRef, State.get_raise_off _ _ _ (by simp only [camPage]; omega) (by omega)]
  simp (disch := omega) only [State.inc, State.add, causeField, lastDField, norefField, State.get_put_off, State.get_put_at]

theorem State.frameAtDisp_mem (h : s.frameAtDisp c = some fr) : fr ∈ (s.cam c).frames := List.mem_of_find?_eq_some h

theorem State.frameInNr_mem (h : s.frameInNr c = some fr) : fr ∈ (s.cam c).frames := List.mem_of_find?_eq_some h

theorem State.holdCheck_frames : ((s.holdCheck c).cam c).frames = (s.cam c).frames := by
  obtain ⟨ended, hcam⟩ := s.holdCheck_cam (c := c)
  rw [hcam]

/-- The displacement of a frame is computed (R151, R158). -/
theorem State.displaceFrame_displaces (hc : c < 256) (h : s.frameAtDisp c = some fr) (hfr : fr.c = c) {r : Int × Nat}
    (hr : fr.dispResult c displacement (s.refPos c) = r) :
    (s.displaceFrame c).get (CAM.NR_LAST_D c) = toBits 32 r.1 ∧
      (∃ f ∈ ((s.displaceFrame c).cam c).frames, f.id = fr.id ∧ f.dispDone = true ∧ f.d16 = r.1 ∧
        (2 ≤ fr.get (CAM.NR_CTRL_MODE c) → fr.cause = 0 → r.2 ≠ 0 → f.cause = r.2)) ∧
      (2 ≤ fr.get (CAM.NR_CTRL_MODE c) → fr.cause = 0 → r.2 ≠ 0 →
        (s.displaceFrame c).get (CAM.NR_NOREF_FRAMES c) = (s.get (CAM.NR_NOREF_FRAMES c) + 1) % 2 ^ 32 ∧
        (s.displaceFrame c).bitAt (HDR.IRQ_STAT (camPage c)) 1 = true) := by
  let u := s.dispNoted c fr r
  obtain ⟨hlast, hcam, hport, hid, hdone, hd16⟩ := s.dispNoted_shows hc hfr r
  have hmem : fr ∈ (u.1.cam c).frames := by rw [hcam]; exact s.frameAtDisp_mem h
  rw [s.displaceFrame_eq h hr]
  refine ⟨?_, ⟨u.2, ?_, hid, hdone, hd16, fun hmode hcause hne => (s.dispNoted_reports hc hfr hmode hcause hne).1⟩,
    fun hmode hcause hne => ?_⟩
  · refine .trans ?_ hlast
    simp only [lastDField]
    exact State.get_holdCheck_off _ _ (by omega) (by omega) (by omega) (by omega) (by omega)
  · rw [State.holdCheck_frames]
    exact State.mem_putFrame_of_mem _ hmem (hport.trans hfr) hid
  · obtain ⟨-, hcount, hirq⟩ := s.dispNoted_reports hc hfr hmode hcause hne
    refine ⟨.trans ?_ hcount, State.bitAt_holdCheck _ hc (by decide) hirq⟩
    simp only [norefField]
    exact State.get_holdCheck_off _ _ (by omega) (by omega) (by omega) (by omega) (by omega)

/-! ### Reference buffers (R153, R155) -/

theorem refValidField {b : Nat} (hb : b < 2) : refValid c b = ⟨0x800228 + 0x4000 * c + 4 * b, 23, 0⟩ := by
  obtain rfl | rfl : b = 0 ∨ b = 1 := by omega
  · simp only [refValid, if_true, CAM.NR_REF_VALID0, camPage, Fld.mk.injEq, and_true]; omega
  · simp only [refValid, one_ne_zero, if_false, CAM.NR_REF_VALID1, camPage, Fld.mk.injEq, and_true]; omega

theorem State.refBuf_setRefBuf (b : Nat) (v : RefBuf) : (s.setRefBuf c b v).refBuf c b = v := by
  by_cases hb : b = 0 <;> simp [State.refBuf, State.setRefBuf, hb]

theorem State.setRefBuf_frames (b : Nat) (v : RefBuf) : ((s.setRefBuf c b v).cam c).frames = (s.cam c).frames := by
  by_cases hb : b = 0 <;> simp [State.setRefBuf, hb]

/-- A seal leaves the lines of its buffer. -/
theorem State.sealCheck_lines (b : Nat) : ((s.sealCheck c b).refBuf c b).acked = (s.refBuf c b).acked ∧
    ((s.sealCheck c b).refBuf c b).busy = (s.refBuf c b).busy :=
  ⟨ite_p (fun t => (t.refBuf c b).acked) (by rw [State.refBuf_setRefBuf]) rfl,
    ite_p (fun t => (t.refBuf c b).busy) (by rw [State.refBuf_setRefBuf]) rfl⟩

theorem State.refBuf_holdCheck (b : Nat) : (s.holdCheck c).refBuf c b = s.refBuf c b := by
  obtain ⟨ended, hcam⟩ := s.holdCheck_cam (c := c)
  simp only [State.refBuf, hcam]

/-- The write of a line of a buffer has ended, and `acked` are the lines acknowledged. -/
def State.writeEndedWith (s : State) (c b y : Nat) (acked : List Nat) : State :=
  let t := s.setRefBuf c b { s.refBuf c b with busy := (s.refBuf c b).busy.erase y, acked := acked }
  ((t.put (refValid c b) (gapFree acked acked.length 0)).sealCheck c b).holdCheck c

theorem State.refWriteEnd_acked {b y : Nat} (h : y ∈ (s.refBuf c b).busy) (hfence : s.anyChannelFenced = false) :
    s.refWriteEnd c b y true = s.writeEndedWith c b y (y :: (s.refBuf c b).acked) := by
  simp only [State.refWriteEnd, State.spanFails, hfence, List.contains_iff_mem.mpr h, Bool.not_true, Bool.false_eq_true, if_false,
    Bool.false_and, Bool.not_false, Bool.and_true, if_true]
  rfl

theorem State.refWriteEnd_failed {b y : Nat} (h : y ∈ (s.refBuf c b).busy) :
    s.refWriteEnd c b y false = s.writeEndedWith c b y (s.refBuf c b).acked := by
  simp only [State.refWriteEnd, List.contains_iff_mem.mpr h, Bool.not_true, Bool.false_eq_true, if_false, Bool.false_and]
  rfl

theorem State.refWriteEnd_idle {b y : Nat} (h : y ∉ (s.refBuf c b).busy) (ok : Bool) : s.refWriteEnd c b y ok = s := by
  simp only [State.refWriteEnd]
  exact if_pos (by simpa using h)

/-- The end of a line's write: the lines acknowledged are counted without gaps (R155). -/
theorem State.writeEndedWith_counts {b : Nat} (hc : c < 256) (hb : b < 2) (y : Nat) (acked : List Nat) :
    ((s.writeEndedWith c b y acked).refBuf c b).acked = acked ∧
      ((s.writeEndedWith c b y acked).refBuf c b).busy = (s.refBuf c b).busy.erase y ∧
      (s.writeEndedWith c b y acked).get (refValid c b) = gapFree acked acked.length 0 % 2 ^ 24 := by
  let v : RefBuf := { s.refBuf c b with busy := (s.refBuf c b).busy.erase y, acked := acked }
  let t := (s.setRefBuf c b v).put (refValid c b) (gapFree acked acked.length 0)
  have hbuf : t.refBuf c b = v := by
    simp only [t, State.refBuf, State.put_cam]
    exact s.refBuf_setRefBuf b v
  obtain ⟨hacked, hbusy⟩ := t.sealCheck_lines (c := c) b
  have hended : s.writeEndedWith c b y acked = (t.sealCheck c b).holdCheck c := rfl
  rw [hended, State.refBuf_holdCheck, hacked, hbusy, hbuf]
  refine ⟨rfl, rfl, ?_⟩
  rw [refValidField hb, State.get_holdCheck_off _ _ (by omega) (by omega) (by omega) (by omega) (by omega),
    State.sealCheck_keeps (get_ignores ⟨0x800228 + 0x4000 * c + 4 * b, 23, 0⟩ rfl)]
  simp only [t, refValidField hb]
  exact State.get_put_at _ _ (by omega)

/-! ### Lines emitted (R147, R150, R155, R156) -/

/-- The next line of a frame as noise reduction emits it, `l` as it entered. -/
def Frame.emittedLine (fr : Frame) (l : SLine) : SLine :=
  { l with
    pix := (fr.filterLine fr.nr.length l).1
    flags := if fr.refFailed fr.nr.length l.cnt then setBitN l.flags 7 else l.flags }

/-- The frame once that line is emitted. -/
def Frame.emits (fr : Frame) (l : SLine) : Frame :=
  { fr with
    nr := fr.nr ++ [fr.emittedLine l]
    xstat := if fr.refFailed fr.nr.length l.cnt then setBitN fr.xstat 2 else fr.xstat
    wrote := fr.wrote || fr.temporal }

/-- The line goes to the reference where the temporal filter is on. -/
def State.refUpdated (s : State) (fr : Frame) (l : SLine) : State :=
  if fr.temporal then s.writeRef fr fr.nr.length (fr.filterLine fr.nr.length l).2 else s

/-- The state once the next line of a frame is emitted. -/
def State.lineEmitted (s : State) (c : Nat) (fr : Frame) (l : SLine) : State :=
  (((s.refUpdated fr l).putFrame (fr.emits l)).sealBoth c).holdCheck c

theorem State.nrEmit_eq {l : SLine} (h : s.frameInNr c = some fr) (hl : fr.entered[fr.nr.length]? = some l)
    (hlines : fr.closed = true ∨ fr.nr.length + 3 ≤ fr.entered.length)
    (hdisp : fr.dispDone = true ∨ fr.get (CAM.NR_CTRL_MODE c) < 2) (hrefs : fr.refsReady fr.nr.length l.cnt = true) :
    s.nrEmit c = s.lineEmitted c fr l := by
  simp only [State.nrEmit, h, hl]
  refine if_neg ?_
  simp only [hrefs, Bool.not_true, Bool.or_false, Bool.or_eq_true, Bool.not_eq_true', Bool.or_eq_false_iff, decide_eq_false_iff_not]
  rintro (⟨hopen, hfew⟩ | ⟨hwaits, hmode⟩)
  · exact hlines.elim (by simp [hopen]) hfew
  · exact hdisp.elim (by simp [hwaits]) hmode

theorem State.firstWrite_frames : ((s.firstWrite fr).cam fr.c).frames = (s.cam fr.c).frames := by
  simp only [State.firstWrite, State.putB, State.put_cam, State.setRefBuf_frames]

theorem State.writeRef_frames (y : Nat) (l : List Nat) : ((s.writeRef fr y l).cam fr.c).frames = (s.cam fr.c).frames := by
  rw [State.writeRef, State.hbmWrite_keeps (cam_ignores fr.c rfl), State.setRefBuf_frames]
  exact ite_p (fun t => (t.cam fr.c).frames) rfl s.firstWrite_frames

theorem State.refUpdated_frames (l : SLine) : ((s.refUpdated fr l).cam fr.c).frames = (s.cam fr.c).frames :=
  ite_p (fun t => (t.cam fr.c).frames) (s.writeRef_frames ..) rfl

theorem State.hbmRead_of_hbm {s t : State} (h : t.hbm = s.hbm) (a n : Nat) : t.hbmRead a n = s.hbmRead a n := by
  simp only [State.hbmRead, State.hbmByte, h]

/-- A line written to the reference reads back. -/
theorem State.writeRef_read (y : Nat) (l : List Nat) :
    (s.writeRef fr y l).hbmRead (refAddr fr.c fr.writeBuf fr.w fr.bits y) (fr.refBytes l).length = fr.refBytes l :=
  State.hbmWrite_read ..

theorem State.lineEmitted_hbm (l : SLine) : (s.lineEmitted c fr l).hbm = (s.refUpdated fr l).hbm := by
  rw [State.lineEmitted, State.holdCheck_keeps (memory_ignores rfl), State.sealBoth_keeps (memory_ignores rfl),
    State.putFrame_keeps (memory_ignores rfl)]

theorem State.lineEmitted_frames (l : SLine) (hfr : fr.c = c) (h : fr ∈ (s.cam c).frames) :
    fr.emits l ∈ ((s.lineEmitted c fr l).cam c).frames := by
  subst hfr
  have hmem : fr ∈ ((s.refUpdated fr l).cam fr.c).frames := by rw [s.refUpdated_frames]; exact h
  rw [State.lineEmitted, State.holdCheck_frames, (State.sealBoth_cam _).1]
  exact State.mem_putFrame_of_mem _ hmem rfl rfl

/-! ### Reference lines read (R163) -/

/-- The frame with what its reference line y holds, none where the line cannot be used. -/
def Frame.withRef (fr : Frame) (y : Nat) (v : Option (List Nat)) : Frame := { fr with refs := fr.refs ++ [(y, v)] }

/-- Reference line y of the frame is read, and `v` is what it holds. -/
def State.refHeld (s : State) (c y : Nat) (fr : Frame) (v : Option (List Nat)) : State :=
  let t := (s.touch (refAddr c fr.readBuf fr.w fr.bits y) (refSlot fr.w fr.bits)).putFrame (fr.withRef y v)
  if v.isNone then t.raise (camPage c) 2 else t

theorem State.refHeld_frames (y : Nat) (v : Option (List Nat)) (hfr : fr.c = c) (h : fr ∈ (s.cam c).frames) :
    fr.withRef y v ∈ ((s.refHeld c y fr v).cam c).frames := by
  let t := s.touch (refAddr c fr.readBuf fr.w fr.bits y) (refSlot fr.w fr.bits)
  have ht : t.cam c = s.cam c := State.touch_keeps (cam_ignores c rfl) ..
  have hcam : (s.refHeld c y fr v).cam c = (t.putFrame (fr.withRef y v)).cam c := ite_p (State.cam · c) (State.raise_cam ..) rfl
  rw [hcam]
  exact t.mem_putFrame_of_mem (fr := fr) (by rw [ht]; exact h) hfr rfl

/-- A line that cannot be used raises REF_ERR at once. -/
theorem State.refHeld_raises (hc : c < 256) (y : Nat) : (s.refHeld c y fr none).bitAt (HDR.IRQ_STAT (camPage c)) 2 = true := by
  unfold State.refHeld
  rw [if_pos Option.isNone_none]
  exact State.bitAt_raise_same _ (by decide) (by simp only [camPage]; omega)

theorem State.spanFails_unfenced (h : s.anyChannelFenced = false) (a n : Nat) : s.spanFails a n = false := by
  rw [State.spanFails, h]
  rfl

section

variable {y : Nat} (hfence : s.anyChannelFenced = false) (h : s.frameInNr c = some fr) (huse : fr.useRef = true)
  (hnew : ∀ v, (y, v) ∉ fr.refs) (hvalid : y < s.get (refValid c fr.readBuf)) (hheight : y < fr.h)

include huse hnew hvalid hheight

/-- The line is one that the frame reads: it has no such line yet, and the line is counted and inside the frame. -/
theorem State.refRead_unskipped : (!fr.useRef || fr.refs.any (fun p => p.1 == y) ||
    decide (s.get (refValid c fr.readBuf) ≤ y) || decide (fr.h ≤ y)) = false := by
  have hany : fr.refs.any (fun p => p.1 == y) = false := by
    simpa using fun a b hab => fun (e : a = y) => hnew b (e ▸ hab)
  rw [huse, hany, decide_eq_false (Nat.not_le.mpr hvalid), decide_eq_false (Nat.not_le.mpr hheight)]
  rfl

include hfence h

theorem State.refRead_good :
    s.refRead c y .good = s.refHeld c y fr (s.readRef fr (refAddr c fr.readBuf fr.w fr.bits y)) := by
  unfold State.refRead
  rw [h]
  dsimp only
  rw [s.refRead_unskipped huse hnew hvalid hheight, s.spanFails_unfenced hfence]
  rfl

theorem State.refRead_ue :
    s.refRead c y .ue = (s.refHeld c y fr none).hbmUe (refAddr c fr.readBuf fr.w fr.bits y) := by
  unfold State.refRead
  rw [h]
  dsimp only
  rw [s.refRead_unskipped huse hnew hvalid hheight, s.spanFails_unfenced hfence]
  rfl

end

end

/-! ### The commands -/

theorem Frame.mode_of_temporal {fr : Frame} (h : fr.temporal = true) : 2 ≤ fr.get (CAM.NR_CTRL_MODE fr.c) :=
  of_decide_eq_true (Bool.and_eq_true_iff.mp h).1

/-- Settles O33, by what each command of noise reduction writes. -/
theorem noiseReductionCommandsComplete : Obligations.NoiseReductionCommandsComplete := by
  refine ⟨fun s c fr hruns h hfr => ⟨fun hreg => ?_, fun hreg p hp q hq d inRange hd => ?_⟩,
    fun s c hruns hhold hon => ?_, fun s c fr l hruns h hfr hl hlines hdisp hrefs => ?_,
    fun s c b y hrun hfence => ⟨fun hbusy => ⟨?_, ?_⟩, fun hidle => ⟨?_, ?_⟩⟩,
    fun s c y fr hruns hfence h hfr huse hnew hvalid hheight => ⟨?_, ?_⟩, fun s c hhost => next_when _ hhost rfl⟩
  · obtain ⟨hlast, ⟨f, hf, hid, hdone, hd16, -⟩, -⟩ :=
      s.displaceFrame_displaces c.isLt h hfr (fr.dispResult_unregistered hreg (s.refPos c))
    exact ⟨_, next_when _ hruns rfl, hlast, f, hf, hid, hdone, hd16⟩
  · obtain ⟨hlast, ⟨f, hf, hid, hdone, hd16, hcause⟩, hreports⟩ :=
      s.displaceFrame_displaces c.isLt h hfr (hq ▸ fr.dispResult_registered hreg hp hd)
    have hne (hout : inRange = false) : (if inRange then 0 else 4) ≠ 0 := by simp [hout]
    have hmode (ht : fr.temporal = true) : 2 ≤ fr.get (CAM.NR_CTRL_MODE c) := hfr ▸ fr.mode_of_temporal ht
    refine ⟨_, next_when _ hruns rfl, hlast, ⟨f, hf, hid, hdone, hd16, fun hout ht h0 => ?_⟩,
      fun hout ht h0 => hreports (hmode ht) h0 (hne hout)⟩
    rw [hcause (hmode ht) h0 (hne hout), hout]
    rfl
  · have hends : s.holdTimeout c = s.holdEnds c := if_neg (by simp [hhold, hon])
    exact ⟨_, next_when _ hruns hends, s.holdEnds_ends c.isLt⟩
  · refine ⟨_, fr.emittedLine l, next_when _ hruns (s.nrEmit_eq h hl hlines hdisp hrefs), rfl, rfl,
      fun hgood => if_neg (by simp [hgood]), ⟨_, s.lineEmitted_frames l hfr (s.frameInNr_mem h), rfl, rfl⟩,
      fun ht => ?_, fun ht => ?_⟩
    · have hhbm : (s.lineEmitted c fr l).hbm = (s.writeRef fr fr.nr.length (fr.filterLine fr.nr.length l).2).hbm := by
        rw [s.lineEmitted_hbm, State.refUpdated, if_pos ht]
      rw [State.hbmRead_of_hbm hhbm, ← hfr]
      exact s.writeRef_read ..
    · rw [s.lineEmitted_hbm, State.refUpdated, ht]
      rfl
  · obtain ⟨hacked, hbusy', hcount⟩ := s.writeEndedWith_counts c.isLt b.isLt y (y :: (s.refBuf c b).acked)
    exact ⟨_, next_when _ hrun (s.refWriteEnd_acked hbusy hfence), hacked, hbusy', hcount⟩
  · obtain ⟨hacked, hbusy', -⟩ := s.writeEndedWith_counts c.isLt b.isLt y (s.refBuf c b).acked
    exact ⟨_, next_when _ hrun (s.refWriteEnd_failed hbusy), hacked, hbusy'⟩
  · exact next_when _ hrun (s.refWriteEnd_idle hidle true)
  · exact next_when _ hrun (s.refWriteEnd_idle hidle false)
  · refine ⟨_, next_when _ hruns (s.refRead_good hfence h huse hnew hvalid hheight),
      ⟨_, s.refHeld_frames y _ hfr (s.frameInNr_mem h), rfl, rfl⟩, fun hnone => ?_⟩
    rw [hnone]
    exact s.refHeld_raises c.isLt y
  · refine ⟨_, next_when _ hruns (s.refRead_ue hfence h huse hnew hvalid hheight), ?_, fr.withRef y none, ?_, rfl, rfl⟩
    · refine State.bitAt_of_get ?_ (s.refHeld_raises (fr := fr) c.isLt y)
      have hpage : ¬ reportWrites (0x800020 + 0x4000 * c) := by have := c.isLt; simp only [reportWrites]; omega
      rw [portEventsField]
      exact (get_unreported hpage).hbmUe _ _
    · rw [(cam_unreported c).hbmUe]
      exact s.refHeld_frames y none hfr (s.frameInNr_mem h)

end Sys2Proof.Machine
end

section
/-!
PROOFS. The bytes of HBM that a storing command leaves: those outside what a table load, a reference line, a member line of a seam
and a row of a tile write (R155, R170, R210, R218; O53).
-/

namespace Sys2Proof.Machine

theorem State.hbmByte_of_hbm {s t : State} (h : t.hbm = s.hbm) (a : Nat) : t.hbmByte a = s.hbmByte a :=
  congrArg (tget · a 0) h

/-- Pieces of one length. -/
theorem length_flatten_map {α β : Type} {f : α → List β} {n : Nat} (l : List α) (h : ∀ x ∈ l, (f x).length = n) :
    (l.map f).flatten.length = l.length * n := by
  rw [List.length_flatten, List.sum_eq_card_nsmul _ n (by simpa using h), List.length_map, List.length_map, smul_eq_mul]

section

variable (s : State) {a : Nat}

/-! ### Tables (R170) -/

/-- Of HBM, the end of a load changes what its data write alone. -/
theorem State.tblLoadDone_fin_hbm (c : Nat) (r : LoadEnd) (x : TableLoad) :
    (State.tblLoadDone.fin s c r x).hbm = (s.loadResult x r).1.hbm := by
  have hput (t : State) (f : Fld) (v : Nat) : (t.put f v).hbm = t.hbm := State.put_keeps (memory_ignores rfl) t f v
  have hraise (t : State) (page n : Nat) : (t.raise page n).hbm = t.hbm := State.raise_keeps (memory_ignores rfl) t page n
  unfold State.tblLoadDone.fin
  dsimp only
  split <;> simp only [hraise, State.putBit, hput]

theorem State.loadResult_out (x : TableLoad) (r : LoadEnd) (hlen : ∀ bytes, r = .data bytes → bytes.length = x.len)
    (ha : a < tableBase x.port + bankOffset x.sel x.bank ∨ tableBase x.port + bankOffset x.sel x.bank + x.len ≤ a) :
    (s.loadResult x r).1.hbmByte a = s.hbmByte a := by
  cases r with
  | hostErr => rfl
  | hbmErr => rfl
  | data bytes => exact s.hbmWrite_out _ bytes a (by rwa [hlen bytes rfl])

theorem State.tblLoadDone_out (c : Nat) (r : LoadEnd) (ha : ∀ x, s.loads.find? (fun y => y.port == c) = some x →
      a < tableBase x.port + bankOffset x.sel x.bank ∨ tableBase x.port + bankOffset x.sel x.bank + x.len ≤ a) :
    (s.tblLoadDone c r).hbmByte a = s.hbmByte a := by
  unfold State.tblLoadDone
  split
  · rfl
  · next x hx =>
    have hout := ha x ((List.take_prefix 4 s.loads).find?_eq_some hx)
    have hfin (hlen : ∀ bytes, r = .data bytes → bytes.length = x.len) :
        (State.tblLoadDone.fin s c r x).hbmByte a = s.hbmByte a :=
      (State.hbmByte_of_hbm (s.tblLoadDone_fin_hbm c r x) a).trans (s.loadResult_out x r hlen hout)
    cases r with
    | hostErr => exact hfin nofun
    | hbmErr => exact hfin nofun
    | data bytes =>
      dsimp only
      split
      · next hlen => exact hfin fun _ he => LoadEnd.data.inj he ▸ hlen
      · rfl

/-! ### Reference lines (R155) -/

theorem State.writeRef_out {fr : Frame} {y : Nat} {l : List Nat} (ha : a < refAddr fr.c fr.writeBuf fr.w fr.bits y ∨
      refAddr fr.c fr.writeBuf fr.w fr.bits y + (fr.refBytes l).length ≤ a) :
    (s.writeRef fr y l).hbmByte a = s.hbmByte a := by
  unfold State.writeRef
  dsimp only
  rw [State.hbmWrite_out _ _ _ _ ha]
  refine State.hbmByte_of_hbm ((State.setRefBuf_keeps (memory_ignores rfl) ..).trans ?_) a
  exact ite_p State.hbm rfl (State.firstWrite_keeps (memory_ignores rfl) s fr)

theorem State.nrEmit_out (c : Nat) (ha : ∀ fr l, s.frameInNr c = some fr → fr.entered[fr.nr.length]? = some l →
      fr.temporal = true → let b := refAddr fr.c fr.writeBuf fr.w fr.bits fr.nr.length
      a < b ∨ b + (fr.refBytes (fr.filterLine fr.nr.length l).2).length ≤ a) :
    (s.nrEmit c).hbmByte a = s.hbmByte a := by
  unfold State.nrEmit
  split
  · rfl
  · next fr hfr =>
    dsimp only
    split
    · rfl
    · next l hl =>
      refine ite_p (State.hbmByte · a) rfl ?_
      rw [State.hbmByte_of_hbm (State.holdCheck_keeps (memory_ignores rfl) ..),
        State.hbmByte_of_hbm (State.sealBoth_keeps (memory_ignores rfl) ..),
        State.hbmByte_of_hbm (State.putFrame_keeps (memory_ignores rfl) ..)]
      split
      · next ht => exact s.writeRef_out (ha fr l hfr hl ht)
      · rfl

/-! ### Seams (R206, R210) -/

theorem sampleField (u : Nat) : SEAM.SEAM_CFG_SAMPLE u = ⟨0x700100 + 0x4000 * u, 0, 0⟩ := by
  rw [SEAM.SEAM_CFG_SAMPLE, seamPage, Nat.add_right_comm]

/-- Fields of a seam's page that a forced strip line writes. -/
theorem stripFields (u : Nat) :
    SEAM.SEAM_MISS_MASK u = ⟨0x70011C + 0x4000 * u, 31, 0⟩ ∧
    SEAM.SEAM_FORCED u = ⟨0x700120 + 0x4000 * u, 31, 0⟩ ∧ SEAM.SEAM_MISS_LINES u = ⟨0x700124 + 0x4000 * u, 31, 0⟩ ∧
    SEAM.SEAM_SKIPPED u = ⟨0x700128 + 0x4000 * u, 31, 0⟩ := by
  simp only [SEAM.SEAM_MISS_MASK, SEAM.SEAM_FORCED, SEAM.SEAM_MISS_LINES, SEAM.SEAM_SKIPPED, seamPage,
    Fld.mk.injEq, and_true]
  omega

variable {u : Nat}

theorem State.get_emitStrip_low {b hi lo : Nat} (hb : b < 0x740000) (bad : List (Nat × Nat)) :
    (s.emitStrip u bad).get ⟨b, hi, lo⟩ = s.get ⟨b, hi, lo⟩ := by
  unfold State.emitStrip
  dsimp only
  rw [State.each_p (State.get · ⟨b, hi, lo⟩) fun t k => State.pushPacket_keeps (get_ignores ⟨b, hi, lo⟩ rfl) t _ k,
    State.each_p (State.get · ⟨b, hi, lo⟩) fun t x => t.get_touch_low _ _ hb]
  exact ite_p (State.get · ⟨b, hi, lo⟩) (by simp only [State.draw_get]) rfl

/-- A strip line that is forced leaves the sample width of its seam. -/
theorem State.sample_forceStrip (hu : u < 4) (bad : List (Nat × Nat)) :
    (s.forceStrip u bad).get (SEAM.SEAM_CFG_SAMPLE u) = s.get (SEAM.SEAM_CFG_SAMPLE u) := by
  have hskip (t : State) : (t.inc (SEAM.SEAM_SKIPPED u)).get (SEAM.SEAM_CFG_SAMPLE u) = t.get (SEAM.SEAM_CFG_SAMPLE u) := by
    simp (disch := omega) only [State.inc, State.add, sampleField, stripFields, State.get_put_off]
  have hemit (t : State) : (t.emitStrip u bad).get (SEAM.SEAM_CFG_SAMPLE u) = t.get (SEAM.SEAM_CFG_SAMPLE u) := by
    rw [sampleField]
    exact t.get_emitStrip_low (by omega) bad
  have hnext (t : State) : (t.nextStrip u).get (SEAM.SEAM_CFG_SAMPLE u) = t.get (SEAM.SEAM_CFG_SAMPLE u) := by
    simp (disch := omega) only [State.nextStrip, State.setSeam_get, State.inc, State.add, sampleField, seamFields,
      State.get_put_off]
  unfold State.forceStrip
  dsimp only
  rw [hnext]
  refine (ite_p (State.get · (SEAM.SEAM_CFG_SAMPLE u)) (hemit _) (hskip _)).trans ?_
  rw [sampleField, State.get_raise_off _ _ _ (by simp only [seamPage]; omega) (by omega)]
  simp (disch := omega) only [State.inc, State.add, stripFields, State.get_put_off]

theorem State.sample_forceUntil (hu : u < 4) (i k : Nat) (bad : List (Nat × Nat)) (n : Nat) :
    (s.forceUntil u i k bad n).get (SEAM.SEAM_CFG_SAMPLE u) = s.get (SEAM.SEAM_CFG_SAMPLE u) := by
  have hfault (t : State) (x : Nat) : (t.hbmUe x).get (SEAM.SEAM_CFG_SAMPLE u) = t.get (SEAM.SEAM_CFG_SAMPLE u) := by
    rw [sampleField]
    exact (get_unreported (by simp only [reportWrites]; omega)).hbmUe t x
  induction n generalizing s with
  | zero => rfl
  | succ n ih =>
    refine ite_p (State.get · (SEAM.SEAM_CFG_SAMPLE u)) ((ih _).trans ?_) rfl
    exact (State.each_p (State.get · (SEAM.SEAM_CFG_SAMPLE u)) hfault).trans (s.sample_forceStrip hu bad)

/-- A member line is stored as 16-bit samples. -/
theorem length_samples {w b : Nat} (hb : 0 < b) (payload : List Byte) (h : payload.length = w * b) :
    ((((chunks b payload).map leNat).map (leBytes 2)).flatten).length = 2 * w := by
  have hceil : ceilDiv (w * b) b = w := by
    rw [ceilDiv, Nat.add_sub_assoc hb, Nat.mul_comm, Nat.mul_add_div hb, Nat.div_eq_of_lt (by omega), Nat.add_zero]
  rw [length_flatten_map (n := 2) _ fun v _ => by simp [leBytes], List.length_map, chunks,
    chunksAux_length hb _ _ le_rfl, h, hceil, Nat.mul_comm]

theorem State.seamSample_pos : 0 < s.seamSample u := by
  unfold State.seamSample
  split <;> decide

theorem State.takeMember_out (hu : u < 4) (i : Nat) (p : Packet) (bad : List (Nat × Nat))
    (ha : let b := seamSlotAddr u i (s.memberIndex u i p.hdr.shot p.hdr.line)
      a < b ∨ b + 2 * s.get (SEAM.MEM_WIDTH u i) ≤ a) :
    (s.takeMember u i p bad).hbmByte a = s.hbmByte a := by
  unfold State.takeMember
  split
  · exact State.hbmByte_of_hbm (State.badMember_keeps (memory_ignores rfl) ..) a
  · next hgood =>
    dsimp only
    split
    · exact State.hbmByte_of_hbm ((State.raise_keeps (memory_ignores rfl) ..).trans (State.inc_keeps (memory_ignores rfl) ..)) a
    · let k := s.memberIndex u i p.hdr.shot p.hdr.line
      let t := s.forceUntil u i k bad (serialDiff k (s.needIndex u i))
      have hsample : t.seamSample u = s.seamSample u := by
        rw [State.seamSample, State.on, s.sample_forceUntil hu]
        rfl
      have hlen : p.payload.length = s.get (SEAM.MEM_WIDTH u i) * t.seamSample u := by
        rw [hsample]
        by_contra hne
        exact hgood (by simp [hne])
      have hstore : (t.storeMember u i k p).hbmByte a = t.hbmByte a := by
        refine (State.hbmByte_of_hbm (State.setSeam_keeps (memory_ignores rfl) ..) a).trans (t.hbmWrite_out _ _ a ?_)
        rw [length_samples t.seamSample_pos p.payload hlen]
        exact ha
      exact hstore.trans (State.hbmByte_of_hbm (State.forceUntil_keeps (memory_ignores rfl) ..) a)

theorem State.seamPacket_out (hu : u < 4) (i : Nat) (links : List Ecc) (bad : List (Nat × Nat))
    (ha : let r := (s.claimFor (s.get (SEAM.MEM_QUEUE u i))).readOut (s.get (SEAM.MEM_QUEUE u i)) links
      ∀ p, r.1 = some p → let b := seamSlotAddr u i (r.2.memberIndex u i p.hdr.shot p.hdr.line)
      a < b ∨ b + 2 * r.2.get (SEAM.MEM_WIDTH u i) ≤ a) :
    (s.seamPacket u i links bad).hbmByte a = s.hbmByte a := by
  have hread := s.readOut_hbm (s.get (SEAM.MEM_QUEUE u i)) links
  unfold State.seamPacket
  dsimp only at ha ⊢
  generalize (s.claimFor (s.get (SEAM.MEM_QUEUE u i))).readOut (s.get (SEAM.MEM_QUEUE u i)) links = r at ha hread ⊢
  obtain ⟨_ | p, t⟩ := r
  · exact ite_p (State.hbmByte · a) rfl (State.hbmByte_of_hbm hread a)
  · exact ite_p (State.hbmByte · a) rfl ((t.takeMember_out hu i p bad (ha p rfl)).trans (State.hbmByte_of_hbm hread a))

end

end Sys2Proof.Machine
end

section
/-!
PROOFS. The bytes of HBM that a mould packet leaves: those outside the two slots of its tile (R214, R215, R218; O53).
-/

namespace Sys2Proof.Machine

theorem formatField (m : Nat) : MOULD.MOULD_CFG_FORMAT m = ⟨0x710100 + 0x4000 * m, 8, 8⟩ := by
  rw [MOULD.MOULD_CFG_FORMAT, mouldPage, Nat.add_right_comm]

theorem tileWidthField (m n : Nat) : MOULD.TILE_SIZE_TW m n = ⟨0x711008 + 0x4000 * m + 0x20 * n, 12, 0⟩ := by
  rw [MOULD.TILE_SIZE_TW, mouldPage, Nat.add_right_comm 0x710000]

theorem tileHeightField (m n : Nat) : MOULD.TILE_SIZE_TH m n = ⟨0x711008 + 0x4000 * m + 0x20 * n, 28, 16⟩ := by
  rw [MOULD.TILE_SIZE_TH, mouldPage, Nat.add_right_comm 0x710000]

/-- Counts of a mould's page. -/
theorem mouldCountFields (m : Nat) :
    MOULD.SRC_SKIP m = ⟨0x710144 + 0x4000 * m, 31, 0⟩ ∧ MOULD.BAD_PKT m = ⟨0x710148 + 0x4000 * m, 31, 0⟩ := by
  simp only [MOULD.SRC_SKIP, MOULD.BAD_PKT, mouldPage, Fld.mk.injEq, and_true]
  omega

/-- A store in HBM writes registers of the HBM pages alone. -/
theorem State.get_hbmWrite_low (s : State) {a hi lo : Nat} (h : a < 0x740000) (b : Nat) (l : List Byte) :
    (s.hbmWrite b l).get ⟨a, hi, lo⟩ = s.get ⟨a, hi, lo⟩ := by
  have hfaults (t : State) (v : FaultSt) : State.get { t with faults := v } ⟨a, hi, lo⟩ = t.get ⟨a, hi, lo⟩ := rfl
  have hword (t : State) (c : Nat) (x : Armed) (w : Nat) :
      (t.wroteWord (hbmPage c) x w).get ⟨a, hi, lo⟩ = t.get ⟨a, hi, lo⟩ := by
    unfold State.wroteWord
    split
    · exact hfaults ..
    · refine ite_p (State.get · ⟨a, hi, lo⟩) ((hfaults ..).trans ?_) rfl
      exact t.get_put_addr _ _ _ (by simp only [HDR.FAULT_INJ_ARMED, hbmPage]; omega)
  have hwrote (t : State) (n : Nat) : (t.wroteHbm b n).get ⟨a, hi, lo⟩ = t.get ⟨a, hi, lo⟩ := by
    refine ite_p (State.get · ⟨a, hi, lo⟩) rfl (State.each_p (State.get · ⟨a, hi, lo⟩) fun t c => ?_)
    split
    · rfl
    · refine ite_p (State.get · ⟨a, hi, lo⟩) rfl ?_
      split
      · split
        · exact hword ..
        · rfl
      · exact ite_p (State.get · ⟨a, hi, lo⟩) (hword ..) rfl
  have hhbm : Ignores (fun t => t.get ⟨a, hi, lo⟩) [.hbm] := get_ignores _ rfl
  exact (hhbm.hbm rfl _ _).trans ((hwrote _ _).trans (s.get_touch_low _ _ h))

/-! ### Rows (R213) -/

theorem boxPixel_length {rgb : Bool} {bayer : Option Nat} {src : Int → Int → Option Nat} {ys xs : List Nat} {c : Chan}
    (h : boxPixel rgb bayer src ys xs = some c) : c.length = if rgb then 3 else 1 := by
  unfold boxPixel at h
  dsimp only at h
  split at h
  · cases h
  · obtain rfl := Option.some.inj h
    rw [List.length_map, List.length_range]

/-- A row of a tile: TW pixels, each of the bytes of the format where it is there. -/
structure State.IsRow (s : State) (m n : Nat) (px : List (Option Chan)) : Prop where
  width : px.length = s.get (MOULD.TILE_SIZE_TW m n)
  bytes : ∀ c, some c ∈ px → c.length = s.mouldBytes m

theorem State.tileRow_isRow (s : State) (m n : Nat) (bayer : Option Nat) (ys : List Nat) (lines : Nat → Option SrcLine) :
    s.IsRow m n (s.tileRow m n bayer ys lines) := by
  refine ⟨by rw [State.tileRow, List.length_map, List.length_range], fun c hc => ?_⟩
  obtain ⟨i, -, hi⟩ := List.mem_map.mp hc
  exact boxPixel_length hi

theorem State.blankRow_isRow (s : State) (m n : Nat) :
    s.IsRow m n (List.replicate (s.get (MOULD.TILE_SIZE_TW m n)) none) :=
  ⟨List.length_replicate, fun _ hc => nomatch List.eq_of_mem_replicate hc⟩

/-- Row r of two slots of `slot` bytes, each of th rows of w bytes, lies in the two. -/
theorem row_in_slots {r th w slot : Nat} (hr : r < 2 * th) (hslot : w * th ≤ slot) :
    r / th * slot + r % th * w + w ≤ 2 * slot := by
  have hth : 0 < th := by omega
  have hslotNo : r / th ≤ 1 := by
    have := (Nat.div_lt_iff_lt_mul hth).mpr hr
    omega
  have hrow : r % th * w + w ≤ w * th := by
    rw [← Nat.succ_mul, Nat.mul_comm w]
    exact Nat.mul_le_mul_right _ (Nat.mod_lt r hth)
  have := Nat.mul_le_mul_right slot hslotNo
  omega

theorem le_mul_ceilDiv {n b : Nat} (hb : 0 < b) : n ≤ b * ceilDiv n b := by
  have := Nat.lt_mul_div_succ (n + b - 1) hb
  rw [Nat.mul_add] at this
  rw [ceilDiv]
  omega

/-! ### The slots of a tile (R218) -/

/-- The slots of tile n of mould m lie in t as in s, byte a of HBM reads as there, and the frame in assembly names one of the two
slots. -/
structure State.SlotsKept (s : State) (m n a : Nat) (t : State) : Prop where
  width : t.get (MOULD.TILE_SIZE_TW m n) = s.get (MOULD.TILE_SIZE_TW m n)
  height : t.get (MOULD.TILE_SIZE_TH m n) = s.get (MOULD.TILE_SIZE_TH m n)
  format : t.get (MOULD.MOULD_CFG_FORMAT m) = s.get (MOULD.MOULD_CFG_FORMAT m)
  base : (t.tile m n).base = (s.tile m n).base
  slot : ∀ f k, (t.tile m n).cur = some f → f.slot = some k → k < 2
  byte : t.hbmByte a = s.hbmByte a

@[simp] theorem State.tile_setTile_same (s : State) (m n : Nat) (v : TileSt) : (s.setTile m n v).tile m n = v := by
  rw [State.tile, State.setTile, State.mould_setMould_same]
  exact tget_tput_same ..

namespace State.SlotsKept

variable {s t : State} {m n a : Nat}

theorem mouldBytes (h : s.SlotsKept m n a t) : t.mouldBytes m = s.mouldBytes m := by
  rw [State.mouldBytes, State.mouldRgb, State.on, h.format]
  rfl

theorem slotBytes (h : s.SlotsKept m n a t) : t.slotBytes m n = s.slotBytes m n := by
  simp only [State.slotBytes, h.width, h.height, h.mouldBytes]

theorem isRow (h : s.SlotsKept m n a t) {px : List (Option Chan)} : t.IsRow m n px ↔ s.IsRow m n px :=
  ⟨fun ⟨hw, hb⟩ => ⟨hw.trans h.width, fun c hc => (hb c hc).trans h.mouldBytes⟩,
    fun ⟨hw, hb⟩ => ⟨hw.trans h.width.symm, fun c hc => (hb c hc).trans h.mouldBytes.symm⟩⟩

/-- What writes none of the registers that lay out the slots, no tile and no byte of HBM keeps them. -/
theorem of_regs {u : State} (h : s.SlotsKept m n a t) (hsize : ∀ hi lo, u.get ⟨0x711008 + 0x4000 * m + 0x20 * n, hi, lo⟩ =
      t.get ⟨0x711008 + 0x4000 * m + 0x20 * n, hi, lo⟩)
    (hcfg : u.get ⟨0x710100 + 0x4000 * m, 8, 8⟩ = t.get ⟨0x710100 + 0x4000 * m, 8, 8⟩) (hmould : u.mould m = t.mould m)
    (hhbm : u.hbm = t.hbm) : s.SlotsKept m n a u := by
  have htile : u.tile m n = t.tile m n := congrArg (fun v : MouldSt => tget v.tiles n {}) hmould
  exact { width := (tileWidthField m n ▸ hsize 12 0).trans h.width
          height := (tileHeightField m n ▸ hsize 28 16).trans h.height
          format := (formatField m ▸ hcfg).trans h.format
          base := by rw [htile, h.base]
          slot := by rw [htile]; exact h.slot
          byte := (State.hbmByte_of_hbm hhbm a).trans h.byte }

theorem put {b hi lo : Nat} (h : s.SlotsKept m n a t) (v : Nat) (hlow : 0x710100 + 0x4000 * m < b)
    (hhigh : b < 0x711000 + 0x4000 * m) : s.SlotsKept m n a (t.put ⟨b, hi, lo⟩ v) :=
  h.of_regs (fun _ _ => State.get_put_off _ _ (.inl (by omega))) (State.get_put_off _ _ (.inl (by omega)))
    (State.put_keeps (mould_ignores m rfl) ..) (State.put_keeps (memory_ignores rfl) ..)

theorem skip (h : s.SlotsKept m n a t) : s.SlotsKept m n a (t.inc (MOULD.SRC_SKIP m)) := by
  simp only [State.inc, State.add, mouldCountFields]
  exact h.put _ (by omega) (by omega)

theorem setStale (h : s.SlotsKept m n a t) (v : Bool) : s.SlotsKept m n a (t.setStale m n v) := by
  unfold State.setStale State.putBit tileBit
  split <;> simp only [mouldFields] <;> exact h.put _ (by omega) (by omega)

theorem setTile (h : s.SlotsKept m n a t) {v : TileSt} (hbase : v.base = (t.tile m n).base)
    (hslot : ∀ f k, v.cur = some f → f.slot = some k → k < 2) : s.SlotsKept m n a (t.setTile m n v) where
  width := h.width
  height := h.height
  format := h.format
  base := by rw [State.tile_setTile_same, hbase, h.base]
  slot := by rw [State.tile_setTile_same]; exact hslot
  byte := h.byte

/-- What is held of the tile changes but for the place of its slots and the frame in assembly. -/
theorem keepTile (h : s.SlotsKept m n a t) {v : TileSt} (hbase : v.base = (t.tile m n).base) (hcur : v.cur = (t.tile m n).cur) :
    s.SlotsKept m n a (t.setTile m n v) :=
  h.setTile hbase (hcur ▸ h.slot)

theorem startTileFrame (h : s.SlotsKept m n a t) : s.SlotsKept m n a (t.startTileFrame m n) := by
  unfold State.startTileFrame
  extract_lets x k
  have hk : k < 2 := by unfold k; split <;> decide
  clear_value k
  split
  · refine skip (h.setTile rfl fun f j hf hj => ?_)
    cases hf
    cases hj
  · refine h.setTile rfl fun f j hf hj => ?_
    cases hf
    cases hj
    exact hk

variable (hm : m < 8) (hn : n < 64)

include hm hn

theorem badPacket (h : s.SlotsKept m n a t) : s.SlotsKept m n a ((t.inc (MOULD.BAD_PKT m)).raise (mouldPage m) 2) := by
  have hcount : s.SlotsKept m n a (t.inc (MOULD.BAD_PKT m)) := by
    simp only [State.inc, State.add, mouldCountFields]
    exact h.put _ (by omega) (by omega)
  exact hcount.of_regs (fun _ _ => State.get_raise_off _ _ _ (by simp only [mouldPage]; omega) (by omega))
    (State.get_raise_off _ _ _ (by simp only [mouldPage]; omega) (by omega)) (State.raise_keeps (mould_ignores m rfl) ..)
    (State.raise_keeps (memory_ignores rfl) ..)

/-- A store outside byte a. -/
theorem store (h : s.SlotsKept m n a t) {b : Nat} {l : List Byte} (ha : a < b ∨ b + l.length ≤ a) :
    s.SlotsKept m n a (t.hbmWrite b l) where
  width := by rw [← h.width, tileWidthField]; exact t.get_hbmWrite_low (by omega) ..
  height := by rw [← h.height, tileHeightField]; exact t.get_hbmWrite_low (by omega) ..
  format := by rw [← h.format, formatField]; exact t.get_hbmWrite_low (by omega) ..
  base := by rw [State.tile, State.hbmWrite_keeps (mould_ignores m rfl)]; exact h.base
  slot := by rw [State.tile, State.hbmWrite_keeps (mould_ignores m rfl)]; exact h.slot
  byte := (t.hbmWrite_out _ _ a ha).trans h.byte

variable (hout : ∀ b, (s.tile m n).base = some b → a < b ∨ b + 2 * s.slotBytes m n ≤ a)

include hout

/-- A row of a tile goes into its two slots. -/
theorem writeRow (h : s.SlotsKept m n a t) {r : Nat} (hr : r < 2 * s.get (MOULD.TILE_SIZE_TH m n)) {px : List (Option Chan)}
    (hpx : s.IsRow m n px) : s.SlotsKept m n a (t.writeRow m n r px) := by
  unfold State.writeRow
  extract_lets x th bm blank bytes holes
  split
  · exact h
  · next base hbase =>
    extract_lets addr
    have hlen : bytes.length = s.get (MOULD.TILE_SIZE_TW m n) * s.mouldBytes m := by
      rw [← hpx.width]
      refine length_flatten_map px fun c hc => ?_
      rw [List.length_map]
      cases c with
      | none => exact List.length_replicate.trans h.mouldBytes
      | some v => exact hpx.bytes v hc
    have haddr : addr = base + r / s.get (MOULD.TILE_SIZE_TH m n) * s.slotBytes m n +
        r % s.get (MOULD.TILE_SIZE_TH m n) * (s.get (MOULD.TILE_SIZE_TW m n) * s.mouldBytes m) := by
      rw [← Nat.mul_assoc, ← h.height, ← h.width, ← h.slotBytes, ← h.mouldBytes]
    have hfits : s.get (MOULD.TILE_SIZE_TW m n) * s.mouldBytes m * s.get (MOULD.TILE_SIZE_TH m n) ≤ s.slotBytes m n := by
      rw [Nat.mul_right_comm]
      exact le_mul_ceilDiv (by decide)
    have hin := row_in_slots hr hfits
    have hstore : s.SlotsKept m n a (t.hbmWrite addr bytes) := by
      refine h.store hm hn ?_
      have := hout base (h.base.symm.trans hbase)
      omega
    exact hstore.setTile (h.base.trans hstore.base.symm) h.slot

theorem endTileFrame (h : s.SlotsKept m n a t) (x : TileSource) : s.SlotsKept m n a (t.endTileFrame m n x) := by
  unfold State.endTileFrame
  split
  · exact h
  · next f hf =>
    extract_lets _ u scale th find
    have hu : s.SlotsKept m n a u := h.setTile rfl nofun
    split
    · exact hu
    · next k hk =>
      extract_lets v
      have hk2 := h.slot f k hf hk
      have hv : s.SlotsKept m n a v := by
        refine List.foldlRecOn _ _ hu fun w hw r hr => ?_
        have hrow : k * th + r < 2 * s.get (MOULD.TILE_SIZE_TH m n) := by
          have hth : th = s.get (MOULD.TILE_SIZE_TH m n) := h.height
          have := Nat.mul_le_mul_right th (Nat.le_of_lt_succ hk2)
          have := List.mem_range.mp hr
          omega
        extract_lets y0 ys
        split
        · exact hw.writeRow hm hn hout hrow (h.isRow.mp (t.blankRow_isRow m n))
        · split
          · exact hw
          · exact hw.writeRow hm hn hout hrow (h.isRow.mp (t.tileRow_isRow m n _ _ _))
      clear_value v
      refine setStale ?_ false
      exact hv.keepTile rfl rfl

theorem scrollLine (h : s.SlotsKept m n a t) (x : TileSource) (num : Nat) (l : SrcLine) :
    s.SlotsKept m n a (t.scrollLine m n x num l) := by
  unfold State.scrollLine
  extract_lets e group scale th u near find ys v
  have hu : s.SlotsKept m n a u := h.keepTile rfl rfl
  split
  · exact h.keepTile rfl rfl
  · split
    · exact hu.skip
    · next hfew =>
      have hv : s.SlotsKept m n a v := by
        refine hu.writeRow hm hn hout ?_ (h.isRow.mp (t.tileRow_isRow m n _ _ _))
        rw [← h.height]
        exact Nat.mod_lt _ (by omega)
      refine setStale ?_ false
      exact hv.keepTile rfl rfl

theorem tileLine (h : s.SlotsKept m n a t) (x : TileSource) (num : Nat) (first last : Bool) (l : SrcLine) :
    s.SlotsKept m n a (t.tileLine m n x num first last l) := by
  unfold State.tileLine
  split
  · exact h.scrollLine hm hn hout x num l
  · extract_lets u _ v
    have hu : s.SlotsKept m n a u := by
      unfold u
      split
      · exact (h.endTileFrame hm hn hout x).startTileFrame
      · exact h
    have hv : s.SlotsKept m n a v := by
      unfold v
      split
      · next f hf =>
        refine hu.setTile rfl fun g k hg hk => ?_
        cases hg
        exact hu.slot f k hf hk
      · exact hu
    split
    · exact hv.endTileFrame hm hn hout x
    · exact hv

theorem endPart (h : s.SlotsKept m n a t) (x : TileSource) : s.SlotsKept m n a (t.endPart m n x) := by
  unfold State.endPart
  split
  · exact h
  · exact tileLine hm hn hout (t := t.setTile m n { t.tile m n with part := none }) (h.keepTile rfl rfl) x _ _ _ _

theorem tileSegment (h : s.SlotsKept m n a t) (x : TileSource) (k : Packet) (px : List Nat) :
    s.SlotsKept m n a (t.tileSegment m n x k px) := by
  unfold State.tileSegment
  extract_lets sub same u p q _ v
  have hu : s.SlotsKept m n a u := by
    unfold u
    split
    · exact h
    · exact h.endPart hm hn hout x
  have hv : s.SlotsKept m n a v := hu.keepTile rfl rfl
  split
  · exact hv.endPart hm hn hout x
  · exact hv

theorem takeTile (h : s.SlotsKept m n a t) (k : Packet) : s.SlotsKept m n a (t.takeTile m n k) := by
  unfold State.takeTile
  have hbad := h.badPacket hm hn
  split
  · exact h
  · dsimp only
    split
    · exact hbad
    · split
      · exact hbad
      · split
        · exact h.tileSegment hm hn hout _ k _
        · exact h.tileLine hm hn hout _ _ _ _ _

end State.SlotsKept

theorem State.mouldPacket_out (s : State) {m n a : Nat} (hm : m < 8) (hn : n < 64) (links : List Ecc)
    (hout : let r := (s.claimFor (s.get (MOULD.TILE_SRC_QUEUE m n))).readOut (s.get (MOULD.TILE_SRC_QUEUE m n)) links
      ∀ b, (r.2.tile m n).base = some b → a < b ∨ b + 2 * r.2.slotBytes m n ≤ a)
    (hslot : let r := (s.claimFor (s.get (MOULD.TILE_SRC_QUEUE m n))).readOut (s.get (MOULD.TILE_SRC_QUEUE m n)) links
      ∀ f k, (r.2.tile m n).cur = some f → f.slot = some k → k < 2) :
    (s.mouldPacket m n links).hbmByte a = s.hbmByte a := by
  have hread := s.readOut_hbm (s.get (MOULD.TILE_SRC_QUEUE m n)) links
  unfold State.mouldPacket
  dsimp only at hout hslot ⊢
  generalize (s.claimFor (s.get (MOULD.TILE_SRC_QUEUE m n))).readOut (s.get (MOULD.TILE_SRC_QUEUE m n)) links = r
    at hout hslot hread ⊢
  obtain ⟨_ | p, t⟩ := r
  · exact ite_p (State.hbmByte · a) rfl (State.hbmByte_of_hbm hread a)
  · have hkept : t.SlotsKept m n a t := ⟨rfl, rfl, rfl, rfl, hslot, rfl⟩
    have htaken := hkept.takeTile hm hn hout p
    exact ite_p (State.hbmByte · a) rfl (htaken.byte.trans (State.hbmByte_of_hbm hread a))

/-! ### The commands -/

/-- A command that leaves a byte of HBM when its condition holds leaves it. -/
theorem hbmByte_next {s t : State} {b : Bool} {f : State → State} {a : Nat}
    (h : (Host.Outcome.next (s.when b f) : Host.Outcome State Fault Refusal) = .next t) (hf : (f s).hbmByte a = s.hbmByte a) :
    t.hbmByte a = s.hbmByte a := by
  obtain rfl : s.when b f = t := Host.Outcome.next.inj h
  exact ite_p (State.hbmByte · a) hf rfl

/-- Settles O53, by the bytes that each of the four commands stores and where. -/
theorem storesFrame : Obligations.StoresFrame :=
  ⟨fun s _ c r _ h ha => hbmByte_next h (s.tblLoadDone_out c r ha), fun s _ c _ h ha => hbmByte_next h (s.nrEmit_out c ha),
    fun s _ u i links bad _ h ha => hbmByte_next h (s.seamPacket_out u.isLt i links bad ha),
    fun s _ m n links _ h hout hslot => hbmByte_next h (s.mouldPacket_out m.isLt n.isLt links hout hslot)⟩

end Sys2Proof.Machine
end

section
/-!
PROOFS. The residual coder: bits most significant first, residuals and their samples, Rice codes, segments, and a coded line read
back sample by sample (R194 to R198; O56).
-/

namespace Sys2Proof.Machine

/-! ### Bits, most significant first (R196) -/

@[simp] theorem bitsMsb_length (n v : Nat) : (bitsMsb n v).length = n := by simp [bitsMsb]

theorem bitsNat_eq (l : List Bool) : bitsNat l = bitsVal l.reverse := by
  rw [← bitsVal_eq_foldr, bitsNat, List.foldl_eq_foldr_reverse]
  simp only [Nat.add_comm]

@[simp] theorem bitsNat_bitsMsb (n v : Nat) : bitsNat (bitsMsb n v) = v % 2 ^ n := by
  rw [bitsNat_eq, bitsMsb, List.reverse_reverse, bitsVal_bitOf]

/-- A bit string is the bits of the number it spells. -/
theorem bits_bitsVal (l : List Bool) : (List.range l.length).map (bitOf (bitsVal l)) = l := by
  induction l with
  | nil => rfl
  | cons b l ih =>
    have hval : bitsVal (b :: l) = b2n b + 2 * bitsVal l := by simp [bitsVal, Nat.ofDigits_cons]
    have hfirst : bitOf (b2n b + 2 * bitsVal l) 0 = b := by cases b <;> simp [bitOf, b2n, Nat.add_mod]
    have hrest : (bitOf (b2n b + 2 * bitsVal l) ∘ Nat.succ) = bitOf (bitsVal l) := by
      funext i
      have hbit : b2n b < 2 := by cases b <;> decide
      have hhalf : (b2n b + 2 * bitsVal l) / 2 = bitsVal l := by omega
      simp only [Function.comp_apply, bitOf, Nat.pow_succ', ← Nat.div_div_eq_div_mul, hhalf]
    rw [List.length_cons, List.range_succ_eq_map, List.map_cons, List.map_map, hval, hfirst, hrest, ih]

theorem bitsMsb_bitsNat (l : List Bool) : bitsMsb l.length (bitsNat l) = l := by
  have h := bits_bitsVal l.reverse
  rw [List.length_reverse] at h
  rw [bitsMsb, bitsNat_eq, h, List.reverse_reverse]

/-- The next n bits, in front of others, are the number they were made of. -/
theorem readBits_bitsMsb (n v : Nat) (rest : List Bool) : readBits n (bitsMsb n v ++ rest) = some (v % 2 ^ n, rest) := by
  rw [readBits, if_neg (by simp), List.take_left' (bitsMsb_length n v), List.drop_left' (bitsMsb_length n v), bitsNat_bitsMsb]

/-! ### Bytes of bits (R196) -/

theorem chunksAux_nil {α : Type} (n f : Nat) : chunksAux n f ([] : List α) = [] := by cases f <;> rfl

/-- Eight bits packed into a byte are its bits. -/
theorem bitsMsb_byte {c : List Bool} (h : c.length = 8) : bitsMsb 8 (BitVec.ofNat 8 (bitsNat c)).toNat = c := by
  have hlt : bitsNat c < 2 ^ 8 := by
    rw [bitsNat_eq]
    exact h ▸ List.length_reverse (as := c) ▸ bitsVal_lt c.reverse
  rw [BitVec.toNat_ofNat, Nat.mod_eq_of_lt hlt, ← h, bitsMsb_bitsNat]

theorem unpackMsb_chunksAux (f : Nat) (l : List Bool) (h : l.length ≤ f) :
    ∃ p < 8, unpackMsb ((chunksAux 8 f l).map fun c => BitVec.ofNat 8 (bitsNat (c ++ List.replicate (8 - c.length) false))) =
      l ++ List.replicate p false := by
  induction f generalizing l with
  | zero => exact ⟨0, by decide, by rw [List.eq_nil_of_length_eq_zero (Nat.le_zero.mp h)]; rfl⟩
  | succ f ih =>
    cases l with
    | nil => exact ⟨0, by decide, rfl⟩
    | cons b l =>
      have hcons (c : List Bool) (hc : c.length ≤ 8) (t : List Byte) :
          unpackMsb (BitVec.ofNat 8 (bitsNat (c ++ List.replicate (8 - c.length) false)) :: t) =
            c ++ List.replicate (8 - c.length) false ++ unpackMsb t := by
        rw [unpackMsb, List.map_cons, List.flatten_cons, bitsMsb_byte (by simp; omega), ← unpackMsb]
      rw [chunksAux_cons, List.map_cons, hcons _ (List.length_take_le 8 _)]
      rcases Nat.lt_or_ge (b :: l).length 8 with hshort | hfull
      · refine ⟨8 - (b :: l).length, by rw [List.length_cons]; omega, ?_⟩
        rw [List.take_of_length_le hshort.le, List.drop_eq_nil_of_le hshort.le, chunksAux_nil]
        exact List.append_nil _
      · obtain ⟨p, hp, hrest⟩ := ih ((b :: l).drop 8) (by simp only [List.length_drop, List.length_cons] at h ⊢; omega)
        refine ⟨p, hp, ?_⟩
        rw [hrest, List.length_take_of_le hfull, Nat.sub_self, List.replicate_zero, List.append_nil, ← List.append_assoc,
          List.take_append_drop]

/-- Bytes give back the bits that they pack, and fewer than 8 zeros behind them. -/
theorem unpackMsb_packMsb (l : List Bool) : ∃ p < 8, unpackMsb (packMsb l) = l ++ List.replicate p false :=
  unpackMsb_chunksAux _ _ le_rfl

theorem packMsb_length (l : List Bool) : (packMsb l).length = ceilDiv l.length 8 := by
  rw [packMsb, List.length_map, chunks, chunksAux_length (by decide) _ _ le_rfl]

/-! ### Residuals (R195, R198) -/

/-- A signed number of n bits is the number that its bits spell, modulo 2^n. -/
theorem sext_emod (n v : Nat) : sext n v % (2 ^ n : Nat) = (v % 2 ^ n : Nat) := by
  unfold sext
  dsimp only
  split <;> simp

theorem sext_bounds {n : Nat} (hn : 1 ≤ n) (v : Nat) :
    -((2 ^ (n - 1) : Nat) : Int) ≤ sext n v ∧ sext n v < (2 ^ (n - 1) : Nat) := by
  have hpow : 2 ^ n = 2 * 2 ^ (n - 1) := by rw [← Nat.pow_succ', Nat.succ_eq_add_one, Nat.sub_add_cancel hn]
  have hlt : v % 2 ^ n < 2 ^ n := Nat.mod_lt _ (by positivity)
  unfold sext
  dsimp only
  split <;> omega

/-- The difference of a sample from its prediction, of bc bits, as a signed number (R195). -/
def residual (bc v p : Nat) : Int := sext bc ((v + 2 ^ bc - p % 2 ^ bc) % 2 ^ bc)

theorem mapResidual_eq (bc v p : Nat) : mapResidual bc v p =
    if residual bc v p ≥ 0 then (2 * residual bc v p).toNat else (-2 * residual bc v p - 1).toNat := rfl

/-- A sample is its prediction and its residual, modulo 2^bc. -/
theorem toBits_residual {bc v : Nat} (hv : v < 2 ^ bc) (p : Nat) : toBits bc (p + residual bc v p) = v := by
  have hle : p % 2 ^ bc ≤ 2 ^ bc := (Nat.mod_lt p (by positivity)).le
  have hsum : (p : Int) + ((v + 2 ^ bc - p % 2 ^ bc : Nat) : Int) = v + (2 ^ bc : Nat) * ((p / 2 ^ bc + 1 : Nat) : Int) := by
    have hdiv : (p : Int) = (2 ^ bc : Nat) * ((p / 2 ^ bc : Nat) : Int) + (p % 2 ^ bc : Nat) := by
      exact_mod_cast (Nat.div_add_mod p (2 ^ bc)).symm
    rw [Nat.cast_sub (by omega), Nat.cast_add, Nat.cast_add, Nat.cast_one, mul_add]
    linarith
  rw [toBits, residual, Int.add_emod, sext_emod, Nat.mod_mod, Int.natCast_mod, Int.add_emod_emod, Int.emod_add_emod, hsum,
    Int.add_mul_emod_self_left]
  exact_mod_cast Nat.mod_eq_of_lt hv

/-- A mapped residual gives back its sample (R198). -/
theorem unmapResidual_mapResidual {bc v : Nat} (hv : v < 2 ^ bc) (p : Nat) :
    unmapResidual bc (mapResidual bc v p) p = v := by
  refine Eq.trans ?_ (toBits_residual hv p)
  rw [unmapResidual, mapResidual_eq]
  congr 2
  split <;> split <;> omega

theorem mapResidual_lt {bc : Nat} (hbc : 1 ≤ bc) (v p : Nat) : mapResidual bc v p < 2 ^ bc := by
  have hpow : 2 ^ bc = 2 * 2 ^ (bc - 1) := by rw [← Nat.pow_succ', Nat.succ_eq_add_one, Nat.sub_add_cancel hbc]
  obtain ⟨hlo, hhi⟩ : _ ≤ residual bc v p ∧ residual bc v p < _ := sext_bounds hbc _
  rw [mapResidual_eq]
  split <;> omega

/-! ### Rice codes (R196, R198) -/

theorem readUnary_zeros (n : Nat) (rest : List Bool) : readUnary n (List.replicate n false ++ rest) = some (n, rest) := by
  induction n with
  | zero => rfl
  | succ n ih => simp [List.replicate_succ, readUnary, ih]

theorem readUnary_one {q n : Nat} (h : q < n) (rest : List Bool) :
    readUnary n (List.replicate q false ++ true :: rest) = some (q, rest) := by
  induction q generalizing n with
  | zero => obtain ⟨n, rfl⟩ := Nat.exists_eq_succ_of_ne_zero h.ne'; rfl
  | succ q ih =>
    obtain ⟨n, rfl⟩ := Nat.exists_eq_succ_of_ne_zero (Nat.ne_of_gt (Nat.zero_lt_of_lt h))
    simp [List.replicate_succ, readUnary, ih (Nat.lt_of_succ_lt_succ h)]

theorem riceCode_length (bc k m : Nat) : (riceCode bc k m).length = riceCost bc k m := by
  unfold riceCode riceCost
  split <;> simp only [List.length_append, List.length_replicate, List.length_singleton, bitsMsb_length]

/-- The bits of one sample and its mapped residual in a segment of a form: none raw, some k Rice. -/
def sampleBits (bc : Nat) (form : Option Nat) (p : Nat × Nat) : List Bool :=
  match form with
  | none => bitsMsb bc p.1
  | some k => riceCode bc k p.2

section

variable (bc st : Nat) (above : Option (List Nat))

/-- A sample behind the samples `done` of its line, with its mapped residual (R195). -/
def codedSample (done : List Nat) (v : Nat) : Nat × Nat :=
  (v, mapResidual bc v (predict bc st above (leftOf st done done.length) done.length))

variable {bc}

/-- A Rice code reads as its mapped residual. -/
theorem readSample_rice (k : Nat) {m : Nat} (hm : m < 2 ^ bc) (done : List Nat) (rest : List Bool) :
    readSample bc st above (some k) done (riceCode bc k m ++ rest) =
      some (unmapResidual bc m (predict bc st above (leftOf st done done.length) done.length), rest) := by
  unfold riceCode
  split
  · next hq =>
    simp only [List.append_assoc, List.cons_append, List.nil_append, readSample, readUnary_one hq, hq.ne, if_false, readBits_bitsMsb,
      Nat.div_add_mod']
  · simp only [List.append_assoc, readSample, readUnary_zeros, if_true, readBits_bitsMsb, Nat.mod_eq_of_lt hm]

/-- The bits of a sample read as the sample, in either form. -/
theorem readSample_sampleBits (hbc : 1 ≤ bc) (form : Option Nat) (done : List Nat) {v : Nat} (hv : v < 2 ^ bc)
    (rest : List Bool) :
    readSample bc st above form done (sampleBits bc form (codedSample bc st above done v) ++ rest) = some (v, rest) := by
  cases form with
  | none => exact (readBits_bitsMsb bc v rest).trans (by rw [Nat.mod_eq_of_lt hv])
  | some k =>
    simp only [sampleBits, codedSample, readSample_rice st above k (mapResidual_lt hbc _ _), unmapResidual_mapResidual hv]

/-! ### The samples of a line -/

variable (bc)

/-- The rest of a line behind the samples `done`, each with its mapped residual. -/
def codedSamples (done : List Nat) : List Nat → List (Nat × Nat)
  | [] => []
  | v :: l => codedSample bc st above done v :: codedSamples (done ++ [v]) l

@[simp] theorem codedSamples_length (done l : List Nat) : (codedSamples bc st above done l).length = l.length := by
  induction l generalizing done with
  | nil => rfl
  | cons v l ih => rw [codedSamples, List.length_cons, ih, List.length_cons]

theorem codedSamples_take (n : Nat) (done l : List Nat) :
    (codedSamples bc st above done l).take n = codedSamples bc st above done (l.take n) := by
  induction l generalizing n done with
  | nil => simp [codedSamples]
  | cons v l ih => cases n <;> simp [codedSamples, ih]

theorem codedSamples_drop (n : Nat) (done l : List Nat) :
    (codedSamples bc st above done l).drop n = codedSamples bc st above (done ++ l.take n) (l.drop n) := by
  induction l generalizing n done with
  | nil => simp [codedSamples]
  | cons v l ih => cases n <;> simp [codedSamples, ih]

variable {st}

/-- The sample to the left of the next one is one of those before it. -/
theorem leftOf_append (hst : 1 ≤ st) (done l : List Nat) : leftOf st (done ++ l) done.length = leftOf st done done.length := by
  unfold leftOf
  split
  · rfl
  · rw [List.getD_append _ _ _ _ (by omega)]

theorem codedSamples_eq_zip (hst : 1 ≤ st) (done l : List Nat) :
    codedSamples bc st above done l = l.zip ((List.range l.length).map fun x =>
      mapResidual bc (l.getD x 0) (predict bc st above (leftOf st (done ++ l) (done.length + x)) (done.length + x))) := by
  induction l generalizing done with
  | nil => rfl
  | cons v l ih =>
    rw [codedSamples, codedSample, ih, List.length_cons, List.range_succ_eq_map, List.map_cons, List.map_map, List.zip_cons_cons,
      Nat.add_zero, leftOf_append hst]
    simp only [Function.comp_def, List.append_assoc, List.singleton_append, List.length_append, List.length_singleton,
      List.getD_cons_zero, List.getD_cons_succ, Nat.add_assoc, Nat.succ_eq_add_one, Nat.add_comm 1]

theorem codeLine_eq (hst : 1 ≤ st) (l : List Nat) :
    codeLine bc st above l = packMsb ((chunks 32 (codedSamples bc st above [] l)).map (codeSegment bc)).flatten := by
  rw [codedSamples_eq_zip bc above hst]
  simp only [List.nil_append, List.length_nil, Nat.zero_add]
  rfl

end

/-! ### Segments (R196, R197) -/

/-- The least cost below n is at a parameter below n. -/
theorem bestRice_le (bc : Nat) (ms : List Nat) (n : Nat) : bestRice bc ms n ≤ n - 1 := by
  induction n with
  | zero => exact le_rfl
  | succ n ih =>
    rw [bestRice]
    split <;> omega

/-- The bits that open a segment of a form. -/
def formBits : Option Nat → List Bool
  | none => [false]
  | some k => true :: bitsMsb 4 k

/-- A segment opens with its form, k below 16, and holds the bits of its samples. -/
theorem codeSegment_form {bc : Nat} (hbc : bc ≤ 16) (seg : List (Nat × Nat)) :
    ∃ form : Option Nat, (∀ k, form = some k → k < 2 ^ 4) ∧
      codeSegment bc seg = formBits form ++ (seg.map (sampleBits bc form)).flatten := by
  have hk := bestRice_le bc (seg.map Prod.snd) bc
  unfold codeSegment
  dsimp only
  split
  · exact ⟨none, nofun, rfl⟩
  · refine ⟨some (bestRice bc (seg.map Prod.snd) bc), fun k h => ?_, ?_⟩
    · obtain rfl := Option.some.inj h
      omega
    · rw [List.map_map]
      rfl

theorem segCost_eq (bc k : Nat) (ms : List Nat) :
    ([true] ++ bitsMsb 4 k ++ (ms.map (riceCode bc k)).flatten).length = segCost bc k ms := by
  simp only [List.length_append, List.length_singleton, bitsMsb_length, List.length_flatten, List.map_map, Function.comp_def,
    riceCode_length]
  rfl

/-- No segment is longer than its raw form (R197). -/
theorem codeSegment_length (bc : Nat) (seg : List (Nat × Nat)) : (codeSegment bc seg).length ≤ 1 + seg.length * bc := by
  unfold codeSegment
  dsimp only
  split
  · rw [List.length_append, List.length_singleton, length_flatten_map (n := bc) _ fun _ _ => bitsMsb_length ..]
  · next hcost =>
    rw [segCost_eq]
    omega

theorem codeSegments_length (bc : Nat) (segs : List (List (Nat × Nat))) :
    (segs.map (codeSegment bc)).flatten.length ≤ segs.length + segs.flatten.length * bc := by
  induction segs with
  | nil => simp
  | cons seg segs ih =>
    have hseg := codeSegment_length bc seg
    simp only [List.map_cons, List.flatten_cons, List.length_append, List.length_cons, Nat.add_mul]
    omega

theorem flatten_chunksAux {α : Type} {n : Nat} (hn : 0 < n) (f : Nat) (l : List α) (h : l.length ≤ f) :
    (chunksAux n f l).flatten = l := by
  induction f generalizing l with
  | zero => rw [List.eq_nil_of_length_eq_zero (Nat.le_zero.mp h)]; rfl
  | succ f ih =>
    cases l with
    | nil => rfl
    | cons x l =>
      rw [chunksAux_cons, List.flatten_cons, ih _ (by simp only [List.length_drop, List.length_cons] at h ⊢; omega),
        List.take_append_drop]

/-- The bound of R198 has room for one bit a segment. -/
theorem ceilDiv_le_codedBound {w bc : Nat} (hbc : 8 ≤ bc) (hw : 1 ≤ w) :
    ceilDiv (ceilDiv w 32 + w * bc) 8 ≤ codedBound w bc := by
  have hbits : w * 8 ≤ w * bc := Nat.mul_le_mul_left w hbc
  unfold codedBound ceilDiv
  omega

/-- A coded line keeps to the bound of R198. -/
theorem codeLine_length {bc st : Nat} (above : Option (List Nat)) {l : List Nat} (hbc : 8 ≤ bc) (hst : 1 ≤ st)
    (hl : 1 ≤ l.length) : (codeLine bc st above l).length ≤ codedBound l.length bc := by
  have hsegs := codeSegments_length bc (chunks 32 (codedSamples bc st above [] l))
  rw [chunks, flatten_chunksAux (by decide) _ _ le_rfl, chunksAux_length (by decide) _ _ le_rfl, codedSamples_length] at hsegs
  rw [codeLine_eq bc above hst, packMsb_length, chunks, codedSamples_length]
  exact (Nat.div_le_div_right (Nat.sub_le_sub_right (Nat.add_le_add_right hsegs 8) 1)).trans (ceilDiv_le_codedBound hbc hl)

/-! ### Reading a coded line (R198) -/

section

variable {bc st : Nat} (above : Option (List Nat))

/-- The bits that open a segment begin 32 samples of its form. -/
theorem decodeFrom_form {form : Option Nat} (hform : ∀ k, form = some k → k < 2 ^ 4) (n : Nat) (old : Option Nat) (done : List Nat)
    (l : List Bool) :
    decodeFrom bc st above (n + 1) 0 old done (formBits form ++ l) = decodeFrom bc st above (n + 1) 32 form done l := by
  cases form with
  | none => rfl
  | some k =>
    have hfour : readBits 4 (bitsMsb 4 k ++ l) = some (k, l) := by rw [readBits_bitsMsb, Nat.mod_eq_of_lt (hform k rfl)]
    have hone : readBits 1 (true :: (bitsMsb 4 k ++ l)) = some (1, bitsMsb 4 k ++ l) := by
      simp [readBits, bitsNat, b2n]
    simp only [formBits, List.cons_append, decodeFrom, hone, hfour, gt_iff_lt, Nat.lt_irrefl, if_false, Nat.zero_lt_succ, if_true]

variable (hbc : 1 ≤ bc)

include hbc

/-- Within a segment each sample is read behind those before it. -/
theorem decodeFrom_samples (form : Option Nat) (n : Nat) (rest : List Bool) {seg : List Nat} (hv : ∀ v ∈ seg, v < 2 ^ bc)
    {left : Nat} (hleft : seg.length ≤ left) (done : List Nat) :
    decodeFrom bc st above (seg.length + n) left form done
        (((codedSamples bc st above done seg).map (sampleBits bc form)).flatten ++ rest) =
      decodeFrom bc st above n (left - seg.length) form (done ++ seg) rest := by
  induction seg generalizing left done with
  | nil => simp [codedSamples]
  | cons v seg ih =>
    rw [List.length_cons] at hleft
    have hnext := readSample_sampleBits st above hbc form done (hv v List.mem_cons_self)
      (((codedSamples bc st above (done ++ [v]) seg).map (sampleBits bc form)).flatten ++ rest)
    rw [List.length_cons, Nat.succ_add_eq_add_succ, Nat.add_succ, codedSamples, List.map_cons, List.flatten_cons,
      List.append_assoc, decodeFrom]
    simp only [gt_iff_lt, Nat.lt_of_lt_of_le (Nat.succ_pos _) hleft, if_true, hnext]
    rw [ih (fun u hu => hv u (List.mem_cons_of_mem v hu)) (Nat.le_sub_one_of_lt hleft), Nat.sub_sub, Nat.add_comm 1,
      List.append_assoc]
    rfl

/-- A coded line is read back segment by segment. -/
theorem decodeFrom_codeSegments (hbc' : bc ≤ 16) (pad : List Bool) (f : Nat) (form : Option Nat) (done : List Nat) {l : List Nat}
    (hv : ∀ v ∈ l, v < 2 ^ bc) (h : l.length ≤ f) :
    decodeFrom bc st above l.length 0 form done
        (((chunksAux 32 f (codedSamples bc st above done l)).map (codeSegment bc)).flatten ++ pad) = some (done ++ l, pad) := by
  induction f generalizing form done l with
  | zero => rw [List.eq_nil_of_length_eq_zero (Nat.le_zero.mp h)]; simp [chunksAux, decodeFrom]
  | succ f ih =>
    cases l with
    | nil => simp [codedSamples, chunksAux, decodeFrom]
    | cons v l =>
      let seg := (v :: l).take 32
      let after := (v :: l).drop 32
      have hlen : (v :: l).length = seg.length + after.length := by
        rw [← List.length_append, List.take_append_drop]
      obtain ⟨form', hform, hseg⟩ := codeSegment_form hbc' (codedSamples bc st above done seg)
      have hchunks : chunksAux 32 (f + 1) (codedSamples bc st above done (v :: l)) =
          codedSamples bc st above done seg :: chunksAux 32 f (codedSamples bc st above (done ++ seg) after) := by
        rw [← codedSamples_take, ← codedSamples_drop]
        exact chunksAux_cons ..
      have hopen (bits : List Bool) : decodeFrom bc st above (v :: l).length 0 form done (formBits form' ++ bits) =
          decodeFrom bc st above (v :: l).length 32 form' done bits := decodeFrom_form above hform ..
      rw [hchunks, List.map_cons, List.flatten_cons, hseg, List.append_assoc, List.append_assoc, hopen, hlen,
        decodeFrom_samples above hbc form' _ _ (fun u hu => hv u (List.mem_of_mem_take hu)) (List.length_take_le 32 _)]
      have hwhole : done ++ (v :: l) = done ++ seg ++ after := by rw [List.append_assoc, List.take_append_drop]
      rcases Nat.lt_or_ge (v :: l).length 32 with hlast | hfull
      · have hnone : after = [] := List.drop_eq_nil_of_le hlast.le
        rw [hwhole, hnone, codedSamples, chunksAux_nil, List.append_nil]
        rfl
      · rw [hwhole, List.length_take_of_le hfull]
        exact ih form' _ (fun u hu => hv u (List.mem_of_mem_drop hu))
          (by simp only [after, List.length_drop, List.length_cons] at h ⊢; omega)

/-- Decoding a coded line gives the line (R198). -/
theorem decodeLine_codeLine (hbc' : bc ≤ 16) (hst : 1 ≤ st) {l : List Nat} (hv : ∀ v ∈ l, v < 2 ^ bc) :
    decodeLine bc st l.length above (codeLine bc st above l) = some l := by
  obtain ⟨p, hp, hbits⟩ := unpackMsb_packMsb ((chunks 32 (codedSamples bc st above [] l)).map (codeSegment bc)).flatten
  have hread := decodeFrom_codeSegments (st := st) above hbc hbc' (List.replicate p false) l.length none [] hv le_rfl
  rw [decodeLine, codeLine_eq bc above hst, hbits, chunks, codedSamples_length, hread]
  simp [hp]

end

/-- Settles O56: a line is read back sample by sample, and a segment costs at most one bit more than its samples. -/
theorem coderLossless : Obligations.CoderLossless :=
  ⟨fun _ _ above _ hbc hbc' hst hv => decodeLine_codeLine above hbc hbc' hst hv,
    fun _ _ above _ hbc _ hst hl _ => codeLine_length above hbc hst hl⟩

end Sys2Proof.Machine
end

section
/-!
PROOFS. Corrections, windows and statistics of a frame: the next line that leaves the correction stages, the next output line and
the statistics packet (R175, R178, R180, R181, R183, R186, R190, R194, R248 to R250; O34).
-/

namespace Sys2Proof.Machine

/-- What fettle counts in a port's page (R178, R180). -/
theorem fettleFields (c : Nat) :
    CAM.FT_FIXED c = ⟨0x800410 + 0x4000 * c, 31, 0⟩ ∧ CAM.FT_DYN c = ⟨0x800414 + 0x4000 * c, 31, 0⟩ ∧
    CAM.FT_UNFIXED c = ⟨0x800418 + 0x4000 * c, 31, 0⟩ := by
  simp only [CAM.FT_FIXED, CAM.FT_DYN, CAM.FT_UNFIXED, camPage, Fld.mk.injEq, and_true]
  omega

/-! ### What table reads leave (R186, R405) -/

section

variable {β : Type} {p : State → β} (hp : Unreported p) (s : State)

include hp

/-- A request to HBM writes the HBM pages alone. -/
theorem Unreported.touch (a n : Nat) : p (s.touch a n) = p s := by
  refine ite_p p (State.each_p p fun t i => ?_) rfl
  have hh : channelOf (a + i) / 32 < 4 := by have := channelOf_lt (a + i); omega
  exact (hp.parts.supply rfl _ _).trans (hp.put t _ _ (reportWrites_hbmPage hh (o := 0x108) (by decide)))

/-- The reads of the tables of a line change what an uncorrectable read reports alone. -/
theorem Unreported.readTables (fr : Frame) (bad : List Nat) (y : Nat) : p (s.readTables fr bad y) = p s :=
  (State.each_p p fun t a => hp.hbmUe t a).trans (State.each_p p fun t _ => hp.touch t _ _)

end

/-- A register of a port's page is none that the report of a read writes. -/
theorem get_camPage_unreported {c o : Nat} (hc : c < 256) (ho : o < 0x1000) (hi lo : Nat) :
    Unreported (fun s => s.get ⟨0x800000 + o + 0x4000 * c, hi, lo⟩) :=
  get_unreported (by simp only [reportWrites]; omega)

section

variable (s : State) {c : Nat} {fr : Frame}

/-! ### Frames in the stages -/

theorem State.frameInCorr_mem (h : s.frameInCorr c = some fr) : fr ∈ (s.cam c).frames := List.mem_of_find?_eq_some h

theorem State.frameInWin_mem (h : s.frameInWin c = some fr) : fr ∈ (s.cam c).frames :=
  List.mem_of_find?_eq_some (Option.filter_eq_some_iff.mp h).1

theorem Frame.finished_of_open (h : fr.closed = false) : fr.finished = false := by
  simp only [Frame.finished, Frame.winDone, Frame.corrDone, Frame.nrDone, h, Bool.false_and]

/-- A frame for which something is left to do stays in its port. -/
theorem State.mem_retireFrames (h : fr ∈ (s.cam c).frames) (hopen : fr.finished = false) :
    fr ∈ ((s.retireFrames c).cam c).frames := by
  rw [State.retireFrames, State.cam_setCam_same]
  exact List.mem_filter.mpr ⟨h, by rw [hopen]; rfl⟩

/-- An open frame put anew stands in its port, whichever frames are forgotten. -/
theorem State.mem_putFrame_retireFrames (h : fr ∈ (s.cam c).frames) {f : Frame} (hc : f.c = c) (hid : f.id = fr.id)
    (hopen : f.closed = false) : f ∈ (((s.putFrame f).retireFrames c).cam c).frames :=
  State.mem_retireFrames _ (s.mem_putFrame_of_mem h hc hid) (Frame.finished_of_open hopen)

/-! ### The correction stages (R178 to R186) -/

/-- The frame once a line that is PADDED has left its correction stages. -/
def Frame.passes (fr : Frame) (l : SLine) : Frame := { fr with corr := fr.corr ++ [l] }

/-- The frame once line `l` has left its correction stages with the result `r` of `State.correctLine`. -/
def Frame.corrects (fr : Frame) (l : SLine) (r : List Nat × (Nat × Nat × Nat) × Bool) : Frame :=
  { fr with
    corr := fr.corr ++ [{ l with pix := r.1, flags := if r.2.2 then setBitN l.flags 8 else l.flags }]
    xstat := if r.2.2 then setBitN fr.xstat 3 else fr.xstat }

/-- What fettle replaced is counted. -/
def State.fettleCounted (s : State) (c : Nat) (n : Nat × Nat × Nat) : State :=
  ((s.add (CAM.FT_FIXED c) n.1).add (CAM.FT_DYN c) n.2.1).add (CAM.FT_UNFIXED c) n.2.2

/-- A line's counts and, where a table cannot be read, its event. -/
def State.correctionNoted (s : State) (c : Nat) (r : List Nat × (Nat × Nat × Nat) × Bool) : State :=
  if r.2.2 then (s.fettleCounted c r.2.1).raise (camPage c) 6 else s.fettleCounted c r.2.1

/-- The state once that line has left the correction stages. -/
def State.lineCorrected (s : State) (c : Nat) (fr : Frame) (bad : List Nat) (l : SLine)
    (r : List Nat × (Nat × Nat × Nat) × Bool) : State :=
  (((s.correctionNoted c r).readTables fr bad fr.corr.length).putFrame (fr.corrects l r)).retireFrames c

section

variable {l : SLine} (h : s.frameInCorr c = some fr) (hl : fr.nr[fr.corr.length]? = some l)
  (hready : fr.corrReady fr.corr.length = true) (bad : List Nat)

include h hl hready

theorem State.fettleEmit_padded (hpad : bitOf l.flags 2 = true) :
    s.fettleEmit c bad = (s.putFrame (fr.passes l)).retireFrames c := by
  simp only [State.fettleEmit, h, hl, hready, hpad, Bool.not_true, Bool.false_eq_true, if_false, if_true, Frame.passes]

theorem State.fettleEmit_corrects (hpad : bitOf l.flags 2 = false) :
    s.fettleEmit c bad = s.lineCorrected c fr bad l (s.correctLine fr bad fr.corr.length l) := by
  simp only [State.fettleEmit, h, hl, hready, hpad, Bool.not_true, Bool.false_eq_true, if_false]
  rfl

end

section

variable (r : List Nat × (Nat × Nat × Nat) × Bool)

theorem State.correctionNoted_cam : (s.correctionNoted c r).cam c = s.cam c := by
  have hcounted : (s.fettleCounted c r.2.1).cam c = s.cam c := by
    simp only [State.fettleCounted, State.add_cam]
  exact ite_p (State.cam · c) ((State.raise_cam ..).trans hcounted) hcounted

theorem State.lineCorrected_frames (hfr : fr.c = c) (h : fr ∈ (s.cam c).frames) (hopen : fr.closed = false) (bad : List Nat)
    (l : SLine) : fr.corrects l r ∈ ((s.lineCorrected c fr bad l r).cam c).frames := by
  have hcam : ((s.correctionNoted c r).readTables fr bad fr.corr.length).cam c = s.cam c :=
    ((cam_unreported c).readTables _ fr bad _).trans (s.correctionNoted_cam r)
  exact State.mem_putFrame_retireFrames _ (fr := fr) (by rw [hcam]; exact h) hfr rfl hopen

/-- Of the registers of its port's page, a corrected line changes the counts and IRQ_STAT alone. -/
theorem State.get_lineCorrected {o : Nat} (hc : c < 256) (ho : o < 0x1000) (hi lo : Nat) (bad : List Nat) (l : SLine) :
    (s.lineCorrected c fr bad l r).get ⟨0x800000 + o + 0x4000 * c, hi, lo⟩ =
      (s.correctionNoted c r).get ⟨0x800000 + o + 0x4000 * c, hi, lo⟩ :=
  (get_camPage_unreported hc ho hi lo).readTables _ fr bad _

/-- The counts of fettle (R178, R180). -/
theorem State.lineCorrected_counts (hc : c < 256) (bad : List Nat) (l : SLine) :
    (s.lineCorrected c fr bad l r).get (CAM.FT_FIXED c) = (s.get (CAM.FT_FIXED c) + r.2.1.1) % 2 ^ 32 ∧
      (s.lineCorrected c fr bad l r).get (CAM.FT_DYN c) = (s.get (CAM.FT_DYN c) + r.2.1.2.1) % 2 ^ 32 ∧
      (s.lineCorrected c fr bad l r).get (CAM.FT_UNFIXED c) = (s.get (CAM.FT_UNFIXED c) + r.2.1.2.2) % 2 ^ 32 := by
  have hnoted {o : Nat} (ho : 0x20 < o ∧ o < 0x1000) (hi lo : Nat) :
      (s.lineCorrected c fr bad l r).get ⟨0x800000 + o + 0x4000 * c, hi, lo⟩ =
        (s.fettleCounted c r.2.1).get ⟨0x800000 + o + 0x4000 * c, hi, lo⟩ :=
    (s.get_lineCorrected r hc ho.2 hi lo bad l).trans
      (ite_p (State.get · _) (State.get_raise_off _ _ _ (by simp only [camPage]; omega) (by omega)) rfl)
  have hcounted : (s.fettleCounted c r.2.1).get (CAM.FT_FIXED c) = (s.get (CAM.FT_FIXED c) + r.2.1.1) % 2 ^ 32 ∧
      (s.fettleCounted c r.2.1).get (CAM.FT_DYN c) = (s.get (CAM.FT_DYN c) + r.2.1.2.1) % 2 ^ 32 ∧
      (s.fettleCounted c r.2.1).get (CAM.FT_UNFIXED c) = (s.get (CAM.FT_UNFIXED c) + r.2.1.2.2) % 2 ^ 32 := by
    simp (disch := omega) only [State.fettleCounted, State.add, fettleFields, State.get_put_off, State.get_put_at, Nat.reduceAdd,
      Nat.sub_zero, and_self]
  simp only [fettleFields] at hcounted ⊢
  obtain ⟨hfixed, hdyn, hunfixed⟩ := hcounted
  exact ⟨(hnoted (o := 0x410) (by decide) 31 0).trans hfixed, (hnoted (o := 0x414) (by decide) 31 0).trans hdyn,
    (hnoted (o := 0x418) (by decide) 31 0).trans hunfixed⟩

/-- A table that cannot be read raises its event (R186). -/
theorem State.lineCorrected_raises (hc : c < 256) (hfail : r.2.2 = true) (bad : List Nat) (l : SLine) :
    (s.lineCorrected c fr bad l r).bitAt (HDR.IRQ_STAT (camPage c)) 6 = true := by
  have hraised : (s.correctionNoted c r).bitAt (HDR.IRQ_STAT (camPage c)) 6 = true := by
    rw [State.correctionNoted, if_pos hfail]
    exact State.bitAt_raise_same _ (by decide) (by simp only [camPage]; omega)
  refine State.bitAt_of_get ?_ hraised
  rw [portEventsField]
  exact s.get_lineCorrected (o := 0x20) r hc (by decide) 31 0 bad l

end

/-! ### Packets (R190, R250) -/

@[simp] theorem State.prod_setProd_same (k : Nat) (v : ProdSt) : (s.setProd k v).prod k = v := tget_tput_same ..

/-- A packet of a frame waits behind those of its slice, and the frame `f` is put anew. -/
def State.frameSends (s : State) (c : Nat) (k : Packet) (f : Frame) : State := (s.pushPacket (s.serving c) k).putFrame f

theorem State.frameSends_regs (k : Packet) (f : Frame) : (s.frameSends c k f).regs = s.regs := rfl

theorem State.frameSends_waits (k : Packet) (f : Frame) :
    ((s.frameSends c k f).prod (s.serving c)).todo = (s.prod (s.serving c)).todo ++ [k] := by
  change ((s.pushPacket (s.serving c) k).prod (s.serving c)).todo = _
  rw [State.pushPacket, State.prod_setProd_same]

theorem State.frameSends_frames (h : fr ∈ (s.cam c).frames) (k : Packet) {f : Frame} (hc : f.c = c) (hid : f.id = fr.id) :
    f ∈ ((s.frameSends c k f).cam c).frames :=
  State.mem_putFrame_of_mem _ (fr := fr) h hc hid

/-- The frame once output line r of its window v is sent. -/
def Frame.sends (fr : Frame) (v : Win) (r : Nat) : Frame := { fr with winNext := tput fr.winNext v.j (r + 1) 0 }

theorem Frame.nextRow_sends (v : Win) (r : Nat) : (fr.sends v r).nextRow v = r + 1 :=
  tget_tput_same fr.winNext v.j (r + 1) 0

theorem State.windowEmit_sends (h : s.frameInWin c = some fr) {v : Win} {r : Nat} (hout : fr.nextOut = some (v, r)) :
    s.windowEmit c = s.frameSends c (fr.winPacket v r) (fr.sends v r) := by
  simp only [State.windowEmit, h, hout]
  rfl

theorem State.statClose_sends (h : (s.cam c).frames.find? (fun f => !f.statDone) = some fr) {b : Nat}
    (hbank : fr.statBank = some b) (hdone : fr.winDone = true) :
    s.statClose c = s.frameSends c (s.statPacket fr b) { fr with statDone := true } := by
  simp only [State.statClose, h, hbank, hdone, Bool.not_true, Bool.false_eq_true, if_false]
  rfl

end

/-! ### The commands -/

/-- Settles O34, by what a line, an output line and a statistics packet change in their frame and beside it. -/
theorem stageCommandsComplete : Obligations.StageCommandsComplete := by
  refine fun s c fr hruns hfr => ⟨fun l bad h hopen hl hready => ⟨fun hpad => ?_, fun hpad => ?_⟩, fun v r h hout => ?_,
    fun b h hbank hdone => ?_⟩
  · exact ⟨_, next_when _ hruns (s.fettleEmit_padded h hl hready bad hpad), rfl, fr.passes l,
      s.mem_putFrame_retireFrames (s.frameInCorr_mem h) hfr rfl hopen, rfl, rfl⟩
  · refine ⟨_, next_when _ hruns (s.fettleEmit_corrects h hl hready bad hpad),
      ⟨_, s.lineCorrected_frames _ hfr (s.frameInCorr_mem h) hopen bad l, rfl, rfl, fun hfail => ?_⟩,
      fun hfail => s.lineCorrected_raises _ c.isLt hfail bad l, s.lineCorrected_counts _ c.isLt bad l⟩
    rw [Frame.corrects, if_pos hfail]
    exact bitOf_setBitN_same fr.xstat 3
  · exact ⟨_, next_when _ hruns (s.windowEmit_sends h hout), s.frameSends_regs .., s.frameSends_waits .., fr.sends v r,
      s.frameSends_frames (s.frameInWin_mem h) _ hfr rfl, rfl, fr.nextRow_sends v r⟩
  · exact ⟨_, next_when _ hruns (s.statClose_sends h hbank hdone), s.frameSends_regs .., s.frameSends_waits ..,
      { fr with statDone := true }, s.frameSends_frames (List.mem_of_find?_eq_some h) _ hfr rfl, rfl, rfl⟩

end Sys2Proof.Machine
end

section
/-!
PROOFS. Calibration tables: loads, the copy of a column table and grid geometry (R169 to R173, R182, R185, R300; O35).
-/

namespace Sys2Proof.Machine

/-- Fields of a port's page that tell of its tables; i: the bank of TBL_LEN_USED or FF_GRID. -/
theorem tableFields (c i : Nat) :
    CAM.TBL_STATUS_VALID c = ⟨0x800610 + 0x4000 * c, 13, 8⟩ ∧ CAM.TBL_STATUS_RESULT c = ⟨0x800610 + 0x4000 * c, 7, 4⟩ ∧
    CAM.TBL_STATUS_BUSY c = ⟨0x800610 + 0x4000 * c, 0, 0⟩ ∧ CAM.TBL_LEN_USED c i = ⟨0x800620 + 0x4000 * c + 4 * i, 19, 0⟩ ∧
    CAM.FF_CTRL c = ⟨0x800500 + 0x4000 * c, 31, 0⟩ ∧ CAM.FF_CTRL_COL_BANK c = ⟨0x800500 + 0x4000 * c, 5, 5⟩ ∧
    CAM.FF_STATUS_COL_LOADING c = ⟨0x800518 + 0x4000 * c, 1, 1⟩ := by
  simp only [CAM.TBL_STATUS_VALID, CAM.TBL_STATUS_RESULT, CAM.TBL_STATUS_BUSY, CAM.TBL_LEN_USED, CAM.FF_CTRL,
    CAM.FF_CTRL_COL_BANK, CAM.FF_STATUS_COL_LOADING, camPage, Fld.mk.injEq, and_true]
  omega

theorem State.bitAt_putBit (s : State) {f : Fld} (hf : f.ok) {n : Nat} (hn : n < f.hi + 1 - f.lo) (b : Bool) :
    (s.putBit f n b).bitAt f n = b := by
  rw [State.bitAt, State.putBit, State.get_put_same _ _ _ hf, bitOf_mod hn]
  cases b
  · exact bitOf_clearBitN_same _ _
  · exact bitOf_setBitN_same _ _

/-- The state with other table loads. -/
def State.withLoads (s : State) (l : List TableLoad) : State := { s with loads := l }

@[simp] theorem State.withLoads_loads (s : State) (l : List TableLoad) : (s.withLoads l).loads = l := rfl
@[simp] theorem State.withLoads_hbm (s : State) (l : List TableLoad) : (s.withLoads l).hbm = s.hbm := rfl
@[simp] theorem State.withLoads_get (s : State) (l : List TableLoad) (f : Fld) : (s.withLoads l).get f = s.get f := rfl

section

variable (s : State) {c : Nat}

/-! ### The start of a load (R170, R171) -/

/-- The VALID bit of a bank reads as it was last set. -/
theorem State.bankValid_putBit {sel bank : Nat} (hsel : sel < 3) (hbank : bank < 2) (b : Bool) :
    (s.putBit (CAM.TBL_STATUS_VALID c) (2 * sel + bank) b).bankValid c sel bank = b :=
  s.bitAt_putBit (f := CAM.TBL_STATUS_VALID c) (by simp [Fld.ok, CAM.TBL_STATUS_VALID])
    (by simp only [CAM.TBL_STATUS_VALID]; omega) b

/-- The load of a bank is under way. -/
def State.loadStarted (s : State) (c sel bank : Nat) : State :=
  ((s.put (CAM.TBL_STATUS_BUSY c) 1).putBit (CAM.TBL_STATUS_VALID c) (2 * sel + bank) false).withLoads (s.loads ++
    [⟨c, sel, bank, s.get64 (CAM.TBL_HOST_LO c) (CAM.TBL_HOST_HI c), s.get (CAM.TBL_LEN c), 0⟩])

theorem State.tblLoad_starts {sel bank : Nat} (h : s.loadRefusal c sel bank = none) :
    s.tblLoad c sel bank = s.loadStarted c sel bank := by
  simp only [State.tblLoad, h, State.loadStarted, State.withLoads, State.putBit_loads, State.put_loads]

theorem State.tblLoad_refused {sel bank code : Nat} (h : s.loadRefusal c sel bank = some code) :
    s.tblLoad c sel bank = s.refuse (camPage c) code := by
  simp only [State.tblLoad, h]

theorem State.sel_of_loadRefusal {sel bank : Nat} (h : s.loadRefusal c sel bank = none) : sel ≠ 3 := by
  rintro rfl
  simp only [State.loadRefusal] at h
  split at h
  · cases h
  · simp at h

theorem State.loadRefusal_busy (sel bank : Nat) (h : s.on (CAM.TBL_STATUS_BUSY c) = true) :
    s.loadRefusal c sel bank = some 0x56 := by
  simp [State.loadRefusal, h]

theorem State.loadRefusal_value {sel bank : Nat} (hbusy : s.on (CAM.TBL_STATUS_BUSY c) = false)
    (h : sel = 3 ∨ s.get (CAM.TBL_HOST_LO c) % 64 ≠ 0 ∨ s.tblLenOk c sel bank = false) :
    s.loadRefusal c sel bank = some 0x55 := by
  have hvalue : (decide (sel = 3) || s.get (CAM.TBL_HOST_LO c) % 64 != 0 || !s.tblLenOk c sel bank) = true := by
    simpa [or_assoc] using h
  simp only [State.loadRefusal, hbusy, hvalue, Bool.false_eq_true, if_false, if_true]

theorem State.loadRefusal_inUse {sel bank : Nat} (hbusy : s.on (CAM.TBL_STATUS_BUSY c) = false) (hsel : sel ≠ 3)
    (hlo : s.get (CAM.TBL_HOST_LO c) % 64 = 0) (hlen : s.tblLenOk c sel bank = true) (huse : s.bankInUse c sel bank = true) :
    s.loadRefusal c sel bank = some 0x53 := by
  simp [State.loadRefusal, hbusy, hsel, hlo, hlen, huse]

theorem State.loadStarted_shows {sel bank : Nat} (hsel : sel < 3) (hbank : bank < 2) :
    (s.loadStarted c sel bank).on (CAM.TBL_STATUS_BUSY c) = true ∧ (s.loadStarted c sel bank).bankValid c sel bank = false := by
  have hvalid := (s.put (CAM.TBL_STATUS_BUSY c) 1).bankValid_putBit (c := c) hsel hbank false
  rw [State.loadStarted, State.bankValid, State.bitAt, State.withLoads_get]
  refine ⟨?_, hvalid⟩
  simp (disch := omega) only [State.on, State.withLoads_get, State.putBit, tableFields c 0, State.get_put_off,
    State.get_put_at]
  rfl

/-! ### The end of a load (R170, R172, R300) -/

/-- The load of a port has ended with a RESULT. -/
def State.loadClosed (s : State) (c result : Nat) : State :=
  ((s.withLoads (s.loads.filter fun y => y.port != c)).put (CAM.TBL_STATUS_BUSY c) 0).put (CAM.TBL_STATUS_RESULT c) result

/-- It has ended with its bank valid. -/
def State.loadGood (s : State) (c : Nat) (x : TableLoad) : State :=
  (((s.loadClosed c 0).putBit (CAM.TBL_STATUS_VALID c) (2 * x.sel + x.bank) true).put
    (CAM.TBL_LEN_USED c (2 * x.sel + x.bank)) x.len).raise (camPage c) 3

/-- It has ended with a failure. -/
def State.loadFailed (s : State) (c result : Nat) : State := ((s.loadClosed c result).raise (camPage c) 3).raise (camPage c) 4

section

variable {x : TableLoad} (h : (s.loads.take 4).find? (fun y => y.port == c) = some x)

theorem State.tblLoadDone_waits (hwaits : (s.loads.take 4).find? (fun y => y.port == c) = none) (r : LoadEnd) :
    s.tblLoadDone c r = s := by
  simp only [State.tblLoadDone, hwaits]

include h

theorem TableLoad.port_of_find : x.port = c := by simpa using List.find?_some h

theorem State.tblLoadDone_good {bytes : List Byte} (hlen : bytes.length = x.len)
    (hlist : x.sel = 0 → defectsOk bytes = true) (hfence : s.anyChannelFenced = false) :
    s.tblLoadDone c (.data bytes) = (s.hbmWrite (tableBase c + bankOffset x.sel x.bank) bytes).loadGood c x := by
  have hbad : (decide (x.sel = 0) && !defectsOk bytes) = false := by
    by_cases h0 : x.sel = 0
    · simp [hlist h0]
    · simp [h0]
  have hresult : s.loadResult x (.data bytes) = (s.hbmWrite (tableBase c + bankOffset x.sel x.bank) bytes, 0) := by
    simp only [State.loadResult, TableLoad.port_of_find s h, s.spanFails_unfenced hfence, hbad, Bool.false_eq_true, if_false]
  simp only [State.tblLoadDone, h, hlen, if_true, State.tblLoadDone.fin, hresult]
  rfl

theorem State.tblLoadDone_hostErr : s.tblLoadDone c .hostErr = s.loadFailed c 1 := by
  simp only [State.tblLoadDone, h]
  rfl

end

theorem State.loadClosed_shows {result : Nat} (hresult : result < 16) :
    (s.loadClosed c result).on (CAM.TBL_STATUS_BUSY c) = false ∧
      (s.loadClosed c result).get (CAM.TBL_STATUS_RESULT c) = result := by
  simp (disch := omega) only [State.loadClosed, State.on, tableFields c 0, State.get_put_off, State.get_put_at]
  exact ⟨rfl, Nat.mod_eq_of_lt hresult⟩

theorem State.loadGood_shows (hc : c < 256) {x : TableLoad} (hsel : x.sel < 3) (hbank : x.bank < 2) :
    (s.loadGood c x).on (CAM.TBL_STATUS_BUSY c) = false ∧ (s.loadGood c x).get (CAM.TBL_STATUS_RESULT c) = 0 ∧
      (s.loadGood c x).bankValid c x.sel x.bank = true ∧
      (s.loadGood c x).get (CAM.TBL_LEN_USED c (2 * x.sel + x.bank)) = x.len % 2 ^ 20 ∧
      (s.loadGood c x).bitAt (HDR.IRQ_STAT (camPage c)) 3 = true := by
  obtain ⟨hbusy, hresult⟩ := s.loadClosed_shows (c := c) (result := 0) (by decide)
  have hvalid : ((s.loadClosed c 0).putBit (CAM.TBL_STATUS_VALID c) (2 * x.sel + x.bank) true).bankValid c x.sel x.bank = true :=
    State.bankValid_putBit _ hsel hbank true
  have hfields := tableFields c (2 * x.sel + x.bank)
  simp (disch := omega) only [State.loadGood, State.on, State.bankValid, State.bitAt, State.putBit, hfields, camPage,
    State.get_raise_off, State.get_put_off, State.get_put_at] at hbusy hresult hvalid ⊢
  exact ⟨hbusy, hresult, hvalid, trivial, State.bitAt_raise_same _ (by decide) (by omega)⟩

theorem State.loadFailed_shows (hc : c < 256) {result : Nat} (hresult : result < 16) :
    (s.loadFailed c result).on (CAM.TBL_STATUS_BUSY c) = false ∧
      (s.loadFailed c result).get (CAM.TBL_STATUS_RESULT c) = result ∧
      (s.loadFailed c result).bitAt (HDR.IRQ_STAT (camPage c)) 4 = true := by
  obtain ⟨hbusy, hcode⟩ := s.loadClosed_shows (c := c) hresult
  simp (disch := omega) only [State.loadFailed, State.on, tableFields c 0, camPage, State.get_raise_off] at hbusy hcode ⊢
  exact ⟨hbusy, hcode, State.bitAt_raise_same _ (by decide) (by omega)⟩

/-! The end of a load leaves what is stored. -/

theorem State.loadGood_hbm (x : TableLoad) : (s.loadGood c x).hbm = s.hbm := by
  rw [State.loadGood, State.raise_keeps (memory_ignores rfl), State.put_hbm, State.putBit_hbm, State.loadClosed, State.put_hbm,
    State.put_hbm, State.withLoads_hbm]

theorem State.loadFailed_hbm (result : Nat) : (s.loadFailed c result).hbm = s.hbm := by
  rw [State.loadFailed, State.raise_keeps (memory_ignores rfl), State.raise_keeps (memory_ignores rfl), State.loadClosed,
    State.put_hbm, State.put_hbm, State.withLoads_hbm]

/-! ### The copy of a column table (R173, R182) -/

/-- The copy of bank `col` of the column tables is under way, with FF_CTRL written. -/
def State.copyStarted (s : State) (c : Nat) (w : Word) (col : Nat) : State :=
  let t := s.put (CAM.FF_CTRL c) w.toNat
  ((t.put (CAM.FF_STATUS_COL_LOADING c) 1).setCam c { t.cam c with copying := some col }).sliceWake (t.serving c)

section

variable {w : Word} {mode grid col : Nat} (hw : getBits w 1 0 = mode ∧ getBits w 4 4 = grid ∧ getBits w 5 5 = col)

include hw

theorem State.writeFfCtrl_mode (hmode : mode = 3) : s.writeFfCtrl c w = s.refuse (camPage c) 0x58 := by
  obtain ⟨rfl, rfl, rfl⟩ := hw
  simp only [State.writeFfCtrl, hmode, if_true]

theorem State.writeFfCtrl_noTable (hmode : mode ≠ 3)
    (h : (mode = 1 ∧ s.bankValid c 1 grid = false) ∨ (mode = 2 ∧ s.bankValid c 2 col = false)) :
    s.writeFfCtrl c w = s.refuse (camPage c) 0x54 := by
  obtain ⟨rfl, rfl, rfl⟩ := hw
  simp only [State.writeFfCtrl, hmode, if_false]
  exact if_pos (by simpa using h)

theorem State.writeFfCtrl_copies (hmode : mode ≠ 3)
    (h : ¬ ((mode = 1 ∧ s.bankValid c 1 grid = false) ∨ (mode = 2 ∧ s.bankValid c 2 col = false))) :
    s.writeFfCtrl c w = s.copyStarted c w col := by
  obtain ⟨rfl, rfl, rfl⟩ := hw
  simp only [State.writeFfCtrl, hmode, if_false]
  exact if_neg (by simpa using h)

end

theorem State.copyStarted_shows (w : Word) (col : Nat) :
    (s.copyStarted c w col).get (CAM.FF_CTRL_COL_BANK c) = getBits w 5 5 ∧
      (s.copyStarted c w col).on (CAM.FF_STATUS_COL_LOADING c) = true ∧
      ((s.copyStarted c w col).cam c).copying = some col := by
  refine ⟨?_, ?_, ?_⟩
  · simp (disch := omega) only [State.copyStarted, tableFields c 0, State.get_sliceWake_off, State.setCam_get, State.get_put_off]
    rw [State.put_word, State.get, State.word_setWord_same]
  · simp (disch := omega) only [State.copyStarted, State.on, tableFields c 0, State.get_sliceWake_off, State.setCam_get,
      State.get_put_at]
    rfl
  · rw [State.copyStarted, State.sliceWake_keeps (cam_ignores c rfl), State.cam_setCam_same]

/-- The copy of bank b of the column tables has ended, with the n bytes from address a of HBM. -/
def State.copyEnded (s : State) (c b a n : Nat) : State :=
  let t := ((s.touch a n).put (CAM.FF_STATUS_COL_LOADING c) 0).setCam c { s.cam c with copying := none }
  t.setCam c { t.cam c with cols := tput (t.cam c).cols b (s.hbmRead a n) [], copied := some b }

theorem State.colCopyDone_good {b : Nat} (h : (s.cam c).copying = some b) (hfence : s.anyChannelFenced = false) :
    s.colCopyDone c .good = s.copyEnded c b (tableBase c + bankOffset 2 b) (s.get (CAM.TBL_LEN_USED c (4 + b))) := by
  simp only [State.colCopyDone, h, s.spanFails_unfenced hfence, Bool.false_eq_true, if_false]
  rfl

theorem State.copyEnded_shows (b a n : Nat) :
    (s.copyEnded c b a n).on (CAM.FF_STATUS_COL_LOADING c) = false ∧ ((s.copyEnded c b a n).cam c).copying = none ∧
      ((s.copyEnded c b a n).cam c).copied = some b ∧ tget ((s.copyEnded c b a n).cam c).cols b [] = s.hbmRead a n := by
  simp (disch := omega) only [State.copyEnded, State.on, State.setCam_get, State.cam_setCam_same, tableFields c 0,
    State.get_put_at, tget_tput_same, and_true]
  rfl

/-! ### Grid geometry (R185, R423) -/

section

variable {n : Nat} {w : Word}

theorem State.writeGrid_inUse (huse : s.bankInUse c 1 n = true) : s.writeGrid c n w = s.refuse (camPage c) 0x53 := if_pos huse

theorem State.writeGrid_outOfRange (huse : s.bankInUse c 1 n = false) (hrange : (gridOf w).inRange = false) :
    s.writeGrid c n w = s.refuse (camPage c) 0x57 := by
  simp only [State.writeGrid, huse, hrange, Bool.not_false, Bool.false_eq_true, if_false, if_true]

theorem State.writeGrid_sets (huse : s.bankInUse c 1 n = false) (hrange : (gridOf w).inRange = true) :
    s.writeGrid c n w = (s.put (CAM.FF_GRID c n) w.toNat).putBit (CAM.TBL_STATUS_VALID c) (2 + n) false := by
  simp only [State.writeGrid, huse, hrange, Bool.not_true, Bool.false_eq_true, if_false]

end

/-! ### COL_BANK written alone (R182) -/

/-- FF_CTRL with COL_BANK as written and the other fields as they stand. -/
def State.colBankWord (s : State) (c bank : Nat) : Word := setBits (s.word (CAM.FF_CTRL c).addr) 5 5 bank

theorem State.colBankWord_fields {bank : Nat} (hbank : bank < 2) :
    getBits (s.colBankWord c bank) 1 0 = s.get (CAM.FF_CTRL_MODE c) ∧
      getBits (s.colBankWord c bank) 4 4 = s.get (CAM.FF_CTRL_GRID_BANK c) ∧ getBits (s.colBankWord c bank) 5 5 = bank :=
  ⟨getBits_setBits_below _ _ _ _ _ _ (by decide) (by decide) (by decide) (by decide),
    getBits_setBits_below _ _ _ _ _ _ (by decide) (by decide) (by decide) (by decide),
    (getBits_setBits_same _ _ _ _ (by decide) (by decide)).trans (Nat.mod_eq_of_lt hbank)⟩

end

/-! ### The commands -/

/-- Settles O35, by what the start and the end of a load and of a copy write, and the tests of a load and of a selection. -/
theorem tableCommandsComplete : Obligations.TableCommandsComplete := by
  refine ⟨fun s c sel bank hhost => ⟨fun h => ?_, fun hbusy => ?_, fun hbusy hvalue => ?_, fun hbusy hsel hlo hlen huse => ?_⟩,
    fun s c r hrun hwaits => next_when _ hrun (s.tblLoadDone_waits hwaits r),
    fun s c x hrun h hsel hbank => ⟨fun bytes hlen hlist hfence => ?_, ?_⟩,
    fun s c bank hhost => ?_, fun s c b hruns h hfence => ?_,
    fun s c n v hhost => ⟨fun huse => ?_, fun huse hrange => ?_, fun huse hrange => ?_⟩⟩
  · have hsel : sel.val < 3 := by have := s.sel_of_loadRefusal h; have := sel.isLt; omega
    obtain ⟨hbusy, hvalid⟩ := s.loadStarted_shows (c := c) hsel bank.isLt
    exact ⟨_, next_when _ hhost (s.tblLoad_starts h), hbusy, hvalid, rfl⟩
  · exact next_when _ hhost (s.tblLoad_refused (s.loadRefusal_busy sel bank hbusy))
  · exact next_when _ hhost (s.tblLoad_refused (s.loadRefusal_value hbusy hvalue))
  · exact next_when _ hhost (s.tblLoad_refused (s.loadRefusal_inUse hbusy hsel hlo hlen huse))
  · let t := s.hbmWrite (tableBase c + bankOffset x.sel x.bank) bytes
    obtain ⟨hbusy, hresult, hvalid, hused, hirq⟩ := t.loadGood_shows c.isLt hsel hbank
    refine ⟨_, next_when _ hrun (s.tblLoadDone_good h hlen hlist hfence), hbusy, hresult, hvalid, hused, ?_, hirq⟩
    rw [State.hbmRead_of_hbm (t.loadGood_hbm x), ← hlen]
    exact s.hbmWrite_read _ bytes
  · obtain ⟨hbusy, hresult, hirq⟩ := s.loadFailed_shows (result := 1) c.isLt (by decide)
    exact ⟨_, next_when _ hrun (s.tblLoadDone_hostErr h), hbusy, hresult, s.loadFailed_hbm 1, hirq⟩
  · have hw := s.colBankWord_fields (c := c) bank.isLt
    have ⟨_, _, hcol⟩ := hw
    obtain ⟨hbank, hshows⟩ := s.copyStarted_shows (c := c) (s.colBankWord c bank) bank
    exact ⟨fun hmode htable => ⟨_, next_when _ hhost (s.writeFfCtrl_copies hw hmode htable), hbank.trans hcol, hshows⟩,
      fun hmode htable => next_when _ hhost (s.writeFfCtrl_noTable hw hmode htable),
      fun hmode => next_when _ hhost (s.writeFfCtrl_mode hw hmode)⟩
  · exact ⟨_, next_when _ hruns (s.colCopyDone_good h hfence), s.copyEnded_shows b _ _⟩
  · exact next_when _ hhost (s.writeGrid_inUse huse)
  · exact next_when _ hhost (s.writeGrid_outOfRange huse hrange)
  · exact next_when _ hhost (s.writeGrid_sets huse hrange)

end Sys2Proof.Machine
end

section
/-!
PROOFS. A packet that a unit has claimed and reads whole, and a link entry that ends the read: the queue is reset and fenced, and
the bank's page shows the cell (R269, R270, R275, R276).
-/

namespace Sys2Proof.Machine

section

variable (s : State) {a hi lo : Nat}

/-! ### Reading a claimed packet (R270) -/

/-- What neither a request to HBM nor the queue changes stands when bytes have been read. -/
theorem State.readUpTo_eq {β : Type} {p : State → β} {q : Nat} (htouch : ∀ t b m, p (State.touch t b m) = p t)
    (hqueue : ∀ t v, p (State.setQueue t q v) = p t) (n : Nat) : p (s.readUpTo q n) = p s := by
  unfold State.readUpTo
  dsimp only
  split
  · rfl
  · exact (hqueue _ _).trans (State.each_p p fun t m => (htouch _ _ _).trans (htouch _ _ _))

theorem State.endClaim_eq {β : Type} {p : State → β} {q : Nat} (htouch : ∀ t b m, p (State.touch t b m) = p t)
    (hqueue : ∀ t v, p (State.setQueue t q v) = p t) : p (s.endClaim q) = p s := by
  unfold State.endClaim
  dsimp only
  split
  · rfl
  · exact (hqueue _ _).trans (s.readUpTo_eq htouch hqueue _)

/-- A register that a request to HBM leaves is left when a claimed packet has been read. -/
theorem State.get_endClaim_off (h : ¬ reportWrites a) (q : Nat) : (s.endClaim q).get ⟨a, hi, lo⟩ = s.get ⟨a, hi, lo⟩ :=
  s.endClaim_eq (p := fun t => t.get ⟨a, hi, lo⟩) (fun t => (get_unreported h).touch t) fun _ _ => rfl

@[simp] theorem State.queue_setQueue_same (q : Nat) (v : QueueSt) : (s.setQueue q v).queue q = v := tget_tput_same ..

/-- A packet that has been read whole is claimed no more. -/
theorem State.endClaim_claimed (q : Nat) : ((s.endClaim q).queue q).claimed = none := by
  unfold State.endClaim
  split
  · assumption
  · rw [State.queue_setQueue_same]

section

variable {q : Nat} {p : Packet} (hclaim : (s.queue q).claimed = some p)

include hclaim

/-- A unit that holds a packet claims no other. -/
theorem State.claimFor_claimed : s.claimFor q = s := by
  simp only [State.claimFor, State.canPop, hclaim, Option.isNone_some, Bool.and_false, Bool.false_eq_true, if_false]

/-- A packet whose cells can all be read, and of whose link entries none is bad, is read as it is. -/
theorem State.readOut_good (hlinks : ∀ n ∈ p.cells, s.linkEcc n .good = .good) (hfence : s.anyChannelFenced = false) :
    s.readOut q [] = (some p, s.endClaim q) := by
  have hlink : ∀ i ∈ List.range (p.cells.length - 1), s.chainLink p [] i = .good := by
    intro i hi
    have hlt : i < p.cells.length := by have := List.mem_range.mp hi; omega
    rw [State.chainLink, List.getD_eq_getElem _ _ hlt]
    exact hlinks _ (List.getElem_mem hlt)
  have hue : (List.range (p.cells.length - 1)).find? (fun i => s.chainLink p [] i == .ue) = none :=
    List.find?_eq_none.mpr fun i hi => by rw [hlink i hi]; decide
  have hce : (List.range (p.cells.length - 1)).filter (fun i => s.chainLink p [] i == .ce) = [] :=
    List.filter_eq_nil_iff.mpr fun i hi => by rw [hlink i hi]; decide
  have hdead : s.deadCells p = [] :=
    List.filter_eq_nil_iff.mpr fun i _ => by
      rw [State.cellFails, State.hbmFails, hfence, Bool.false_and]
      exact Bool.false_ne_true
  simp only [State.readOut, hclaim, hue, hce, State.each, List.foldl_nil, hdead, State.readCells, List.isEmpty_nil, if_true]

/-- A bad link entry of the first cell ends the read there. -/
theorem State.readOut_badLink (hcells : 2 ≤ p.cells.length) (hue : s.linkEcc (p.cells.headD 0) .good = .ue) :
    s.readOut q [] = (none, (s.readUpTo q 256).linkUe q (p.cells.headD 0)) := by
  have hhead : p.cells.getD 0 0 = p.cells.headD 0 := by cases p.cells <;> rfl
  have hfirst : (List.range (p.cells.length - 1)).find? (fun i => s.chainLink p [] i == .ue) = some 0 := by
    obtain ⟨n, hn⟩ : ∃ n, p.cells.length - 1 = n + 1 := ⟨p.cells.length - 2, by omega⟩
    rw [hn, List.range_succ_eq_map, List.find?_cons_of_pos]
    rw [State.chainLink, hhead]
    exact beq_iff_eq.mpr hue
  simp only [State.readOut, hclaim, hfirst, hhead]

end

/-! ### Registers that an occurrence leaves (R353, R354, R371, R377) -/

/-- The record of an occurrence writes the header of its page and pending bits. -/
theorem State.get_occurRecord_off {page : Nat} (ha : a < page ∨ page + 0x100 ≤ a) (hpba : a < 0xFF8000) (bit detail : Nat)
    (real : Bool) : (s.occurRecord page bit detail real).get ⟨a, hi, lo⟩ = s.get ⟨a, hi, lo⟩ := by
  have hput (t : State) {o h l : Nat} (v : Nat) (ho : o < 0x100) :
      (t.put ⟨page + o, h, l⟩ v).get ⟨a, hi, lo⟩ = t.get ⟨a, hi, lo⟩ := t.get_put_off v (.inl (by omega))
  have hsticky (v : Nat) : (s.put (HDR.FAULT_STICKY page) v).get ⟨a, hi, lo⟩ = s.get ⟨a, hi, lo⟩ := hput s v (by decide)
  have htagged (t : State) (v : Nat) : (t.put (HDR.FAULT_INJ_TAGGED page) v).get ⟨a, hi, lo⟩ = t.get ⟨a, hi, lo⟩ :=
    hput t v (by decide)
  have hfirst (t : State) (cls : Nat) : (t.recordFirst page cls bit detail real).get ⟨a, hi, lo⟩ = t.get ⟨a, hi, lo⟩ := by
    refine ite_p (State.get · ⟨a, hi, lo⟩) rfl ?_
    simp (disch := decide) only [State.put64, State.putB, HDR.FAULT_FIRST_VALID, HDR.FAULT_FIRST_INJECTED, HDR.FAULT_FIRST_CLASS,
      HDR.FAULT_FIRST_BIT, HDR.FAULT_FIRST_DETAIL, HDR.FAULT_FIRST_TIME_LO, HDR.FAULT_FIRST_TIME_HI, hput]
  have hevent (t : State) (cls : Nat) : (t.recordEvent page cls).get ⟨a, hi, lo⟩ = t.get ⟨a, hi, lo⟩ :=
    ite_p (State.get · ⟨a, hi, lo⟩) (t.get_raise_off page 31 (by omega) hpba) rfl
  have haer (t : State) (cls : Nat) : (t.recordAer page cls).get ⟨a, hi, lo⟩ = t.get ⟨a, hi, lo⟩ :=
    ite_p (State.get · ⟨a, hi, lo⟩) (ite_p (State.get · ⟨a, hi, lo⟩) rfl rfl) rfl
  rw [State.occurRecord_eq, haer, hevent, hfirst]
  exact ite_p (State.get · ⟨a, hi, lo⟩) ((htagged _ _).trans (hsticky _))
    (ite_p (State.get · ⟨a, hi, lo⟩) (hsticky _) ((htagged _ _).trans (hsticky _)))

/-- Quench writes registers of the DEV, POUR and HBM pages. -/
theorem State.get_quench_off (hdev : 0x1000 ≤ a) (hpour : a < 0x600000) (cause page bit detail : Nat) (injected : Bool) :
    (s.quench cause page bit detail injected).get ⟨a, hi, lo⟩ = s.get ⟨a, hi, lo⟩ := by
  have hput (t : State) (f : Fld) (v : Nat) (hf : f.addr < 0x1000 ∨ 0x600000 ≤ f.addr) :
      (t.put f v).get ⟨a, hi, lo⟩ = t.get ⟨a, hi, lo⟩ := t.get_put_addr f _ v (by change a ≠ f.addr; omega)
  have hstops (t : State) : t.quenchStops.get ⟨a, hi, lo⟩ = t.get ⟨a, hi, lo⟩ :=
    (State.each_p (State.get · ⟨a, hi, lo⟩) fun _ _ => State.emit_keeps (get_ignores _ rfl) ..).trans
      (State.endStrobes_keeps (get_ignores _ rfl) t)
  have hrecord (t : State) : (t.quenchRecord cause page bit detail injected).get ⟨a, hi, lo⟩ = t.get ⟨a, hi, lo⟩ := by
    refine (State.each_p (State.get · ⟨a, hi, lo⟩) fun t h => hput t _ _ (.inr ?_)).trans ?_
    · simp only [HBM.HBM_PWR_STATUS, hbmPage]; omega
    · simp (disch := decide) only [State.putB, State.put64, hput]
  have hreport (t : State) (before : Nat) : (t.quenchReport before).get ⟨a, hi, lo⟩ = t.get ⟨a, hi, lo⟩ := by
    have hcfg : Ignores (State.get · ⟨a, hi, lo⟩) [.cfg] := get_ignores _ rfl
    have haer (k : CfgSpace) : State.get { t.draw.2.draw.2.draw.2.draw.2 with cfg := k } ⟨a, hi, lo⟩ = t.get ⟨a, hi, lo⟩ := by
      rw [hcfg.cfg rfl, State.draw_get, State.draw_get, State.draw_get, State.draw_get]
    refine (State.latchAlerts_keeps (get_ignores _ rfl) _ _).trans ?_
    exact ite_p (State.get · ⟨a, hi, lo⟩) ((State.emit_keeps (get_ignores _ rfl) ..).trans (haer _)) (haer _)
  rw [State.quench_eq]
  exact ite_p (State.get · ⟨a, hi, lo⟩) rfl ((hreport ..).trans ((hrecord _).trans (hstops s)))

/-! ### The fence of a queue (R274 to R276) -/

theorem State.get_readUpTo_low (h : a < 0x740000) (q n : Nat) : (s.readUpTo q n).get ⟨a, hi, lo⟩ = s.get ⟨a, hi, lo⟩ :=
  s.readUpTo_eq (p := fun t => t.get ⟨a, hi, lo⟩) (fun t b m => t.get_touch_low b m h) (fun _ _ => rfl) n

theorem State.get_cutClaim_low (h : a < 0x740000) (q n : Nat) : (s.cutClaim q n).get ⟨a, hi, lo⟩ = s.get ⟨a, hi, lo⟩ := by
  unfold State.cutClaim
  split
  · rfl
  · exact s.get_readUpTo_low h q _

theorem State.get_chainErr_low (h : a < 0x680000) (q : Nat) : (s.chainErr q).get ⟨a, hi, lo⟩ = s.get ⟨a, hi, lo⟩ := by
  unfold State.chainErr
  split
  · rfl
  · refine ite_p (State.get · ⟨a, hi, lo⟩) rfl ?_
    rw [State.setDelivery, State.putB, State.get_put_addr _ _ _ _ (by simp only [RING.RING_CFG_BUSY, ringConf]; omega),
      State.setRing_get, s.get_cutClaim_low (by omega)]

/-- A delivery that breaks off writes registers of rings, of units that claim packets and of the HBM pages. -/
theorem State.get_breakClaim_low (h : a < 0x600000) (q : Nat) : (s.breakClaim q).get ⟨a, hi, lo⟩ = s.get ⟨a, hi, lo⟩ := by
  have hcut (n : Nat) : (s.cutClaim q n).get ⟨a, hi, lo⟩ = s.get ⟨a, hi, lo⟩ := s.get_cutClaim_low (by omega) q n
  have hcount (t : State) (page n : Nat) (f : Fld) (hpage : 0x600000 ≤ page) (hf : 0x600000 ≤ f.addr) :
      ((t.inc f).raise page n).get ⟨a, hi, lo⟩ = t.get ⟨a, hi, lo⟩ :=
    (State.get_raise_off _ _ _ (by omega) (by omega)).trans (t.get_put_addr f _ _ (by change a ≠ f.addr; omega))
  have hseam (t : State) (n i : Nat) (k : Packet) : (t.badMember n i k).get ⟨a, hi, lo⟩ = t.get ⟨a, hi, lo⟩ := by
    rw [State.badMember, State.setSeam_get]
    exact hcount t _ 1 _ (by simp only [seamPage]; omega) (by simp only [SEAM.SEAM_BAD_PKT, seamPage]; omega)
  have hmould (t : State) (n : Nat) : ((t.inc (MOULD.BAD_PKT n)).raise (mouldPage n) 2).get ⟨a, hi, lo⟩ = t.get ⟨a, hi, lo⟩ :=
    hcount t _ 2 _ (by simp only [mouldPage]; omega) (by simp only [MOULD.BAD_PKT, mouldPage]; omega)
  unfold State.breakClaim
  dsimp only
  split
  · rfl
  · refine ite_p (State.get · ⟨a, hi, lo⟩) rfl (ite_p (State.get · ⟨a, hi, lo⟩) (s.get_chainErr_low (by omega) q)
      (ite_p (State.get · ⟨a, hi, lo⟩) ?_ (ite_p (State.get · ⟨a, hi, lo⟩) ((hmould _ _).trans (hcut _)) (hcut _))))
    split
    · exact (hseam ..).trans (hcut _)
    · exact hcut _

/-- A register below those of the queues, other than BANK_LOST of the bank, is left when a queue is reset. -/
theorem State.get_resetQueue_low (q : Nat) (h : a < 0x400000) (hlost : a ≠ 0x30010C + 0x1000 * homeBank q) :
    (s.resetQueue q).get ⟨a, hi, lo⟩ = s.get ⟨a, hi, lo⟩ := by
  have hdesc (t : State) (f : Fld) (v : Nat) (hf : 0x400000 ≤ f.addr) : (t.put f v).get ⟨a, hi, lo⟩ = t.get ⟨a, hi, lo⟩ :=
    t.get_put_addr f _ v (by change a ≠ f.addr; omega)
  unfold State.resetQueue
  dsimp only
  rw [State.flushCheck_keeps (get_ignores _ rfl), State.each_p (State.get · ⟨a, hi, lo⟩) fun t p => State.setProd_get ..,
    State.setQueue_get, State.strayCells_keeps (get_ignores _ rfl), State.add,
    hdesc _ _ _ (by simp only [QD.Q_DISCARDED, queueDesc]; omega), hdesc _ _ _ (by simp only [QD.Q_OCC, queueDesc]; omega)]
  exact s.get_put_addr _ _ _ (by simp only [LADLE.BANK_LOST, ladlePage]; omega)

/-- A sweep that starts on its own shows in SWEEP_STATUS. -/
theorem State.get_autoSweep_off (before b : Nat) (h : a ≠ 0x30011C + 0x1000 * b) :
    (s.autoSweep before b).get ⟨a, hi, lo⟩ = s.get ⟨a, hi, lo⟩ := by
  have hstart : (s.startSweep b).get ⟨a, hi, lo⟩ = s.get ⟨a, hi, lo⟩ :=
    State.get_put_addr _ _ _ _ (by simp only [LADLE.SWEEP_STATUS_BUSY, ladlePage]; omega)
  exact ite_p (State.get · ⟨a, hi, lo⟩) (ite_p (State.get · ⟨a, hi, lo⟩) rfl hstart) rfl

/-- At address a is a register that shows the bad link entries met in queue q: LINK_UE or LINK_UE_CELL of its bank (R275). -/
def showsLink (q a : Nat) : Prop := a = 0x300138 + 0x1000 * homeBank q ∨ a = 0x30013C + 0x1000 * homeBank q

theorem homeBank_lt (q : Nat) : homeBank q < 16 := Nat.mod_lt q (by decide)

theorem showsLink_bounds {q : Nat} (h : showsLink q a) : 0x300000 ≤ a ∧ a < 0x400000 := by
  have := homeBank_lt q
  unfold showsLink at h
  omega

section

variable {q : Nat} (ha : showsLink q a)

include ha

theorem State.get_ladleRaise_link (n : Nat) : (s.raise (ladlePage (homeBank q)) n).get ⟨a, hi, lo⟩ = s.get ⟨a, hi, lo⟩ := by
  obtain ⟨-, hlt⟩ := showsLink_bounds ha
  exact s.get_raise_off _ n (by unfold showsLink at ha; simp only [ladlePage]; omega) (by omega)

/-- The fence of a queue leaves what shows its bad link entry. -/
theorem State.get_fenceQueue_link : (s.fenceQueue q).get ⟨a, hi, lo⟩ = s.get ⟨a, hi, lo⟩ := by
  obtain ⟨hge, hlt⟩ := showsLink_bounds ha
  have hfenced (t : State) : (t.put (QD.Q_STATUS_FENCED q) 1).get ⟨a, hi, lo⟩ = t.get ⟨a, hi, lo⟩ :=
    t.get_put_addr _ _ 1 (by simp only [QD.Q_STATUS_FENCED, queueDesc]; omega)
  have hlast (t : State) : (t.put (LADLE.LAST_FAULT_Q (homeBank q)) q).get ⟨a, hi, lo⟩ = t.get ⟨a, hi, lo⟩ :=
    t.get_put_addr _ _ q (by unfold showsLink at ha; simp only [LADLE.LAST_FAULT_Q, ladlePage]; omega)
  unfold showsLink at ha
  rw [State.fenceQueue, State.get_autoSweep_off _ _ _ (by omega), State.get_ladleRaise_link _ ha, State.queueFault,
    State.get_ladleRaise_link _ ha, hlast, hfenced, State.get_resetQueue_low _ q hlt (by omega),
    State.get_breakClaim_low _ (by omega)]

end

/-- A queue whose fault has been reported is fenced. -/
theorem State.fenceQueue_fenced {q : Nat} (hq : q < 0x4000) : (s.fenceQueue q).on (QD.Q_STATUS_FENCED q) = true := by
  have hb := homeBank_lt q
  have hraise (t : State) (n : Nat) : (t.raise (ladlePage (homeBank q)) n).get ⟨queueDesc q + 0xC, 31, 31⟩ =
      t.get ⟨queueDesc q + 0xC, 31, 31⟩ :=
    t.get_raise_off _ n (by simp only [queueDesc, ladlePage]; omega) (by simp only [queueDesc]; omega)
  have hlast (t : State) : (t.put (LADLE.LAST_FAULT_Q (homeBank q)) q).get ⟨queueDesc q + 0xC, 31, 31⟩ =
      t.get ⟨queueDesc q + 0xC, 31, 31⟩ :=
    t.get_put_addr _ _ q (by simp only [LADLE.LAST_FAULT_Q, queueDesc, ladlePage]; omega)
  rw [State.on, QD.Q_STATUS_FENCED, State.fenceQueue, State.get_autoSweep_off _ _ _ (by simp only [queueDesc]; omega), hraise,
    State.queueFault, hraise, hlast, QD.Q_STATUS_FENCED, State.get_put_at _ _ (by decide)]
  rfl

/-- Whatever the reaction of its class, a damaged queue is fenced. -/
theorem State.containQueue_fenced {q : Nat} (hq : q < 0x4000) : (s.containQueue q).on (QD.Q_STATUS_FENCED q) = true := by
  unfold State.containQueue
  split
  · assumption
  · exact s.fenceQueue_fenced hq

/-! ### A bad link entry (R275) -/

theorem State.reactUnit_queue (page bit detail q : Nat) (real : Bool) :
    s.reactUnit page bit detail real (.queue q) = if s.unitFenced (.queue q) then s else s.fenceQueue q := by
  unfold State.reactUnit State.fenceUnit
  split
  · rfl
  · exact if_neg Bool.false_ne_true

/-- A bad link entry has its reaction at its queue. -/
theorem State.occurReact_queue (b q : Nat) (real : Bool) :
    s.occurReact .ladle b 1 q real = if s.quenched then s
      else if s.siteClass (ladlePage b) 1 = 2 then s.quench 1 (ladlePage b) 1 q (!real)
      else if s.siteClass (ladlePage b) 1 = 1 then s.reactUnit (ladlePage b) 1 q real (.queue q) else s := by
  simp only [State.occurReact, pageAddr, siteUnits, State.each, reduceCtorEq, decide_false, Bool.false_and, Bool.false_eq_true,
    if_false]
  rfl

section

variable {q : Nat} (ha : showsLink q a)

include ha

/-- The occurrence of a bad link entry leaves what shows it. -/
theorem State.get_occurAuto_link (word : Option Nat) :
    (s.occurAuto .ladle (homeBank q) 1 q word).get ⟨a, hi, lo⟩ = s.get ⟨a, hi, lo⟩ := by
  obtain ⟨hge, hlt⟩ := showsLink_bounds ha
  have hclaim : (s.claimInjection (ladlePage (homeBank q)) 1 q word).2.get ⟨a, hi, lo⟩ = s.get ⟨a, hi, lo⟩ := by
    have hput : (s.put (HDR.FAULT_INJ_ARMED (ladlePage (homeBank q))) 0).get ⟨a, hi, lo⟩ = s.get ⟨a, hi, lo⟩ :=
      s.get_put_addr _ _ 0 (by unfold showsLink at ha; simp only [HDR.FAULT_INJ_ARMED, ladlePage]; omega)
    unfold State.claimInjection
    split
    · split
      · have hfaults : Ignores (State.get · ⟨a, hi, lo⟩) [.faults] := get_ignores _ rfl
        exact (hfaults.faults rfl _ _).trans hput
      · rfl
    · rfl
  have hrecord (t : State) (real : Bool) :
      (t.occurRecord (ladlePage (homeBank q)) 1 q real).get ⟨a, hi, lo⟩ = t.get ⟨a, hi, lo⟩ :=
    t.get_occurRecord_off (by unfold showsLink at ha; simp only [ladlePage]; omega) (by omega) 1 q real
  have hreact (t : State) (real : Bool) : (t.occurReact .ladle (homeBank q) 1 q real).get ⟨a, hi, lo⟩ = t.get ⟨a, hi, lo⟩ := by
    rw [State.occurReact_queue, State.reactUnit_queue]
    exact ite_p (State.get · ⟨a, hi, lo⟩) rfl (ite_p (State.get · ⟨a, hi, lo⟩) (t.get_quench_off (by omega) (by omega) ..)
      (ite_p (State.get · ⟨a, hi, lo⟩) (ite_p (State.get · ⟨a, hi, lo⟩) rfl (t.get_fenceQueue_link ha)) rfl))
  have hoccur (t : State) (real : Bool) : (t.occur .ladle (homeBank q) 1 q real).get ⟨a, hi, lo⟩ = t.get ⟨a, hi, lo⟩ := by
    have hlive : (t.setLive (ladlePage (homeBank q)) 1 q true).get ⟨a, hi, lo⟩ = t.get ⟨a, hi, lo⟩ :=
      State.setLive_keeps (get_ignores _ rfl) ..
    simp only [State.occur]
    refine ite_p (State.get · ⟨a, hi, lo⟩) hlive ?_
    rw [hreact]
    exact (hrecord ..).trans (ite_p (State.get · ⟨a, hi, lo⟩) hlive (State.noteEvent_keeps (get_ignores _ rfl) ..))
  rw [State.occurAuto, hoccur]
  exact hclaim

theorem State.get_containQueue_link : (s.containQueue q).get ⟨a, hi, lo⟩ = s.get ⟨a, hi, lo⟩ :=
  ite_p (State.get · ⟨a, hi, lo⟩) rfl (s.get_fenceQueue_link ha)

end

/-- A bad link entry that a walk meets: its queue is fenced, and the bank's page shows its cell. -/
theorem State.linkUe_contains {q : Nat} (hq : q < 0x4000) (cell : Nat) :
    let t := s.linkUe q cell
    t.on (QD.Q_STATUS_FENCED q) = true ∧ t.get (LADLE.LINK_UE (homeBank q)) = (s.get (LADLE.LINK_UE (homeBank q)) + 1) % 2 ^ 32 ∧
      t.get (LADLE.LINK_UE_CELL (homeBank q)) = cell % 2 ^ 24 := by
  have hue : LADLE.LINK_UE (homeBank q) = ⟨0x300138 + 0x1000 * homeBank q, 31, 0⟩ := by
    rw [LADLE.LINK_UE, ladlePage, Nat.add_right_comm]
  have hcell : LADLE.LINK_UE_CELL (homeBank q) = ⟨0x30013C + 0x1000 * homeBank q, 23, 0⟩ := by
    rw [LADLE.LINK_UE_CELL, ladlePage, Nat.add_right_comm]
  refine ⟨State.containQueue_fenced _ hq, ?_, ?_⟩
  · rw [hue, State.linkUe, State.get_containQueue_link _ (.inl rfl), State.get_occurAuto_link _ (.inl rfl), hcell,
      State.get_put_off _ _ (by omega), hue, State.inc, State.add, State.get_put_at _ _ (by decide)]
  · rw [hcell, State.linkUe, State.get_containQueue_link _ (.inr rfl), State.get_occurAuto_link _ (.inr rfl), hcell,
      State.get_put_at _ _ (by decide)]

end

end Sys2Proof.Machine
end

section
/-!
PROOFS. Seam units at work: the packets of a member, strip lines, and their time-out (R204 to R210, R275; O37).
-/

namespace Sys2Proof.Machine

/-! ### Samples in HBM (R205, R210) -/

/-- A piece that is cut off has no more than the elements asked for. -/
theorem length_of_mem_chunksAux {α : Type} {n f : Nat} {l c : List α} (h : c ∈ chunksAux n f l) : c.length ≤ n := by
  induction f generalizing l with
  | zero => exact absurd h List.not_mem_nil
  | succ f ih =>
    cases l with
    | nil => exact absurd h List.not_mem_nil
    | cons x l =>
      rcases List.mem_cons.mp h with rfl | h
      · exact List.length_take_le n _
      · exact ih h

/-- Pieces of one length, joined, are cut apart again. -/
theorem chunksAux_flatten {α : Type} {n : Nat} (hn : 0 < n) (f : Nat) (l : List (List α)) (hl : ∀ c ∈ l, c.length = n)
    (hf : l.length ≤ f) : chunksAux n f l.flatten = l := by
  induction l generalizing f with
  | nil => exact chunksAux_nil n f
  | cons c l ih =>
    obtain ⟨f, rfl⟩ : ∃ g, f = g + 1 := ⟨f - 1, by simp only [List.length_cons] at hf; omega⟩
    have hc : c.length = n := hl c List.mem_cons_self
    obtain ⟨x, c, rfl⟩ : ∃ x d, c = x :: d := List.exists_cons_of_ne_nil (List.ne_nil_of_length_pos (by omega))
    rw [List.flatten_cons, List.cons_append, chunksAux_cons, ← List.cons_append, List.take_left' hc, List.drop_left' hc,
      ih f (fun d hd => hl d (List.mem_cons_of_mem _ hd)) (by simp only [List.length_cons] at hf; omega)]

theorem leNat_lt_of_length {l : List Byte} {n : Nat} (h : l.length ≤ n) : leNat l < 256 ^ n := by
  rw [leNat_eq_ofDigits]
  refine (Nat.ofDigits_lt_base_pow_length (by decide) toNat_lt_of_mem).trans_le ?_
  rw [List.length_map]
  exact Nat.pow_le_pow_right (by decide) h

theorem leNat_leBytes_two {v : Nat} (h : v < 65536) : leNat (leBytes 2 v) = v := by
  simp only [leBytes, List.range_succ, List.range_zero, List.nil_append, List.cons_append, List.map_cons, List.map_nil, leNat,
    List.foldr_cons, List.foldr_nil, BitVec.toNat_ofNat]
  omega

/-- Samples stored in two bytes each are read back. -/
theorem chunks_leBytes_two {l : List Nat} (h : ∀ v ∈ l, v < 65536) :
    (chunks 2 (l.map (leBytes 2)).flatten).map leNat = l := by
  have hlen : (l.map (leBytes 2)).flatten.length = l.length * 2 := length_flatten_map (n := 2) l fun v _ => by simp [leBytes]
  rw [chunks, chunksAux_flatten (by decide) _ _ (by simp [leBytes]) (by rw [hlen, List.length_map]; omega), List.map_map]
  exact (List.map_congr_left fun v hv => leNat_leBytes_two (h v hv)).trans (List.map_id l)

theorem map_range_getD {α β : Type} (l : List α) (d : α) (g : α → β) :
    (List.range l.length).map (fun n => g (l.getD n d)) = l.map g :=
  List.ext_getElem (by simp) fun n _ h => by
    have hn : n < l.length := by simpa using h
    rw [List.getElem_map, List.getElem_range, List.getD_eq_getElem _ _ hn, List.getElem_map]

/-- What the pieces of a list spell, joined, is what the list spells. -/
theorem flatten_map_chunks {α β : Type} {n : Nat} (hn : 0 < n) (g : α → List β) (l : List α) :
    ((chunks n l).map (fun c => (c.map g).flatten)).flatten = (l.map g).flatten := by
  conv_rhs => rw [← flatten_chunksAux hn l.length l le_rfl, List.map_flatten, List.flatten_flatten, List.map_map]
  rfl

/-! ### Fields -/

/-- Fields of a seam's page that a packet of a member reads and counts in. -/
theorem seamPacketFields (u : Nat) :
    SEAM.SEAM_BLOCK u = ⟨0x700108 + 0x4000 * u, 23, 0⟩ ∧ SEAM.SEAM_LATE u = ⟨0x70012C + 0x4000 * u, 31, 0⟩ ∧
    SEAM.SEAM_BAD_PKT u = ⟨0x700130 + 0x4000 * u, 31, 0⟩ := by
  simp only [SEAM.SEAM_BLOCK, SEAM.SEAM_LATE, SEAM.SEAM_BAD_PKT, seamPage, Fld.mk.injEq, and_true]
  omega

/-- Fields of a member in its seam's page. -/
theorem memberFields (u i : Nat) :
    SEAM.MEM_WIDTH u i = ⟨0x701008 + 0x4000 * u + 0x20 * i, 14, 0⟩ ∧
    SEAM.MEM_DELAY_DELAY u i = ⟨0x701014 + 0x4000 * u + 0x20 * i, 9, 0⟩ ∧
    SEAM.MEM_SHOT_BASE u i = ⟨0x70101C + 0x4000 * u + 0x20 * i, 31, 0⟩ := by
  simp only [SEAM.MEM_WIDTH, SEAM.MEM_DELAY_DELAY, SEAM.MEM_SHOT_BASE, seamPage, Fld.mk.injEq, and_true]
  omega

theorem seam_ignores (x : Nat) {l : List Part} (h : l.contains .seams = false) : Ignores (fun s => s.seam x) l := by
  intro s t k
  have hm : t.seams = s.seams := k .seams (by simpa using h)
  simp only [State.seam, hm]

theorem queue_ignores (x : Nat) {l : List Part} (h : l.contains .queues = false) : Ignores (fun s => s.queue x) l := by
  intro s t k
  have hm : t.queues = s.queues := k .queues (by simpa using h)
  simp only [State.queue, hm]

theorem prod_ignores (x : Nat) {l : List Part} (h : l.contains .prods = false) : Ignores (fun s => s.prod x) l := by
  intro s t k
  have hm : t.prods = s.prods := k .prods (by simpa using h)
  simp only [State.prod, hm]

theorem prod_unreported (x : Nat) : Unreported (fun s => s.prod x) :=
  ⟨prod_ignores x rfl, fun t f v _ => State.put_keeps (prod_ignores x rfl) t f v⟩

section

variable (s : State) {u i : Nat}

/-! ### A packet of a member (R204, R206, R207) -/

/-- A packet of a wrong length, and a compressed one, is discarded. -/
theorem State.takeMember_bad {p : Packet}
    (h : p.payload.length ≠ s.get (SEAM.MEM_WIDTH u i) * s.seamSample u ∨ bitOf p.hdr.hflags 2 = true) :
    s.takeMember u i p [] = s.badMember u i p :=
  if_pos (by simpa using h)

/-- A discarded packet is counted, and its member is missing for its index. -/
theorem State.badMember_shows (hu : u < 4) (p : Packet) :
    let t := s.badMember u i p
    t.get (SEAM.SEAM_BAD_PKT u) = (s.get (SEAM.SEAM_BAD_PKT u) + 1) % 2 ^ 32 ∧ t.bitAt (HDR.IRQ_STAT (seamPage u)) 1 = true ∧
      t.markedBad u i (s.memberIndex u i p.hdr.shot p.hdr.line) = true := by
  refine ⟨?_, ?_, ?_⟩
  · rw [State.badMember, State.setSeam_get, (seamPacketFields u).2.2,
      State.get_raise_off _ _ _ (by simp only [seamPage]; omega) (by omega), State.inc, State.add,
      State.get_put_at _ _ (by decide)]
  · rw [State.badMember, State.setSeam_bitAt]
    exact State.bitAt_raise_same _ (by decide) (by simp only [seamPage]; omega)
  · simp only [State.badMember, State.markedBad, State.seam_setSeam_same, List.any_append, List.any_cons, BEq.rfl, Bool.and_self,
      Bool.true_or, Bool.or_true]

section

variable {p : Packet} (hlen : p.payload.length = s.get (SEAM.MEM_WIDTH u i) * s.seamSample u)
  (hplain : bitOf p.hdr.hflags 2 = false)

include hlen hplain

/-- A packet behind the current strip line, and one for an index that is stored, is late. -/
theorem State.takeMember_late (hlate : let k := s.memberIndex u i p.hdr.shot p.hdr.line
      serialLt k (s.needIndex u i) = true ∨ s.stored u i k ≠ none) :
    s.takeMember u i p [] = (s.inc (SEAM.SEAM_LATE u)).raise (seamPage u) 2 := by
  refine (if_neg (by simp [hlen, hplain])).trans (if_pos ?_)
  simpa [Option.isSome_iff_ne_none] using hlate

/-- A packet that fits is stored. -/
theorem State.takeMember_fits (hnew : serialLt (s.memberIndex u i p.hdr.shot p.hdr.line) (s.needIndex u i) = false)
    (hfree : s.stored u i (s.memberIndex u i p.hdr.shot p.hdr.line) = none)
    (hnear : serialDiff (s.memberIndex u i p.hdr.shot p.hdr.line) (s.needIndex u i) < 1024) :
    s.takeMember u i p [] = s.storeMember u i (s.memberIndex u i p.hdr.shot p.hdr.line) p := by
  have hroom (n : Nat) : s.forceUntil u i (s.memberIndex u i p.hdr.shot p.hdr.line) [] n = s := by
    cases n with
    | zero => rfl
    | succ n => exact if_neg (by simp [Nat.not_le.mpr hnear])
  refine (if_neg (by simp [hlen, hplain])).trans ((if_neg (by simp [hnew, hfree])).trans ?_)
  rw [hroom]

end

theorem State.late_counted (hu : u < 4) :
    ((s.inc (SEAM.SEAM_LATE u)).raise (seamPage u) 2).get (SEAM.SEAM_LATE u) = (s.get (SEAM.SEAM_LATE u) + 1) % 2 ^ 32 := by
  rw [(seamPacketFields u).2.1, State.get_raise_off _ _ _ (by simp only [seamPage]; omega) (by omega), State.inc, State.add,
    State.get_put_at _ _ (by decide)]

/-- What is stored of a packet reads back as its samples. -/
theorem State.storeMember_samples (hu : u < 4) (hi : i < 32) (k : Nat) {p : Packet}
    (hlen : p.payload.length = s.get (SEAM.MEM_WIDTH u i) * s.seamSample u) :
    (s.storeMember u i k p).slotSamples u i k = (chunks (s.seamSample u) p.payload).map leNat := by
  have hsample : s.seamSample u ≤ 2 := by
    unfold State.seamSample
    split <;> decide
  have hsmall : ∀ v ∈ (chunks (s.seamSample u) p.payload).map leNat, v < 65536 := by
    intro v hv
    obtain ⟨c, hc, rfl⟩ := List.mem_map.mp hv
    exact leNat_lt_of_length (n := 2) ((length_of_mem_chunksAux hc).trans hsample)
  have hwidth (b : Nat) (l : List Byte) : (s.hbmWrite b l).get (SEAM.MEM_WIDTH u i) = s.get (SEAM.MEM_WIDTH u i) :=
    s.get_hbmWrite_low (by simp only [seamPage]; omega) b l
  have hbytes := length_samples s.seamSample_pos p.payload hlen
  rw [State.storeMember, State.slotSamples, State.setSeam_get, hwidth, ← hbytes, State.hbmRead_of_hbm (State.setSeam_hbm ..),
    State.hbmWrite_read, chunks_leBytes_two hsmall]

/-- The slot that a stored packet fills. -/
def Packet.seamSlot (p : Packet) (i k : Nat) : SeamSlot :=
  { member := i, k := k, shot := p.hdr.shot, line := p.hdr.line, version := p.hdr.version, lflags := p.hdr.lflags,
    tTrig := p.hdr.tTrig, last := bitOf p.hdr.hflags 1 }

theorem State.storeMember_store (k : Nat) (p : Packet) :
    ((s.storeMember u i k p).seam u).store = (s.seam u).store ++ [p.seamSlot i k] := by
  rw [State.storeMember, State.seam_setSeam_same, State.hbmWrite_keeps (seam_ignores u rfl)]
  rfl

theorem State.storeMember_queue (k : Nat) (p : Packet) (q : Nat) : (s.storeMember u i k p).queue q = s.queue q := by
  rw [State.storeMember, State.setSeam_queue, State.hbmWrite_keeps (queue_ignores q rfl)]

/-! ### The packet that a seam takes (R203, R269, R270, R275) -/

/-- The read of a claimed packet leaves the registers of seam and mould units. -/
theorem State.get_endClaim_unit (q : Nat) {a hi lo : Nat} (ha : 0x700000 ≤ a ∧ a < 0x740000) :
    (s.endClaim q).get ⟨a, hi, lo⟩ = s.get ⟨a, hi, lo⟩ :=
  s.get_endClaim_off (by simp only [reportWrites]; omega) q

theorem State.seam_endClaim (q : Nat) : (s.endClaim q).seam u = s.seam u := State.endClaim_keeps (seam_ignores u rfl) s q

section

variable (hu : u < 4) (q : Nat)

include hu

theorem State.seamSample_endClaim : (s.endClaim q).seamSample u = s.seamSample u := by
  simp (disch := omega) only [State.seamSample, State.on, sampleField, State.get_endClaim_unit]

theorem State.seamCounts_endClaim : (s.endClaim q).get (SEAM.SEAM_BAD_PKT u) = s.get (SEAM.SEAM_BAD_PKT u) ∧
    (s.endClaim q).get (SEAM.SEAM_LATE u) = s.get (SEAM.SEAM_LATE u) := by
  simp (disch := omega) only [seamPacketFields, State.get_endClaim_unit, and_self]

variable (hi : i < 32)

include hi

theorem State.memWidth_endClaim : (s.endClaim q).get (SEAM.MEM_WIDTH u i) = s.get (SEAM.MEM_WIDTH u i) := by
  simp (disch := omega) only [memberFields, State.get_endClaim_unit]

theorem State.memberIndex_endClaim (shot line : Nat) :
    (s.endClaim q).memberIndex u i shot line = s.memberIndex u i shot line := by
  simp (disch := omega) only [State.memberIndex, seamPacketFields, memberFields, State.get_endClaim_unit]

theorem State.needIndex_endClaim : (s.endClaim q).needIndex u i = s.needIndex u i := by
  simp (disch := omega) only [State.needIndex, seamFields, memberFields, State.get_endClaim_unit]

end

theorem State.stored_endClaim (q k : Nat) : (s.endClaim q).stored u i k = s.stored u i k := by
  rw [State.stored, s.seam_endClaim]
  rfl

section

variable {p : Packet} (hbinds : s.seamBinds u i = true) (hclaim : (s.queue (s.get (SEAM.MEM_QUEUE u i))).claimed = some p)

include hbinds hclaim

/-- A bad link entry of the first cell ends the read of the packet. -/
theorem State.seamPacket_badLink (hcells : 2 ≤ p.cells.length) (hue : s.linkEcc (p.cells.headD 0) .good = .ue) :
    s.seamPacket u i [] [] =
      (s.readUpTo (s.get (SEAM.MEM_QUEUE u i)) 256).linkUe (s.get (SEAM.MEM_QUEUE u i)) (p.cells.headD 0) := by
  simp only [State.seamPacket, hbinds, Bool.not_true, Bool.false_eq_true, if_false, s.claimFor_claimed hclaim,
    s.readOut_badLink hclaim hcells hue]

section

variable (hu : u < 4) (hi : i < 32) (hlinks : ∀ n ∈ p.cells, s.linkEcc n .good = .good) (hfence : s.anyChannelFenced = false)

include hlinks hfence

theorem State.seamPacket_takes :
    s.seamPacket u i [] [] = (s.endClaim (s.get (SEAM.MEM_QUEUE u i))).takeMember u i p [] := by
  simp only [State.seamPacket, hbinds, Bool.not_true, Bool.false_eq_true, if_false, s.claimFor_claimed hclaim,
    s.readOut_good hclaim hlinks hfence]

include hu hi

theorem State.seamPacket_bad
    (h : p.payload.length ≠ s.get (SEAM.MEM_WIDTH u i) * s.seamSample u ∨ bitOf p.hdr.hflags 2 = true) :
    s.seamPacket u i [] [] = (s.endClaim (s.get (SEAM.MEM_QUEUE u i))).badMember u i p := by
  rw [s.seamPacket_takes hbinds hclaim hlinks hfence]
  exact State.takeMember_bad _ (by rwa [s.memWidth_endClaim hu _ hi, s.seamSample_endClaim hu])

variable (hlen : p.payload.length = s.get (SEAM.MEM_WIDTH u i) * s.seamSample u) (hplain : bitOf p.hdr.hflags 2 = false)

include hlen hplain

theorem State.seamPacket_late (hlate : let k := s.memberIndex u i p.hdr.shot p.hdr.line
      serialLt k (s.needIndex u i) = true ∨ s.stored u i k ≠ none) :
    s.seamPacket u i [] [] = ((s.endClaim (s.get (SEAM.MEM_QUEUE u i))).inc (SEAM.SEAM_LATE u)).raise (seamPage u) 2 := by
  rw [s.seamPacket_takes hbinds hclaim hlinks hfence]
  refine State.takeMember_late _ (by rwa [s.memWidth_endClaim hu _ hi, s.seamSample_endClaim hu]) hplain ?_
  simpa only [s.memberIndex_endClaim hu _ hi, s.needIndex_endClaim hu _ hi, s.stored_endClaim] using hlate

theorem State.seamPacket_stores (hnew : serialLt (s.memberIndex u i p.hdr.shot p.hdr.line) (s.needIndex u i) = false)
    (hfree : s.stored u i (s.memberIndex u i p.hdr.shot p.hdr.line) = none)
    (hnear : serialDiff (s.memberIndex u i p.hdr.shot p.hdr.line) (s.needIndex u i) < 1024) :
    s.seamPacket u i [] [] =
      (s.endClaim (s.get (SEAM.MEM_QUEUE u i))).storeMember u i (s.memberIndex u i p.hdr.shot p.hdr.line) p := by
  have hk := s.memberIndex_endClaim hu (s.get (SEAM.MEM_QUEUE u i)) hi p.hdr.shot p.hdr.line
  have hneed := s.needIndex_endClaim hu (s.get (SEAM.MEM_QUEUE u i)) hi
  rw [s.seamPacket_takes hbinds hclaim hlinks hfence, ← hk]
  exact State.takeMember_fits _ (by rwa [s.memWidth_endClaim hu _ hi, s.seamSample_endClaim hu]) hplain (by rwa [hk, hneed])
    (by rwa [hk, s.stored_endClaim]) (by rwa [hk, hneed])

end

end

/-! ### Strip lines (R205, R206, R208 to R210) -/

/-- The members of the current strip line as R208 reads them. -/
def State.stripMembers (s : State) (u : Nat) (bad : List (Nat × Nat)) : List (StripMember × Option SeamSlot) :=
  (List.range (s.seamMembers u)).map (fun i => s.stripMember u i (s.slotBad u i bad))

/-- The columns of the current strip line, none where one takes PAD (R208). -/
def State.stripCols (s : State) (u : Nat) (bad : List (Nat × Nat)) : List (Option Nat) :=
  (List.range (s.get (SEAM.SEAM_WIDTH u))).map
    (stripColumn ((s.stripMembers u bad).map Prod.fst) (if s.on (SEAM.SEAM_CFG_SAMPLE u) then 255 else 65535))

theorem State.stripCols_padded (bad : List (Nat × Nat)) (pad : Nat) :
    (s.stripCols u bad).map (fun v => v.getD pad) = (List.range (s.get (SEAM.SEAM_WIDTH u))).map (fun x => (stripColumn
      ((List.range (s.seamMembers u)).map (fun i => (s.stripMember u i (s.slotBad u i bad)).1))
      (if s.on (SEAM.SEAM_CFG_SAMPLE u) then 255 else 65535) x).getD pad) := by
  simp only [State.stripCols, State.stripMembers, List.map_map, Function.comp_def]

/-- The segments of a strip line, joined, are its columns. -/
theorem State.stripPackets_payload (cols : List (Option Nat)) (slots : List SeamSlot) (blank : SeamSlot) :
    ((s.stripPackets u cols slots blank).map (fun p => p.payload)).flatten =
      ((cols.map (fun v => v.getD (s.get (SEAM.SEAM_PAD u)))).map (leBytes (s.seamSample u))).flatten := by
  rw [State.stripPackets, List.map_map]
  refine Eq.trans (congrArg List.flatten ?_) (flatten_map_chunks (n := 32768) (by decide) (leBytes (s.seamSample u)) _)
  exact map_range_getD _ [] fun seg => (seg.map (leBytes (s.seamSample u))).flatten

theorem State.stripPackets_header (cols : List (Option Nat)) (slots : List SeamSlot) (blank : SeamSlot) :
    ∀ p ∈ s.stripPackets u cols slots blank, p.queue = s.get (SEAM.SEAM_QUEUE_QUEUE u) ∧ p.hdr.kind = 4 ∧
      p.hdr.line = s.get (SEAM.SEAM_LINE u) := by
  intro p hp
  obtain ⟨n, -, rfl⟩ := List.mem_map.mp hp
  exact ⟨rfl, rfl, rfl⟩

/-- Packets pushed wait behind those of their producer. -/
theorem State.eachPushPacket_waits (k : Nat) (l : List Packet) :
    ((s.each l (fun t p => t.pushPacket k p)).prod k).todo = (s.prod k).todo ++ l := by
  induction l generalizing s with
  | nil => exact (List.append_nil _).symm
  | cons p l ih =>
    refine (ih _).trans ?_
    simp only [State.pushPacket, State.prod_setProd_same, List.append_assoc, List.singleton_append]

theorem State.emitStrip_waits (bad : List (Nat × Nat)) : ∃ slots blank, ((s.emitStrip u bad).prod (33 + u)).todo =
    (s.prod (33 + u)).todo ++ s.stripPackets u (s.stripCols u bad) slots blank := by
  refine ⟨_, _, (State.eachPushPacket_waits _ _ _).trans (congrArg (· ++ _) (congrArg ProdSt.todo ?_))⟩
  refine (State.each_p (State.prod · (33 + u)) fun t x => State.touch_keeps (prod_ignores _ rfl) ..).trans ?_
  exact ite_p (State.prod · (33 + u)) (by simp only [State.draw_keeps (prod_ignores _ rfl)]) rfl

/-- The current strip line goes out, the next one comes, and reads at some addresses are reported. -/
def State.lineOut (s : State) (u : Nat) (bad : List (Nat × Nat)) (faults : List Nat) : State :=
  ((s.emitStrip u bad).nextStrip u).each faults State.hbmUe

theorem State.seamForm_ready (bad : List (Nat × Nat)) (h : s.lineReady u = true) :
    s.seamForm u bad = s.lineOut u bad (s.readFaults u bad) := by
  simp only [State.seamForm, h, Bool.not_true, Bool.false_eq_true, if_false]
  rfl

/-- The report of reads leaves the registers of seam and mould units. -/
theorem State.get_eachHbmUe_unit (faults : List Nat) {a hi lo : Nat} (ha : 0x700000 ≤ a ∧ a < 0x740000) :
    (s.each faults State.hbmUe).get ⟨a, hi, lo⟩ = s.get ⟨a, hi, lo⟩ :=
  State.each_p (State.get · ⟨a, hi, lo⟩) fun t x => (get_unreported (by simp only [reportWrites]; omega)).hbmUe t x

section

variable (bad : List (Nat × Nat)) (faults : List Nat)

/-- Of the registers of seam units, a strip line that goes out changes SEAM_LINE alone. -/
theorem State.get_lineOut_off {a hi lo : Nat} (ha : 0x700000 ≤ a ∧ a < 0x740000) (hline : a ≠ 0x700118 + 0x4000 * u) :
    (s.lineOut u bad faults).get ⟨a, hi, lo⟩ = s.get ⟨a, hi, lo⟩ := by
  rw [State.lineOut, State.get_eachHbmUe_unit _ _ ha, State.nextStrip, State.setSeam_get, State.inc, State.add, (seamFields u).2,
    State.get_put_off _ _ (.inl hline), s.get_emitStrip_low ha.2]

theorem State.lineOut_advances (hu : u < 4) :
    (s.lineOut u bad faults).get (SEAM.SEAM_LINE u) = (s.get (SEAM.SEAM_LINE u) + 1) % 2 ^ 32 := by
  rw [(seamFields u).2, State.lineOut, State.get_eachHbmUe_unit _ _ (by omega), State.nextStrip, State.setSeam_get, State.inc,
    State.add, (seamFields u).2, State.get_put_at _ _ (by decide), s.get_emitStrip_low (by omega)]

theorem State.lineOut_waits : ∃ slots blank, ((s.lineOut u bad faults).prod (33 + u)).todo =
    (s.prod (33 + u)).todo ++ s.stripPackets u (s.stripCols u bad) slots blank := by
  obtain ⟨slots, blank, h⟩ := s.emitStrip_waits (u := u) bad
  refine ⟨slots, blank, Eq.trans ?_ h⟩
  rw [State.lineOut, State.each_p (State.prod · (33 + u)) fun t x => (prod_unreported (33 + u)).hbmUe t x,
    State.nextStrip_keeps (prod_ignores _ rfl)]

end

/-! ### A strip line that times out (R206, R210) -/

/-- The members that are missing when the current strip line is forced. -/
def State.goneMembers (s : State) (u : Nat) (bad : List (Nat × Nat)) : List Nat :=
  (List.range (s.seamMembers u)).filter (fun i =>
    s.memberMissing u i || (s.stored u i (s.needIndex u i)).isNone || s.slotBad u i bad)

/-- The current strip line is counted as forced, with its missing members. -/
def State.lineForced (s : State) (u : Nat) (gone : List Nat) : State :=
  (((s.inc (SEAM.SEAM_FORCED u)).add (SEAM.SEAM_MISS_LINES u) gone.length).put (SEAM.SEAM_MISS_MASK u)
    (gone.foldl setBitN 0)).raise (seamPage u) 0

section

variable (bad : List (Nat × Nat)) (htimer : s.get (SEAM.SEAM_TIMEOUT u) ≠ 0) (hstart : s.lineStarted u = true)

include htimer hstart

theorem State.seamTimeout_ready (h : s.lineReady u = true) : s.seamTimeout u bad = s.seamForm u bad := by
  simp only [State.seamTimeout, htimer, hstart, h, decide_false, Bool.not_true, Bool.or_self, Bool.false_eq_true,
    if_false, if_true]

theorem State.seamTimeout_forces (h : s.lineReady u = false) :
    s.seamTimeout u bad = (s.lineForced u (s.goneMembers u bad)).lineOut u bad (s.readFaults u bad) := by
  simp only [State.seamTimeout, State.forceLine, State.forceStrip, htimer, hstart, h, decide_false, Bool.not_true, Bool.or_self,
    Bool.false_eq_true, if_false, if_true]
  rfl

end

/-- A time-out forces the line: it is counted, its missing members are reported, and the next line comes. -/
theorem State.seamTimeout_shows (hu : u < 4) (bad : List (Nat × Nat)) (faults gone : List Nat) :
    let t := (s.lineForced u gone).lineOut u bad faults
    t.get (SEAM.SEAM_FORCED u) = (s.get (SEAM.SEAM_FORCED u) + 1) % 2 ^ 32 ∧
      t.get (SEAM.SEAM_MISS_LINES u) = (s.get (SEAM.SEAM_MISS_LINES u) + gone.length) % 2 ^ 32 ∧
      t.get (SEAM.SEAM_MISS_MASK u) = gone.foldl setBitN 0 % 2 ^ 32 ∧
      t.get (SEAM.SEAM_LINE u) = (s.get (SEAM.SEAM_LINE u) + 1) % 2 ^ 32 ∧
      t.get (SEAM.SEAM_SKIPPED u) = s.get (SEAM.SEAM_SKIPPED u) ∧ t.bitAt (HDR.IRQ_STAT (seamPage u)) 0 = true := by
  have hraise (t : State) {a hi lo : Nat} (ha : 0x700118 + 0x4000 * u ≤ a) (hpba : a < 0x740000) :
      (t.raise (seamPage u) 0).get ⟨a, hi, lo⟩ = t.get ⟨a, hi, lo⟩ :=
    t.get_raise_off _ 0 (by simp only [seamPage]; omega) (by omega)
  have hline := (s.lineForced u gone).lineOut_advances bad faults hu
  have hevent : (s.lineForced u gone).bitAt (HDR.IRQ_STAT (seamPage u)) 0 = true :=
    State.bitAt_raise_same _ (by decide) (by simp only [seamPage]; omega)
  refine ⟨?_, ?_, ?_, hline.trans ?_, ?_, (congrArg (bitOf · 0) (State.get_lineOut_off _ bad faults ?_ ?_)).trans hevent⟩
  case refine_6 | refine_7 => simp only [seamPage]; omega
  all_goals simp (disch := omega) only [stripFields, seamFields, State.get_lineOut_off, State.lineForced, State.inc, State.add,
    hraise, State.get_put_off, State.get_put_at]

end

/-! ### The commands -/

/-- Settles O37, by what a member's packet, a strip line that goes out and one that is forced write. -/
theorem seamCommandsComplete : Obligations.SeamCommandsComplete := by
  refine ⟨fun s u i p hruns hbinds hclaim => ⟨fun hlinks hfence => ⟨fun hbad => ?_, fun hlen hplain => ⟨fun hlate => ?_,
    fun hnew hfree hnear => ?_⟩⟩, fun hcells hue => ?_⟩, fun s u bad hruns => ⟨fun hready => ?_, fun htimer hstart =>
    ⟨fun hready => ?_, fun hready => ?_⟩⟩⟩
  · obtain ⟨hcount, hevent, hmark⟩ := (s.endClaim (s.get (SEAM.MEM_QUEUE u i))).badMember_shows (i := i) u.isLt p
    exact ⟨_, next_when _ hruns (s.seamPacket_bad hbinds hclaim u.isLt i.isLt hlinks hfence hbad),
      by rw [hcount, (s.seamCounts_endClaim u.isLt _).1], hevent, by rwa [s.memberIndex_endClaim u.isLt _ i.isLt] at hmark⟩
  · refine ⟨_, next_when _ hruns (s.seamPacket_late hbinds hclaim u.isLt i.isLt hlinks hfence hlen hplain hlate), ?_, ?_, ?_⟩
    · rw [State.late_counted _ u.isLt, (s.seamCounts_endClaim u.isLt _).2]
    · rw [State.raise_keeps (seam_ignores u rfl), State.inc_keeps (seam_ignores u rfl), s.seam_endClaim]
    · rw [State.raise_keeps (queue_ignores _ rfl), State.inc_keeps (queue_ignores _ rfl), s.endClaim_claimed]
  · refine ⟨_, p.seamSlot i (s.memberIndex u i p.hdr.shot p.hdr.line), next_when _ hruns (s.seamPacket_stores hbinds hclaim
      u.isLt i.isLt hlinks hfence hlen hplain hnew hfree hnear), ?_, rfl, rfl, rfl, rfl, rfl, ?_, ?_⟩
    · rw [State.storeMember_store, s.seam_endClaim]
    · rw [← s.memWidth_endClaim u.isLt _ i.isLt, ← s.seamSample_endClaim u.isLt] at hlen
      rw [State.storeMember_samples _ u.isLt i.isLt _ hlen, s.seamSample_endClaim u.isLt]
    · rw [State.storeMember_queue, s.endClaim_claimed]
  · have hq : s.get (SEAM.MEM_QUEUE u i) < 0x4000 := s.get_lt _
    obtain ⟨hfenced, hcount, hcell⟩ := (s.readUpTo (s.get (SEAM.MEM_QUEUE u i)) 256).linkUe_contains hq (p.cells.headD 0)
    refine ⟨_, next_when _ hruns (s.seamPacket_badLink hbinds hclaim hcells hue), hfenced, hcount.trans ?_, hcell⟩
    have hb := homeBank_lt (s.get (SEAM.MEM_QUEUE u i))
    rw [LADLE.LINK_UE, s.get_readUpTo_low (by simp only [ladlePage]; omega)]
  · obtain ⟨slots, blank, hwaits⟩ := s.lineOut_waits (u := u) bad (s.readFaults u bad)
    refine ⟨_, s.stripPackets u (s.stripCols u bad) slots blank, next_when _ hruns (s.seamForm_ready bad hready), hwaits, ?_,
      s.stripPackets_header _ slots blank, s.lineOut_advances _ _ u.isLt⟩
    rw [s.stripPackets_payload, s.stripCols_padded]
  · exact (next_when (·.seamTimeout u bad) hruns (s.seamTimeout_ready bad htimer hstart hready)).trans
      (next_when (·.seamForm u bad) hruns rfl).symm
  · exact ⟨_, next_when _ hruns (s.seamTimeout_forces bad htimer hstart hready), s.seamTimeout_shows u.isLt ..⟩

end Sys2Proof.Machine
end

section
/-!
PROOFS. Mould units at work: the packets of a tile, output frames and panel lines, and stale tiles (R211, R214, R216, R217; O38).
-/

namespace Sys2Proof.Machine

/-! ### Fields -/

/-- Fields of a tile in its mould's page. -/
theorem tileFields (m n : Nat) :
    MOULD.TILE_SRC_KIND m n = ⟨0x711000 + 0x4000 * m + 0x20 * n, 31, 30⟩ ∧
    MOULD.TILE_SRC_WIN m n = ⟨0x711000 + 0x4000 * m + 0x20 * n, 29, 24⟩ ∧
    MOULD.TILE_SRC_CAM m n = ⟨0x711000 + 0x4000 * m + 0x20 * n, 23, 16⟩ ∧
    MOULD.TILE_CTRL_MODE m n = ⟨0x711014 + 0x4000 * m + 0x20 * n, 16, 16⟩ := by
  simp only [MOULD.TILE_SRC_KIND, MOULD.TILE_SRC_WIN, MOULD.TILE_SRC_CAM, MOULD.TILE_CTRL_MODE, mouldPage, Fld.mk.injEq, and_true]
  omega

/-- Fields of a seam's page that a tile of its strip reads. -/
theorem stripSourceFields (u : Nat) :
    SEAM.SEAM_WIDTH u = ⟨0x700104 + 0x4000 * u, 18, 0⟩ ∧ SEAM.SEAM_BLOCK u = ⟨0x700108 + 0x4000 * u, 23, 0⟩ := by
  simp only [SEAM.SEAM_WIDTH, SEAM.SEAM_BLOCK, seamPage, Fld.mk.injEq, and_true]
  omega

/-- Counts of output frames in a mould's page. -/
theorem frameCountFields (m : Nat) :
    MOULD.FRAME_COUNT m = ⟨0x71013C + 0x4000 * m, 31, 0⟩ ∧ MOULD.FRAME_SKIP m = ⟨0x710140 + 0x4000 * m, 31, 0⟩ := by
  simp only [MOULD.FRAME_COUNT, MOULD.FRAME_SKIP, mouldPage, Fld.mk.injEq, and_true]
  omega

theorem mould_unreported (x : Nat) : Unreported (fun s => s.mould x) :=
  ⟨mould_ignores x rfl, fun t f v _ => State.put_keeps (mould_ignores x rfl) t f v⟩

section

variable (s : State) {m n : Nat}

/-! ### What the read of a claimed packet leaves (R270) -/

theorem State.mould_endClaim (q : Nat) : (s.endClaim q).mould m = s.mould m := State.endClaim_keeps (mould_ignores m rfl) s q

theorem State.tile_endClaim (q : Nat) : (s.endClaim q).tile m n = s.tile m n := by
  rw [State.tile, s.mould_endClaim]
  rfl

section

variable (hm : m < 8) (q : Nat)

include hm

theorem State.badPkt_endClaim : (s.endClaim q).get (MOULD.BAD_PKT m) = s.get (MOULD.BAD_PKT m) := by
  simp (disch := omega) only [mouldCountFields, State.get_endClaim_unit]

theorem State.nofit_endClaim : (s.endClaim q).nofit m n = s.nofit m n := by
  have hget : (s.endClaim q).get (tileBit (MOULD.NOFIT_LO m) (MOULD.NOFIT_HI m) n) =
      s.get (tileBit (MOULD.NOFIT_LO m) (MOULD.NOFIT_HI m) n) := by
    rw [tileBit]
    split <;> simp (disch := omega) only [mouldFields, State.get_endClaim_unit]
  exact congrArg (bitOf · (n % 32)) hget

variable (hn : n < 64)

include hn

theorem State.kind_endClaim : (s.endClaim q).get (MOULD.TILE_SRC_KIND m n) = s.get (MOULD.TILE_SRC_KIND m n) := by
  simp (disch := omega) only [tileFields, State.get_endClaim_unit]

theorem State.mode_endClaim : (s.endClaim q).on (MOULD.TILE_CTRL_MODE m n) = s.on (MOULD.TILE_CTRL_MODE m n) := by
  simp (disch := omega) only [State.on, tileFields, State.get_endClaim_unit]

/-- The source of a tile is what it was. -/
theorem State.tileSource_endClaim : (s.endClaim q).tileSource m n = s.tileSource m n := by
  have hcam (c : Nat) : (s.endClaim q).cam c = s.cam c := State.endClaim_keeps (cam_ignores c rfl) s q
  have hfmt : (s.endClaim q).get (CAM.FMT_CFG_PIXEL_FORMAT (s.get ⟨0x711000 + 0x4000 * m + 0x20 * n, 23, 16⟩)) =
      s.get (CAM.FMT_CFG_PIXEL_FORMAT (s.get ⟨0x711000 + 0x4000 * m + 0x20 * n, 23, 16⟩)) := by
    have hlt : s.get ⟨0x711000 + 0x4000 * m + 0x20 * n, 23, 16⟩ < 256 := s.get_lt _
    exact s.get_endClaim_off (by simp only [reportWrites, camPage]; omega) q
  simp (disch := omega) only [State.tileSource, State.on, tileFields, stripSourceFields, sampleField, State.get_endClaim_unit, hcam,
    hfmt]

end

/-! ### A packet of a tile (R211, R214) -/

section

variable (hkind : s.get (MOULD.TILE_SRC_KIND m n) < 2) (hfit : s.nofit m n = false)

include hkind hfit

/-- A packet for a tile whose source is not there is bad. -/
theorem State.takeTile_noSource (p : Packet) (h : s.tileSource m n = none) :
    s.takeTile m n p = (s.inc (MOULD.BAD_PKT m)).raise (mouldPage m) 2 := by
  simp only [State.takeTile, h, hfit, Nat.not_le.mpr hkind, decide_false, Bool.or_self, Bool.false_eq_true, if_false]

/-- A line of the source in the middle of a frame is taken as it comes. -/
theorem State.takeTile_line {p : Packet} {x : TileSource} (h : s.tileSource m n = some x) (hstrip : x.strip = false)
    (hpacked : x.packed = false) (hflags : p.hdr.hflags % 8 = 0) (hlen : p.payload.length = x.width * x.bytes) :
    s.takeTile m n p = s.tileLine m n x p.hdr.line false false [(0, (chunks x.bytes p.payload).map leNat)] := by
  have hbit (k : Nat) (hk : k < 3) : bitOf p.hdr.hflags k = false := by
    interval_cases k <;> simp only [bitOf, beq_eq_false_iff_ne] <;> omega
  simp only [State.takeTile, h, hfit, Nat.not_le.mpr hkind, hbit 0 (by decide), hbit 1 (by decide), hbit 2 (by decide), hpacked,
    hstrip, TileSource.samples, hlen, decide_false, ne_eq, not_true_eq_false, Bool.or_self, Bool.false_eq_true, if_false]

end

/-- A middle line joins the source frame that is open. -/
theorem State.tileLine_joins {x : TileSource} {f : TileFrame} (hmode : s.on (MOULD.TILE_CTRL_MODE m n) = false)
    (hcur : (s.tile m n).cur = some f) (num : Nat) (l : SrcLine) :
    s.tileLine m n x num false false l =
      s.setTile m n { s.tile m n with cur := some { f with lines := f.lines ++ [(num, l)] } } := by
  simp only [State.tileLine, hmode, hcur, Bool.false_eq_true, if_false]

theorem State.badTile_shows (hm : m < 8) :
    let t := (s.inc (MOULD.BAD_PKT m)).raise (mouldPage m) 2
    t.get (MOULD.BAD_PKT m) = (s.get (MOULD.BAD_PKT m) + 1) % 2 ^ 32 ∧ t.bitAt (HDR.IRQ_STAT (mouldPage m)) 2 = true := by
  refine ⟨?_, State.bitAt_raise_same _ (by decide) (by simp only [mouldPage]; omega)⟩
  rw [(mouldCountFields m).2, State.get_raise_off _ _ _ (by simp only [mouldPage]; omega) (by omega), State.inc, State.add,
    State.get_put_at _ _ (by decide)]

theorem State.mouldPacket_takes {p : Packet} (hbinds : s.mouldBinds m n = true)
    (hclaim : (s.queue (s.get (MOULD.TILE_SRC_QUEUE m n))).claimed = some p)
    (hlinks : ∀ n ∈ p.cells, s.linkEcc n .good = .good) (hfence : s.anyChannelFenced = false) :
    s.mouldPacket m n [] = (s.endClaim (s.get (MOULD.TILE_SRC_QUEUE m n))).takeTile m n p := by
  simp only [State.mouldPacket, hbinds, Bool.not_true, Bool.false_eq_true, if_false, s.claimFor_claimed hclaim,
    s.readOut_good hclaim hlinks hfence]

/-! ### Output frames (R216, R217) -/

/-- A new output frame period leaves which frame is read out. -/
theorem State.tilePeriods_reading (latch : Bool) : ((s.tilePeriods m latch).mould m).reading = (s.mould m).reading := by
  refine State.each_p (fun t => (t.mould m).reading) fun t n => ite_p (fun t => (t.mould m).reading) rfl ?_
  rw [State.setTile, State.mould_setMould_same]

/-- An output frame comes due: its tiles start their periods. -/
def State.frameDue (s : State) (m : Nat) (latch : Bool) : State :=
  (s.reach ((s.mould m).t0 + (s.mould m).n * 1000000000 / s.get (MOULD.MOULD_RATE m))).tilePeriods m latch

theorem State.get_frameDue (latch : Bool) (f : Fld) : (s.frameDue m latch).get f = s.get f :=
  (State.tilePeriods_keeps (get_ignores f rfl) _ m latch).trans (State.reach_keeps (get_ignores f rfl) s _)

/-- The frame that comes due is read out. -/
theorem State.mouldFrame_begins (h : (s.mould m).reading = none) :
    let t := s.mouldFrame m
    (t.mould m).reading = some ((s.mould m).n, 0) ∧ (t.mould m).n = (s.mould m).n + 1 ∧
      t.get (MOULD.FRAME_COUNT m) = (s.get (MOULD.FRAME_COUNT m) + 1) % 2 ^ 32 ∧ (t.mould m).bg = s.get (MOULD.BG_COLOUR m) := by
  simp only [State.mouldFrame, h, State.inc_keeps (mould_ignores m rfl), State.mould_setMould_same, true_and]
  refine ⟨?_, s.get_frameDue true _⟩
  rw [(frameCountFields m).1, State.inc, State.add, State.get_put_at _ _ (by decide), State.setMould_get]
  exact congrArg (fun v => (v + 1) % 2 ^ 32) (s.get_frameDue true _)

/-- The frame that comes due while one is read out is skipped. -/
theorem State.mouldFrame_skips (hm : m < 8) {r : Nat × Nat} (h : (s.mould m).reading = some r) :
    let t := s.mouldFrame m
    (t.mould m).reading = some r ∧ (t.mould m).n = (s.mould m).n + 1 ∧
      t.get (MOULD.FRAME_SKIP m) = (s.get (MOULD.FRAME_SKIP m) + 1) % 2 ^ 32 ∧ t.bitAt (HDR.IRQ_STAT (mouldPage m)) 0 = true := by
  simp only [State.mouldFrame, h, State.raise_keeps (mould_ignores m rfl), State.inc_keeps (mould_ignores m rfl),
    State.mould_setMould_same, State.tilePeriods_reading, State.reach_mould, true_and]
  refine ⟨?_, State.bitAt_raise_same _ (by decide) (by simp only [mouldPage]; omega)⟩
  rw [(frameCountFields m).2, State.get_raise_off _ _ _ (by simp only [mouldPage]; omega) (by omega), State.inc, State.add,
    State.get_put_at _ _ (by decide), State.setMould_get]
  exact congrArg (fun v => (v + 1) % 2 ^ 32) (s.get_frameDue false _)

/-! ### Panel lines (R216 to R218) -/

/-- Line y of output frame n is sent, and the next line comes. -/
def State.panelSent (s : State) (m n y : Nat) (bad : List Nat) : State :=
  let t := (s.readPanel m y).pushPacket (37 + m) (s.panelPacket m n y bad)
  t.setMould m { t.mould m with reading := if s.get (MOULD.MOULD_SIZE_HEIGHT m) ≤ y + 1 then none else some (n, y + 1) }

section

variable {y : Nat} (h : (s.mould m).reading = some (n, y)) (bad : List Nat)

include h

theorem State.mouldLine_sends : s.mouldLine m bad = (s.panelSent m n y bad).each
    ((bad.filter (fun x => decide (x < s.get (MOULD.MOULD_SIZE_WIDTH m)))).filterMap (fun x => s.panelAddr m x y)) State.hbmUe := by
  simp only [State.mouldLine, h, State.panelSent, decide_eq_true_eq]

/-- Without bad reads, and with no pseudo-channel at rest, a panel line writes no register. -/
theorem State.mouldLine_regs (hbad : bad = []) (hrest : s.hbmRests = false) : (s.mouldLine m bad).regs = s.regs := by
  subst hbad
  have hread : s.readPanel m y = s := if_neg (by rw [hrest]; exact Bool.false_ne_true)
  rw [s.mouldLine_sends h, State.panelSent, hread]
  rfl

theorem State.mouldLine_waits :
    ((s.mouldLine m bad).prod (37 + m)).todo = (s.prod (37 + m)).todo ++ [s.panelPacket m n y bad] := by
  rw [s.mouldLine_sends h, State.each_p (State.prod · (37 + m)) fun t x => (prod_unreported (37 + m)).hbmUe t x, State.panelSent,
    State.setMould_prod, State.pushPacket, State.prod_setProd_same, State.readPanel_keeps (prod_ignores (37 + m) rfl)]

theorem State.mouldLine_reading : ((s.mouldLine m bad).mould m).reading =
    if s.get (MOULD.MOULD_SIZE_HEIGHT m) ≤ y + 1 then none else some (n, y + 1) := by
  rw [s.mouldLine_sends h, State.each_p (State.mould · m) fun t x => (mould_unreported m).hbmUe t x, State.panelSent,
    State.mould_setMould_same]

end

/-- A tile without news is stale. -/
theorem State.tileStale_marks (hms : s.get (MOULD.STALE_MS m) ≠ 0) (hon : s.tileOn m n = true) (hstale : s.isStale m n = false) :
    s.tileStale m n = (s.setStale m n true).raise (mouldPage m) 1 := by
  simp only [State.tileStale, hms, hon, hstale, decide_false, Bool.not_true, Bool.or_self, Bool.false_eq_true, if_false]

end

/-! ### The commands -/

/-- Settles O38, by what a tile's packet, an output frame, a panel line and a tile without news write. -/
theorem mouldCommandsComplete : Obligations.MouldCommandsComplete := by
  refine fun s m hruns => ⟨fun n p hbinds hkind hfit hclaim hlinks hfence => ⟨fun hnone => ?_,
    fun x f hsource hstrip hpacked hflags hlen hmode hcur => ?_⟩, fun hread => ?_, fun r hread => ?_, fun n y bad hread => ?_,
    fun n hms hon hstale => ?_⟩
  · let q := s.get (MOULD.TILE_SRC_QUEUE m n)
    obtain ⟨hcount, hevent⟩ := (s.endClaim q).badTile_shows m.isLt
    have htake := State.takeTile_noSource (s.endClaim q) (by rwa [s.kind_endClaim m.isLt q n.isLt])
      (by rwa [s.nofit_endClaim m.isLt q]) p (by rwa [s.tileSource_endClaim m.isLt q n.isLt])
    exact ⟨_, next_when _ hruns ((s.mouldPacket_takes hbinds hclaim hlinks hfence).trans htake),
      by rw [hcount, s.badPkt_endClaim m.isLt], hevent⟩
  · let q := s.get (MOULD.TILE_SRC_QUEUE m n)
    have htake := State.takeTile_line (s.endClaim q) (by rwa [s.kind_endClaim m.isLt q n.isLt])
      (by rwa [s.nofit_endClaim m.isLt q]) (by rwa [s.tileSource_endClaim m.isLt q n.isLt]) hstrip hpacked hflags hlen
    have hjoin := State.tileLine_joins (s.endClaim q) (x := x) (by rwa [s.mode_endClaim m.isLt q n.isLt])
      (by rwa [s.tile_endClaim q]) p.hdr.line [(0, (chunks x.bytes p.payload).map leNat)]
    refine ⟨_, next_when _ hruns ((s.mouldPacket_takes hbinds hclaim hlinks hfence).trans (htake.trans hjoin)), ?_,
      s.endClaim_claimed q⟩
    rw [State.tile_setTile_same]
  · exact ⟨_, next_when _ hruns rfl, s.mouldFrame_begins hread⟩
  · exact ⟨_, next_when _ hruns rfl, s.mouldFrame_skips m.isLt hread⟩
  · exact ⟨_, next_when _ hruns rfl, s.mouldLine_regs hread bad, s.mouldLine_waits hread bad, s.mouldLine_reading hread bad⟩
  · exact next_when _ hruns (s.tileStale_marks hms hon hstale)

end Sys2Proof.Machine
end
